-- ==== Sys2Proof/Word.lean ====
section
/-! DEFINITION. The word types of the NDG-2415 and the two pipeline names (00_scope R4-R6, R33). -/
namespace Sys2Proof

/-- One byte. -/
abbrev Byte := BitVec 8

/-- One register, event argument or silo word: 32 bits (R10). -/
abbrev Word := BitVec 32

/-- The two pipelines: A reads this module's plate, B the companion's stream (01 R33). -/
inductive Pipe where
  | A | B
  deriving DecidableEq, Repr

end Sys2Proof
end

