-- ==== Sys2Proof/Syntax.lean ====
section
/-! DEFINITION. The commands of the NDG-2415: one constructor for each row of spec/opcode_table.json.
The first operand `dt` of each is the time in PLATE clocks of 8 ns that has passed since the command before it
(DESIGN CHOICE, notes/assumptions/1). The other operands are what the world outside gives with the command: the
fields of a descriptor, the value written, what a sensor or a link delivered, what a physical check found. -/
namespace Sys2Proof

/-- The header of a command descriptor (R205). `rsv` is true when some reserved field of it is not 0. -/
structure Hdr where
  tag : Word
  session : Word
  rsv : Bool
  deriving DecidableEq, Repr

/-- A product-buffer descriptor as the host posts it (R207). -/
structure BufDesc where
  addr : BitVec 64
  size : Word
  cookie : Word
  deriving DecidableEq, Repr

/-- The internal masters of frame memory: the real-time ports (R237), and all the others. -/
inductive Master where
  | rt0 | rt1 | rt2 | other
  deriving DecidableEq, Repr

/-- What the frame-memory controller meets, in the order in which it meets it (R231, R234 to R236, R244): stored bits of a 64-byte
block turn over (bit b of its code word w is 72·w + b, R230); a read or a write inside one block is issued; the oldest read of a
master is answered; the oldest queued write reaches the array; a row is activated some times. -/
inductive MemOp where
  | flip (addr : Word) (bits : List Nat)
  | read (m : Master) (addr : Word)
  | write (m : Master) (addr : Word) (data : List Byte)
  | serve (m : Master)
  | drain
  | activate (channel : Fin 4) (bank : Fin 8) (row : BitVec 16) (m : Master) (times : Nat)
  deriving DecidableEq, Repr

/-- The accesses to frame memory that belong to a command (R249, R250). -/
structure MemObs where
  ops : List MemOp
  deriving DecidableEq, Repr

/-- The fills in bytes that the read FIFO and the write FIFO of a real-time port passed through (R237); RT1 has no write FIFO. -/
structure PortObs where
  fills : List (Nat × Nat)
  deriving DecidableEq, Repr

/-- An access to BAR 2 (R198): a write of bytes, or a read of some bytes, from an offset on. -/
inductive Bar2Op where
  | write (off : BitVec 23) (data : List Byte)
  | read (off : BitVec 23) (n : Nat)
  deriving DecidableEq, Repr

/-- A register of configuration space (R196), by its name in the PCI Express layout. -/
inductive CfgReg where
  | id | command | classRev | bar (i : Fin 6) | rom | interrupt | pmCap | pmCtl
  | msiCtl | msiAddr | msiAddrHi | msiData | msiMask | msiPending
  | msixCtl | msixTable | msixPba | devCap | devCtl | linkCap | linkCtl | devCap2
  deriving DecidableEq, Repr

/-- An access to configuration space. -/
inductive CfgAccess where
  | read (r : CfgReg)
  | write (r : CfgReg) (v : Word)
  deriving DecidableEq, Repr

/-- The inputs a fetched command may need beside its descriptor: the block its host-memory read returned (none: the
read failed, R228), the accesses to BAR 2 since the command before (R198, R221), the verdict of the ECDSA check (R222), random draws (R218), and the reads of
the staging silo (R250). -/
structure HostInput where
  block : Option (List Byte)
  bar2 : List Bar2Op
  sig : Bool
  handle : Word
  nonce : BitVec 128
  mem : MemObs
  deriving DecidableEq, Repr

/-- What a BOOT step found (R374-R377): whether its check passed, the verdicts on both image slots and both stored
bundles, the trained link, the sheaves whose start-up test failed. -/
structure BootObs where
  ok : Bool
  imageSig : List Bool
  bundleSig : List Bool
  speed : Fin 4
  width : Nat
  sheafFail : List (Fin 16)
  deriving DecidableEq, Repr

/-- The samples of one row slot: S and L of the 2080 primary channels and of the 65 spares, raw (R45, R62). -/
structure SlotSamples where
  s : Array (BitVec 16)
  l : Array (BitVec 16)
  spareS : Array (BitVec 16)
  spareL : Array (BitVec 16)
  deriving DecidableEq, Repr

/-- What reading a product frame for its NL stream meets at its start: the port RT1 (R237-R239) and memory errors (R249, R250). -/
structure NlObs where
  port : PortObs
  mem : MemObs
  deriving DecidableEq, Repr

/-- The end of a conversion: the voltage at the channel's input (R253) and that of VREF_EXT in pV, or an overload to one side
(R254). -/
inductive ConvResult where
  | input (v : Int) (vref : Nat)
  | overPos
  | overNeg
  deriving DecidableEq, Repr

/-- The trigger of a module reset (R373); RST_N rises after it has been low for `low` PLATE clocks (R371). -/
inductive ResetCause where
  | power
  | pin (low : Nat)
  | spi | host
  deriving DecidableEq, Repr

/-- A write to the ledger that loses power (R338): a record that is due (15), or the write of a LEDGER_WRITE by its role and its
operands. -/
inductive LedgerJob where
  | trim (group : Fin 65)
  | bias
  | tally (t : Fin 6)
  | log
  | guard
  | host (maint : Bool) (offset : Word) (length : Word) (addr : BitVec 64) (block : Option (List Byte))
  deriving DecidableEq, Repr

/-- The write that was running when the module left its rails, and how many of its pages are programmed, the one in progress
included (R338, R372). -/
structure LedgerCut where
  job : LedgerJob
  pages : Nat
  deriving DecidableEq, Repr

/-- A cause of host absence (R229). -/
inductive AbsentCause where
  | linkDown | d3hot | busMaster
  deriving DecidableEq, Repr

/-- The select of a safety-channel frame (R321). -/
inductive Sel where
  | safe | maint
  deriving DecidableEq, Repr

/-- The fields of a safety-channel request beside its OP (R322). -/
structure SpiReq where
  sel : Sel
  arg : BitVec 8
  seq : BitVec 4
  rsv : BitVec 4
  data : Word
  crc : BitVec 8
  deriving DecidableEq, Repr

/-- A step of SESS_AUTH (R325, R330): a frame that carries a word of the MAC, or the end of the comparison that word 7 starts,
with the challenge drawn at that instant. -/
inductive AuthStep where
  | word (q : SpiReq)
  | compared (challenge : Word)
  deriving DecidableEq, Repr

/-- A block as a receiver takes it from the line (R283 to R285): its two header bits in their order, its payload as it is on the line,
and whether a stuff violation fell in it. -/
structure RxBlock where
  h0 : Bool
  h1 : Bool
  payload : BitVec 64
  violation : Bool
  deriving DecidableEq, Repr

/-- What comes on a lane: some IDLE blocks, a block, or line bits as they are, after a run of `run` bits equal to `last`. -/
inductive RxItem where
  | idle (n : Nat)
  | block (b : RxBlock)
  | bits (last : Bool) (run : Nat) (line : List Bool)
  deriving DecidableEq, Repr

/-- What has come on a lane since its command before; `sig` is the verdict on the signature of the companion's bundle, should a chunk
among it complete that (R34). -/
structure RxTraffic where
  items : List RxItem
  sig : Bool
  deriving DecidableEq, Repr

/-- The fields of a TRN block (R296), as a module reads or sends it. -/
structure TrnBlock where
  role : BitVec 2
  lane : BitVec 2
  ack : Bool
  ready : Bool
  serial : Word
  deriving DecidableEq, Repr

/-- The HEADER packet of a companion frame (R299). -/
structure CompHeader where
  frame : Word
  exposure : Word
  marker : BitVec 64
  ptemp : Int
  mode : Nat
  pos0 : Nat
  blade : Int
  bladeValid : Bool
  bladeUrgent : Bool
  tempSubst : Nat
  bundleId : Word
  permSubst : Nat
  bladeSeq : Nat
  deriving DecidableEq, Repr

/-- The commands. -/
inductive Instr where
  -- host commands (R203, R210)
  | commandFetch (dt : Nat) (desc : Option (List Byte)) (inp : HostInput)
  | nop (dt : Nat) (h : Hdr)
  | identify (dt : Nat) (h : Hdr)
  | sessionOpen (dt : Nat) (h : Hdr) (role : Byte) (handle : Word) (nonce : BitVec 128)
  | sessionAuth (dt : Nat) (h : Hdr) (handle : Word) (mac : List Byte)
  | sessionClose (dt : Nat) (h : Hdr)
  | modeSet (dt : Nat) (h : Hdr) (mode : Byte)
  | latencySet (dt : Nat) (h : Hdr) (wakeUs : Word)
  | cameraBind (dt : Nat) (h : Hdr) (pipe : Byte)
  | cameraUnbind (dt : Nat) (h : Hdr) (cam : Byte)
  | productSet (dt : Nat) (h : Hdr) (cam : Byte) (dest : List Byte) (cool : BitVec 16)
  | pipeBSet (dt : Nat) (h : Hdr) (enable : Byte) (frate : Byte)
  | siloSet (dt : Nat) (h : Hdr) (pipe : Byte) (frames : Byte)
  | paramSet (dt : Nat) (h : Hdr) (pipe : Byte) (group : Byte) (length : BitVec 16) (addr : BitVec 64) (block : Option (List Byte))
  | serviceEnable (dt : Nat) (h : Hdr) (pipe : Byte) (mask : Byte)
  | shutterGrant (dt : Nat) (h : Hdr) (pipe : Byte) (force : Byte) (start : Word) (length : Word)
  | shutterPolicy (dt : Nat) (h : Hdr) (pipe : Byte) (policy : Byte) (minInterval : BitVec 16)
  | actPulse (dt : Nat) (h : Hdr) (channel : Byte) (parallel : Byte) (length : BitVec 16)
  | stageBegin (dt : Nat) (h : Hdr) (kind : Byte) (total : Word)
  | stageChunk (dt : Nat) (h : Hdr) (half : Byte) (length : Word) (offset : Word) (bar2 : List Bar2Op)
  | stageCommit (dt : Nat) (h : Hdr) (persist : Byte) (sig : Bool) (mem : MemObs)
  | bundleHalfFreed (dt : Nat)
  | stageAbort (dt : Nat) (h : Hdr)
  | compatSet (dt : Nat) (h : Hdr) (enable : Byte)
  | ledgerRead (dt : Nat) (h : Hdr) (offset : Word) (length : Word) (addr : BitVec 64) (block : Option (List Byte))
  | ledgerWrite (dt : Nat) (h : Hdr) (offset : Word) (length : Word) (addr : BitVec 64) (block : Option (List Byte))
  -- host interface
  | nonceExpiry (dt : Nat) (slot : Fin 4)
  | lockoutEnd (dt : Nat) (who : Fin 8)
  | doorbell (dt : Nat) (ring : Fin 24) (index : BitVec 16) (ops : List (BitVec 16 × Byte)) (bufs : List BufDesc)
  | ringEnable (dt : Nat) (ring : Fin 23) (value : Word)
  | registerWrite (dt : Nat) (off : BitVec 20) (value : Word) (poisoned : Bool)
  | accessSize (dt : Nat) (off : BitVec 20) (write : Bool)
  | loRead (dt : Nat) (off : BitVec 20)
  | vectorUnmask (dt : Nat) (vector : Fin 32)
  | moderationEnd (dt : Nat) (ring : Fin 23)
  -- register writes with behaviour of their own
  | commit (dt : Nat) (value : Word)
  | commitTransferDone (dt : Nat)
  | cchCtrl (dt : Nat) (value : Word)
  | cchReq (dt : Nat) (value : Word)
  | fpCtrl (dt : Nat) (pipe : Pipe) (value : Word)
  | offlineReq (dt : Nat) (sheaf : Fin 16)
  | returnRequest (dt : Nat) (sheaf : Fin 16)
  | sheafDrained (dt : Nat) (sheaf : Fin 16)
  | testReq (dt : Nat) (sheaf : Fin 16)
  | sheafTest (dt : Nat) (sheaf : Fin 16) (pass : Bool)
  | sheafRetest (dt : Nat) (sheaf : Fin 16)
  | pcvCtrl (dt : Nat) (value : Word)
  | pcvEntryCfg (dt : Nat) (entry : Fin 16) (value : Word)
  | pcvUrg (dt : Nat) (value : Word)
  | pcvSwtrig (dt : Nat) (value : Word)
  | actSense (dt : Nat) (value : Word)
  | parChange (dt : Nat) (pair : Fin 2)
  | egrEn (dt : Nat) (value : Word)
  | egressLaneChange (dt : Nat)
  | prbs (dt : Nat) (lane : Fin 4) (value : Word)
  | inject (dt : Nat) (lane : Fin 4) (value : Word)
  -- reset, boot and modes
  | moduleReset (dt : Nat) (cause : ResetCause) (clksel : Bool) (refresh : List (Fin 3))
  | pwrGoodFall (dt : Nat) (pwrGood : Bool) (low : Nat) (cut : Option LedgerCut)
  | bootStep (dt : Nat) (obs : BootObs)
  | dramTraining (dt : Nat) (failed : BitVec 4)
  | settleHoldEnd (dt : Nat)
  | standbyReached (dt : Nat)
  | offReached (dt : Nat)
  -- frame flow
  | frameStartMarker (dt : Nat)
  | fsyncInEdge (dt : Nat)
  | fsyncNoisyEnd (dt : Nat)
  | fsyncStuck (dt : Nat) (level : Bool)
  | rowSlot (dt : Nat) (x : SlotSamples)
  | frontPipeRow (dt : Nat) (pipe : Pipe) (obs : PortObs)
  | latchPoint (dt : Nat) (pipe : Pipe)
  | stripeStart (dt : Nat) (pipe : Pipe) (frame : Word) (mismatch : List (Fin 16)) (obs : MemObs)
      (sramCe : List (Fin 128))
  | engineSramUe (dt : Nat) (engine : Fin 128) (heldA : List Word) (heldB : List Word)
  | pour (dt : Nat) (pipe : Pipe) (frame : Word)
  | pourDeadline (dt : Nat) (pipe : Pipe) (frame : Word)
  | gleanUpdate (dt : Nat) (pipe : Pipe)
  | anchorFormed (dt : Nat) (pipe : Pipe)
  | noClose (dt : Nat) (pipe : Pipe)
  | openRepeat (dt : Nat) (pipe : Pipe)
  | shutterRequestRepost (dt : Nat) (pipe : Pipe)
  | shutterGrantLapsed (dt : Nat) (pipe : Pipe)
  | soPersisted (dt : Nat)
  -- actuators
  | positionReport (dt : Nat) (input : Fin 2) (level : Bool)
  | senseFaultEnd (dt : Nat) (input : Fin 2)
  | pulseStart (dt : Nat) (channel : Fin 4)
  | kickEnd (dt : Nat) (channel : Fin 4)
  | actPulseDone (dt : Nat) (channel : Fin 4)
  | overcurrent (dt : Nat) (channel : Fin 4)
  | openLoad (dt : Nat) (channel : Fin 4)
  | hostPulseDrop (dt : Nat) (switch : Fin 2)
  | coolingTick (dt : Nat)
  | actSupply (dt : Nat) (vact : Byte) (vboost : Byte)
  -- converters
  | passStart (dt : Nat)
  | conversionComplete (dt : Nat) (modulator : Fin 2) (result : ConvResult)
  -- functional safety
  | clockCheck (dt : Nat) (ok : Bool)
  | lockstep (dt : Nat)
  | heartbeat (dt : Nat)
  | safeNReadback (dt : Nat) (safeN : Bool) (errN : Bool)
  | latentTest (dt : Nat) (test : Fin 5)
  | safetyTest (dt : Nat)
  | spiNop (dt : Nat) (q : SpiReq)
  | read (dt : Nat) (q : SpiReq)
  | badOp (dt : Nat) (op : Byte) (q : SpiReq)
  | sessOpen (dt : Nat) (q : SpiReq) (nonce : BitVec 128)
  | sessNonce (dt : Nat) (q : SpiReq)
  | sessAuth (dt : Nat) (step : AuthStep)
  | wdGet (dt : Nat) (q : SpiReq)
  | wdAnswer (dt : Nat) (q : SpiReq) (challenge : Word)
  | wdTimeout (dt : Nat)
  | clearWarn (dt : Nat) (q : SpiReq)
  | reqSafe (dt : Nat) (q : SpiReq)
  | reqReset (dt : Nat) (q : SpiReq)
  | test (dt : Nat) (q : SpiReq)
  | frameErr (dt : Nat) (sel : Sel) (bits : Nat)
  | selectTimeout (dt : Nat) (sel : Sel) (bits : Nat)
  | bothSelectsLow (dt : Nat) (bitsSafe : Nat) (bitsMaint : Nat)
  -- thermal management and idle depths
  | thermalConversion (dt : Nat) (sensor : Fin 10) (value : Int)
  | thermalSample (dt : Nat)
  | thmEnforced (dt : Nat)
  | thmReleased (dt : Nat)
  | thmRearmed (dt : Nat)
  | slowSampling (dt : Nat)
  | idleDepth (dt : Nat)
  | wakeIn (dt : Nat)
  | wakeComplete (dt : Nat)
  -- host presence
  | hostAbsent (dt : Nat) (cause : AbsentCause)
  | functionLevelReset (dt : Nat)
  | linkBudget (dt : Nat) (speed : Fin 4) (width : Nat)
  -- frame memory
  | refreshInterval (dt : Nat) (channel : Fin 4) (ports : List (Fin 3 × PortObs))
  | refreshStatusPoll (dt : Nat) (channel : Fin 4) (status : Fin 3) (drift : Int)
  | guardAction (dt : Nat) (channel : Fin 4) (bank : Fin 8) (row : BitVec 16) (realTime : Bool)
  | activationWindow (dt : Nat)
  | scrubberPass (dt : Nat) (obs : MemObs)
  -- ledger
  | trimRecordWrite (dt : Nat)
  | biasRecordWrite (dt : Nat)
  | logEntryWrite (dt : Nat)
  | guardRecordRewrite (dt : Nat)
  | residRewrite (dt : Nat)
  | operatingTime (dt : Nat)
  -- NL lanes and the companion link
  | nlTransferStart (dt : Nat) (stream : Fin 2) (obs : NlObs)
  | nlLocked (dt : Nat) (lane : Fin 4) (rx : RxTraffic)
  | lsync (dt : Nat) (lane : Fin 4) (rx : RxTraffic)
  | missingLsync (dt : Nat) (lane : Fin 4) (rx : RxTraffic)
  | nlLockLost (dt : Nat) (lane : Fin 4) (rx : RxTraffic)
  | trn (dt : Nat) (lane : Fin 4) (rx : RxTraffic)
  | chunk (dt : Nat) (lane : Fin 4) (rx : RxTraffic)
  | header (dt : Nat) (lane : Fin 4) (rx : RxTraffic)
  | coeff (dt : Nat) (lane : Fin 4) (rx : RxTraffic)
  | rowS (dt : Nat) (lane : Fin 4) (rx : RxTraffic)
  | rowL (dt : Nat) (lane : Fin 4) (rx : RxTraffic)
  | trainTimeout (dt : Nat)
  | bundleTimeout (dt : Nat)
  | detectRetry (dt : Nat)
  | headerTimeout (dt : Nat)
  | cmdRun (dt : Nat) (lane : Fin 4) (rx : RxTraffic)
  | cmdRetry (dt : Nat) (lane : Fin 4) (rx : RxTraffic)
  | cmdPulse (dt : Nat) (lane : Fin 4) (rx : RxTraffic)
  | cmdBlade (dt : Nat) (lane : Fin 4) (rx : RxTraffic)
  | cmdStop (dt : Nat) (lane : Fin 4) (rx : RxTraffic)
  -- rows added to the table later
  | allBankRefresh (dt : Nat) (channel : Fin 4) (ports : List (Fin 3 × PortObs))
  | hostPresent (dt : Nat) (cfg : List CfgAccess)
  | wakeInFall (dt : Nat)
  | prbsLock (dt : Nat) (lane : Fin 4) (bits : List Bool)
  deriving DecidableEq, Repr

end Sys2Proof
end

