-- ==== Sys2Proof/Config.lean ====
section
/-! DEFINITION. What the spec leaves open and what one module fixes. Every free value is a constant without a body:
nothing can evaluate it, so a statement holds whatever it is (notes/assumptions/3 to 5). -/
namespace Sys2Proof.Config

/-- The offset error and gain error of a spare that R68 derives from two test levels; the spec does not say how.
Arguments: expected and measured raw values of the frame's blanking slots. -/
opaque spareError : List (Int × Int) → Int × Int

/-- Mean busy fraction of a unit over the last frame period (R174, UNIT_LOAD.BUSY); no rule says how it is taken. -/
opaque unitBusy : Nat → Nat → BitVec 16

/-- Where a TEMPMAP value lies within one LSB of the defined one (R148): 0 below, 1 at, 2 above it.
Arguments: the count of free values drawn, row, column. -/
opaque tempmapStep : Nat → Nat → Nat → Fin 3

/-- A sample of which the world gave none. -/
opaque missingSample : Nat → BitVec 16

/-- The 24 bits a silo word holds of a value outside s24, which bypassed stages let through (R99, R106); no rule
saturates it. -/
opaque siloWide : Int → BitVec 24

/-- P(T_lens) of the lens term in 1210 mode (R195), of which no rule says by which Planck table it is taken.
Arguments: PL_A, PL_B, the code of T_lens. -/
opaque compatLens : List Nat → List Nat → Nat → Int

/-- What a 16-bit register field shows of a measured error or a Q that it cannot hold (CCH_CH_ERR, CCH_CH_STATE); no rule
saturates it. -/
opaque wide16 : Int → BitVec 16

/-- The spectral index of a SURFACE cell whose denominator is not positive (R193, R7). Arguments: the two terms. -/
opaque surfaceIndex : Int → Int → Int

/-- Maximum, minimum and mean of a RADIOMETRY rectangle with no value left (R188): 0, 1, 2. -/
opaque rectEmpty : Nat → BitVec 16

/-- The code of a conversion by VREF_EXT outside its operating conditions (R254). Arguments: entry, time. -/
opaque undefinedCode : Nat → Nat → BitVec 24

/-- Field T of PCV_ENTRY_TEMP after a conversion that gave no valid temperature (R264). Arguments: entry, time. -/
opaque invalidTemp : Nat → Nat → BitVec 16

/-- T of R114 at a latch point before any frame of the pipeline has latched a plate temperature. -/
opaque missingTemp : Int

/-- Version of the stage-program set that an image of a major and minor version carries (R174). -/
opaque stagePrograms : Nat → Nat → BitVec 32

/-- Bytes of the factory bundle as the factory staged it, and their number (R298, R377). -/
opaque factoryByte : Nat → BitVec 8
opaque factoryTotal : Nat

/-- Major and minor version of a staged firmware image (R221), whose layout no rule gives. Argument: its first bytes. -/
opaque imageVersion : List (BitVec 8) → Nat × Nat

/-- How far above the upper limit of a monitor's fault window the band of test 4 begins, in nV beyond the first (R320); no rule says.
Argument: the monitor. -/
opaque testBand : Nat → Nat

/-- A byte of BAR 2 that nothing has written since module reset (R198). Arguments: the resets so far, its offset. -/
opaque bar2Byte : Nat → Nat → BitVec 8

/-- The byte of a firmware image that a boot-store slot held from manufacture (R224). Arguments: slot, offset. -/
opaque imageByte : Nat → Nat → BitVec 8

/-- Taps of the PRBS patterns with codes above 4, which R303 does not name. -/
opaque prbsTaps : Nat → Nat × Nat

end Sys2Proof.Config
end

