-- ==== Sys2Proof/Machine/Arith.lean ====
section
/-! DEFINITION. The operators of R7, bit fields of registers (R4, R5), and the checksums that the spec names: CRC-32
(R161), CRC-8 (R324), SHA-256 and HMAC-SHA-256 (R218, R330, R333). -/
namespace Sys2Proof.Machine

/-- `x >> s` of R7: floor of x / 2^s. -/
def shr (x : Int) (s : Nat) : Int := x / (2 ^ s : Nat)

/-- `rnd(x, s)` of R7. -/
def rnd (x : Int) (s : Nat) : Int := if s = 0 then x else shr (x + (2 ^ (s - 1) : Nat)) s

/-- `sat(x, lo, hi)` of R7. -/
def sat (x lo hi : Int) : Int := if x < lo then lo else if hi < x then hi else x

/-- `sat_s(x, b)` of R7. -/
def satS (x : Int) (b : Nat) : Int := sat x (-(2 ^ (b - 1) : Nat)) ((2 ^ (b - 1) : Nat) - 1)

/-- `sat_u(x, b)` of R7. -/
def satU (x : Int) (b : Nat) : Int := sat x 0 ((2 ^ b : Nat) - 1)

/-- `a div b` of R7, for b > 0. -/
def divF (a : Int) (b : Int) : Int := a / b

/-- `avg` of R7; of no value at all, 0. -/
def avg (xs : List Int) : Int :=
  if xs.isEmpty then 0 else divF (2 * xs.sum + xs.length) (2 * xs.length)

/-- `clz(x, b)` of R7. -/
def clz (x b : Nat) : Nat := if x = 0 then b else b - (Nat.log2 x + 1)

/-- A count that stops at its largest value. -/
def satInc (x n max : Nat) : Nat := if x + n < max then x + n else max

/-- Field `[hi:lo]` of a register word (R4). -/
def fld (w : Word) (hi lo : Nat) : Nat := w.toNat / 2 ^ lo % 2 ^ (hi + 1 - lo)

/-- Bit `i` of a register word. -/
def bit (w : Word) (i : Nat) : Bool := w.toNat / 2 ^ i % 2 = 1

/-- A value placed at bit `lo` of a register word. -/
def at_ (v lo : Nat) : Nat := v * 2 ^ lo

/-- A flag placed at bit `lo`. -/
def flag (b : Bool) (lo : Nat) : Nat := if b then 2 ^ lo else 0

/-- A register word from the sum of its placed fields. -/
def word (v : Nat) : Word := BitVec.ofNat 32 v

/-- The two's-complement code of `x` in `b` bits. -/
def code (x : Int) (b : Nat) : Nat := (x % ((2 ^ b : Nat) : Int)).toNat

/-- The signed value of a `b`-bit code. -/
def sgn (x b : Nat) : Int := if 2 ^ (b - 1) ≤ x then (x : Int) - (2 ^ b : Nat) else x

/-- Newer, in a count of `b` bits (R17, R308, R339). -/
def newer (b x y : Nat) : Bool :=
  let d := (x + 2 ^ b - y % 2 ^ b) % 2 ^ b
  decide (1 ≤ d) && decide (d ≤ 2 ^ (b - 1) - 1)

/-- `n` little-endian bytes of a value (R5). -/
def le : Nat → Nat → List Byte
  | 0, _ => []
  | n + 1, v => BitVec.ofNat 8 v :: le n (v / 256)

/-- The value of little-endian bytes (R5). -/
def unle : List Byte → Nat
  | [] => 0
  | b :: bs => b.toNat + 256 * unle bs

/-- An unsigned field of `n` bytes at an offset of a byte list. -/
def fieldAt (b : List Byte) (o n : Nat) : Nat := unle ((b.drop o).take n)

/-- A signed one. -/
def fieldS (b : List Byte) (o n : Nat) : Int := sgn (fieldAt b o n) (8 * n)

/-- The largest integer whose square is at most `n`, by bisection over the bits. -/
def isqrtAux : Nat → Nat → Nat → Nat
  | 0, r, _ => r
  | k + 1, r, n =>
    let r' := r + 2 ^ k
    isqrtAux k (if r' * r' ≤ n then r' else r) n

/-- Floor of the square root, for values below 2^128. -/
def isqrt (n : Nat) : Nat := isqrtAux 64 0 n

/-- One bit step of CRC-32 (IEEE 802.3, reflected). -/
def crc32Bit (c : Word) : Word := if c.getLsbD 0 then (c >>> 1) ^^^ 0xedb88320#32 else c >>> 1

/-- One byte of CRC-32. -/
def crc32Byte (c : Word) (b : Byte) : Word :=
  let c := c ^^^ b.zeroExtend 32
  crc32Bit (crc32Bit (crc32Bit (crc32Bit (crc32Bit (crc32Bit (crc32Bit (crc32Bit c)))))))

/-- CRC-32 of R161: initial value 0xffffffff, final inversion. -/
def crc32 (bs : List Byte) : Word := ~~~ (bs.foldl crc32Byte 0xffffffff#32)

/-- One bit step of CRC-8 (polynomial 0x2f, not reflected). -/
def crc8Bit (c : Byte) : Byte := if c.getLsbD 7 then (c <<< 1) ^^^ 0x2f#8 else c <<< 1

/-- One byte of CRC-8. -/
def crc8Byte (c b : Byte) : Byte :=
  let c := c ^^^ b
  crc8Bit (crc8Bit (crc8Bit (crc8Bit (crc8Bit (crc8Bit (crc8Bit (crc8Bit c)))))))

/-- CRC-8 of R324: initial value 0xff, final exclusive-or with 0xff. -/
def crc8 (bs : List Byte) : Byte := (bs.foldl crc8Byte 0xff#8) ^^^ 0xff#8

/-- The round constants of SHA-256. -/
def shaK : List Word :=
  [0x428a2f98#32, 0x71374491#32, 0xb5c0fbcf#32, 0xe9b5dba5#32, 0x3956c25b#32, 0x59f111f1#32, 0x923f82a4#32, 0xab1c5ed5#32,
   0xd807aa98#32, 0x12835b01#32, 0x243185be#32, 0x550c7dc3#32, 0x72be5d74#32, 0x80deb1fe#32, 0x9bdc06a7#32, 0xc19bf174#32,
   0xe49b69c1#32, 0xefbe4786#32, 0x0fc19dc6#32, 0x240ca1cc#32, 0x2de92c6f#32, 0x4a7484aa#32, 0x5cb0a9dc#32, 0x76f988da#32]
  ++ [0x983e5152#32, 0xa831c66d#32, 0xb00327c8#32, 0xbf597fc7#32, 0xc6e00bf3#32, 0xd5a79147#32, 0x06ca6351#32, 0x14292967#32,
   0x27b70a85#32, 0x2e1b2138#32, 0x4d2c6dfc#32, 0x53380d13#32, 0x650a7354#32, 0x766a0abb#32, 0x81c2c92e#32, 0x92722c85#32,
   0xa2bfe8a1#32, 0xa81a664b#32, 0xc24b8b70#32, 0xc76c51a3#32, 0xd192e819#32, 0xd6990624#32, 0xf40e3585#32, 0x106aa070#32]
  ++ [0x19a4c116#32, 0x1e376c08#32, 0x2748774c#32, 0x34b0bcb5#32, 0x391c0cb3#32, 0x4ed8aa4a#32, 0x5b9cca4f#32, 0x682e6ff3#32,
   0x748f82ee#32, 0x78a5636f#32, 0x84c87814#32, 0x8cc70208#32, 0x90befffa#32, 0xa4506ceb#32, 0xbef9a3f7#32, 0xc67178f2#32]

/-- Message bytes as big-endian words, four at a time. -/
def beWords : Nat → List Byte → List Word
  | 0, _ => []
  | n + 1, bs =>
    let w := (bs.take 4).foldl (fun (a : Nat) b => a * 256 + b.toNat) 0
    word w :: beWords n (bs.drop 4)

/-- One word of the message schedule, from the last 16 words, newest first. -/
def shaNext (w : List Word) : Word :=
  let a := w.getD 14 0
  let b := w.getD 1 0
  let s0 := a.rotateRight 7 ^^^ a.rotateRight 18 ^^^ (a >>> 3)
  let s1 := b.rotateRight 17 ^^^ b.rotateRight 19 ^^^ (b >>> 10)
  w.getD 15 0 + s0 + w.getD 6 0 + s1

/-- The message schedule, newest word first. -/
def shaSched : Nat → List Word → List Word
  | 0, w => w
  | n + 1, w => shaSched n (shaNext w :: w)

/-- One round on the eight working words. -/
def shaRound (st : List Word) (kw : Word) : List Word :=
  match st with
  | [a, b, c, d, e, f, g, h] =>
    let t1 := h + (e.rotateRight 6 ^^^ e.rotateRight 11 ^^^ e.rotateRight 25) + ((e &&& f) ^^^ (~~~e &&& g)) + kw
    let t2 := (a.rotateRight 2 ^^^ a.rotateRight 13 ^^^ a.rotateRight 22) + ((a &&& b) ^^^ (a &&& c) ^^^ (b &&& c))
    [t1 + t2, a, b, c, d + t1, e, f, g]
  | st => st

/-- One 64-byte block. -/
def shaBlock (st : List Word) (blk : List Byte) : List Word :=
  let w := (shaSched 48 (beWords 16 blk).reverse).reverse
  let r := (List.zipWith (· + ·) shaK w).foldl shaRound st
  List.zipWith (· + ·) st r

/-- The blocks of a padded message. -/
def shaBlocks : Nat → List Word → List Byte → List Word
  | 0, st, _ => st
  | n + 1, st, bs => shaBlocks n (shaBlock st (bs.take 64)) (bs.drop 64)

/-- SHA-256 (FIPS 180-4). -/
def sha256 (m : List Byte) : List Byte :=
  let n := m.length
  let z := (119 - n % 64) % 64
  let p := m ++ 0x80#8 :: (List.replicate z 0#8 ++ (le 8 (8 * n)).reverse)
  let st := shaBlocks (p.length / 64)
    [0x6a09e667#32, 0xbb67ae85#32, 0x3c6ef372#32, 0xa54ff53a#32, 0x510e527f#32, 0x9b05688c#32, 0x1f83d9ab#32, 0x5be0cd19#32] p
  st.flatMap (fun w => (le 4 w.toNat).reverse)

/-- HMAC-SHA-256 under a key of at most 64 bytes (FIPS 198-1). -/
def hmac (key m : List Byte) : List Byte :=
  let k := key ++ List.replicate (64 - key.length) 0#8
  sha256 (k.map (· ^^^ 0x5c#8) ++ sha256 (k.map (· ^^^ 0x36#8) ++ m))

end Sys2Proof.Machine
end

