-- ==== Sys2Proof/Machine/SMap.lean ====
section
/-! DEFINITION. Sparse maps as plain data in one canonical form: keys strictly rising, and no entry equal to the value
that an unlisted key reads as. The rows of a silo, the trim state of channels and the CUSTOMER bytes are held so. -/
namespace Sys2Proof.Machine

/-- A sparse map from numbers. -/
abbrev SMap (α : Type) := List (Nat × α)

/-- The value at a key; `d` is what an unlisted key reads as. -/
def SMap.get {α : Type} (d : α) : SMap α → Nat → α
  | [], _ => d
  | (k, v) :: m, i => if i = k then v else SMap.get d m i

/-- The map without a key. -/
def SMap.erase {α : Type} : SMap α → Nat → SMap α
  | [], _ => []
  | (k, v) :: m, i => if i = k then m else (k, v) :: SMap.erase m i

/-- The map with a key set, in rising order. -/
def SMap.insert {α : Type} : SMap α → Nat → α → SMap α
  | [], i, x => [(i, x)]
  | (k, v) :: m, i, x => if i < k then (i, x) :: (k, v) :: m else if i = k then (i, x) :: m else (k, v) :: SMap.insert m i x

/-- Set a key, keeping the canonical form for the unlisted value `d`. -/
def SMap.put {α : Type} [DecidableEq α] (d : α) (m : SMap α) (i : Nat) (x : α) : SMap α :=
  if x = d then SMap.erase m i else SMap.insert m i x

/-- Keys strictly rising, all above `lo`, no value equal to `d`. -/
def SMap.okFrom {α : Type} [DecidableEq α] (d : α) : Nat → SMap α → Bool
  | _, [] => true
  | lo, (k, v) :: m => decide (lo ≤ k) && decide (v ≠ d) && SMap.okFrom d (k + 1) m

/-- The canonical form. -/
def SMap.ok {α : Type} [DecidableEq α] (d : α) (m : SMap α) : Bool := SMap.okFrom d 0 m

/-- The bytes of a byte memory from `a` on. -/
def SMap.bytes (m : SMap Byte) (a : Nat) : Nat → List Byte
  | 0 => []
  | n + 1 => SMap.get 0#8 m a :: SMap.bytes m (a + 1) n

/-- Bytes written in ascending address order (R338). -/
def SMap.write (m : SMap Byte) (a : Nat) : List Byte → SMap Byte
  | [] => m
  | b :: bs => SMap.write (SMap.put 0#8 m a b) (a + 1) bs

/-- Change the element at a position of a list; a position beyond the end changes nothing. -/
def modAt {α : Type} (l : List α) (i : Nat) (f : α → α) : List α := l.modify i f

end Sys2Proof.Machine
end

