-- ==== Sys2Proof/Machine/State.lean ====
section
/-! DEFINITION. The state of the NDG-2415 as plain data, block by block, and the state right after module reset.
Times are PLATE clocks of 8 ns since module reset. -/
namespace Sys2Proof.Machine

/-- Why the machine stops with a fault. No command of this block does: every row of the table has an effect, and
what the spec calls an error is answered by a status, an event or a fault ID held in the state. -/
inductive Fault where
  /-- Raised by nobody (safe: it is never answered). -/
  | none_
  deriving DecidableEq, Repr

/-- Why a command has no meaning. -/
inductive Refusal where
  /-- Raised by a dispatch arm that is not written yet (safe: the machine stops). No arm is. -/
  | notModelled (mnemonic : String)
  deriving DecidableEq, Repr

/-- The modes (R379); the number of a mode is its MODE_SET code. -/
inductive Mode where
  | off | boot | standby | imaging | relay | calibration | diagnostic | safe
  deriving DecidableEq, Repr

/-- Roles (R210, R217) in the order of the key slots (R349). -/
inductive Role where
  | operator | calibration | maintenance | safety
  deriving DecidableEq, Repr

/-! ## Ledger and boot store: what outlives a reset -/

/-- A record kept twice (R339): each copy is its SEQ and content, or none where its CRC is wrong. -/
structure Rec (α : Type) where
  a : Option (Nat × α)
  b : Option (Nat × α)
  deriving DecidableEq, Repr

/-- One channel of a TRIM group record (R343): committed codes, failure count, set points o_i and γ_i. -/
structure Trim where
  ofs : Int
  gain : Int
  fails : Nat
  o : List Int
  g : List Int
  deriving DecidableEq, Repr

/-- A TRIM group record (R81, R343). -/
structure TrimGroup where
  perm : Option Nat
  spareFailed : Bool
  chans : List Trim
  deriving DecidableEq, Repr

/-- A tally (R344): HIGH record, stroke cell BITMAP as its number of set bits from bit 0, TAG. -/
structure Tally where
  high : Rec Nat
  bits : Nat
  tag : Nat
  deriving DecidableEq, Repr

/-- The guard record (R352): FAILS and REMAIN of the four roles and the four partitions. -/
structure Guard where
  fails : List Nat
  remain : List Nat
  deriving DecidableEq, Repr

/-- A log entry (R347). -/
structure LogEntry where
  seq : Nat
  boot : Nat
  ms : Nat
  kind : Nat
  code : Nat
  args : List Nat
  deriving DecidableEq, Repr

/-- The front-pipe constants of a bundle (R103). -/
structure Fpc where
  tRef : Nat
  nSets : Nat
  tau : List Int
  blLo : Nat
  blHi : Nat
  lSat : Nat
  sSat : Nat
  thDyn : Nat
  thUnst : Nat
  refColTol : Nat
  refMeanTol : Nat
  rExp : List Nat
  deriving DecidableEq, Repr

/-- A NUC set (R92): entries by 2080·row + column over physical rows 0–1539; an unlisted entry is `dflt`. -/
structure NucSet where
  dflt : BitVec 64
  ents : SMap (BitVec 64)
  deriving DecidableEq, Repr

/-- Section ANC (R132). -/
structure Anc where
  gSpat : Nat
  gTemp : Nat
  w : Nat
  mu : Nat
  stepMax : Nat
  soLimit : Nat
  nAvgLog2 : Nat
  sSet : Nat
  kBd : Nat
  kT : Nat
  kAge : Nat
  bladeSpread : Nat
  eOpp : Nat
  eReq : Nat
  eUrg : Nat
  corrMax : Nat
  meanMax : Nat
  zoneTol : Nat
  bladeCh0 : Nat
  bladeCh1 : Nat
  shutA : List Nat
  shutB : List Nat
  deriving DecidableEq, Repr

/-- Section RAD (R150). -/
structure Rad where
  x0A : Int
  x0B : Int
  rgA : Nat
  rgB : Nat
  rcE : Nat
  plA : List Nat
  plB : List Nat
  deriving DecidableEq, Repr

/-- Section CCH (R415): test levels, set-point temperatures, the spares' PED, SL1 and SL6 at the three set points. -/
structure CchSect where
  lvl : List Nat
  tSet : List Int
  spares : SMap (List (Nat × Nat × Nat))
  deriving DecidableEq, Repr

/-- A UMV bundle (R222), its sections parsed; the PCV tables (R267) are 10 lists of 17 points, an absent one empty;
`staged` is its length and bytes as it came, none for the factory bundle. -/
structure Bundle where
  id : Nat
  fpc : Fpc
  linS : Array Word
  linL : Array Word
  nuc : List NucSet
  anc : Anc
  rad : Rad
  pcv : List (List (Int × Int))
  cch : CchSect
  staged : Option (Nat × SMap Byte)
  deriving DecidableEq, Repr

/-- A scene-offset slot of the boot store (R129); `ok` is its CRC. -/
structure SoSlot where
  pseq : Nat
  bundleId : Nat
  tShort : Nat
  hdrK : Nat
  tPlate : Int
  bd0 : Int
  ok : Bool
  table : SMap (Array Int)
  deriving DecidableEq, Repr

/-- An image slot of the boot store with its MAINT data (R375); `data` is the length and the bytes of an image as it was staged, none for
one from manufacture. -/
structure Image where
  present : Bool
  major : Nat
  minor : Nat
  seq : Nat
  bad : Bool
  data : Option (Nat × SMap Byte)
  deriving DecidableEq, Repr

/-- What outlives a module reset: ledger (R337) and boot store (R224). -/
structure Nv where
  serial : BitVec 64
  identBias : Nat × Nat
  identKey : List Byte
  trim : SMap (Rec TrimGroup)
  bias : Rec (Nat × Nat)
  tally : List Tally
  resid : Nat
  keys : List (Rec (List Byte))
  pw : List (Rec (List Byte × List Byte))
  guard : Rec Guard
  log : SMap (Option LogEntry)
  customer : SMap Byte
  images : List Image
  factory : Option Bundle
  persisted : Option Bundle
  soSlots : List SoSlot
  deriving DecidableEq, Repr

/-! ## Host interface -/

/-- A ring (R200, R204). `posted` holds the descriptors, with their ring
positions, that the host has posted and the module has not claimed. -/
structure Ring where
  baseLo : Word
  baseHi : Word
  enable : Bool
  mod_ : Nat
  vector : Nat
  size : Nat
  stride : Word
  head : Nat
  tail : Nat
  phase : Bool
  cfgErr : Bool
  overflow : Bool
  dmaErr : Bool
  dbInvalid : Bool
  posted : List (Nat × BufDesc)
  modUntil : Nat
  modHeld : Bool
  deriving DecidableEq, Repr

/-- A completion entry written to ring 1 (R206); RESULT as five words. -/
structure Completion where
  pos : Nat
  phase : Bool
  tag : Word
  opcode : Nat
  status : Nat
  index : Nat
  result : List Word
  deriving DecidableEq, Repr

/-- An event entry written to ring 2 (R208). -/
structure Event where
  pos : Nat
  phase : Bool
  code : Nat
  frame : Word
  gen : Nat
  pipe : Nat
  time : Word
  args : List Word
  deriving DecidableEq, Repr

/-- A product buffer the module completed (R207): descriptor, what it wrote back, frame record, payload lines. -/
structure Delivery where
  ring : Nat
  pos : Nat
  desc : BufDesc
  frame : Nat
  bytes : Nat
  status : Nat
  gen : Nat
  product : Nat
  record : List Byte
  stride : Nat
  payload : List (List Byte)
  deriving DecidableEq, Repr

/-- A session slot (R218): `auth` false from SESSION_OPEN to authentication. -/
structure Session where
  handle : Word
  role : Role
  nonce : BitVec 128
  key : List Byte
  auth : Bool
  opened : Nat
  deriving DecidableEq, Repr

/-- A staging in progress (R221). -/
structure Staging where
  kind : Nat
  total : Nat
  staged : Nat
  data : SMap Byte
  session : Word
  deriving DecidableEq, Repr

/-- An MSI-X vector: its table entry in the PCI Express layout, its pending bit (R204, R225). -/
structure Vector_ where
  addrLo : Word
  addrHi : Word
  data : Word
  masked : Bool
  pending : Bool
  deriving DecidableEq, Repr

/-- A STAGE_COMMIT held until a BND half is free (R233). -/
structure WaitCommit where
  tag : Word
  index : Nat
  persist : Bool
  bundle : Bundle
  deriving DecidableEq, Repr

/-- What the host has written into configuration space (R196), beside Bus Master Enable and the power state: the other bits of Command,
the interrupt line, the bases of BAR 0 and BAR 2, MSI, the enable and function mask of MSI-X, device and link control. -/
structure PciCfg where
  command : Nat
  line : Nat
  bar0 : BitVec 64
  bar2 : BitVec 64
  msiOn : Bool
  msiGranted : Nat
  msiAddr : BitVec 64
  msiData : Nat
  msix : Nat
  devCtl : Nat
  linkCtl : Nat
  deriving DecidableEq, Repr

/-- The HIF block (R204) and what the host interface holds; `link` is the speed and width of the link as trained, `cfg` configuration
space with the mask and pending bits of MSI, `cfgRdata` what its last read returned, `aer` the host addresses of the reads whose
failure AER has reported, newest first (R228), `bar2` the bytes of BAR 2 written since module reset (none: not written), `bar2Seed`
the resets so far, `bar2Rdata` what the last read of BAR 2 returned (R198), `expired` lists the handles whose nonce has expired (R219). -/
structure Hif where
  speed : Nat
  width : Nat
  rings : List Ring
  evtLost : Nat
  lostSince : Nat
  vectors : List Vector_
  link : Nat × Nat
  cfg : PciCfg
  msiMask : Word
  msiPending : Word
  cfgRdata : Word
  aer : List (BitVec 64)
  bar2 : SMap (Option Byte)
  bar2Seed : Nat
  bar2Rdata : List Byte
  messages : List Nat
  sessions : List (Option Session)
  expired : List Word
  shadows : SMap (Option Word)
  rdata : Word
  linkDown : Bool
  d3 : Bool
  noMaster : Bool
  poursAbsent : Nat
  resumeDue : Bool
  staging : Option Staging
  waiting : Option WaitCommit
  completions : List Completion
  events : List Event
  deliveries : List Delivery
  hostWrites : List (BitVec 64 × List Byte)
  deriving DecidableEq, Repr

/-! ## Settings (R51, R52) -/

/-- Radiometric settings (R149). -/
structure Radio where
  tauA : Nat
  tauB : Nat
  epsA : Nat
  epsB : Nat
  tRefl : Nat
  lensSrc : Nat
  lensT : Nat
  tmMethod : Nat
  tbMin : Nat
  tfEn : Nat
  tfAlpha : Nat
  tfLo : Nat
  tfHi : Nat
  deriving DecidableEq, Repr

/-- Display settings (R157). -/
structure Disp where
  mode : Nat
  agc : Nat
  manLo : Int
  manHi : Int
  pLo : Nat
  pHi : Nat
  agcRate : Nat
  histBase : Int
  histShift : Nat
  palY : List Byte
  palU : List Byte
  palV : List Byte
  deriving DecidableEq, Repr

/-- A RADIOMETRY rectangle (R188). -/
structure Rect where
  top : Nat
  left : Nat
  bottom : Nat
  right : Nat
  alarmT : Nat
  alarmMode : Nat
  deriving DecidableEq, Repr

/-- OBSCURATION settings (R190). -/
structure ObsSet where
  obsMin : Nat
  ratio : Nat
  frames : Nat
  wet : Int
  ice : Int
  zones : Nat
  auto_ : Nat
  washMs : Nat
  deriving DecidableEq, Repr

/-- CANDIDATES settings (R192). -/
structure CandSet where
  tMin : Nat
  tMax : Nat
  minPix : Nat
  maxH : Nat
  maxW : Nat
  deriving DecidableEq, Repr

/-- SURFACE settings (R193). -/
structure SurfSet where
  wet : Nat
  snow : Nat
  margin : Nat
  poly : List (Nat × Nat)
  deriving DecidableEq, Repr

/-- A camera (R166, R168): destinations by product code (0 none, 3–22 ring, 254 NL) and its two sets. The first of a
pipeline's cameras that is not `secondary` is its primary. -/
structure Camera where
  id : Nat
  session : Word
  secondary : Bool
  dest : List Nat
  normal : List Nat
  cool : List Nat
  deriving DecidableEq, Repr

/-- All the settings of one pipeline: what a latch point takes into a snapshot. `rate` is the admitted rate of pipeline B (R173);
`biasKeep` is the instant at which bias codes with PERSIST = 1 were accepted (R59); `subst` is the substitution map of the
frame, group and channel replaced (R63), which its marker adds. -/
structure Settings where
  exposure : Word
  fsync : Word
  bias : Nat × Nat
  biasKeep : Option Nat
  hostLvl : Option (List Nat)
  fp : Word
  bundle : Nat
  radio : Radio
  disp : Disp
  rects : List Rect
  obs : ObsSet
  cand : CandSet
  surf : SurfSet
  services : Nat
  cams : List Camera
  rate : Nat
  cool : Bool
  policy : Nat
  minInterval : Nat
  compat : Bool
  cchCtrl : Word
  cchLimits : Word
  mode : Mode
  subst : List (Nat × Nat)
  deriving DecidableEq, Repr

/-! ## Frames and pipelines -/

/-- The placement of one stage (R178): pipeline, code bit and the engines it got. -/
structure Placed where
  pipe : Nat
  stage : Nat
  engines : List Nat
  deriving DecidableEq, Repr

/-- A pixel after the HDR merge (R89): value and the flags that travel with it. -/
structure HPix where
  h : Int
  blend : Bool
  sonly : Bool
  clip : Bool
  deriving DecidableEq, Repr

/-- A pixel before winnow (R95): u, its class (R96) and the flags. -/
structure UPix where
  u : Int
  cls : Nat
  blend : Bool
  sonly : Bool
  clip : Bool
  deriving DecidableEq, Repr

/-- The result of one reference row (R101, R160). -/
structure RefRow where
  level : Nat
  pass : Bool
  failCols : Nat
  firstCol : Nat
  colFail : Bool
  meanFail : Bool
  hExp : Int
  meanDev : Int
  maxDev : Nat
  deriving DecidableEq, Repr

/-- The row look-ahead of a front pipe (R90, R98). -/
structure FpBuf where
  hRow : Array HPix
  dPrev : Int
  dCur : Int
  uPrev : Array UPix
  uCur : Array UPix
  deriving DecidableEq, Repr

/-- One formed product (R152): element lines or packed payload, and the record fields that describe it. -/
structure Product where
  code : Nat
  lines : List (List Byte)
  isLine : Bool
  width : Nat
  format : Nat
  deriving DecidableEq, Repr

/-- A buffer claimed for a frame (R163). -/
structure Claim where
  ring : Nat
  pos : Nat
  product : Nat
  camera : Nat
  desc : BufDesc
  deriving DecidableEq, Repr

/-- The statistics of a frame (R160). -/
structure Stats where
  histF : List Nat
  histA : List Nat
  histB : List Nat
  zones : List (Int × Int × Nat × Nat × Nat)
  clipPix : Nat
  deriving DecidableEq, Repr

/-- A frame in flight: its snapshot and all that has been made of it. `received` is the instant at which the last row of a
companion's frame had come in (R50). -/
structure Frame where
  n : Nat
  st : Settings
  marker : Nat
  lpTime : Option Nat
  received : Option Nat
  ptemp : Option Int
  soSeq : Nat
  set_a : Nat
  w : Nat
  place : List Placed
  placed : Bool
  sheaves : List Nat
  pairN : Nat
  fsyncLocked : Bool
  nextRow : Nat
  buf : FpBuf
  bdSum : Int
  bd : Int
  raw : SMap (Array (BitVec 16) × Array (BitVec 16))
  silo : SMap (Array Word)
  refs : List RefRow
  nStatic : Nat
  nDynamic : Nat
  nCluster : Nat
  excess : Bool
  shutter : Bool
  hold : Bool
  underrun : Bool
  rateDrop : Bool
  incomplete : Bool
  refFail : Bool
  tileFail : Bool
  memFail : Bool
  tainted : Bool
  test5 : Bool
  stripes : Nat
  restart : Bool
  lensT : Nat
  lensSubst : Bool
  yA : SMap (Array Word)
  yB : SMap (Array Word)
  lsA : SMap (Array Int)
  lsB : SMap (Array Int)
  tm : SMap (Array Nat)
  fallback : Nat
  claims : List Claim
  products : List Product
  stats : Option Stats
  winLo : Int
  winHi : Int
  ready : Bool
  lpE : Nat
  lpAnchor : Nat
  lpSince : Nat
  lpTj : Int
  tempSubst : Nat
  permSubst : Nat
  comp : Option CompHeader
  coeff : Option (Array (Int × Int))
  deriving DecidableEq, Repr

/-- A shutter grant (R117), unused while it stands here. -/
structure Grant where
  start : Nat
  end_ : Nat
  force : Bool
  deriving DecidableEq, Repr

/-- An open shutter request (R116): urgency, when it was last posted. -/
structure Req where
  urgent : Bool
  posted : Nat
  deriving DecidableEq, Repr

/-- A shutter event in progress (R121 to R126). `c` is its first frame, `closed` that CLOSED has been reported, `win` the
first settle frame and the first and last averaging frames once closing is confirmed, `sums`, `bad`, `taken` what the
averaging frames gave, `temps` and `bds` their plate temperatures and BDf, `blades` the blade results in order (none:
invalid), `driven` that its close pulse has started on LS0 (R272), `opened` that OPEN has been reported since the first open
pulse, `formed` that the anchor has been judged,
`ended` the first clean frame, `anc` the ANC section that the event goes by: that of the frame in which closing was
confirmed. -/
structure ShEvent where
  c : Nat
  start : Nat
  closed : Bool
  win : Option (Nat × Nat × Nat)
  sums : SMap (Array Int)
  bad : SMap (Array Bool)
  taken : Nat
  temps : List (Option Int)
  bds : List Int
  blades : List (Option Int)
  asked : Nat
  fail : Option Nat
  openDue : Bool
  opens : Nat
  lastOpen : Nat
  driven : Bool
  opened : Bool
  formed : Bool
  ended : Option Nat
  anc : Anc
  deriving DecidableEq, Repr

/-- A scene-offset table ready to be committed at a pour (R112, R126); `anchor` holds BD_0 and T_0. -/
structure NextTable where
  table : SMap (Array Int)
  base : Nat
  anchor : Option (Int × Int)
  deriving DecidableEq, Repr

/-- A table in the scene-offset silo (R107); `anchor` counts the shutter commits and boot loads behind it, 0 for none. -/
structure SoTable where
  seq : Nat
  table : SMap (Array Int)
  anchor : Nat
  deriving DecidableEq, Repr

/-- The last frame of a pipeline that poured or dropped: what later frames ask of it (R109, R110, R138). -/
structure Done where
  n : Nat
  st : Settings
  soSeq : Nat
  silo : SMap (Array Word)
  shutter : Bool
  whole : Bool
  refFail : Bool
  deriving DecidableEq, Repr

/-- A zone of the OBSCURATION service (R189). -/
structure ZoneObs where
  base : Nat
  diff : Int
  run : Nat
  obscured : Bool
  cls : Nat
  deriving DecidableEq, Repr

/-- The status registers of a front pipe (R106). -/
structure FpRegs where
  setA : Nat
  w : Nat
  ptemp : Int
  frame : Nat
  refchk : Word
  refFrame : Nat
  refCnt : Nat
  winnow : Word
  blind : Int
  limit : Nat
  soGen : Nat
  deriving DecidableEq, Repr

/-- A pipeline. `bootBundle` is the bundle under which BOOT loaded the scene-offset table (R131). `armed` is that its first frame has its snapshot and has not begun (R416), `prior` the instant of the latest
acceptance and the settings as they were accepted before that instant (R51), `gone` the frame being read once it has poured
(R44). `checkWin` and `refWin` hold the numbers of frames with a counted fault and with a failed reference check of
pipeline B (R312), `lateRun` and `noTemp` the runs of R312, `dead` the instants of the pour deadlines of
the two frames that began last, should no marker follow, `capSlots` the frames of the capture silo (R32). -/
structure Pl where
  frameNo : Nat
  link : Option (Nat × Array (BitVec 16) × Array (BitVec 16))
  reading : Bool
  armed : Bool
  snap : Settings
  pend : Settings
  prior : Option (Nat × Settings)
  gone : Option Frame
  place : List Placed
  placed : Bool
  sheaves : List Nat
  pairN : Nat
  frames : List Frame
  gen : Nat
  lastPoured : Option Settings
  lastSeq : Option Nat
  lastRead : Option Settings
  lastDone : Option Done
  tables : List SoTable
  soSeq : Nat
  anchors : Nat
  curAnchor : Nat
  sinceAnchor : Option Nat
  glean : SMap (Array (Nat × Int))
  accepted : Nat
  gleanCopy : Option (SMap (Array (Nat × Int)) × Nat)
  gleanNext : Option NextTable
  anchorNext : Option NextTable
  bdf : Option Int
  bd0 : Int
  t0 : Int
  ageFrom : Nat
  lastT : Option Int
  tCheck : Bool
  eFloor : Nat
  e : Nat
  bootExp : Option (Nat × Nat)
  bootBundle : Option Nat
  request : Option Req
  grant : Option Grant
  lastEvent : Option Nat
  event : Option ShEvent
  prepared : Option (Option Grant)
  fails : Nat
  degraded : Bool
  zA : SMap (Array Int)
  zB : SMap (Array Int)
  histValid : Bool
  histTaint : Bool
  winLo : Int
  winHi : Int
  zones : List ZoneObs
  alarms : List Bool
  lastWash : Option Nat
  washDue : Bool
  checkWin : List Nat
  refWin : List Nat
  noTemp : Nat
  lateRun : Nat
  rateRun : Bool
  dead : Nat × Nat
  capSlots : Nat
  regs : FpRegs
  deriving DecidableEq, Repr

/-! ## Plate and column channels -/

/-- The PLT block (02) and the plate. `acceptAt` is the instant at which the latest commit was accepted, `biasKept` that of the
bias codes last handed to the bias record (R59). -/
structure Plt where
  exp : Word
  fsync : Word
  busy : Bool
  sent : Word × Word
  pending : Bool
  result : Nat
  applyFrame : Nat
  acceptAt : Nat
  activeExp : Word
  extra : Nat
  missed : Nat
  fsyncState : Nat
  exactRun : Nat
  target : Option Nat
  targetExact : Bool
  period : Nat
  lastEdge : Option Nat
  edges : Nat
  stuckRun : Nat
  stuckPosted : Bool
  noisy : Bool
  cleanRun : Nat
  closeEdge : Bool
  fsyncOutUntil : Nat
  bias : Nat × Nat
  biasKept : Option Nat
  lvl : List Nat
  slot : Nat
  marker : Nat
  firstMarker : Option Nat
  spareSeen : List (Nat × SlotSamples)
  deriving DecidableEq, Repr

/-- One primary channel (03): committed trims and the figures of the window registers; `rejAt` is the frame of the
latest rejection (R70). -/
structure Chan where
  trim : Trim
  rejects : Nat
  quality : Nat
  ofsErr : Int
  gainErr : Int
  rejAt : Option Nat
  skipTurn : Bool
  deriving DecidableEq, Repr

/-- The phases of a calibration cycle (R71, CCH_CH_STATE.PHASE). -/
inductive CycPhase where
  | measure | evaluate | steep | verify | evaluate2 | restore
  deriving DecidableEq, Repr

/-- What one accepted frame of Measure or Verify gave (R72): e_o, e_g where fitted, the latched temperature, and the
accepted pairs (the spare's true level in 1/16 DN, the primary's raw value). -/
structure Fit where
  eo : Int
  eg : Option Int
  temp : Int
  pairs : List (Int × Nat)
  deriving DecidableEq, Repr

/-- A calibration cycle in progress (R71): the frames left of its phase, the values it started with, the fits of the
phase, the pairs (x, y) of the frame being read, and the outcome of an evaluation. -/
structure Cycle where
  chan : Nat
  phase : CycPhase
  left : Nat
  m : Nat
  s : Nat
  qMax : Nat
  failLimit : Nat
  fits : List Fit
  clipped : Nat
  pairs : List (Nat × Nat)
  expChange : Bool
  repeated : Bool
  changed : Bool
  newOfs : Int
  newGain : Int
  tm : Int
  dO : Int
  dG : Int
  pass : Bool
  deriving DecidableEq, Repr

/-- A column group (R62): its spare, its substitutions and its cycle. `pendErr` is the spare's error of the last frame
(R68), `lastErr` the last one measured, `spareNext` the coefficients that take effect at the next marker. -/
structure Group where
  spare : Trim
  ovr : Nat
  failed : Bool
  perm : Option Nat
  permNext : Option Nat
  cycle : Option Cycle
  nextChan : Nat
  request : Option Nat
  rejRun : Nat
  pendErr : Option (Int × Int × Int)
  lastErr : Int × Int
  spareNext : Option Trim
  deriving DecidableEq, Repr

/-- The CCH block (03). Channels by 32·group + channel, groups by number. -/
structure Cch where
  chans : SMap Chan
  groups : SMap Group
  sel : Word
  commits : Nat
  failures : Nat
  rejections : Nat
  loaded : Bool
  deriving DecidableEq, Repr

/-! ## Engines, converters, actuators -/

/-- The state of a sheaf (R174). -/
inductive UState where
  | offline | idle | draining | test | failed
  deriving DecidableEq, Repr

/-- A sheaf of engines. `prev` and `sched` belong to a self-test in progress, `passed` is a pass since the sheaf became
FAILED, `ret` a return requested then; `prior` the instant of the latest write of OFFLINE_REQ that was accepted and `offReq` and
`ret` as they were before that instant (R185, R51); `history` holds the partners of R184 with the pipeline A frame, `ues` the
frames of SRAM errors. -/
structure Sheaf where
  st : UState
  offReq : Bool
  result : Nat
  prev : UState
  sched : Bool
  passed : Bool
  ret : Bool
  prior : Option (Nat × Bool × Bool)
  history : List (Nat × Nat)
  ues : List Nat
  retestAt : Option Nat
  partner : Option (Nat × Nat)
  deriving DecidableEq, Repr

/-- The counters of one unit record (R174). -/
structure UnitCnt where
  checks : Nat
  mismatch : Nat
  frame : Nat
  ce : Nat
  ue : Nat
  deriving DecidableEq, Repr

/-- The engine array. Counters by unit index: 0 array, 1–4 stooks, 5–20 sheaves, 21–148 engines. `worked` is that an engine has
run a stage since reset. -/
structure Eng where
  sheaves : List Sheaf
  units : SMap UnitCnt
  program : Word
  capacity : Bool
  worked : Bool
  deriving DecidableEq, Repr

/-- A conversion in progress (R255). -/
structure Conv where
  entry : Nat
  cfg : Word
  start : Nat
  stop : Nat
  urgent : Bool
  deriving DecidableEq, Repr

/-- An urgent request (R262); `no` numbers those of the host. -/
structure Urg where
  entry : Nat
  fromModule : Bool
  no : Nat
  deriving DecidableEq, Repr

/-- A modulator (R253): the conversion in progress, the entries of the pass still to run, the urgent request in
progress or next, the one waiting, whether the last conversion overloaded, whether it is powered down. -/
structure Modulator where
  now : Option Conv
  queue : List Nat
  urg : Option Urg
  wait : Option Urg
  recover : Bool
  cold : Bool
  deriving DecidableEq, Repr

/-- A sequencer entry (PCV_ENTRY registers); `newCfg` applies from the next pass start (R259). -/
structure Entry where
  cfg : Word
  newCfg : Option Word
  result : Word
  temp : Word
  time : Nat
  deriving DecidableEq, Repr

/-- The PCV block (11). `diodes` holds the last three results of D0–D3, newest first, with time and IMPLAUS (none: no valid
temperature), `ext` the last three valid temperatures of TEMP_EXT0–5 (R24, R140): as both modulators may end a conversion of one
channel in the clock of a marker, those are what a marker can ask for; `biasRun` the counts of R60, `biasOn`
the instant the detector bias was applied;
`bladeSeq` counts the conversions of BLADE_CH0 and `bladeUrgent` says whether its latest valid result came from the urgent
slot (R299). -/
structure Pcv where
  ctrl : Word
  newCtrl : Option Word
  running : Bool
  passes : Nat
  passStart : Option Nat
  skips : Nat
  cfgErr : Bool
  urgEntry : Nat
  urgStatus : Nat
  urgNo : Nat
  swtrig : Nat
  trig2 : Bool
  diodeUsed : Nat
  entries : List Entry
  mods : List Modulator
  diodes : List (List (Option Int × Nat × Bool))
  ext : List (List (Int × Nat))
  biasRun : List Nat
  biasOn : Option Nat
  bladeSeq : Nat
  bladeUrgent : Bool
  deriving DecidableEq, Repr

/-- Whose pulse it is (R270): the host's, the close and open pulses of an event, an open pulse of R124 outside one (R280, R385,
and every repetition), the first open pulse of R279 or R302, the washer's for a pipeline. -/
inductive Owner where
  | host | close | open_ | startup | reopen
  | wash (p : Pipe)
  deriving DecidableEq, Repr

/-- A pulse driven or due (R268). -/
structure Pulse where
  owner : Owner
  steps : Nat
  kick : Nat
  both : Bool
  start : Nat
  counted : Nat
  kicking : Bool
  deriving DecidableEq, Repr

/-- A host pulse waiting on a switch (R273). -/
structure HostPulse where
  channel : Nat
  steps : Nat
  both : Bool
  since : Nat
  deriving DecidableEq, Repr

/-- A pulse of the module that is due, and since when (R268). -/
structure Due where
  owner : Owner
  steps : Nat
  since : Nat
  deriving DecidableEq, Repr

/-- A low-side channel (ACT_CH registers). -/
structure ActCh where
  pulse : Nat
  kick : Nat
  thetaMax : Nat
  tauS : Nat
  heat : Nat
  theta : Nat
  oc : Bool
  ol : Bool
  hot : Bool
  run : Option Pulse
  due : Option Due
  lastPulse : Option Nat
  deriving DecidableEq, Repr

/-- A sense input (R278). -/
structure Sense where
  level : Option Bool
  changes : List Nat
  faultAt : Option Nat
  deriving DecidableEq, Repr

/-- The ACT block (12). `opening` is an opening outside a shutter event: pulses issued and when the last was
(R124, R279, R280). `coolTicks` counts the cooling ticks since reset (R274). -/
structure Act where
  ctrl : Word
  par01 : Bool
  par23 : Bool
  vact : Nat
  vboost : Nat
  sense : Word
  inputs : List Sense
  chans : List ActCh
  waits : List (Option HostPulse)
  lastEnd : List (Option Nat)
  opening : Option (Nat × Nat)
  uncommanded : Bool
  lastWash : Option Nat
  coolTicks : Nat
  deriving DecidableEq, Repr

/-! ## Lanes and companion -/

/-- A packet (R290): KIND, STREAM, the lane, LINE, TAG, the payload, whether an injection inverted its CRC (R304), the number of the
block with which it began on its lane (of kinds 2 to 7, the block at the instant that gave rise to it), and, where ABORT ended it, the reason and how many of its data blocks went before
(R294). -/
structure NlPacket where
  kind : Nat
  stream : Nat
  lane : Nat
  line : Nat
  tag : Nat
  payload : List Byte
  badCrc : Bool
  at_ : Nat
  abort : Option (Nat × Nat)
  deriving DecidableEq, Repr

/-- A packet that is being received (R290, R291): the fields of its SOP, the data blocks so far, newest first, whether it is to be
discarded, and the blocks since its SOP. -/
structure RxPacket where
  kind : Nat
  stream : Nat
  blocks : Nat
  line : Nat
  tag : Nat
  words : List (BitVec 64)
  bad : Bool
  age : Nat
  deriving DecidableEq, Repr

/-- A lane (NL_LN registers). Receiver (R287, R288): `pos` counts the blocks from the place of the last LSYNC on, `win` the validity of
the last headers, newest first, `asm_` the packet being received. Checker of R303: the last bits received, newest first, and the run
of correct ones. Transmitter (R289): whether it is enabled and since when, the blocks sent since, the egress packet in progress with the
blocks it still has, the stream whose turn it is (R292), and by block number the blocks that injections 1, 2 and 4 have struck
(R304). -/
structure Lane where
  cfg : Word
  partner : Nat
  prbsLock : Bool
  state : Nat
  inject : Nat
  hdrErr : Nat
  ctrlErr : Nat
  crcErr : Nat
  losses : Nat
  missing : Nat
  prbsErr : Nat
  seed : BitVec 31
  scrambler : BitVec 31
  missRun : Nat
  pos : Nat
  win : List Bool
  asm_ : Option RxPacket
  prbsSeen : List Bool
  prbsRun : Nat
  on : Bool
  onAt : Nat
  blk : Nat
  cur : Option (NlPacket × Nat)
  turn : Nat
  spoils : List (Nat × Nat)
  deriving DecidableEq, Repr

/-- An egress stream (R292): what is bound, by frame number, frame record and product what is in transfer and what
waits, and the packets of the one in transfer that each egress lane still has to begin. -/
structure Stream where
  pipe : Pipe
  product : Nat
  transfer : Option (Nat × List Byte × Product)
  waiting : Option (Nat × List Byte × Product)
  todo : List (List NlPacket)
  deriving DecidableEq, Repr

/-- The companion link (R297) at both its ends. `heard` and `acks` are the lanes on which TRN is received and on which the partner's ACK
stands, `ready` the READY that this module sends (R296); `tag` is the TAG of the frame being received, `lastS` and `lastL` that the
two packets of its row 1547 have come (R300). -/
structure Comp where
  state : Nat
  loss : Nat
  fail : Nat
  attempts : Nat
  lanes : Nat
  frame : Nat
  since : Nat
  retryAt : Option Nat
  chunks : SMap Byte
  got : List Nat
  retries : SMap Nat
  lastHeader : Nat
  bladeSeq : Nat
  pos0 : Nat
  blade : Option (Int × Nat)
  rowS : Option (Nat × Array (BitVec 16))
  rowL : Option (Nat × Array (BitVec 16))
  running : Bool
  pulseAtMarker : Bool
  leftClosed : Bool
  heard : Nat
  acks : Nat
  ready : Bool
  tag : Nat
  lastS : Bool
  lastL : Bool
  deriving DecidableEq, Repr

/-- The NL block (13); `sent` holds the packets sent, newest first. -/
structure Nl where
  egrEn : Nat
  egrReq : Option Nat
  lanes : List Lane
  streams : List (Option Stream)
  sent : List NlPacket
  comp : Comp
  deriving DecidableEq, Repr

/-! ## Safety, frame memory, thermal, supervisor -/

/-- An answer of the safety channel without its flags (R323). -/
structure Ans where
  op : Nat
  stat : Nat
  seq : Nat
  data : Word
  deriving DecidableEq, Repr

/-- One select of the safety channel (R321): SEQ reference, the answer to shift out next, the bits received of a frame in error
that is answered before it (R326), the last word shifted out. -/
structure SpiPort where
  seq : Option Nat
  ans : Ans
  err : Option Nat
  miso : BitVec 64
  deriving DecidableEq, Repr

/-- The nonce of the safety session (R330). -/
structure SafeNonce where
  nonce : BitVec 128
  at_ : Nat
  key : List Byte
  words : List Word
  deriving DecidableEq, Repr

/-- The safety supervisor and the SAF mirror (14). `firstAt` and `secondAt` are the PER clocks in which the first and the second
fault were decided (R313); `comparing` is the SEQ of the SESS_AUTH whose comparison runs (R325). Of the commanded test `testAt` is the
instant of its start and `flagged` what its target mechanism has made of the injection; `ran` holds by number the instants at which
the supervisor last started tests 1 to 4 by itself, and `sched` those of them that run (R314, R320); `testFail` the tests whose latest
run failed, a scheduled test of sheaf i as 8 + i (R311). -/
structure Saf where
  first : Nat
  firstAt : Nat
  second : Nat
  secondAt : Nat
  count : Nat
  time : Word
  decided : List Nat
  warn : Nat
  ports : List SpiPort
  nonce : Option SafeNonce
  nonceBytes : BitVec 128
  key : List Byte
  sessNonce : BitVec 128
  sessOpen : Bool
  comparing : Option Nat
  wdState : Nat
  wdN : Nat
  wdChal : Word
  wdTime : Nat
  crcErr : Nat
  frameErr : Nat
  seqErr : Nat
  discard : Nat
  anomalies : List Nat
  test : Nat
  testResult : Nat
  testAt : Nat
  flagged : Option Bool
  ran : List Nat
  sched : List Nat
  test5 : Bool
  testFail : List Nat
  safeN : Bool
  errNPin : Bool
  safeNPin : Bool
  mismatch : Bool
  pourA : Nat
  pourB : Nat
  pouredSinceStall : Bool
  deriving DecidableEq, Repr

/-- A 64-byte block of frame memory (R230, R231): the data last written, and the bits of its eight 72-bit code words that have turned
over since, rising. -/
structure MBlock where
  data : List Byte
  flips : List Nat
  deriving DecidableEq, Repr

/-- An entry of the write queue (R235): bytes for a block from an offset on. -/
structure QWrite where
  master : Master
  block : Nat
  off : Nat
  data : List Byte
  deriving DecidableEq, Repr

/-- What a master's latest read returned: the block, its bytes, and whether they are poisoned (R250). -/
structure MemAnswer where
  block : Nat
  data : List Byte
  poisoned : Bool
  deriving DecidableEq, Repr

/-- One channel of frame memory (10). `refAt` is the instant of the latest refresh interval and `refDone` that of the latest
all-bank refresh (R240), `table` the activation table as bank, row and count (R244), `due` the guard actions that wait their turn
as bank, row and whether a real-time port caused them, `limited` the banks in which other masters are limited, each with the instant
of the latest activation there (R245). -/
structure DramCh where
  trained : Bool
  rate : Nat
  debt : Nat
  refAt : Nat
  refDone : Nat
  forced : Bool
  batch : Nat
  ce : Nat
  ue : Nat
  errAddr : Word
  drift : Int
  ceNew : Nat
  ceTime : Option Nat
  guardTime : Option Nat
  reported : List Nat
  limited : List (Nat × Nat)
  table : List (Nat × Nat × Nat)
  due : List (Nat × Nat × Bool)
  deriving DecidableEq, Repr

/-- The DRM block and the controller of frame memory (10). `fills` holds the FIFO fills of the three real-time ports, `bnd` the bundles
in the two halves of BND_A and of BND_B (R232, R233), `blocks` the blocks by number, `queue` the write queue oldest first, `reads` the
reads in flight, `stalled` the accesses that found no room, `answers` what each master read last, `readyAt` the end of
initialisation, `windows` the activation windows since, `guarded` the rows that the last guard action refreshed. -/
structure Drm where
  init : Nat
  chans : List DramCh
  forced : Nat
  maxBatch : Nat
  under : List Nat
  panics : Nat
  fills : List (Nat × Nat)
  bnd : List (Option Nat)
  blocks : SMap MBlock
  queue : List QWrite
  reads : List (Master × Nat)
  stalled : List MemOp
  answers : List (Option MemAnswer)
  readyAt : Option Nat
  windows : Nat
  guarded : List Nat
  hits : Nat
  lastCh : Nat
  lastBank : Nat
  lastRow : Nat
  selfRefresh : Bool
  deriving DecidableEq, Repr

/-- The thermal states (R360). -/
inductive ThState where
  | normal | grace | enforced | stopped
  deriving DecidableEq, Repr

/-- The THM block (16). `conv` holds the latest conversion of each sensor, `low112`, `low110` and `slowSince` the first of
the samples at or below 112 °C, at or below 110 °C and below 110 °C without a break, `waking` the end of a wake and the
depth it leads to, `activity` the latest of the instants of R367. -/
structure Thm where
  ctrl : Word
  state : ThState
  restartCool : Bool
  fast : Bool
  warn : Bool
  conv : List (Option Int)
  broken : List Bool
  sample : Int
  sensor : Nat
  sampled : Bool
  peak : Int
  peakSensor : Nat
  graceEnd : Nat
  graceMs : Nat
  low112 : Option Nat
  low110 : Option Nat
  slowSince : Option Nat
  wakeUs : Nat
  depth : Nat
  waking : Option (Nat × Nat)
  activity : Nat
  wakePin : Bool
  deriving DecidableEq, Repr

/-- Where the PCIe endpoint takes its clock (R37): root ÷ 40, or the host's 100 MHz on PCIE_REFCLK_IN. -/
inductive EpClock where
  | rootDiv40 | refclkIn
  deriving DecidableEq, Repr

/-- The supervisor: SUP and CLK/PWR blocks, modes and what waits (17). `resetLeft` is what is left of the 1 ms for which a module
reset by REQ_RESET or MODE_SET holds (R373). -/
structure Sup where
  mode : Mode
  trans : Bool
  target : Mode
  cause : Nat
  slot : Nat
  major : Nat
  minor : Nat
  step : Nat
  failStep : Nat
  fallback : Bool
  bundleSrc : Nat
  soLoaded : Bool
  bootMs : Nat
  clksel : Bool
  resetLeft : Nat
  pwrGood : Bool
  xtalOk : Bool
  pllLock : Bool
  holdUntil : Nat
  wakeHold : Nat
  settled : Bool
  stopSo : Bool
  bundles : List (Nat × Bundle)
  nextKey : Nat
  soWrite : Option (Nat × SoSlot)
  soAgain : Bool
  gleanDirty : Bool
  ledgerReady : Bool
  ledgerLost : Nat
  ledgerRec : Nat
  trimDue : List Nat
  biasWrite : Option (Nat × Nat)
  logDue : List (Nat × Nat × List Nat)
  faultsLogged : Nat
  lockFails : List Nat
  lockEnd : List (Option Nat)
  guardAt : Nat
  opSince : Int
  residSince : Int
  pipeB : Bool
  noBundleDue : Bool
  safeEvDue : Bool
  free : Nat
  deriving DecidableEq, Repr

/-- The machine. -/
structure State where
  now : Nat
  pending : List Instr
  sup : Sup
  thm : Thm
  hif : Hif
  plt : Plt
  cch : Cch
  pa : Pl
  pb : Pl
  pcv : Pcv
  act : Act
  nl : Nl
  drm : Drm
  eng : Eng
  saf : Saf
  nv : Nv
  deriving DecidableEq, Repr

/-! ## Reset values -/

/-- A record whose two copies are valid and equal (the settled state of R340). -/
def Rec.both {α : Type} (seq : Nat) (x : α) : Rec α := ⟨some (seq, x), some (seq, x)⟩

/-- Codes 0 and all set points 0 (R342). -/
def Trim.zero : Trim := ⟨0, 0, 0, [0, 0, 0], [0, 0, 0]⟩

/-- The TRIM group record of R342's replacement. -/
def TrimGroup.zero : TrimGroup := ⟨none, false, List.replicate 33 Trim.zero⟩

/-- A channel as an unlisted one reads. -/
def Chan.zero : Chan := ⟨Trim.zero, 0, 0, 0, 0, none, false⟩

/-- A group as an unlisted one reads: idle, its spare working. -/
def Group.zero : Group := ⟨Trim.zero, 0, false, none, none, none, 0, none, 0, none, (0, 0), none⟩

/-- A unit's counters at reset (R174). -/
def UnitCnt.zero : UnitCnt := ⟨0, 0, 0, 0, 0⟩

/-- The radiometric settings at reset (R149). -/
def Radio.reset : Radio := ⟨32768, 32768, 32768, 32768, 18762, 7, 18762, 2, 4096, 1, 64, 64, 1024⟩

/-- The display settings at reset (R157), with the grey ramp of R155. -/
def Disp.reset : Disp :=
  ⟨0, 1, 122880, 245760, 10, 1014, 32, 0, 9, (List.range 256).map (fun i => BitVec.ofNat 8 (16 + (219 * i + 127) / 255)),
   List.replicate 256 128#8, List.replicate 256 128#8⟩

/-- The OBSCURATION settings at reset (R190). -/
def ObsSet.reset : ObsSet := ⟨4096, 64, 120, 2048, 2048, 24, 0, 300⟩

/-- The CANDIDATES settings at reset (R192). -/
def CandSet.reset : CandSet := ⟨19072, 20480, 24, 768, 768⟩

/-- The SURFACE settings at reset (R193); no polygon. -/
def SurfSet.reset : SurfSet := ⟨4178, 4260, 64, []⟩

/-- The settings of a pipeline at reset (R46, R106, R118, R149, R157, R190-R193, CCH registers). -/
def Settings.reset : Settings :=
  { exposure := 0x9120#32, fsync := 0x2#32, bias := (0, 0), biasKeep := none, hostLvl := none, fp := 0x1#32, bundle := 0,
    radio := Radio.reset, disp := Disp.reset, rects := [], obs := ObsSet.reset, cand := CandSet.reset,
    surf := SurfSet.reset, services := 0, cams := [], rate := 0, cool := false, policy := 0, minInterval := 20, compat := false,
    cchCtrl := 0x03030401#32, cchLimits := 0x10#32, mode := .boot, subst := [] }

/-- The registers of a front pipe at reset (R106). -/
def FpRegs.reset : FpRegs := ⟨0, 0, 0, 0, 0#32, 0, 0, 0#32, 0, 4096, 0⟩

/-- A zone of OBSCURATION at reset (R189). -/
def ZoneObs.reset : ZoneObs := ⟨0, 0, 0, false, 2⟩

/-- A pipeline at reset: no frame read, generation 0, a zero scene-offset table that nothing has set, E_FLOOR of R115
for no valid table. -/
def Pl.reset : Pl :=
  { frameNo := 0, link := none, reading := false, armed := false, snap := Settings.reset, pend := Settings.reset,
    prior := none, gone := none, place := [], placed := false, sheaves := [],
    pairN := 0, frames := [], gen := 0,
    lastPoured := none, lastSeq := none, lastRead := none, lastDone := none, tables := [⟨0, [], 0⟩],
    soSeq := 0, anchors := 0, curAnchor := 0, sinceAnchor := none,
    glean := [], accepted := 0, gleanCopy := none, gleanNext := none, anchorNext := none, bdf := none, bd0 := 0, t0 := 0,
    ageFrom := 0, lastT := none, tCheck := false, eFloor := 0xffffff, e := 0, bootExp := none, bootBundle := none, request := none, grant := none, lastEvent := none,
    event := none, prepared := none, fails := 0, degraded := false, zA := [], zB := [], histValid := false,
    histTaint := false, winLo := 0, winHi := 0, zones := List.replicate 192 ZoneObs.reset, alarms := List.replicate 8 false,
    lastWash := none, washDue := false, checkWin := [], refWin := [], noTemp := 0, lateRun := 0,
    rateRun := false, dead := (0, 0), capSlots := 3, regs := FpRegs.reset }

/-- The PLT block at reset (02). -/
def Plt.reset : Plt :=
  { exp := 0x9120#32, fsync := 0x2#32, busy := false, sent := (0#32, 0#32), pending := false, result := 0, applyFrame := 0,
    acceptAt := 0, activeExp := 0x9120#32, extra := 0, missed := 0, fsyncState := 0, exactRun := 0,
    target := none, targetExact := false, period := 0, lastEdge := none, edges := 0, stuckRun := 0, stuckPosted := false,
    noisy := false, cleanRun := 0, closeEdge := false, fsyncOutUntil := 0, bias := (0, 0), biasKept := none, lvl := List.replicate 8 0, slot := 0, marker := 0, firstMarker := none, spareSeen := [] }

/-- A ring at reset (R204): VECTOR x − 1, 0 for ring 0. -/
def Ring.reset (x : Nat) : Ring :=
  ⟨0#32, 0#32, false, 0, x - 1, 0, 0#32, 0, 0, true, false, false, false, false, [], 0, false⟩

/-- Configuration space at reset: nothing set up, payload 128 bytes and read requests 512 (PRESUMED, notes/assumptions/113). -/
def PciCfg.reset : PciCfg :=
  { command := 0, line := 0, bar0 := 0#64, bar2 := 0#64, msiOn := false, msiGranted := 0, msiAddr := 0#64, msiData := 0, msix := 0,
    devCtl := 0x2010, linkCtl := 0 }

/-- MSI vectors granted; 0 while the function signals by MSI-X (R196, R226). -/
def Hif.msi (h : Hif) : Nat := if h.cfg.msiOn then 2 ^ h.cfg.msiGranted else 0

/-- The HIF block at reset; the link is down and bus mastering off until the host has set them up. -/
def Hif.reset : Hif :=
  { speed := 0, width := 0, rings := (List.range 23).map Ring.reset, evtLost := 0, lostSince := 0,
    vectors := List.replicate 32 ⟨0#32, 0#32, 0#32, true, false⟩, link := (0, 0), cfg := PciCfg.reset, msiMask := 0#32, msiPending := 0#32,
    cfgRdata := 0#32, aer := [], bar2 := [], bar2Seed := 0, bar2Rdata := [], messages := [], sessions := List.replicate 4 none, expired := [], shadows := [],
    rdata := 0#32, linkDown := true, d3 := false, noMaster := true, poursAbsent := 0, resumeDue := false, staging := none,
    waiting := none, completions := [], events := [], deliveries := [], hostWrites := [] }

/-- A fixed entry (R257): enabled, gain 1, sinc3, OSR 256, internal reference. -/
def Entry.fixed (chan modulator : Nat) : Entry :=
  ⟨BitVec.ofNat 32 (2 ^ 31 + modulator * 2 ^ 30 + chan * 2 ^ 20 + 32), none, 0#32, 0#32, 0⟩

/-- The PCV block at reset (11). -/
def Pcv.reset : Pcv :=
  { ctrl := 0#32, newCtrl := none, running := false, passes := 0, passStart := none, skips := 0, cfgErr := false,
    urgEntry := 0, urgStatus := 0, urgNo := 0, swtrig := 0, trig2 := false, diodeUsed := 0,
    entries := [Entry.fixed 0 0, Entry.fixed 1 0, Entry.fixed 2 0, Entry.fixed 3 0, Entry.fixed 4 0, Entry.fixed 5 0,
      Entry.fixed 12 1] ++ List.replicate 9 ⟨0#32, none, 0#32, 0#32, 0⟩,
    mods := [⟨none, [], none, none, false, false⟩, ⟨none, [], none, none, false, false⟩],
    diodes := List.replicate 4 [], ext := List.replicate 6 [], biasRun := [0, 0], biasOn := none,
    bladeSeq := 0, bladeUrgent := false }

/-- A low-side channel at reset (12). -/
def ActCh.reset (kick heat : Nat) : ActCh :=
  ⟨200, kick, 960, 30, heat, 7680, false, false, false, none, none, none⟩

/-- The ACT block at reset (12). -/
def Act.reset : Act :=
  { ctrl := 0x298#32, par01 := false, par23 := true, vact := 0, vboost := 0, sense := 0x1#32,
    inputs := [⟨none, [], none⟩, ⟨none, [], none⟩],
    chans := [ActCh.reset 50 16, ActCh.reset 50 16, ActCh.reset 0 8, ActCh.reset 0 8], waits := [none, none],
    lastEnd := [none, none], opening := none, uncommanded := false, lastWash := none, coolTicks := 0 }

/-- A lane at reset (13). -/
def Lane.reset : Lane :=
  { cfg := 0x308#32, partner := 0, prbsLock := false, state := 0, inject := 0, hdrErr := 0, ctrlErr := 0, crcErr := 0, losses := 0,
    missing := 0, prbsErr := 0, seed := 0#31, scrambler := 0#31, missRun := 0, pos := 0, win := [], asm_ := none, prbsSeen := [],
    prbsRun := 0, on := false, onAt := 0, blk := 0, cur := none, turn := 0, spoils := [] }

/-- The companion link at reset. -/
def Comp.reset : Comp :=
  { state := 0, loss := 0, fail := 0, attempts := 0, lanes := 0, frame := 0, since := 0, retryAt := none, chunks := [],
    got := [], retries := [], lastHeader := 0, bladeSeq := 0, pos0 := 0, blade := none, rowS := none, rowL := none,
    running := false, pulseAtMarker := false, leftClosed := false, heard := 0, acks := 0, ready := false, tag := 0, lastS := false,
    lastL := false }

/-- The NL block at reset (13): both egress lanes in service. -/
def Nl.reset : Nl :=
  let egress : Lane := { Lane.reset with on := true }
  ⟨3, none, [egress, egress, Lane.reset, Lane.reset], [none, none], [], Comp.reset⟩

/-- A block of zero data with valid check bytes (R246). -/
def MBlock.zero : MBlock := ⟨List.replicate 64 0#8, []⟩

/-- A memory channel before training (10). -/
def DramCh.zero : DramCh :=
  { trained := false, rate := 0, debt := 0, refAt := 0, refDone := 0, forced := false, batch := 0, ce := 0, ue := 0, errAddr := 0#32,
    drift := 0, ceNew := 0, ceTime := none, guardTime := none, reported := [], limited := [], table := [], due := [] }

/-- The DRM block at reset (10): no port in panic. -/
def Drm.reset : Drm :=
  { init := 0, chans := List.replicate 4 DramCh.zero, forced := 0,
    maxBatch := 0, under := [0, 0, 0], panics := 0, fills := [(32768, 0), (16384, 0), (32768, 0)],
    bnd := List.replicate 4 none, blocks := [], queue := [], reads := [], stalled := [], answers := List.replicate 4 none, readyAt := none,
    windows := 0, guarded := [], hits := 0, lastCh := 0, lastBank := 0,
    lastRow := 0, selfRefresh := false }

/-- A sheaf at reset (R174). -/
def Sheaf.reset : Sheaf := ⟨.offline, false, 0, .offline, false, false, false, none, [], [], none, none⟩

/-- The engine array at reset (R174): every unit OFFLINE, all counters 0. -/
def Eng.reset : Eng :=
  ⟨List.replicate 16 Sheaf.reset, [], 0#32, false, false⟩

/-- A select of the safety channel with no valid frame before (R323). -/
def SpiPort.reset : SpiPort := ⟨none, ⟨0, 0, 0, 0#32⟩, none, 0#64⟩

/-- The safety supervisor at reset: SAFE_N and ERR_N low (R316), nothing decided. -/
def Saf.reset : Saf :=
  { first := 0, firstAt := 0, second := 0, secondAt := 0, count := 0, time := 0#32, decided := [], warn := 0, ports := [SpiPort.reset, SpiPort.reset],
    nonce := none, nonceBytes := 0#128, key := [], sessNonce := 0#128, sessOpen := false, comparing := none, wdState := 0, wdN := 0,
    wdChal := 0#32, wdTime := 0, crcErr := 0, frameErr := 0, seqErr := 0, discard := 0, anomalies := [], test := 0,
    testResult := 0, testAt := 0, flagged := none, ran := [0, 0, 0, 0, 0], sched := [], test5 := false, testFail := [], safeN := false, errNPin := false, safeNPin := false, mismatch := false,
    pourA := 0, pourB := 0, pouredSinceStall := false }

/-- The THM block at reset (16). -/
def Thm.reset : Thm :=
  { ctrl := 0x3e8#32, state := .normal, restartCool := false, fast := false, warn := false, conv := List.replicate 10 none,
    broken := List.replicate 10 false, sample := 0, sensor := 0, sampled := false, peak := 0, peakSensor := 0,
    graceEnd := 0, graceMs := 0, low112 := none, low110 := none, slowSince := none, wakeUs := 400, depth := 0, waking := none,
    activity := 0, wakePin := false }

/-- The supervisor at reset: BOOT, cause POWER. -/
def Sup.reset : Sup :=
  { mode := .boot, trans := false, target := .off, cause := 1, slot := 0, major := 0, minor := 0, step := 0, failStep := 0,
    fallback := false, bundleSrc := 0, soLoaded := false, bootMs := 0, clksel := false, resetLeft := 0, pwrGood := true, xtalOk := false,
    pllLock := false, holdUntil := 0, wakeHold := 0, settled := false, stopSo := true,
    bundles := [], nextKey := 1, soWrite := none, soAgain := false, gleanDirty := false,
    ledgerReady := false, ledgerLost := 0, ledgerRec := 0, trimDue := [], biasWrite := none, logDue := [], faultsLogged := 0,
    lockFails := List.replicate 8 0, lockEnd := List.replicate 8 none, guardAt := 0, opSince := 0, residSince := 0, pipeB := false,
    noBundleDue := false, safeEvDue := false, free := 0 }

/-- A factory bundle: the factory values of R66, R104, R132 and R415 where the spec gives them, values of this model's
choosing for what is measured on each module (DESIGN CHOICE, notes/assumptions/7). -/
def Bundle.factory : Bundle :=
  { id := 1,
    fpc := ⟨145, 2, [7680, 15360, 0, 0, 0, 0, 0, 0], 640000, 896000, 65000, 65000, 256, 256, 4096, 1024, List.replicate 64 0⟩,
    linS := (Array.range 1024).map (fun i => BitVec.ofNat 32 (1024 * 2 ^ 20 + min (1024 * i) 1047552)),
    linL := (Array.range 1024).map (fun i => BitVec.ofNat 32 (1024 * 2 ^ 20 + min (1024 * i) 1047552)),
    nuc := List.replicate 2 ⟨BitVec.ofNat 64 (16384 * 2 ^ 24), []⟩,
    anc := ⟨1024, 48, 64, 32, 16, 8192, 4, 2, 256, 64, 16, 26, 48, 96, 512, 2048, 512, 1280, 0, 1, List.replicate 65 0,
      List.replicate 65 0⟩,
    rad := ⟨0, 0, 16777216, 16777216, 64, (List.range 257).map (fun i => 1000 * (i + 1)),
      (List.range 257).map (fun i => 1000 * (i + 1))⟩,
    pcv := List.replicate 10 ((List.range 17).map (fun (i : Nat) => ((i : Int) * 400000, (i : Int) * 1280 - 10240))),
    cch := ⟨[1, 500, 1000, 1500, 2000, 2500, 3000, 3500], [-5120, 7680, 20480], []⟩, staged := none }

/-- The ledger and boot store of a module as it comes from the factory: MAINTENANCE key set, the other slots empty
(R353), one image of major version 1, a factory bundle, no persisted bundle and no valid scene-offset slot
(DESIGN CHOICE, notes/assumptions/7). -/
def Nv.fresh : Nv :=
  { serial := 1#64, identBias := (2000, 2000), identKey := List.replicate 32 0x4d#8, trim := [],
    bias := Rec.both 0 (2000, 2000), tally := List.replicate 6 ⟨Rec.both 0 0, 0, 0⟩, resid := 0,
    keys := [Rec.both 0 [], Rec.both 0 [], Rec.both 0 (List.replicate 32 0x4d#8), Rec.both 0 []],
    pw := List.replicate 4 (Rec.both 0 (List.replicate 16 0#8, List.replicate 16 0#8)),
    guard := Rec.both 0 ⟨List.replicate 8 0, List.replicate 8 0⟩, log := [], customer := [],
    images := [⟨true, 1, 0, 1, false, none⟩, ⟨false, 0, 0, 0, false, none⟩], factory := some Bundle.factory, persisted := none,
    soSlots := List.replicate 2 ⟨0, 0, 0, 0, 0, 0, false, []⟩ }

/-- The machine right after reset. -/
def State.reset : State :=
  { now := 0, pending := [], sup := Sup.reset, thm := Thm.reset, hif := Hif.reset, plt := Plt.reset,
    cch := ⟨[], [], 0#32, 0, 0, 0, false⟩, pa := Pl.reset, pb := Pl.reset, pcv := Pcv.reset, act := Act.reset,
    nl := Nl.reset, drm := Drm.reset, eng := Eng.reset, saf := Saf.reset, nv := Nv.fresh }

end Sys2Proof.Machine
end

