-- ==== Sys2Proof/Machine/Line.lean ====
section
/-! DEFINITION. The line of an NL lane (13): blocks, scrambler and stuff bits, control blocks, packets as blocks, what a
transmitter has on its line at any block, the receiver of a lane, PRBS patterns. -/
namespace Sys2Proof.Machine

/-! ## Scrambler and stuff bits (R284, R285) -/

/-- One step of the scrambler: the key bit and the next state. -/
def scrambleBit (s : BitVec 31) : Bool × BitVec 31 :=
  let k := s.getLsbD 30 != s.getLsbD 27
  (k, (s <<< 1) ||| (if k then 1#31 else 0#31))

/-- The key bits of `n` payload bits, the first at bit 0, and the state after them. -/
def keyBits : Nat → BitVec 31 → Nat × BitVec 31
  | 0, s => (0, s)
  | n + 1, s =>
    let (k, s) := scrambleBit s
    let (r, s) := keyBits n s
    (2 * r + (if k then 1 else 0), s)

/-- A payload scrambled, or descrambled, bit 0 first, and the state after it. -/
def scramble (s : BitVec 31) (d : BitVec 64) : BitVec 64 × BitVec 31 :=
  let (k, s) := keyBits 64 s
  (d ^^^ BitVec.ofNat 64 k, s)

/-- The scrambler after a number of payload blocks. -/
def scramblerAfter : Nat → BitVec 31 → BitVec 31
  | 0, s => s
  | n + 1, s => scramblerAfter n (keyBits 64 s).2

/-- Line bits with the stuff bits that follow each 24 equal ones; the line stands in a run of `run` bits equal to `last`. -/
def stuff : Bool → Nat → List Bool → List Bool
  | last, run, [] => if run = 24 then [!last] else []
  | last, run, b :: bs =>
    if run = 24 then
      let t := !last
      t :: b :: (if b = t then stuff b 2 bs else stuff b 1 bs)
    else b :: (if b = last then stuff b (run + 1) bs else stuff b 1 bs)

/-- Line bits without their stuff bits; a bit is marked where the stuff bit before it was equal to the 24 before that. -/
def destuff : Bool → Bool → Nat → List Bool → List (Bool × Bool)
  | _, _, _, [] => []
  | v, last, run, b :: bs =>
    if run = 24 then destuff (v || b = last) b 1 bs
    else (b, v) :: destuff false b (if b = last then run + 1 else 1) bs

/-! ## Blocks (R283, R286) -/

/-- The bits of a block in the order of the line, before stuffing. -/
def blockBits (b : RxBlock) : List Bool := b.h0 :: b.h1 :: (List.range 64).map (fun i => b.payload.getLsbD i)

/-- A word from its bits, bit 0 first. -/
def wordOfBits (l : List Bool) : BitVec 64 := BitVec.ofNat 64 (l.foldr (fun b n => 2 * n + (if b then 1 else 0)) 0)

/-- A data block and a control block with a payload. -/
def dataBlock (w : BitVec 64) : RxBlock := ⟨false, true, w, false⟩
def ctrlBlock (w : BitVec 64) : RxBlock := ⟨true, false, w, false⟩

/-- The header is that of a data or control block, and no stuff violation fell in the block. -/
def blockValid (b : RxBlock) : Bool := (b.h0 != b.h1) && !b.violation

/-- The blocks of destuffed bits from a block boundary on; a rest is dropped. -/
def blocksOf : Nat → List (Bool × Bool) → List RxBlock
  | 0, _ => []
  | n + 1, l =>
    if l.length < 66 then []
    else
      let t := l.take 66
      ⟨(t.getD 0 (false, false)).1, (t.getD 1 (false, false)).1, wordOfBits ((t.drop 2).map Prod.fst), t.any Prod.snd⟩ ::
        blocksOf n (l.drop 66)

/-- Byte `k` of a word (R5, R283). -/
def byteOf (w : BitVec 64) (k : Nat) : Nat := w.toNat / 2 ^ (8 * k) % 256

/-- Bits [hi:lo] of a word. -/
def wfld (w : BitVec 64) (hi lo : Nat) : Nat := w.toNat / 2 ^ lo % 2 ^ (hi - lo + 1)

/-- A control word of a TYPE, its complement and the other fields. -/
def ctrlWord (type fields : Nat) : BitVec 64 := BitVec.ofNat 64 (type + (255 - type) * 2 ^ 8 + fields)

/-- TYPE of a control word whose second byte is its complement. -/
def typeOf (w : BitVec 64) : Option Nat := if byteOf w 0 + byteOf w 1 = 255 then some (byteOf w 0) else none

/-- IDLE; LSYNC of a lane with its SEED; ABORT with its reason. -/
def idleWord : BitVec 64 := ctrlWord 0x1e 0
def txSeed (l : Nat) : BitVec 31 := BitVec.ofNat 31 (0x4b3c2d1e + l)
def lsyncWord (l : Nat) (seed : BitVec 31) : BitVec 64 := ctrlWord 0x2d (l * 2 ^ 16 + seed.toNat * 2 ^ 32)
def abortWord (reason : Nat) : BitVec 64 := ctrlWord 0x55 (reason * 2 ^ 16)

/-- A valid LSYNC: its lane and a SEED other than 0. -/
def lsyncOf (b : RxBlock) : Option (Nat × BitVec 31) :=
  let seed := BitVec.ofNat 31 (wfld b.payload 62 32)
  if (blockValid b) && b.h0 && typeOf b.payload = some 0x2d && decide (seed ≠ 0#31) then some (wfld b.payload 19 16, seed) else none

/-- TRN (R296). -/
def trnWord (b : TrnBlock) : BitVec 64 :=
  ctrlWord 0x66 (b.role.toNat * 2 ^ 16 + b.lane.toNat * 2 ^ 18 + (if b.ack then 2 ^ 20 else 0) + (if b.ready then 2 ^ 21 else 0) +
    b.serial.toNat * 2 ^ 32)
def trnOf (w : BitVec 64) : TrnBlock :=
  ⟨BitVec.ofNat 2 (wfld w 17 16), BitVec.ofNat 2 (wfld w 19 18), w.getLsbD 20, w.getLsbD 21, BitVec.ofNat 32 (wfld w 63 32)⟩

/-- Blocks scrambled one after the other from a state of the scrambler (R284). -/
def scrambleBlocks : BitVec 31 → List RxBlock → List RxBlock
  | _, [] => []
  | k, b :: bs =>
    let (w, k) := scramble k b.payload
    { b with payload := w } :: scrambleBlocks k bs

/-! ## Packets (R290) -/

/-- Eight bytes from each word, or words from bytes, the last filled with zeros. -/
def wordBytes (w : BitVec 64) : List Byte := (List.range 8).map (fun k => BitVec.ofNat 8 (byteOf w k))
def wordsOfBytes : Nat → List Byte → List (BitVec 64)
  | 0, _ => []
  | n + 1, l =>
    if l.isEmpty then []
    else BitVec.ofNat 64 ((l.take 8).foldr (fun (b : Byte) n => 256 * n + b.toNat) 0) :: wordsOfBytes n (l.drop 8)

/-- The data blocks of a packet. -/
def NlPacket.data (p : NlPacket) : List (BitVec 64) := wordsOfBytes p.payload.length p.payload

/-- SOP and EOP of a packet; the CRC covers the payload bytes. -/
def NlPacket.sop (p : NlPacket) : BitVec 64 :=
  ctrlWord 0x33 (p.kind % 16 * 2 ^ 16 + p.stream % 16 * 2 ^ 20 + p.data.length % 4096 * 2 ^ 24 + p.line % 2048 * 2 ^ 36 +
    p.tag % 65536 * 2 ^ 48)
def NlPacket.eop (p : NlPacket) : BitVec 64 :=
  let c := crc32 (p.data.flatMap wordBytes)
  ctrlWord 0x4b ((if p.badCrc then ~~~c else c).toNat * 2 ^ 32)

/-- The blocks of a packet before scrambling: SOP, data and EOP, or the data that went before its ABORT. -/
def NlPacket.blocks (p : NlPacket) : List RxBlock :=
  match p.abort with
  | some (reason, n) => ctrlBlock p.sop :: ((p.data.take n).map dataBlock ++ [ctrlBlock (abortWord reason)])
  | none => ctrlBlock p.sop :: (p.data.map dataBlock ++ [ctrlBlock p.eop])

/-- Their number for a packet that goes out whole. -/
def NlPacket.size (p : NlPacket) : Nat := (p.payload.length + 7) / 8 + 2

/-! ## The transmitter (R284, R289, R303, R304) -/

/-- Blocks between two LSYNC blocks. -/
def lsyncPeriod : Nat := 16384

/-- The LSYNC blocks that fall among the next ones from block `c` on until `n` others are sent. -/
def lsyncsAmong (c n : Nat) : Nat :=
  let room := (lsyncPeriod - c % lsyncPeriod) % lsyncPeriod
  if n ≤ room && decide (0 < room) || n = 0 then 0 else 1 + (n - room - 1) / (lsyncPeriod - 1)

/-- Of the next `n` blocks from block `c` on, those that are no LSYNC. -/
def othersAmong (c n : Nat) : Nat := n - ((c + n + lsyncPeriod - 1) / lsyncPeriod - (c + lsyncPeriod - 1) / lsyncPeriod)

/-- Whole blocks that a lane has sent since it was enabled: 66 bits at 8 Gb/s are 33/32 of a PLATE clock (stuff bits left out,
DESIGN CHOICE, notes/assumptions/107). -/
def Lane.blockNow (x : Lane) (now : Nat) : Nat := 32 * (now - x.onAt) / 33

/-- The transmit scrambler of lane `l` at block `c`, from the SEED of the LSYNC before it. -/
def txScrambler (l c : Nat) : BitVec 31 := scramblerAfter (c % lsyncPeriod - 1) (txSeed l)

/-- What block `c` of lane `l` is on the line, before stuffing, where the transmitter has block `b` for it: LSYNC at each period,
else the block scrambled. Injections strike the header, one payload bit, or replace LSYNC by IDLE. -/
def Lane.txBlock (x : Lane) (l c : Nat) (b : RxBlock) : RxBlock :=
  let struck (k : Nat) : Bool := x.spoils.contains (c, k)
  let y :=
    if c % lsyncPeriod = 0 then if struck 4 then ctrlBlock idleWord else ctrlBlock (lsyncWord l (txSeed l))
    else { b with payload := (scramble (txScrambler l c) b.payload).1 }
  let y := if struck 2 then { y with h0 := false, h1 := false } else y
  if struck 1 then { y with payload := y.payload ^^^ 1#64 } else y

/-- PRBS of a lane. -/
def Lane.prbs (l : Lane) : Nat := fld l.cfg 26 24

/-- An injection that waits strikes the lane's traffic (R304): 1 and 2 the next block, 4 the next LSYNC; 3 the packet in progress,
else it waits for the next one. While the lane is dark or carries a PRBS pattern all wait. -/
def Lane.strike (x : Lane) (now : Nat) : Lane :=
  let c := x.blockNow now + 1
  if x.prbs ≠ 0 || !x.on then x
  else match x.inject with
    | 1 => { x with inject := 0, spoils := (c, 1) :: x.spoils }
    | 2 => { x with inject := 0, spoils := (c, 2) :: x.spoils }
    | 3 => match x.cur with
      | some (p, r) => { x with inject := 0, cur := some ({ p with badCrc := true }, r) }
      | none => x
    | 4 => { x with inject := 0, spoils := ((c + lsyncPeriod - 1) / lsyncPeriod * lsyncPeriod, 4) :: x.spoils }
    | _ => x

/-- A transmitter enabled now: its blocks count from here, LSYNC first (R284). -/
def Lane.enable (x : Lane) (now : Nat) : Lane :=
  if x.on then x else ({ x with on := true, onAt := now, blk := 0, cur := none, spoils := [] } : Lane).strike now

/-- A transmitter switched off: electrical idle (R289). -/
def Lane.disable (x : Lane) : Lane := { x with on := false, cur := none, spoils := [] }

/-- The egress packet that a lane sends next, of those that each stream still has for it (R292): with both streams ready they take
turns, stream 0 first. -/
def Lane.choose (x : Lane) (q : List NlPacket × List NlPacket) : Option (NlPacket × Nat × (List NlPacket × List NlPacket)) :=
  match q with
  | ([], []) => none
  | (p :: a, []) => some (p, 0, (a, []))
  | ([], p :: b) => some (p, 0, ([], b))
  | (p :: a, r :: b) => if x.turn = 0 then some (p, 1, (a, r :: b)) else some (r, 0, (p :: a, b))

/-- An egress lane up to block `b`: what is left of the streams' packets for it, and the packets it has sent on the way. -/
def Lane.advance (b : Nat) : Nat → Lane → List NlPacket × List NlPacket → Lane × (List NlPacket × List NlPacket) × List NlPacket
  | 0, x, q => (x, q, [])
  | n + 1, x, q =>
    match x.cur with
    | some (p, r) =>
      let room := othersAmong x.blk (b - x.blk)
      if r ≤ room then
        let (y, q, l) := Lane.advance b n { x with cur := none, blk := x.blk + r + lsyncsAmong x.blk r } q
        (y, q, p :: l)
      else ({ x with cur := some (p, r - room), blk := b }, q, [])
    | none =>
      match x.choose q with
      | none => ({ x with blk := b, turn := 0 }, q, [])
      | some (p, t, q) =>
        Lane.advance b n { x with cur := some ({ p with at_ := x.blk, badCrc := x.prbs = 0 && x.inject = 3 }, p.size), turn := t,
                                  inject := if x.prbs = 0 && x.inject = 3 then 0 else x.inject } q

/-- Taps of a PRBS pattern of R303: PRBS7, 15, 23, 31 (PRESUMED, notes/assumptions/108); the codes above 4 have none stated. -/
def prbsTaps : Nat → Nat × Nat
  | 1 => (7, 6)
  | 2 => (15, 14)
  | 3 => (23, 18)
  | 4 => (31, 28)
  | n => Config.prbsTaps n

/-- The next bit of a pattern from the bits before it, newest first. -/
def prbsNext (n : Nat) (seen : List Bool) : Bool :=
  let (a, b) := prbsTaps n
  seen.getD (a - 1) false != seen.getD (b - 1) false

/-- A raw pattern from a start of ones. -/
def prbsBits (n : Nat) : Nat → List Bool → List Bool
  | 0, _ => []
  | k + 1, seen => let b := prbsNext n seen; b :: prbsBits n k ((b :: seen).take 31)

/-! ## The receiver (R287, R288, R291) -/

/-- What a receiver reports: lock gained, an LSYNC that synchronises it, one that is missing, lock lost, a TRN block, a packet, a packet
discarded after its SOP. -/
inductive RxEvent where
  | locked
  | lsync
  | missing
  | lost
  | trn (b : TrnBlock)
  | packet (p : RxPacket)
  | discarded (p : RxPacket)
  deriving DecidableEq, Repr

/-- The payload bytes of a packet received. -/
def RxPacket.bytes (p : RxPacket) : List Byte := p.words.reverse.flatMap wordBytes

/-- A receiver in HUNT, or ignored: nothing found, no loss counted. -/
def Lane.idle (l : Lane) : Lane := { l with state := 0, missRun := 0, pos := 0, win := [], asm_ := none }

/-- A packet given up. -/
def Lane.giveUp (x : Lane) : Lane × List RxEvent :=
  match x.asm_ with
  | some p => ({ x with asm_ := none }, [.discarded p])
  | none => (x, [])

/-- A receiver leaves for HUNT: a loss of lock. -/
def Lane.lose (x : Lane) : Lane × List RxEvent :=
  let (x, ev) := x.giveUp
  ({ x.idle with losses := satInc x.losses 1 65535 }, ev ++ [.lost])

/-- A control error counted. -/
def Lane.ctrlError (x : Lane) : Lane := { x with ctrlErr := satInc x.ctrlErr 1 0xffffffff }

/-- SOP opens a packet. -/
def openPacket (w : BitVec 64) : RxPacket :=
  ⟨wfld w 19 16, wfld w 23 20, wfld w 35 24, wfld w 46 36, wfld w 63 48, [], false, 0⟩

/-- EOP: the number of data blocks and the CRC decide. -/
def Lane.endPacket (x : Lane) (p : RxPacket) (w : BitVec 64) : Lane × List RxEvent :=
  let x := { x with asm_ := none }
  if p.bad || p.words.length ≠ p.blocks then (x.ctrlError, [.discarded p])
  else if (crc32 p.bytes).toNat ≠ wfld w 63 32 then
    ({ x with crcErr := satInc x.crcErr 1 0xffffffff }, [.discarded p])
  else (x, [.packet p])

/-- A control block that is no LSYNC, descrambled. Inside a packet only EOP ends it well and ABORT ends it without an error. -/
def Lane.control (x : Lane) (w : BitVec 64) : Lane × List RxEvent :=
  match typeOf w, x.asm_ with
  | some 0x1e, none => (x, [])
  | some 0x33, none => ({ x with asm_ := some (openPacket w) }, [])
  | some 0x66, none => (x, [.trn (trnOf w)])
  | _, none => (x.ctrlError, [])
  | some 0x4b, some p => x.endPacket p w
  | some 0x55, some _ => x.giveUp
  | some 0x33, some p => ({ x.ctrlError with asm_ := some (openPacket w) }, [.discarded p])
  | some 0x66, some p => ({ x.ctrlError with asm_ := none }, [.discarded p, .trn (trnOf w)])
  | _, some p => ({ x.ctrlError with asm_ := none }, [.discarded p])

/-- A data block, descrambled. -/
def Lane.dataWord (x : Lane) (w : BitVec 64) : Lane :=
  match x.asm_ with
  | some p => { x with asm_ := some { p with words := w :: p.words } }
  | none => x.ctrlError

/-- The validity of a header noted: an invalid one is counted and spoils a packet; 16 of 64 lose lock. -/
def Lane.noteHeader (x : Lane) (ok : Bool) : Lane :=
  { x with hdrErr := if ok then x.hdrErr else satInc x.hdrErr 1 0xffffffff, win := (ok :: x.win).take 64,
           asm_ := x.asm_.map (fun p => { p with bad := p.bad || !ok, age := p.age + 1 }) }

/-- 16 of the last 64 headers were invalid. -/
def Lane.drowned (x : Lane) : Bool := decide (16 ≤ (x.win.filter (fun ok => !ok)).length)

/-- A valid LSYNC on the block boundary. -/
def Lane.sync (x : Lane) (partner : Nat) (seed : BitVec 31) : Lane :=
  { x with state := 2, partner := partner % 4, seed := seed, scrambler := seed, missRun := 0, pos := 1 }

/-- The block where an LSYNC is expected is none (R288): it is discarded, and the second in a row loses lock. -/
def Lane.missSync (x : Lane) : Lane × List RxEvent :=
  let x := { x with missing := satInc x.missing 1 65535, scrambler := x.seed, missRun := x.missRun + 1, pos := 1 }
  if 2 ≤ x.missRun then let (y, ev) := x.lose; (y, .missing :: ev) else (x, [.missing])

/-- A block where no LSYNC is expected: descrambled, and taken where its header is valid. -/
def Lane.payload (x : Lane) (b : RxBlock) : Lane × List RxEvent :=
  let (w, k) := scramble x.scrambler b.payload
  let x := { x with scrambler := k, pos := x.pos + 1 }
  if !(blockValid b) then (x, []) else if b.h0 then x.control w else (x.dataWord w, [])

/-- A block of a receiver that is LOCKED or SYNCED. -/
def Lane.takeBlock (x : Lane) (b : RxBlock) : Lane × List RxEvent :=
  if x.state = 0 then (x, [])
  else
    let x := x.noteHeader (blockValid b)
    if x.drowned then x.lose
    else if x.state = 1 then
      match lsyncOf b with
      | some (l, seed) => (x.sync l seed, [.lsync])
      | none => (x, [])
    else if x.pos = lsyncPeriod then
      match lsyncOf b with
      | some (l, seed) => (x.sync l seed, [.lsync])
      | none => x.missSync
    else x.payload b

/-- Blocks one after the other. -/
def Lane.takeBlocks (x : Lane) (l : List RxBlock) : Lane × List RxEvent :=
  l.foldl (fun r b => let n := r.1.takeBlock b; (n.1, r.2 ++ n.2)) (x, [])

/-- Some IDLE blocks. -/
def Lane.takeIdle : Nat → Lane → Lane × List RxEvent
  | 0, x => (x, [])
  | n + 1, x =>
    let r := x.takeBlock (ctrlBlock (scramble x.scrambler idleWord).1)
    let q := Lane.takeIdle n r.1
    (q.1, r.2 ++ q.2)

/-- The search for a block boundary on destuffed bits (R287): a candidate moves by one bit at each invalid header, and 64 valid ones in
a row are the lock. The invalid ones found, and the bits after the 64. -/
def hunt : Nat → Nat → Nat → List (Bool × Bool) → Nat × Option (List (Bool × Bool))
  | 0, _, bad, _ => (bad, none)
  | fuel + 1, good, bad, l =>
    if good = 64 then (bad, some l)
    else if l.length < 66 then (bad, none)
    else
      let t := l.take 66
      if ((t.getD 0 (false, false)).1 != (t.getD 1 (false, false)).1) && !t.any Prod.snd then hunt fuel (good + 1) bad (l.drop 66)
      else hunt fuel 0 (bad + 1) (l.drop 1)

/-- Line bits: searched in HUNT, and taken block by block once a boundary stands. -/
def Lane.takeBits (x : Lane) (last : Bool) (run : Nat) (line : List Bool) : Lane × List RxEvent :=
  let l := destuff false last run line
  if x.state = 0 then
    match hunt (l.length + 1) 0 0 l with
    | (bad, none) => ({ x with hdrErr := satInc x.hdrErr bad 0xffffffff }, [])
    | (bad, some rest) =>
      let y := { x with hdrErr := satInc x.hdrErr bad 0xffffffff, state := 1, win := List.replicate 64 true }
      let r := y.takeBlocks (blocksOf rest.length rest)
      (r.1, .locked :: r.2)
  else x.takeBlocks (blocksOf l.length l)

/-- What comes on a lane. -/
def Lane.takeItem (x : Lane) (i : RxItem) : Lane × List RxEvent :=
  match i with
  | .idle n => x.takeIdle n
  | .block b => x.takeBlock b
  | .bits last run line => x.takeBits last run line

/-- The checker of R303: it seeds itself from the received bits, locks after 64 consecutive correct ones, and counts every wrong one
from then on. -/
def Lane.checkBit (n : Nat) (x : Lane) (b : Bool) : Lane :=
  let full := decide ((prbsTaps n).1 ≤ x.prbsSeen.length)
  let want := prbsNext n x.prbsSeen
  let ok := full && b = want
  let next := if x.prbsLock then want else b
  { x with prbsSeen := (next :: x.prbsSeen).take 31, prbsRun := if ok then x.prbsRun + 1 else 0,
           prbsLock := x.prbsLock || (ok && decide (63 ≤ x.prbsRun)),
           prbsErr := if x.prbsLock && !ok then satInc x.prbsErr 1 0xffffffff else x.prbsErr }

end Sys2Proof.Machine
end

