-- ==== Sys2Proof/Machine/Ops.lean ====
section
/-! DEFINITION. The named operations that the meanings share: time, rings and interrupts, events and completions,
warnings and dangerous faults, entry to SAFE, module reset, the pipelines' pending settings. -/
namespace Sys2Proof.Machine

/-! ## Time and access -/

/-- PLATE clocks in one microsecond, millisecond, second. -/
def us : Nat := 125
def ms : Nat := 125000
def sec : Nat := 125000000

/-- HIF_TIME bits [31:0]. -/
def State.time32 (s : State) : Word := word s.now

/-- The pipeline of a name. -/
def State.pl (s : State) : Pipe → Pl
  | .A => s.pa
  | .B => s.pb

/-- A pipeline replaced. -/
def State.setPl (s : State) (p : Pipe) (x : Pl) : State :=
  match p with
  | .A => { s with pa := x }
  | .B => { s with pb := x }

/-- A pipeline changed. -/
def State.modPl (s : State) (p : Pipe) (f : Pl → Pl) : State := s.setPl p (f (s.pl p))

/-- 0 for A, 1 for B (R161, R208). -/
def pipeNum : Pipe → Nat
  | .A => 0
  | .B => 1

/-- The pipeline that an argument byte names. -/
def pipeOfByte (b : Byte) : Option Pipe :=
  if b = 0#8 then some .A else if b = 1#8 then some .B else none

/-- The MODE_SET code of a mode (R210). -/
def modeNum : Mode → Nat
  | .off => 0 | .boot => 1 | .standby => 2 | .imaging => 3 | .relay => 4 | .calibration => 5 | .diagnostic => 6 | .safe => 7

/-- The mode of a MODE_SET code. -/
def modeOfNum : Nat → Option Mode
  | 0 => some .off | 1 => some .boot | 2 => some .standby | 3 => some .imaging | 4 => some .relay | 5 => some .calibration
  | 6 => some .diagnostic | 7 => some .safe | _ => none

/-- IMAGING, RELAY, CALIBRATION or DIAGNOSTIC: the plate is read. -/
def isRunning (m : Mode) : Bool := m = .imaging || m = .relay || m = .calibration || m = .diagnostic

/-- The number of a role, as a key slot (R349). -/
def roleNum : Role → Nat
  | .operator => 0 | .calibration => 1 | .maintenance => 2 | .safety => 3

/-- The mode in force. -/
def State.mode (s : State) : Mode := s.sup.mode

/-! ## Rings, interrupts, events, completions -/

/-- A ring by number. -/
def State.ring (s : State) (x : Nat) : Ring := s.hif.rings.getD x (Ring.reset 0)

/-- A ring changed. -/
def State.modRing (s : State) (x : Nat) (f : Ring → Ring) : State :=
  { s with hif := { s.hif with rings := modAt s.hif.rings x f } }

/-- Entries in a ring of 2^SIZE (R200). -/
def Ring.len (r : Ring) : Nat := 2 ^ r.size

/-- Entries of a ring from TAIL to HEAD, for a module-written ring: those the host has not freed. -/
def Ring.used (r : Ring) : Nat := (r.head + r.len - r.tail % r.len) % r.len

/-- Entries of a module-written ring that are free; equal HEAD and TAIL mean empty (R201), so one is never used. -/
def Ring.free (r : Ring) : Nat := r.len - 1 - r.used

/-- The position after one more entry, and the phase, which inverts at each wrap (R202). -/
def Ring.advance (r : Ring) : Ring :=
  if r.head + 1 < r.len then { r with head := r.head + 1 } else { r with head := 0, phase := !r.phase }

/-- Host absence (R229). -/
def State.absent (s : State) : Bool := s.hif.linkDown || s.hif.d3 || s.hif.noMaster

/-- A message on a vector, or its pending bit while it is masked, as in MSI each message can be (R196), or while the host is absent
(R229); MSI folds the vectors (R225, R226). -/
def State.sendMessage (s : State) (v : Nat) : State :=
  if s.hif.msi = 0 then
    if (s.hif.vectors.getD v ⟨0#32, 0#32, 0#32, true, false⟩).masked || s.absent then
      { s with hif := { s.hif with vectors := modAt s.hif.vectors v (fun x => { x with pending := true }) } }
    else { s with hif := { s.hif with messages := v :: s.hif.messages } }
  else
    let m := v % s.hif.msi
    if bit s.hif.msiMask m || s.absent then { s with hif := { s.hif with msiPending := s.hif.msiPending ||| word (2 ^ m) } }
    else { s with hif := { s.hif with messages := m :: s.hif.messages } }

/-- A ring signals new entries, within its moderation interval at the interval's end (R225). -/
def State.signal (s : State) (x : Nat) : State :=
  let r := s.ring x
  if s.now < r.modUntil then s.modRing x (fun r => { r with modHeld := true })
  else (s.modRing x (fun r => { r with modUntil := s.now + r.mod_ * us, modHeld := false })).sendMessage r.vector

/-- One event entry written to ring 2 (R202, R208). -/
def State.writeEvent (s : State) (code : Nat) (frame : Word) (gen pipe : Nat) (args : List Word) : State :=
  let r := s.ring 2
  let e : Event := ⟨r.head, r.phase, code, frame, gen, pipe, s.time32, args⟩
  (({ s with hif := { s.hif with events := e :: s.hif.events } }).modRing 2 Ring.advance).signal 2

/-- Ring 2 takes an event: it is enabled and at least two entries are free (R203). -/
def State.eventRoom (s : State) : Bool := (s.ring 2).enable && decide (2 ≤ (s.ring 2).free)

/-- EVENT_LOST with the count of events lost since the last one, once there is room (R203). -/
def State.flushLost (s : State) : State :=
  if s.eventRoom && decide (0 < s.hif.lostSince) then
    let s' := s.writeEvent 0x0001 0xffffffff#32 0 0xff [word s.hif.lostSince]
    { s' with hif := { s'.hif with lostSince := 0 } }
  else s

/-- An event posted, or counted as lost (R203). -/
def State.post (s : State) (code : Nat) (frame : Word) (gen pipe : Nat) (args : List Word) : State :=
  let s := s.flushLost
  if s.eventRoom then s.writeEvent code frame gen pipe args
  else
    ({ s with hif := { s.hif with evtLost := satInc s.hif.evtLost 1 0xffffffff, lostSince := s.hif.lostSince + 1 } }).modRing 2
      (fun r => { r with overflow := true })

/-- An event that concerns no frame (R208). -/
def State.post0 (s : State) (code : Nat) (args : List Word) : State := s.post code 0xffffffff#32 0 0xff args

/-- An event of a pipeline that concerns no frame. -/
def State.postP (s : State) (p : Pipe) (code : Nat) (args : List Word) : State := s.post code 0xffffffff#32 0 (pipeNum p) args

/-- A completion entry written to ring 1 (R206); the RESULT of a status other than OK is 0. To a host that has left
nothing is written (R229). -/
def State.complete (s : State) (tag : Word) (opcode status index : Nat) (result : List Word) : State :=
  if !(s.ring 1).enable then s else
  let r := s.ring 1
  let res := if status = 0 then (result ++ List.replicate 5 0#32).take 5 else List.replicate 5 0#32
  let e : Completion := ⟨r.head, r.phase, tag, opcode, status, index, res⟩
  let s := (({ s with hif := { s.hif with completions := e :: s.hif.completions } }).modRing 1 Ring.advance).signal 1
  { s with thm := { s.thm with activity := s.now } }

/-! ## Log, warnings, faults -/

/-- A cause that the log takes (R348); the entry is written by LOG_ENTRY_WRITE. -/
def State.logCause (s : State) (kind code : Nat) (args : List Nat) : State :=
  { s with sup := { s.sup with logDue := s.sup.logDue ++ [(kind, code, args)] } }

/-- A warning bit set, with SAFETY_WARNING when it was clear (R311). -/
def State.warnBit (s : State) (b : Nat) : State :=
  if s.saf.warn / 2 ^ b % 2 = 1 then s
  else ({ s with saf := { s.saf with warn := s.saf.warn + 2 ^ b } }).post0 0x00c1 [word b]

/-! ## Injection tests (R314, R320) -/

/-- The latest run of a test: a failure sets bit 9, whose condition a pass ends (R311). -/
def State.testRan (s : State) (n : Nat) (pass : Bool) : State :=
  let l := s.saf.testFail.filter (fun t => decide (t ≠ n))
  let s := { s with saf := { s.saf with testFail := if pass then l else n :: l } }
  if pass then s else s.warnBit 9

/-- The injection of a commanded test awaits its answer. -/
def State.commanded (s : State) (n : Nat) : Bool := s.saf.testResult = 3 && decide (s.saf.test = n) && s.saf.flagged.isNone

/-- An injection of a test awaits its answer: the mechanism's reaction is withheld. -/
def State.injecting (s : State) (n : Nat) : Bool := s.commanded n || s.saf.sched.contains n

/-- A mechanism has answered an injection: whether it flagged it. -/
def State.injected (s : State) (n : Nat) (hit : Bool) : State :=
  let s := if s.commanded n then { s with saf := { s.saf with flagged := some hit } } else s
  if s.saf.sched.contains n then
    ({ s with saf := { s.saf with sched := s.saf.sched.filter (fun k => decide (k ≠ n)) } }).testRan n hit
  else s

/-! ## Coils, and the passing of time (R269, R274, R275) -/

/-- PLATE clocks in one pulse step of 0.1 ms (R268). -/
def pulseStep : Nat := 12500

/-- A channel changed. -/
def State.modCh (s : State) (ch : Nat) (f : ActCh → ActCh) : State :=
  { s with act := { s.act with chans := modAt s.act.chans ch f } }

/-- A channel of the actuator stage. -/
def State.ch (s : State) (ch : Nat) : ActCh := s.act.chans.getD ch (ActCh.reset 0 0)

/-- A PAR bit in effect for the pair of a channel (R269). -/
def State.paired (s : State) (ch : Nat) : Bool := if ch < 2 then s.act.par01 else s.act.par23

/-- The channels whose configuration, coil model and faults a pulse answers to: the lower one of a pair driven as one
load, each of two separate loads (R269, R270). -/
def State.judged (s : State) (ch : Nat) (both : Bool) : List Nat :=
  if s.paired ch then [ch / 2 * 2] else if both then [ch, ch + 1] else [ch]

/-- The limit of a channel. -/
def ActCh.limit (c : ActCh) : Nat := c.thetaMax * 16

/-- Heating by steps of a pulse (R274). -/
def ActCh.heated (c : ActCh) (n : Nat) : ActCh := { c with theta := min (c.theta + n * c.heat) 0xffffff }

/-- One cooling tick (R274). -/
def ActCh.cooled (c : ActCh) : ActCh :=
  let k : Int := 6554 / (max c.tauS 1)
  { c with theta := ((c.theta : Int) - rnd (c.theta * k) 16).toNat }

/-- What the module did at an instant that has passed. -/
def State.asOf (s : State) (t : Nat) (f : State → State) : State := { f { s with now := t } with now := s.now }

/-- COIL_HOT (R275). -/
def State.coilHot (s : State) (ch theta : Nat) : State := (s.post0 0x00a4 [word ch, word theta]).warnBit 6

/-- HOT and COIL_HOT of a channel (R275). -/
def State.checkHot (s : State) (ch : Nat) : State :=
  let c := s.ch ch
  let ovr := decide (c.limit < c.theta)
  let s' := s.modCh ch (fun c => { c with hot := ovr })
  if ovr && !c.hot then s'.coilHot ch c.theta else s'

/-- Heating of a channel by the steps `a` + 1 to `n` of a pulse that started at `t`, with COIL_HOT at the step that takes θ over
its limit. -/
def State.heatCh (s : State) (ch t a n : Nat) : State :=
  let c := s.ch ch
  let d := c.heated (n - a)
  if decide (c.limit < d.theta) && !c.hot then
    let k := (c.limit - c.theta) / c.heat + 1
    (s.modCh ch (fun _ => { d with hot := true })).asOf (t + (a + k) * pulseStep) (fun s => s.coilHot ch (c.heated k).theta)
  else s.modCh ch (fun _ => d)

/-- The steps that have passed of a pulse put into the coil model of the channels it answers to. -/
def State.heatTo (s : State) (ch : Nat) : State :=
  match (s.ch ch).run with
  | none => s
  | some r =>
    let n := min r.steps ((s.now - r.start) / pulseStep)
    let s := s.modCh ch (fun c => { c with run := some { r with counted := n } })
    if n ≤ r.counted then s else (s.judged ch r.both).foldl (fun s j => s.heatCh j r.start r.counted n) s

/-- The clocks count: what is left of a hold in reset first (R373; notes/assumptions/102), and then the time since reset ended. -/
def State.tick (s : State) (dt : Nat) : State :=
  { s with now := s.now + (dt - s.sup.resetLeft), sup := { s.sup with resetLeft := s.sup.resetLeft - dt } }

/-- Pulses in progress heat their coils (R274). -/
def State.heat (s : State) : State :=
  if s.act.chans.all (fun c => c.run.isNone) then s else (List.range 4).foldl State.heatTo s

/-- A lane changed. -/
def State.modLane (s : State) (l : Nat) (f : Lane → Lane) : State :=
  { s with nl := { s.nl with lanes := modAt s.nl.lanes l f } }

/-- A lane. -/
def State.lane (s : State) (l : Nat) : Lane := s.nl.lanes.getD l Lane.reset

/-- Packets that have gone out on a lane; a PRBS pattern stands in their place (R303). -/
def State.noteSent (s : State) (l : Nat) (ps : List NlPacket) : State :=
  if (s.lane l).prbs = 0 then { s with nl := { s.nl with sent := ps.reverse ++ s.nl.sent } } else s

/-- What a stream still has to begin on a lane. -/
def Stream.todoOn (t : Option Stream) (l : Nat) : List NlPacket :=
  match t with
  | some t => t.todo.getD l []
  | none => []

/-- What a stream still has to begin on a lane replaced. -/
def Stream.withTodo (t : Option Stream) (l : Nat) (q : List NlPacket) : Option Stream :=
  t.map (fun t => { t with todo := t.todo.set l q })

/-- An egress lane sends on to the present instant (R292, R293). -/
def State.egressLane (s : State) (l : Nat) : State :=
  let x := s.lane l
  let t0 := s.nl.streams.getD 0 none
  let t1 := s.nl.streams.getD 1 none
  let q := (Stream.todoOn t0 l, Stream.todoOn t1 l)
  let (y, q, ps) := Lane.advance (x.blockNow s.now) (2 * (q.1.length + q.2.length) + 2) x q
  let s := (s.modLane l (fun _ => y)).noteSent l ps
  { s with nl := { s.nl with streams := [Stream.withTodo t0 l q.1, Stream.withTodo t1 l q.2] } }

/-- A packet of a stream is in progress on a lane. -/
def Lane.carries (x : Lane) (i : Nat) : Bool :=
  match x.cur with
  | some (p, _) => p.stream = i
  | none => false

/-- The transfer of a stream is over once its last packet has ended. -/
def State.transferEnd (s : State) (i : Nat) : State :=
  match s.nl.streams.getD i none with
  | some t =>
    if t.transfer.isSome && t.todo.all List.isEmpty && !s.nl.lanes.any (fun x => x.carries i) then
      { s with nl := { s.nl with streams := s.nl.streams.set i (some { t with transfer := none }) } }
    else s
  | none => s

/-- Both egress lanes send on. -/
def State.egress (s : State) : State := (((s.egressLane 0).egressLane 1).transferEnd 0).transferEnd 1

/-- No stream has a frame in transfer. -/
def Nl.quiet (x : Nl) : Bool := x.streams.all (fun t => match t with | some t => t.transfer.isNone | none => true)

/-- The time a command carries passes (notes/assumptions/1): pulses in progress heat their coils, transfers go on. -/
def State.elapse (s : State) (dt : Nat) : State :=
  let s := (s.tick dt).heat
  if s.nl.quiet then s else s.egress

/-- The module is not held in reset, neither in OFF (R379) nor after REQ_RESET or MODE_SET 1 (R373). -/
def State.live (s : State) : Bool := decide (s.sup.mode ≠ .off) && decide (s.sup.resetLeft = 0)

/-- What a command does after its time has passed; nothing acts on a module held in reset (R372, R373, R379). -/
def State.run (s : State) (dt : Nat) (f : State → State) : State :=
  if (s.elapse dt).live then f (s.elapse dt) else s.elapse dt

/-! ## Frames -/

/-- What a camera declares of the product set: nothing of who bound it, and nothing where both its sets are empty (R16). -/
def Camera.genKey (c : Camera) : Option Camera :=
  if c.normal.isEmpty && c.cool.isEmpty then none else some { c with id := 0, session := 0#32, secondary := false }

/-- The settings whose change advances the generation (R16): all that the snapshot holds, the substitution map (R63) and the
mode (R384) among them (DEDUCED, notes/assumptions/52). -/
def Settings.genKey (x : Settings) : Settings × List Camera :=
  ({ x with biasKeep := none, cams := [] }, x.cams.filterMap Camera.genKey)

/-- The generation a frame carries, or would carry had it poured (R16): that of the last frame poured, advanced by one when
their settings differ. -/
def Pl.genOf (p : Pl) (st : Settings) : Nat :=
  match p.lastPoured with
  | none => 0
  | some l => if l.genKey = st.genKey then p.gen else (p.gen + 1) % 65536

/-- An event about a frame in flight (R208). -/
def State.postF (s : State) (p : Pipe) (f : Frame) (code : Nat) (args : List Word) : State :=
  s.post code (word f.n) ((s.pl p).genOf f.st) (pipeNum p) args

/-- A frame of a pipeline in flight. -/
def Pl.frame? (p : Pl) (n : Nat) : Option Frame := p.frames.find? (fun f => f.n = n)

/-- A frame in flight, or being read, changed. -/
def Pl.modFrame (p : Pl) (n : Nat) (f : Frame → Frame) : Pl :=
  let go (x : Frame) : Frame := if x.n = n then f x else x
  { p with frames := p.frames.map go, gone := p.gone.map go }

/-- The number of the frame that began last. -/
def Pl.lastNo (p : Pl) : Nat := (p.frameNo + 0xffffffff) % 2 ^ 32

/-- The frame being read: the one that began last, while the pipeline reads. It stays so to the next marker, also when it has
poured or dropped in its blanking (R44). -/
def Pl.cur (p : Pl) : Option Frame :=
  if p.reading then (p.frame? p.lastNo).orElse (fun _ => p.gone.filter (fun f => f.n = p.lastNo)) else none

/-- Row time of a frame rate in PLATE clocks (R44). -/
def nRow (frate : Nat) : Nat := 1292 * 2 ^ frate

/-- Nominal frame period (R44). -/
def pNom (e : Word) : Nat := 1612 * nRow (fld e 1 0)

/-- The instant of LP(n) where it has come (R50): the start of row slot 1548, or for pipeline B the receipt of the companion's
last row. -/
def State.latchTime (s : State) (p : Pipe) (f : Frame) : Option Nat :=
  match p with
  | .A => let t := f.marker + 1548 * nRow (fld f.st.exposure 1 0); if t ≤ s.now then some t else none
  | .B => f.received

/-- The instant of a latch point that has come and whose snapshot has not been taken. -/
def State.latchDue (s : State) (p : Pipe) : Option Nat :=
  match (s.pl p).cur with
  | some f => if f.lpTime.isSome then none else s.latchTime p f
  | none => none

/-- The buffers a frame claimed go back to the front of their rings for later frames (R163). -/
def State.returnClaims (s : State) (f : Frame) : State :=
  f.claims.foldr (fun c s => s.modRing c.ring (fun r =>
    { r with posted := (c.pos, c.desc) :: r.posted, head := (r.head + r.len - 1) % r.len })) s

/-- The buffers claimed on rings that leave service are let go (R163, R200, R229). -/
def State.dropClaims (s : State) (gone : Nat → Bool) : State :=
  let cut (f : Frame) : Frame := { f with claims := f.claims.filter (fun c => !gone c.ring) }
  let go (x : Pl) : Pl := { x with frames := x.frames.map cut }
  (s.modPl .A go).modPl .B go

/-! ## Actuator requests and shutter events -/

/-- A pulse of the module falls due on a channel. -/
def State.duePulse (s : State) (ch : Nat) (o : Owner) (steps : Nat) : State :=
  s.modCh ch (fun c => { c with due := some ⟨o, steps, s.now⟩ })

/-- A packet goes out on a lane (R290). An injection 3 that waits inverts its CRC. -/
def State.sendPacket (s : State) (kind stream lane line tag : Nat) (payload : List Byte) : State :=
  let x := s.lane lane
  let bad := x.prbs = 0 && x.inject = 3
  (s.modLane lane (fun x => if bad then { x with inject := 0 } else x)).noteSent lane
    [⟨kind, stream, lane, line, tag % 65536, payload, bad, x.blockNow s.now, none⟩]

/-- The first link lane of the link mask, as host or companion: `base` is 2 or 0. -/
def firstLane (mask base : Nat) : Nat := if mask % 2 = 1 || mask = 0 then base else base + 1

/-- A command sent to the companion on the back channel (R301), on the first link lane (DESIGN CHOICE,
notes/assumptions/36). -/
def State.sendCmd (s : State) (op arg8 arg16 : Nat) : State :=
  s.sendPacket 7 0 (firstLane s.nl.comp.lanes 2) 0 0 (le 1 op ++ le 1 arg8 ++ le 2 arg16 ++ le 4 0)

/-- A packet of a stream in progress on a lane ends in ABORT (R294). -/
def State.abortOn (s : State) (i reason l : Nat) : State :=
  let x := s.lane l
  match x.cur with
  | some (p, r) =>
    if p.stream ≠ i then s
    else
      let s := s.modLane l (fun x => { x with cur := none, blk := x.blk + 1 })
      if r = p.size then s
      else s.noteSent l [{ p with badCrc := false, abort := some (reason, p.size - r - 1) }]
  | none => s

/-- What a stream has in transfer ends: its packets in progress in ABORT, no further ones follow (R294). -/
def State.sendAbort (s : State) (i : Nat) (reason : Nat) : State :=
  let s := (s.abortOn i reason 0).abortOn i reason 1
  { s with nl := { s.nl with streams := modAt s.nl.streams i (fun t => t.map (fun t => { t with transfer := none, todo := [[], []] })) } }

/-- The frames of both egress streams end, with no event (R294, R315). -/
def State.abortStreams (s : State) : State :=
  let cut (s : State) (i : Nat) : State :=
    let s := s.sendAbort i 3
    { s with nl := { s.nl with streams := modAt s.nl.streams i (fun t => t.map (fun t => { t with waiting := none })) } }
  cut (cut s 0) 1

/-- A stream's frame in transfer ends in ABORT, with NL_ABORT (R294). -/
def State.cutTransfer (s : State) (i reason : Nat) : State :=
  match s.nl.streams.getD i none with
  | some t => if t.transfer.isSome then (s.sendAbort i reason).post0 0x00b1 [word i, word reason] else s
  | none => s

/-- The streams of a pipeline, or of both, with a packet in progress are cut (R239, R250; DEDUCED, notes/assumptions/39). -/
def State.cutCarried (s : State) (p : Option Pipe) (reason : Nat) : State :=
  [0, 1].foldl (fun s i =>
    let mine := match s.nl.streams.getD i none with
      | some t => p.all (fun p => t.pipe = p)
      | none => false
    if mine && s.nl.lanes.any (fun x => x.carries i) then s.cutTransfer i reason else s) s

/-- The length of a shutter pulse: PULSE of LS0, outside 10–2000 the nearer end (R270, ACT registers). -/
def State.shutterSteps (s : State) : Nat := max 10 (min 2000 (s.ch 0).pulse)

/-- A shutter pulse of a pipeline's event: due on LS0 for A, sent to the companion for B (R128, R301). -/
def State.shutterPulse (s : State) (p : Pipe) (o : Owner) : State :=
  match p with
  | .A => s.duePulse 0 o s.shutterSteps
  | .B => s.sendCmd 3 (if o = .close then 1 else 0) 0

/-- A further failed event of a pipeline (R127). -/
def State.countFailure (s : State) (p : Pipe) : State :=
  let s := s.modPl p (fun x => { x with fails := x.fails + 1 })
  if (s.pl p).fails = 3 then
    ((s.modPl p (fun x => { x with degraded := true })).postP p 0x0045 []).warnBit 0
  else s

/-- SHUTTER_EVENT once the event has ended and its anchor has been judged (R122). -/
def State.closeEvent (s : State) (p : Pipe) : State :=
  match (s.pl p).event with
  | some e =>
    match e.ended with
    | some k =>
      if e.fail.isSome || e.formed then
        (s.modPl p (fun x => { x with event := none })).postP p 0x0042 [word e.c, word (k + 0xffffffff), word (e.fail.getD 0)]
      else s
    | none => s
  | none => s

/-- The event in progress fails with a reason of R123 or R126; the first reason stands (R127). An anchor formed and not yet
committed is given up; an event that has ended is then over. -/
def State.failEvent (s : State) (p : Pipe) (reason : Nat) : State :=
  match (s.pl p).event with
  | none => s
  | some e =>
    if e.fail.isSome then s
    else
      let e' := { e with fail := some reason, openDue := decide (e.opens = 0) }
      (((s.modPl p (fun x => { x with event := some e', anchorNext := none })).postP p 0x0044 [word reason]).countFailure p).closeEvent p

/-- The open pulse of an event issued now, unless it already has been (R123). -/
def State.issueOpen (s : State) (p : Pipe) : State :=
  match (s.pl p).event with
  | none => s
  | some e =>
    if e.opens = 0 then
      (s.modPl p (fun x => { x with event := some { e with opens := 1, openDue := false, lastOpen := s.now } })).shutterPulse
        p .open_
    else s

/-- Reason ABORT: the event fails and the open pulse is issued at once (R123). -/
def State.abortEvent (s : State) (p : Pipe) : State := (s.failEvent p 5).issueOpen p

/-- Every calibration cycle ends, with no failure counted (R77). -/
def State.endCycles (s : State) : State :=
  { s with cch := { s.cch with groups := s.cch.groups.map (fun g => (g.1, { g.2 with cycle := none })) } }

/-- The glean accumulator cleared without an update (R113). -/
def Pl.clearGlean (p : Pl) : Pl := { p with glean := [], accepted := 0 }

/-- E_FLOOR raised: the highest value since the last commit stands (R115). -/
def Pl.raiseFloor (p : Pl) (v : Nat) : Pl := { p with eFloor := max p.eFloor v }

/-- A host pulse waiting on a switch dropped with a reason (R270, R282). -/
def State.dropWait (s : State) (sw reason : Nat) : State :=
  match s.act.waits.getD sw none with
  | none => s
  | some h =>
    ({ s with act := { s.act with waits := s.act.waits.set sw none } }).post0 0x00a1 [word h.channel, word reason]

/-- A pipeline stops reading and lets go of its frames; their buffers are not completed (R318). -/
def State.stopPipe (s : State) (p : Pipe) : State :=
  let s := (s.pl p).frames.foldl State.returnClaims s
  s.modPl p (fun x => { x with reading := false, armed := false, frames := [] })

/-- Pulses of the module other than open pulses withdrawn (R315). -/
def State.dropDue (s : State) : State :=
  let keep (c : ActCh) : ActCh :=
    match c.due.map Due.owner with
    | some .open_ => c
    | some .startup => c
    | some .reopen => c
    | _ => { c with due := none }
  { s with act := { s.act with chans := s.act.chans.map keep } }

/-- SAFE_ENTERED, at once or when ring 2 is enabled (R315). -/
def State.postSafe (s : State) : State :=
  if (s.ring 2).enable then s.post0 0x00c0 [word s.saf.first, word s.saf.second]
  else { s with sup := { s.sup with safeEvDue := true } }

/-- The link begins anew in DETECT. -/
def Comp.detect (c : Comp) : Comp :=
  { c with state := 1, lanes := 0, retryAt := none, rowS := none, rowL := none, running := false, pulseAtMarker := false,
           leftClosed := false, heard := 0, acks := 0, ready := false, lastS := false, lastL := false }

/-- The egress lanes that are in service send, the others are dark (R289, R295). -/
def State.serveLanes (s : State) (mask : Nat) : State :=
  let set (s : State) (l : Nat) : State :=
    s.modLane l (fun x => if mask / 2 ^ l % 2 = 1 then x.enable s.now else x.disable)
  set (set s 0) 1

/-- The companion link of a module that enters or leaves RELAY (R297): it trains on lanes 0 and 1 in RELAY only. -/
def State.relayLink (s : State) (m : Mode) : State :=
  if m = .relay && s.sup.mode ≠ .relay then
    ({ s with nl := { s.nl with comp := s.nl.comp.detect } }).serveLanes 3
  else if m ≠ .relay && s.sup.mode = .relay then
    ({ s with nl := { s.nl with
        lanes := modAt (modAt s.nl.lanes 0 Lane.idle) 1 Lane.idle
        comp := { s.nl.comp.detect with state := 0 } } }).serveLanes s.nl.egrEn
  else s

/-- A lane without its PRBS pattern (R303). -/
def Lane.plain (l : Lane) : Lane := { l with cfg := word (l.cfg.toNat % 2 ^ 24), prbsLock := false, prbsSeen := [], prbsRun := 0 }

/-- Settings that hold only in some modes (R43, R106): host levels in DIAGNOSTIC, BYPASS in CALIBRATION and DIAGNOSTIC. -/
def Settings.heldIn (st : Settings) (m : Mode) : Settings :=
  let st := if m = .diagnostic then st else { st with hostLvl := none }
  if m = .diagnostic || m = .calibration then st else { st with fp := word (st.fp.toNat % 16) }

/-- Pending settings changed by the module itself, whatever the instant at which they were accepted. -/
def State.impose (s : State) (p : Pipe) (f : Settings → Settings) : State :=
  s.modPl p (fun x => { x with pend := f x.pend, prior := x.prior.map (fun q => (q.1, f q.2)) })

/-- What a mode leaves behind (R43, R106, R303): settings that do not hold in the mode that comes, the PRBS patterns of
DIAGNOSTIC. -/
def State.leaveMode (s : State) (m : Mode) : State :=
  let s := (s.impose .A (fun st => st.heldIn m)).impose .B (fun st => st.heldIn m)
  if s.sup.mode = .diagnostic && m ≠ .diagnostic then { s with nl := { s.nl with lanes := s.nl.lanes.map (fun x => x.plain.strike s.now) } } else s

/-- The mode reached, with MODE_CHANGED (R381). -/
def State.enterMode (s : State) (m : Mode) : State :=
  let old := s.sup.mode
  let s := (s.leaveMode m).relayLink m
  ({ s with sup := { s.sup with mode := m, trans := false } }).post0 0x00f0 [word (modeNum old), word (modeNum m)]

/-- Frame memory out of self-refresh: refresh intervals count from now, and none is owed (R240). -/
def Drm.awake (d : Drm) (now : Nat) : Drm :=
  if d.selfRefresh then { d with selfRefresh := false, chans := d.chans.map (fun c => { c with refAt := now }) } else d

/-- The boot logged (R347, R348). -/
def State.logBoot (s : State) : State := s.logCause 2 0 [s.sup.major * 65536 + s.sup.minor, s.sup.cause, s.sup.slot]

/-- A boot that ends before step 11 logs its boot as it ends (R348; DESIGN CHOICE, notes/assumptions/100). -/
def State.logCutBoot (s : State) : State := if s.sup.mode = .boot && decide (s.sup.step < 11) then s.logBoot else s

/-- Entry to SAFE (R315): streams end, SAFE_N goes low, processing stops, bias off, shutter events end as for ABORT. -/
def State.enterSafe (s : State) : State :=
  let s := ((s.logCutBoot.abortEvent .A).abortEvent .B).endCycles
  let s := ((s.stopPipe .A).stopPipe .B).abortStreams
  let s := ((s.dropDue).dropWait 0 5).dropWait 1 5
  let s := { s with
    saf := { s.saf with safeN := false },
    pcv := { s.pcv with biasOn := none },
    plt := { s.plt with firstMarker := none, busy := false },
    thm := { s.thm with depth := 0, waking := none },
    drm := s.drm.awake s.now }
  (s.enterMode .safe).postSafe

/-- The record of a fault decided at an instant (R313): FIRST and SECOND in the order of their decision, those of one PER clock
in the order of their IDs; COUNT counts every one, TIME is that of the first. -/
def Saf.record (f : Saf) (id now : Nat) : Saf :=
  let f := { f with decided := f.decided ++ [id], count := satInc f.count 1 255 }
  if f.first = 0 then { f with first := id, firstAt := now, time := word now }
  else if f.firstAt = now ∧ id < f.first then
    { f with first := id, second := f.first, secondAt := now }
  else if f.second = 0 ∨ f.secondAt = now ∧ id < f.second then { f with second := id, secondAt := now }
  else f

/-- A dangerous fault decided (R310, R313): once for each ID; it is recorded, up to 8 are logged and DRAM_TRAIN_FAIL whatever their
number (R247, R348), and outside SAFE the module enters SAFE. -/
def State.fault (s : State) (id : Nat) : State :=
  if s.saf.decided.contains id || s.mode = .off then s
  else
    let s := { s with saf := s.saf.record id s.now }
    let s := if s.sup.faultsLogged < 8 || id = 11 then
        ({ s with sup := { s.sup with faultsLogged := s.sup.faultsLogged + 1 } }).logCause 1 id []
      else s
    if s.mode = .safe then s else s.enterSafe

/-! ## Module reset -/

/-- The code of a reset cause (R373). -/
def resetCode : ResetCause → Nat
  | .power => 1 | .pin _ => 2 | .spi => 3 | .host => 4

/-- A module reset (R373): every block to its reset values; the ledger, the boot store, what already stands in host
memory, the queue and the level of WAKE_IN stay. -/
def State.moduleReset (s : State) (cause : Nat) (clksel : Bool) : State :=
  { State.reset with
    pending := s.pending
    nv := s.nv
    sup := { Sup.reset with cause := cause, clksel := clksel }
    thm := { Thm.reset with wakePin := s.thm.wakePin }
    hif := { Hif.reset with completions := s.hif.completions, events := s.hif.events, deliveries := s.hif.deliveries,
                            hostWrites := s.hif.hostWrites, messages := s.hif.messages,
                            bar2Seed := s.hif.bar2Seed + 1 } }

/-- A module reset that the module holds itself in for 1 ms (R373). R37 samples CLKSEL at a rising edge of RST_N and R374 in step
1 of every BOOT; where RST_N does not rise the sample stays (DESIGN CHOICE, notes/assumptions/99). -/
def State.resetHold (s : State) (cause : Nat) : State :=
  let r := s.moduleReset cause s.sup.clksel
  { r with sup := { r.sup with resetLeft := ms } }

/-! ## Settings and sessions -/

/-- The frame from which a setting accepted now applies (R51, R416). After a latch point whose snapshot ends the reading it is
the first frame of the next reading, which R416 gives every setting accepted before that begins (DEDUCED,
notes/assumptions/87). -/
def State.applyFrame (s : State) (p : Pipe) : Nat :=
  let x := s.pl p
  let taken := x.cur.any (fun f => f.lpTime.isSome)
  let after := if x.reading then (taken && isRunning x.snap.mode) || (s.latchDue p).isSome else x.armed
  if after then (x.frameNo + 1) % 2 ^ 32 else x.frameNo

/-- The settings accepted before an instant (R51): what is accepted in the instant itself counts as after it. -/
def Pl.acceptedBefore (x : Pl) (l : Nat) : Settings :=
  match x.prior with
  | some (t, st) => if l ≤ t then st else x.pend
  | none => x.pend

/-- The settings accepted before the instant of the latest acceptance, once one more is accepted: that instant stays where it
is now, or where it lies at or after a latch point whose snapshot has not been taken. -/
def State.priorNow (s : State) (p : Pipe) : Nat × Settings :=
  let x := s.pl p
  match x.prior with
  | some q =>
    let due := match s.latchDue p with
      | some l => decide (l ≤ q.1)
      | none => false
    if q.1 = s.now || due then q else (s.now, x.pend)
  | none => (s.now, x.pend)

/-- A setting of a pipeline accepted now (R51). -/
def State.accept (s : State) (p : Pipe) (f : Settings → Settings) : State :=
  let q := s.priorNow p
  s.modPl p (fun x => { x with pend := f x.pend, prior := some q })

/-- The role of an authenticated session, by handle (R217). -/
def State.sessionOf (s : State) (h : Word) : Option Session :=
  (s.hif.sessions.filterMap id).find? (fun x => x.handle = h && x.auth)

/-- The HIF lock: some session is open (R11, R220). -/
def State.locked (s : State) : Bool := s.hif.sessions.any (fun x => match x with | some y => y.auth | none => false)

/-- The settings in force: those of the frames being read, or, while nothing is read, those that the first frame to be read
will have (R416). -/
def Pl.inForce (x : Pl) : Settings := if x.reading || x.armed then x.snap else x.pend

/-- The bundle in force for a snapshot (R105). -/
def State.bundleOf (s : State) (st : Settings) : Option Bundle :=
  (s.sup.bundles.find? (fun b => b.1 = st.bundle)).map Prod.snd

/-- A bundle taken into use, and its key; one that is in use already keeps the key it has, so that it counts as no change
(R16, R115). -/
def State.holdBundle (s : State) (b : Bundle) : State × Nat :=
  match s.sup.bundles.find? (fun q => q.2 = b) with
  | some q => (s, q.1)
  | none =>
    let k := s.sup.nextKey
    ({ s with sup := { s.sup with bundles := s.sup.bundles ++ [(k, b)], nextKey := k + 1 } }, k)

/-- The bundle's ANC section for a pipeline; the factory values where no bundle is in force. -/
def State.ancOf (s : State) (st : Settings) : Anc := ((s.bundleOf st).getD Bundle.factory).anc

/-- NL streams fed by a camera end (R294): reason 3, NL_ABORT for each with a frame in transfer. -/
def State.endStreams (s : State) (p : Pipe) (codes : List Nat) : State :=
  let go (s : State) (i : Nat) : State :=
    match s.nl.streams.getD i none with
    | some t =>
      if t.pipe = p && codes.contains t.product then
        let s := s.sendAbort i 3
        let s' := { s with nl := { s.nl with streams := s.nl.streams.set i none } }
        if t.transfer.isSome then s'.post0 0x00b1 [word i, 3#32] else s'
      else s
    | none => s
  go (go s 0) 1

/-- A camera unbound (R166): its sets leave, the secondary becomes primary at the next latch point; a stream that another camera of
the pipeline binds too goes on (R292). -/
def State.unbind (s : State) (p : Pipe) (id : Nat) : State :=
  match (s.pl p).pend.cams.find? (fun c => c.id = id) with
  | none => s
  | some c =>
    let others := (s.pl p).pend.cams.filter (fun x => x.id ≠ id)
    let s := s.endStreams p ((List.range 10).filter (fun k =>
      c.dest.getD k 0 = 254 && !others.any (fun x => x.dest.getD k 0 = 254)))
    s.accept p (fun st => { st with cams := st.cams.filter (fun x => x.id ≠ id) })

/-- A session closed (R220); a staging it began ends, and with it a commit that still waits. -/
def State.closeSession (s : State) (slot : Nat) : State :=
  match s.hif.sessions.getD slot none with
  | none => s
  | some x =>
    let ids (p : Pipe) : List Nat := ((s.pl p).pend.cams.filter (fun c => c.session = x.handle)).map Camera.id
    let s := (ids .A).foldl (fun s i => s.unbind .A i) s
    let s := (ids .B).foldl (fun s i => s.unbind .B i) s
    let mine := match s.hif.staging with
      | some g => decide (g.session = x.handle)
      | none => false
    { s with hif := { s.hif with sessions := s.hif.sessions.set slot none,
                                 staging := if mine then none else s.hif.staging,
                                 waiting := if mine then none else s.hif.waiting } }

/-- The start of host absence (R229): rings disabled, and then sessions closed. -/
def State.hostLeaves (s : State) : State :=
  let s := { s with hif := { s.hif with rings := s.hif.rings.map (fun (r : Ring) => { r with enable := false }), resumeDue := true,
                                        poursAbsent := if s.hif.resumeDue then s.hif.poursAbsent else 0 } }
  ((((s.closeSession 0).closeSession 1).closeSession 2).closeSession 3).dropClaims (fun _ => true)

end Sys2Proof.Machine
end

