-- ==== Sys2Proof/Machine/Records.lean ====
section
/-! DEFINITION. The records of the ledger (15): where they lie, two-copy records, their resolution and what it reports,
and tallies. -/
namespace Sys2Proof.Machine

/-! ## Record addresses (R343, R344, R350, R352, R353) -/

/-- Ledger offset of copy A of a TRIM group record. -/
def trimOffset (g : Nat) : Nat := 0x1000 + 1280 * g
/-- Of the bias record. -/
def biasOffset : Nat := 0x15800
/-- Of the HIGH record of a tally. -/
def tallyOffset (t : Nat) : Nat := 0x19000 + 128 * t
/-- Of a key slot. -/
def keyOffset (k : Nat) : Nat := 0x1a000 + 0x80 * k
/-- Of the passwords of a partition. -/
def pwOffset (p : Nat) : Nat := 0x1a200 + 0x80 * p
/-- Of the guard record. -/
def guardOffset : Nat := 0x1a400

/-! ## Two-copy records (R339 to R341) -/

/-- The copy that R341 takes, true for A, and whether the other is rewritten; none where no copy is valid. -/
def Rec.resolve {α : Type} (r : Rec α) : Option (Bool × Bool × Nat × α) :=
  match r.a, r.b with
  | some (sa, x), some (sb, y) =>
    if sa = sb then some (true, false, sa, x)
    else if newer 32 sb sa then some (false, true, sb, y)
    else some (true, true, sa, x)
  | some (sa, x), none => some (true, true, sa, x)
  | none, some (sb, y) => some (false, true, sb, y)
  | none, none => none

/-- The content in force. -/
def Rec.cur {α : Type} (r : Rec α) (d : α) : α :=
  match r.resolve with
  | some (_, _, _, x) => x
  | none => d

/-- A record changed (R340): the next SEQ, copy A and then copy B with the same bytes. -/
def Rec.write {α : Type} (r : Rec α) (x : α) : Rec α :=
  match r.resolve with
  | some (_, _, q, _) => Rec.both ((q + 1) % 2 ^ 32) x
  | none => Rec.both 1 x

/-- A record after its resolution: both copies hold what was taken. -/
def Rec.settled {α : Type} (r : Rec α) (d : α) : Rec α :=
  match r.resolve with
  | some (_, _, q, x) => Rec.both q x
  | none => Rec.both 1 d

/-- A record whose change has lost power after `n` pages (R338, R340), each copy taking `size` of them: copy A and only then copy B;
the CRC of a copy cut short is wrong. -/
def Rec.cut {α : Type} (r : Rec α) (x : α) (size n : Nat) : Rec α :=
  let w := r.write x
  ⟨if n = 0 then r.a else if n < size then none else w.a,
   if n ≤ size then r.b else if n < 2 * size then none else w.b⟩

/-- A rewrite of one copy: LEDGER_RECOVERED with the copy taken, and warning bit 13 where a CRC was wrong. -/
def State.recovered (s : State) (offset : Nat) (tookA crcWrong : Bool) : State :=
  let s := s.post0 0x00e0 [word offset, if tookA then 0#32 else 1#32]
  if crcWrong then s.warnBit 13 else s

/-- A record with no valid copy: LEDGER_LOST, logged, and warning bit 13. -/
def State.lost (s : State) (offset : Nat) : State :=
  ((s.post0 0x00e1 [word offset]).logCause 3 0x00e1 [offset, 0, 0]).warnBit 13

/-- What the resolution of a record at an offset reports. -/
def State.resolveRec {α : Type} (s : State) (r : Rec α) (offset : Nat) : State :=
  match r.resolve with
  | none => s.lost offset
  | some (tookA, rewrite, _, _) => if rewrite then s.recovered offset tookA (r.a.isNone || r.b.isNone) else s

/-- A record is read back (R341): where a copy has a wrong CRC it is resolved and rewritten before it is used. `d` is the
replacement of R342, and `put` places the record. -/
def State.readRec {α : Type} (s : State) (r : Rec α) (d : α) (offset : Nat) (put : Nv → Rec α → Nv) : State :=
  if r.a.isSome && r.b.isSome then s
  else
    let s := s.resolveRec r offset
    { s with nv := put s.nv (r.settled d) }

/-! ## Tallies (R344 to R346) -/

/-- The value of a tally (R346). -/
def Tally.value (t : Tally) : Nat :=
  let h := max (t.high.cur t.tag) t.tag
  256 * h + (if t.tag = h then t.bits else 0)

/-- The writes by which a tally is counted once, as it stands after each (R345): one bit; of a full stroke cell first copy A and copy
B of HIGH, then the empty cell with its TAG, then the bit. -/
def Tally.steps (t : Tally) : List Tally :=
  if t.bits < 256 then [{ t with bits := t.bits + 1 }]
  else
    let h := t.high.cur t.tag + 1
    let w := t.high.write h
    [{ t with high := t.high.cut h 1 1 }, { t with high := w }, ⟨w, 0, h⟩, ⟨w, 1, h⟩]

/-- A tally counted once (R345). -/
def Tally.count (t : Tally) : Tally := t.steps.getLast?.getD t

/-- A tally whose counting has lost power after `n` of its writes. -/
def Tally.cut (t : Tally) (n : Nat) : Tally := if n = 0 then t else t.steps.getD (n - 1) t.count

/-- A tally. -/
def State.tally (s : State) (t : Nat) : Tally := s.nv.tally.getD t ⟨Rec.both 0 0, 0, 0⟩

/-- The rated figure of a pulse tally (R344). -/
def State.rated (s : State) (t : Nat) : Nat :=
  if t = 0 || (t = 1 && bit s.act.sense 2) then 2000000 else 10000000

/-- A tally counted, its HIGH record read back first. -/
def State.countTally (s : State) (t : Nat) : State :=
  let x := s.tally t
  let s := s.readRec x.high x.tag (tallyOffset t) (fun n r => { n with tally := modAt n.tally t (fun y => { y with high := r }) })
  { s with nv := { s.nv with tally := modAt s.nv.tally t Tally.count } }

/-- A pulse counted on a low-side channel (R19, R345), with WEAR_LIMIT where the count reaches its rated figure. A count that stands
above the figure already, as that of LS1 may when EN1 lowers it, reaches it no more and posts nothing (DESIGN CHOICE,
notes/assumptions/98). -/
def State.countPulse (s : State) (t : Nat) : State :=
  let s := s.countTally t
  let v := (s.tally t).value
  if v = s.rated t then ((s.post0 0x0080 [word t, word v]).logCause 3 0x0080 [t, v, 0]).warnBit 1 else s

end Sys2Proof.Machine
end

