-- ==== Sys2Proof/Machine/Act.lean ====
section
/-! DEFINITION. Shutter and valve drive (12): pulses, the sharing of switches and boost, the coil model, supply and
channel faults, position sense. -/
namespace Sys2Proof.Machine

/-! ## Readings -/

/-- Position of a sense input (R278): 0 UNKNOWN, 1 OPEN, 2 CLOSED. -/
def State.position (s : State) (i : Nat) : Nat :=
  let x := s.act.inputs.getD i ⟨none, [], none⟩
  if !bit s.act.sense (2 * i) || x.faultAt.isSome then 0
  else match x.level with
    | none => 0
    | some l => if l == bit s.act.sense (2 * i + 1) then 2 else 1

/-- The accepted level of SHUT_SENSE0 indicates CLOSED (R279). -/
def State.levelClosed (s : State) : Bool := (s.act.inputs.getD 0 ⟨none, [], none⟩).level == some (bit s.act.sense 1)

/-- VACT lies in 8.7–16.5 V (R276); VACT in 0.1 V. -/
def vactOk (v : Nat) : Bool := decide (87 ≤ v) && decide (v ≤ 165)

/-- BOOST_CAP is at or above 90 % of the set voltage (R271); VBOOST in 0.25 V. -/
def State.boostOk (s : State) : Bool := decide (9 * (36 + min (fld s.act.ctrl 5 0) 36) ≤ 5 * s.act.vboost)

/-- The low-side channels that a pulse switches (R269, R270). -/
def State.switched (s : State) (ch : Nat) (both : Bool) : List Nat :=
  if both || s.paired ch then [ch / 2 * 2, ch / 2 * 2 + 1] else [ch]

/-- A pulse runs on some channel of a switch. -/
def State.switchBusy (s : State) (sw : Nat) : Bool := (s.ch (2 * sw)).run.isSome || (s.ch (2 * sw + 1)).run.isSome

/-- The boost feeds a coil (R271). -/
def State.boosting (s : State) : Bool :=
  s.act.chans.any (fun c => match c.run with
    | some r => r.kicking
    | none => false)

/-- No pulse on a switch now, and 2.0 ms since the last one (R271). -/
def State.switchFree (s : State) (sw : Nat) : Bool :=
  !s.switchBusy sw && (match s.act.lastEnd.getD sw none with
    | some t => decide (t + 2 * ms ≤ s.now)
    | none => true)

/-- A pulse with KICK steps may draw on the boost (R271). -/
def State.kickOk (s : State) (kick : Nat) : Bool := kick = 0 || (s.boostOk && !s.boosting)

/-- The close pulse of a shutter event has started and OPEN has not been reported (R272). -/
def State.eventOnA (s : State) : Bool :=
  match s.pa.event with
  | some e => e.driven && !e.opened && decide (e.ended = none)
  | none => false

/-! ## Coil model (R274, R275) -/

/-- θ + HEAT · L ≤ THETA_MAX << 4 (R275). -/
def ActCh.admits (c : ActCh) (steps : Nat) : Bool := decide (c.theta + c.heat * steps ≤ c.limit)

/-- Every cooling tick that is due (R274): one each 12,500,000 clocks from module reset. -/
def State.coolingTick (s : State) : State :=
  if (s.act.coolTicks + 1) * 12500000 ≤ s.now then
    let s := { s with act := { s.act with coolTicks := s.act.coolTicks + 1, chans := s.act.chans.map ActCh.cooled } }
    (List.range 4).foldl State.checkHot s
  else s

/-! ## Pulses -/

/-- A pulse starts (R268): its tallies are counted first (R345). -/
def State.startPulse (s : State) (ch : Nat) (o : Owner) (steps kick : Nat) (both : Bool) : State :=
  let sw := s.switched ch both
  let s := sw.foldl State.countPulse s
  let r : Pulse := ⟨o, steps, kick, both, s.now, 0, decide (0 < kick)⟩
  let s := s.modCh ch (fun c => { c with run := some r, due := none })
  if sw.contains 2 && sw.contains 3 then { s with act := { s.act with lastWash := some s.now } } else s

/-- A pulse ends (R270) at time `t` with `steps` driven; the pulse of a host posts ACT_PULSE_DONE. -/
def State.endPulse (s : State) (ch : Nat) (t steps : Nat) : State :=
  match (s.ch ch).run with
  | none => s
  | some r =>
    let s := (s.switched ch r.both).foldl (fun s j => s.modCh j (fun c => { c with lastPulse := some t })) s
    let s := s.modCh ch (fun c => { c with run := none })
    let s := { s with act := { s.act with lastEnd := s.act.lastEnd.set (ch / 2) (some t) } }
    if r.owner = .host then s.post0 0x00a0 [word ch, word steps] else s

/-- The start of a shutter pulse noted: that of a close pulse, from which HS_A serves only LS0 (R272), and that of an open
pulse, from which its 80 ms count (R124). -/
def State.noteShutter (s : State) (o : Owner) : State :=
  match o with
  | .close => s.modPl .A (fun x => { x with event := x.event.map (fun e => { e with driven := true }) })
  | .open_ => s.modPl .A (fun x => { x with event := x.event.map (fun e => { e with lastOpen := s.now }) })
  | .startup => { s with act := { s.act with opening := s.act.opening.map (fun y => (y.1, s.now)) } }
  | .reopen => { s with act := { s.act with opening := s.act.opening.map (fun y => (y.1, s.now)) } }
  | _ => s

/-- An open pulse of R123 or R124 due on LS0 (R272): only a pulse still running on LS0 delays it, one that was running when it fell
due until 2.0 ms after its end; without boost it runs from VACT; faults and the coil model do not stop it. -/
def State.startOpen (s : State) (d : Due) : State :=
  let c := s.ch 0
  let clear := match c.lastPulse with
    | some t => decide (t ≤ d.since) || decide (t + 2 * ms ≤ s.now)
    | none => true
  if c.run.isSome || !clear then s
  else
    let kick := if s.kickOk c.kick then c.kick else 0
    (s.startPulse 0 d.owner d.steps kick false).noteShutter d.owner

/-- A pulse due that is driven no more. -/
def State.dropPulse (s : State) (ch : Nat) : State := s.modCh ch (fun c => { c with due := none })

/-- The first open pulse of R279 or R302 due on LS0, which obeys R271 and the checks of R274, R275 and R277 (R272): it waits for its
switch and the boost; where a latched fault or the coil model forbids it, it is dropped, and the repetitions of R124 follow
(DESIGN CHOICE, notes/assumptions/97). -/
def State.startReopen (s : State) (d : Due) : State :=
  let c := s.ch 0
  if c.oc || c.ol || !c.admits d.steps then (s.dropPulse 0).noteShutter d.owner
  else if s.switchFree 0 && s.kickOk c.kick then (s.startPulse 0 d.owner d.steps c.kick false).noteShutter d.owner
  else s

/-- A close pulse or a washer pulse due (R271, R276, R277): it waits for its switch and the boost; a latched fault drops
it. No washer pulse starts without VACT, and it is tried again at the next latch point (R190). The washer pulse drives LS2 and
LS3 in parallel, as two loads where PAR23 is 0 (R190, R270). -/
def State.startModule (s : State) (ch : Nat) (d : Due) (wash : Option Pipe) : State :=
  let c := s.ch ch
  let both := wash.isSome && !s.paired ch
  if (s.judged ch both).any (fun j => (s.ch j).oc || (s.ch j).ol) || s.mode = .safe then s.dropPulse ch
  else match wash, vactOk s.act.vact with
    | some p, false => (s.dropPulse ch).modPl p (fun x => { x with washDue := true })
    | _, _ =>
      if s.switchFree (ch / 2) && s.kickOk c.kick then (s.startPulse ch d.owner d.steps c.kick both).noteShutter d.owner else s

/-- Why a host pulse cannot run at all (R273, R275 to R277): 2 THERMAL, 3 SUPPLY, 4 FAULT; none where it may. -/
def State.hostPulseStop (s : State) (h : HostPulse) : Option Nat :=
  let js := s.judged h.channel h.both
  if !vactOk s.act.vact then some 3
  else if js.any (fun j => (s.ch j).oc || (s.ch j).ol) then some 4
  else if js.any (fun j => !(s.ch j).admits h.steps) then some 2
  else none

/-- HS_A serves only LS0 from the start of a shutter event's close pulse (R272). -/
def State.reserved (s : State) (h : HostPulse) : Bool :=
  h.channel < 2 && s.eventOnA && (h.channel = 1 || h.both || s.act.par01)

/-- A waiting host pulse starts, waits or is dropped (R273). -/
def State.startHost (s : State) (sw : Nat) : State :=
  match s.act.waits.getD sw none with
  | none => s
  | some h =>
    match s.hostPulseStop h with
    | some reason => s.dropWait sw reason
    | none =>
      let kick := (s.ch h.channel).kick
      if s.switchFree sw && s.kickOk kick && !s.reserved h then
        ({ s with act := { s.act with waits := s.act.waits.set sw none } }).startPulse h.channel .host h.steps kick h.both
      else s

/-- A due or waiting pulse of a channel starts if it may; a module pulse goes before a host pulse (R273). -/
def State.pulseStart (s : State) (ch : Nat) : State :=
  match (s.ch ch).due with
  | some d =>
    match d.owner with
    | .open_ => s.startOpen d
    | .startup => s.startOpen d
    | .reopen => s.startReopen d
    | .wash p => s.startModule ch d (some p)
    | _ => s.startModule ch d none
  | none =>
    match s.act.waits.getD (ch / 2) none with
    | some h => if h.channel = ch && (s.ch (ch / 2 * 2)).due.isNone then s.startHost (ch / 2) else s
    | none => s

/-- The coil feed goes over to VACT (R268). -/
def State.kickEnd (s : State) (ch : Nat) : State :=
  match (s.ch ch).run with
  | some r =>
    if r.kicking && r.start + r.kick * pulseStep ≤ s.now then
      s.modCh ch (fun c => { c with run := some { r with kicking := false } })
    else s
  | none => s

/-- A pulse that has run its steps ends. -/
def State.pulseDone (s : State) (ch : Nat) : State :=
  match (s.ch ch).run with
  | some r =>
    let t := r.start + r.steps * pulseStep
    if t ≤ s.now then s.endPulse ch t r.steps else s
  | none => s

/-- The channel that holds the pulse which drives channel `ch`: itself or the lower one of its pair. -/
def State.carrier (s : State) (ch : Nat) : Option Nat :=
  if (s.ch ch).run.isSome then some ch
  else
    let lo := ch / 2 * 2
    match (s.ch lo).run with
    | some r => if (s.switched lo r.both).contains ch then some lo else none
    | none => none

/-- A channel fault ends the pulse (R277): the latch, ACT_FAULT, and ACT_PULSE_DONE of a host pulse. -/
def State.channelFault (s : State) (ch kind : Nat) : State :=
  match s.carrier ch with
  | none => s
  | some c =>
    match (s.ch c).run with
    | none => s
    | some r =>
      let early := decide (kind = 2) && decide (s.now < r.start + 10 * pulseStep)
      if early then s
      else
        let j := if s.paired ch then ch / 2 * 2 else ch
        let s := s.modCh j (fun x => if kind = 1 then { x with oc := true } else { x with ol := true })
        (s.post0 0x00a2 [word j, word kind]).endPulse c s.now (min r.steps ((s.now - r.start) / pulseStep))

/-- A host pulse that has waited 1000 ms (R273). -/
def State.hostPulseDrop (s : State) (sw : Nat) : State :=
  match s.act.waits.getD sw none with
  | some h => if h.since + 1000 * ms ≤ s.now then s.dropWait sw 1 else s
  | none => s

/-- A change of the supply (R276). -/
def State.actSupply (s : State) (vact vboost : Nat) : State :=
  let was := vactOk s.act.vact
  let s := { s with act := { s.act with vact := vact, vboost := vboost } }
  if vactOk vact = was then s
  else
    let s := s.post0 0x00a7 [if vactOk vact then 1#32 else 0#32]
    if vactOk vact then s else (s.dropWait 0 3).dropWait 1 3

/-- An ACT_PULSE queued (R270, R273): dropped at once where the switch already holds one, or where supply, a fault or
the coil model forbids it. -/
def State.queuePulse (s : State) (ch steps : Nat) (parallel : Bool) : State :=
  let sw := ch / 2
  let h : HostPulse := ⟨ch, steps, parallel && !s.paired ch, s.now⟩
  if (s.act.waits.getD sw none).isSome then s.post0 0x00a1 [word ch, 1#32]
  else match s.hostPulseStop h with
    | some reason => s.post0 0x00a1 [word ch, word reason]
    | none => { s with act := { s.act with waits := s.act.waits.set sw (some h) } }

/-- The status of an ACT_PULSE (R270): 2 BAD_ARG, 3 MODE, 0 OK. -/
def State.actPulseStatus (s : State) (ch parallel steps : Nat) : Nat :=
  if 3 < ch || 1 < parallel || steps < 10 || 2000 < steps || (parallel = 1 && ch % 2 = 1) || (parallel = 0 && s.paired ch) then 2
  else if s.mode = .off || s.mode = .boot || s.mode = .safe then 3
  else if ch = 0 && s.mode ≠ .calibration && s.mode ≠ .diagnostic then 3
  else 0

/-- The drive can accept a close pulse at time `m` and the open pulse after it (R120, R275): position OPEN, HS_A and the
boost free at `m`, no fault latched on LS0, no other opening under way, and the coil model admits both pulses. -/
def State.acceptsEvent (s : State) (m : Nat) : Bool :=
  let c := s.ch 0
  let freeAt (t : Nat) : Bool := decide (t + 2 * ms ≤ m)
  let runs (ch : Nat) : Bool := match (s.ch ch).run with
    | some r => freeAt (r.start + r.steps * pulseStep)
    | none => true
  let kicks := s.act.chans.all (fun c => match c.run with
    | some r => !r.kicking || decide (r.start + min r.kick r.steps * pulseStep ≤ m)
    | none => true)
  let last := match s.act.lastEnd.getD 0 none with
    | some t => freeAt t
    | none => true
  decide (s.position 0 = 1) && s.act.opening.isNone && runs 0 && runs 1 && last && !c.oc && !c.ol &&
    (c.kick = 0 || (s.boostOk && kicks)) && decide (c.theta + 2 * c.heat * s.shutterSteps ≤ c.limit)

/-- 30 s have passed since the last washer pulse (R190). -/
def State.washSpaced (s : State) : Bool :=
  match s.act.lastWash with
  | some t => decide (t + 30 * sec ≤ s.now)
  | none => true

/-- A washer pulse of `steps` on LS2 + LS3 for a pipeline (R190): it becomes due where the rules admit it now, else it is tried
again at the next latch point. -/
def State.washPulse (s : State) (p : Pipe) (steps : Nat) : State :=
  let js := s.judged 2 (!s.act.par23)
  let ok := vactOk s.act.vact && s.switchFree 1 && (s.ch 2).due.isNone && s.kickOk (s.ch 2).kick &&
    js.all (fun j => !(s.ch j).oc && !(s.ch j).ol && (s.ch j).admits steps) && decide (s.mode ≠ .safe)
  (if ok then s.duePulse 2 (.wash p) steps else s).modPl p (fun x => { x with washDue := !ok })

/-! ## Openings outside a shutter event (R124, R279, R280, R385) -/

/-- An open pulse of an opening outside an event. -/
def State.openingPulse (s : State) (n : Nat) (o : Owner) : State :=
  ({ s with act := { s.act with opening := some (n, s.now) } }).duePulse 0 o s.shutterSteps

/-- An opening begins: one of R280 and R385 under R124, or the first pulse of R279 or R302. -/
def State.startOpening (s : State) (o : Owner) : State := if s.act.opening.isSome then s else s.openingPulse 1 o

/-- An open pulse of LS0 is still to start. -/
def State.openPending (s : State) : Bool :=
  match (s.ch 0).due.map Due.owner with
  | some .open_ => true
  | some .startup => true
  | some .reopen => true
  | _ => false

/-- A repetition may be issued (R124): a marker of the pipeline has fallen since the 80 ms, or 82 ms have passed. -/
def repeatDue (now last : Nat) (marker : Option Nat) : Bool :=
  decide (last + 82 * ms ≤ now) || (match marker with
    | some m => decide (last + 80 * ms ≤ m) && decide (m ≤ now)
    | none => false)

/-- The 80 ms rule on an opening outside an event. -/
def State.repeatOpening (s : State) (marker : Option Nat) : State :=
  match s.act.opening with
  | none => s
  | some (n, last) =>
    if s.openPending || s.now < last + 80 * ms then s
    else if !s.levelClosed then { s with act := { s.act with opening := none } }
    else if 3 ≤ n then ({ s with act := { s.act with opening := none } }).fault 15
    else if repeatDue s.now last marker then s.openingPulse (n + 1) .startup
    else s

/-! ## Position sense (R278, R279) -/

/-- A position report reaches a shutter event in progress: CLOSED before its open pulse, OPEN after it. -/
def State.reportPosition (s : State) (p : Pipe) (pos : Nat) : State :=
  s.modPl p (fun x => { x with event := x.event.map (fun e =>
    { e with closed := e.closed || (decide (pos = 2) && decide (e.opens = 0)),
             opened := e.opened || (decide (pos = 1) && decide (0 < e.opens)) }) })

/-- No shutter event is in progress on LS0. -/
def State.noEventOnA (s : State) : Bool := s.pa.event.all (fun e => e.ended.isSome)

/-- An accepted change of a sense input that is in use. -/
def State.senseChange (s : State) (i : Nat) : State :=
  let x := s.act.inputs.getD i ⟨none, [], none⟩
  let recent := s.now :: x.changes.filter (fun t => decide (s.now < t + 100 * ms))
  let c := s.ch i
  let driven := (s.carrier i).isSome || (match c.lastPulse with
    | some t => decide (s.now ≤ t + 100 * ms)
    | none => false)
  let why := if 4 < recent.length then 1 else if driven then 0 else 2
  let bad := decide (why ≠ 0) || x.faultAt.isSome
  let put (y : Sense) : Sense := { y with changes := recent, faultAt := if bad then some s.now else none }
  let s' := { s with act := { s.act with inputs := modAt s.act.inputs i put } }
  let s' := if why ≠ 0 && x.faultAt.isNone then (s'.post0 0x00a3 [word i, word why]).warnBit 5 else s'
  if i = 0 && !driven && s'.levelClosed && s.noEventOnA &&
      (s.mode = .imaging || s.mode = .calibration) then
    { s' with act := { s'.act with uncommanded := true } }
  else s'

/-- An accepted level of a sense input. The first one after reset only makes the level known (DEDUCED,
notes/assumptions/22). -/
def State.positionReport (s : State) (i : Nat) (level : Bool) : State :=
  let x := s.act.inputs.getD i ⟨none, [], none⟩
  let set (s : State) : State := { s with act := { s.act with inputs := modAt s.act.inputs i (fun y => { y with level := some level }) } }
  match x.level with
  | none => set s
  | some l =>
    if l = level then s
    else
      let s := set s
      let s := if bit s.act.sense (2 * i) then s.senseChange i else s
      if i = 0 then
        let s := if s.act.opening.isSome && !s.levelClosed then { s with act := { s.act with opening := none } } else s
        s.reportPosition .A (s.position 0)
      else s

/-- A faulty input stable for 1 s (R279). -/
def State.senseFaultEnd (s : State) (i : Nat) : State :=
  match (s.act.inputs.getD i ⟨none, [], none⟩).faultAt with
  | some t =>
    if t + sec ≤ s.now then { s with act := { s.act with inputs := modAt s.act.inputs i (fun y => { y with faultAt := none }) } } else s
  | none => s

/-- The marker after an uncommanded CLOSED (R279). -/
def State.uncommandedMarker (s : State) : State :=
  if s.act.uncommanded then
    let s := { s with act := { s.act with uncommanded := false } }
    if s.levelClosed && s.noEventOnA then s.startOpening .reopen else s
  else s

/-! ## Registers -/

/-- A write of ACT_SENSE (R278): in STANDBY only. -/
def State.writeActSense (s : State) (v : Word) : State :=
  if s.mode = .standby then { s with act := { s.act with sense := word (fld v 3 0) } }
  else s.post0 0x0003 [0xd008#32]

/-- A changed PAR bit takes effect once no pulse is in progress, due or waiting on its pair (R269). -/
def State.parChange (s : State) (pair : Nat) : State :=
  let quiet := !s.switchBusy pair && (s.act.waits.getD pair none).isNone && (s.ch (2 * pair)).due.isNone && (s.ch (2 * pair + 1)).due.isNone
  if !quiet then s
  else if pair = 0 then { s with act := { s.act with par01 := bit s.act.ctrl 8 } }
  else { s with act := { s.act with par23 := bit s.act.ctrl 9 } }

/-! ## Commands -/

/-- SENSE_FAULT_END (R279). -/
def execSenseFaultEnd (dt : Nat) (input : Fin 2) (s : State) : Host.Outcome State Fault Refusal :=
  .next (s.run dt (fun s => s.senseFaultEnd input.val))

/-- PULSE_START (R273). -/
def execPulseStart (dt : Nat) (channel : Fin 4) (s : State) : Host.Outcome State Fault Refusal :=
  .next (s.run dt (fun s => s.pulseStart channel.val))

/-- KICK_END (R268). -/
def execKickEnd (dt : Nat) (channel : Fin 4) (s : State) : Host.Outcome State Fault Refusal :=
  .next (s.run dt (fun s => s.kickEnd channel.val))

/-- ACT_PULSE_DONE (R270). -/
def execActPulseDone (dt : Nat) (channel : Fin 4) (s : State) : Host.Outcome State Fault Refusal :=
  .next (s.run dt (fun s => s.pulseDone channel.val))

/-- OVERCURRENT (R277). -/
def execOvercurrent (dt : Nat) (channel : Fin 4) (s : State) : Host.Outcome State Fault Refusal :=
  .next (s.run dt (fun s => s.channelFault channel.val 1))

/-- OPEN_LOAD (R277). -/
def execOpenLoad (dt : Nat) (channel : Fin 4) (s : State) : Host.Outcome State Fault Refusal :=
  .next (s.run dt (fun s => s.channelFault channel.val 2))

/-- HOST_PULSE_DROP (R273). -/
def execHostPulseDrop (dt : Nat) (switch : Fin 2) (s : State) : Host.Outcome State Fault Refusal :=
  .next (s.run dt (fun s => s.hostPulseDrop switch.val))

/-- COOLING_TICK (R274). -/
def execCoolingTick (dt : Nat) (s : State) : Host.Outcome State Fault Refusal :=
  .next (s.run dt (fun s => s.coolingTick))

/-- ACT_SUPPLY (R276). -/
def execActSupply (dt : Nat) (vact vboost : Byte) (s : State) : Host.Outcome State Fault Refusal :=
  .next (s.run dt (fun s => s.actSupply vact.toNat vboost.toNat))

/-- ACT_SENSE: a write of ACT_SENSE (R278). -/
def execActSense (dt : Nat) (value : Word) (s : State) : Host.Outcome State Fault Refusal :=
  .next (s.run dt (fun s => s.writeActSense value))

/-- PAR_CHANGE (R269). -/
def execParChange (dt : Nat) (pair : Fin 2) (s : State) : Host.Outcome State Fault Refusal :=
  .next (s.run dt (fun s => s.parChange pair.val))

end Sys2Proof.Machine
end

