-- ==== Sys2Proof/Machine/Columns.lean ====
section
/-! DEFINITION. Column channels, spares and self-trimming (03): interpolation of the coefficients, the referencing of
the spares, the calibration cycles and the substitutions. -/
namespace Sys2Proof.Machine

/-! ## Coefficients -/

/-- The bracketing set point a and the weight w of R67 at temperature `t` for the set-point temperatures `ts`. -/
def bracket (t : Int) (ts : List Int) : Nat × Int :=
  let t0 := ts.getD 0 0
  let t1 := ts.getD 1 0
  let t2 := ts.getD 2 0
  let a := if t < t1 then 0 else 1
  let w := if t ≤ t0 then 0 else if t2 ≤ t then 65536
    else divF ((t - ts.getD a 0) * 65536) (ts.getD (a + 1) 0 - ts.getD a 0)
  (a, w)

/-- A quantity of three set points interpolated at `t` (R67). -/
def interp (t : Int) (ts v : List Int) : Int :=
  let (a, w) := bracket t ts
  v.getD a 0 + rnd (w * (v.getD (a + 1) 0 - v.getD a 0)) 16

/-- An amount added to both set points that bracket `t` (R68, R74). -/
def addPoints (t : Int) (ts v : List Int) (d : Int) : List Int :=
  let a := (bracket t ts).1
  modAt (modAt v a (· + d)) (a + 1) (· + d)

/-- ginv of R84. -/
def ginv (g : Int) : Int := divF (2 ^ 36 + shr (2 ^ 18 + g) 1) (2 ^ 18 + g)

/-- A raw value corrected with offset `o` and gain error `g`, in 1/16 DN (DEDUCED, notes/assumptions/20: the stage-1
formula of R85 with two more fraction bits). -/
def trueLevel (x o g : Int) : Int := rnd ((x * 16 - o) * ginv g) 18

/-- T_0 to T_2 of the bundle of a snapshot (R66). -/
def State.tSet (s : State) (st : Settings) : List Int :=
  match s.bundleOf st with
  | some b => b.cch.tSet
  | none => Bundle.factory.cch.tSet

/-- A group. -/
def State.grp (s : State) (g : Nat) : Group := SMap.get Group.zero s.cch.groups g

/-- A group replaced. -/
def State.setGrp (s : State) (g : Nat) (x : Group) : State :=
  { s with cch := { s.cch with groups := SMap.put Group.zero s.cch.groups g x } }

/-- Channel `j` of group `g`. -/
def State.chan (s : State) (g j : Nat) : Chan := SMap.get Chan.zero s.cch.chans (32 * g + j)

/-- A channel replaced. -/
def State.setChan (s : State) (g j : Nat) (x : Chan) : State :=
  { s with cch := { s.cch with chans := SMap.put Chan.zero s.cch.chans (32 * g + j) x } }

/-- The spare of a group stands in for a column: permanently, or in a cycle after the first Evaluate (R63, R71). -/
def Group.standsIn (x : Group) : Option Nat :=
  match x.perm with
  | some j => some j
  | none =>
    match x.cycle with
    | some c => if c.phase = .measure || c.phase = .evaluate then none else some c.chan
    | none => none

/-- The coefficients of the channel that serves a physical column (R63). -/
def State.servedTrim (s : State) (q : Nat) : Trim :=
  let x := s.grp (q / 32)
  if x.standsIn = some (q % 32) then x.spare else (s.chan (q / 32) (q % 32)).trim

/-- The raw value that takes a column's place in the row on the plate link (R62, R63). -/
def State.columnSample (s : State) (prim spare : Array (BitVec 16)) (q : Nat) : BitVec 16 :=
  if (s.grp (q / 32)).standsIn = some (q % 32) then spare.getD (q / 32) (Config.missingSample q)
  else prim.getD q (Config.missingSample q)

/-! ## Statistics of a cycle (R72) -/

/-- A raw value is clipped below 64 or above 65471. -/
def clippedRaw (x : Nat) : Bool := x < 64 || 65471 < x

/-- One pair offered to a cycle. -/
def Cycle.offer (c : Cycle) (x y : Nat) : Cycle :=
  if clippedRaw x || clippedRaw y then { c with clipped := c.clipped + 1 } else { c with pairs := (x, y) :: c.pairs }

/-- The two pairs of one row for every group that measures or verifies. -/
def State.collect (s : State) (x : SlotSamples) : State :=
  let go (g : Nat × Group) : Nat × Group :=
    match g.2.cycle with
    | some c =>
      if c.phase = .measure || c.phase = .verify then
        let q := 32 * g.1 + c.chan
        let rd (a : Array (BitVec 16)) (i : Nat) : Nat := (a.getD i (Config.missingSample i)).toNat
        let c := (c.offer (rd x.spareS g.1) (rd x.s q)).offer (rd x.spareL g.1) (rd x.l q)
        (g.1, { g.2 with cycle := some c })
      else g
    | none => g
  { s with cch := { s.cch with groups := s.cch.groups.map go } }

/-- Nearest integer to `a / b`, a tie towards +∞, for b > 0. -/
def nearest (a b : Int) : Int := divF (2 * a + b) (2 * b)

/-- The least-squares fit of one accepted frame (R72): D = e_o + e_g · X over X the spare's true level and
D = 16·y − X, in 1/16 DN; e_g is fitted where the accepted x have a standard deviation of at least 1000 DN, else the
gain stands at `gamma`. The deviation is that of the accepted x as a whole, with divisor n (DESIGN CHOICE,
notes/assumptions/91). -/
def fitFrame (pairs : List (Nat × Nat)) (spareO spareG gamma temp : Int) : Fit :=
  let xs : List (Int × Nat) := pairs.map (fun p => (trueLevel p.1 spareO spareG, p.2))
  let n : Int := pairs.length
  let sr : Int := (pairs.map (fun p => (p.1 : Int))).sum
  let srr : Int := (pairs.map (fun p => (p.1 : Int) * p.1)).sum
  let sx : Int := (xs.map (fun p => p.1)).sum
  let sxx : Int := (xs.map (fun p => p.1 * p.1)).sum
  let sd : Int := (xs.map (fun p => 16 * (p.2 : Int) - p.1)).sum
  let sxd : Int := (xs.map (fun p => p.1 * (16 * (p.2 : Int) - p.1))).sum
  let den : Int := n * sxx - sx * sx
  if 1000000 * n * n ≤ n * srr - sr * sr && decide (0 < den) then
    ⟨nearest (sxx * sd - sx * sxd) den, some (nearest ((n * sxd - sx * sd) * 2 ^ 18) den), temp, xs⟩
  else ⟨nearest (sd * 2 ^ 18 - gamma * sx) (n * 2 ^ 18), none, temp, xs⟩

/-- The frame just read is closed for a cycle that measures or verifies: accepted when at most 61 of its pairs are
clipped (R72); a frame with no temperature or no pair is none (DEDUCED, notes/assumptions/20). -/
def State.closeFrame (s : State) (g : Nat) (c : Cycle) (f : Option Frame) : Cycle :=
  let c' := { c with clipped := 0, pairs := [] }
  if c.phase = .measure || c.phase = .verify then
    match f with
    | some f =>
      match f.ptemp with
      | some t =>
        if c.clipped ≤ 61 && !c.pairs.isEmpty then
          let ts := s.tSet f.st
          let sp := (s.grp g).spare
          let gm := interp t ts (s.chan g c.chan).trim.g
          { c' with fits := fitFrame c.pairs (interp t ts sp.o) (interp t ts sp.g) gm t :: c.fits }
        else c'
      | none => c'
    | none => c'
  else c'

/-- The spread of a list of values. -/
def spread (xs : List Int) : Int := xs.foldl max (xs.headD 0) - xs.foldl min (xs.headD 0)

/-- R73: the phase is rejected. -/
def Cycle.rejected (c : Cycle) : Bool :=
  decide (4 * c.fits.length < 3 * c.m) || decide (64 < spread (c.fits.map Fit.eo)) ||
    decide (64 < spread (c.fits.map Fit.temp)) || c.expChange

/-- |e| above 1.5 %, in 2^−18. -/
def gainOver (e : Int) : Bool := decide (15 * 2 ^ 18 < 1000 * e.natAbs)

/-! ## Results of a cycle -/

/-- A failure (R76): counted, posted, a run of rejections ended (notes/assumptions/84), and where FAIL_LIMIT is reached the spare takes the channel's place (R78), or
cannot (R79). -/
def State.channelFailed (s : State) (g : Nat) (c : Cycle) : State :=
  let x := s.chan g c.chan
  let n := satInc x.trim.fails 1 15
  let s := s.setChan g c.chan { x with trim := { x.trim with fails := n }, rejects := 0 }
  let s := { s with cch := { s.cch with failures := satInc s.cch.failures 1 65535 } }
  let s := s.postP .A 0x0031 [word g, word c.chan]
  if c.failLimit ≠ 0 && decide (c.failLimit ≤ n) then
    let y := s.grp g
    if y.perm.isSome || y.failed then (s.postP .A 0x0033 [word g, word c.chan]).warnBit 4
    else (s.setGrp g { y with permNext := some c.chan }).postP .A 0x0032 [word g, word c.chan]
  else s

/-- A cycle ends; the group goes on with the next channel (R70). -/
def State.endCycle (s : State) (g : Nat) (c : Cycle) (rejected : Bool) : State :=
  let y := s.grp g
  let run := if rejected then y.rejRun + 1 else 0
  let starved := decide (run = 32)
  let s := s.setGrp g { y with cycle := none, nextChan := (c.chan + 1) % 32, rejRun := if starved then 0 else run }
  if starved then s.postP .A 0x0035 [word g] else s

/-- A rejection counted against a channel (R73). Every 8th in a row makes the group skip the channel's next turn; a count that
stands at 255 makes it skip no further turn (DESIGN CHOICE, notes/assumptions/90). -/
def State.countRejection (s : State) (g : Nat) (c : Cycle) (frame : Nat) : State :=
  let x := s.chan g c.chan
  let n := satInc x.rejects 1 255
  s.setChan g c.chan { x with rejects := n, rejAt := some frame, skipTurn := decide (n % 8 = 0) || x.skipTurn }

/-- A rejected phase counted in CCH_FAULTS. -/
def State.rejectedPhase (s : State) : State :=
  { s with cch := { s.cch with rejections := satInc s.cch.rejections 1 65535 } }

/-- The commit of a cycle (R74, R75): set points moved, codes taken, failures cleared; the record is due (R81). -/
def State.commitCycle (s : State) (g : Nat) (c : Cycle) (ts : List Int) : State :=
  let x := s.chan g c.chan
  let t := x.trim
  let t := { t with o := addPoints c.tm ts t.o c.dO, g := addPoints c.tm ts t.g c.dG, fails := 0 }
  let t := if c.changed then { t with ofs := c.newOfs, gain := c.newGain } else t
  let s := s.setChan g c.chan { x with trim := t, rejects := 0 }
  let s := { s with cch := { s.cch with commits := s.cch.commits + 1 },
                    sup := { s.sup with trimDue := s.sup.trimDue.erase g ++ [g] } }
  s.endCycle g c false

/-- The averages of a phase (R74, R75): e_o, and e_g, which is the coefficient at T_m where no frame was fitted for gain. -/
def State.phaseMeans (s : State) (g : Nat) (c : Cycle) (ts : List Int) (tm : Int) : Int × Int :=
  let egs := c.fits.filterMap Fit.eg
  (avg (c.fits.map Fit.eo), if egs.isEmpty then interp tm ts (s.chan g c.chan).trim.g else avg egs)

/-- The measured errors shown in CCH_CH_ERR. -/
def State.showErr (s : State) (g j : Nat) (eo eg : Int) : State :=
  s.setChan g j { s.chan g j with ofsErr := eo, gainErr := eg }

/-- The first Evaluate (R74), with T_m of the Measure frames. -/
def State.evaluate1 (s : State) (g : Nat) (c : Cycle) (ts : List Int) : State :=
  let tm := avg (c.fits.map Fit.temp)
  let (eo, eg) := s.phaseMeans g c ts tm
  let s := s.showErr g c.chan eo eg
  let t := (s.chan g c.chan).trim
  let ro := eo - interp tm ts t.o
  let rg := eg - interp tm ts t.g
  let no := t.ofs - rnd ro 5
  let ng := t.gain - rnd rg 5
  let bad := decide (7680 < eo.natAbs) || gainOver eg || decide (no < -256) || decide (255 < no) || decide (ng < -128) ||
    decide (127 < ng)
  if bad then (s.channelFailed g c).endCycle g c false
  else
    let same := decide (rnd ro 5 = 0) && decide (rnd rg 5 = 0)
    let c := { c with phase := .evaluate, left := 1, changed := !same, newOfs := no, newGain := ng, tm := tm, dO := ro, dG := rg,
                      pass := true, fits := [] }
    s.setGrp g { s.grp g with cycle := some c }

/-- Q of R75: the root of the mean square of d_f, the primary corrected with its coefficients including Δ less the
spare's true level. -/
def qualityOf (c : Cycle) (ts o g : List Int) : Nat :=
  let d (f : Fit) : Int :=
    let oo := interp f.temp ts o
    let gg := interp f.temp ts g
    avg (f.pairs.map (fun p => trueLevel p.2 oo gg - p.1))
  min (isqrt (avg (c.fits.map (fun f => d f * d f))).toNat) 65535

/-- The second Evaluate (R75), at T_m of the first. -/
def State.evaluate2 (s : State) (g : Nat) (c : Cycle) (ts : List Int) : State :=
  let tm := c.tm
  let (eo, eg) := s.phaseMeans g c ts tm
  let s := s.showErr g c.chan eo eg
  let t := (s.chan g c.chan).trim
  let d0 := eo - interp tm ts t.o
  let dg := eg - interp tm ts t.g
  let q := qualityOf c ts (addPoints tm ts t.o d0) (addPoints tm ts t.g dg)
  let ok := decide (d0.natAbs ≤ 64) && decide (10000 * dg.natAbs ≤ 5 * 2 ^ 18) && decide (q ≤ c.qMax)
  let s := s.setChan g c.chan { s.chan g c.chan with quality := q }
  let c' := { c with phase := .evaluate2, left := 1, dO := d0, dG := dg, pass := ok, fits := [] }
  let s := s.setGrp g { s.grp g with cycle := some c' }
  if ok then s else s.channelFailed g c

/-- A phase of Measure or Verify that ends at a marker (R73 to R75). -/
def State.phaseEnd (s : State) (g : Nat) (c : Cycle) (ts : List Int) (frame : Nat) : State :=
  if c.phase = .measure then
    if c.rejected then ((s.rejectedPhase).countRejection g c frame).endCycle g c true else s.evaluate1 g c ts
  else if c.rejected then
    let s := s.rejectedPhase
    if c.repeated then
      (s.setGrp g { s.grp g with cycle := some { c with phase := .evaluate2, left := 1, pass := false, fits := [] } }).channelFailed g c
    else s.setGrp g { s.grp g with cycle := some { c with left := c.m, fits := [], expChange := false, repeated := true } }
  else s.evaluate2 g c ts

/-! ## The markers -/

/-- Calibration cycles may run under a snapshot (R70). -/
def calibrates (st : Settings) : Bool :=
  bit st.cchCtrl 0 && (st.mode = .imaging || st.mode = .relay || st.mode = .calibration)

/-- The next channel of a group (R70, R73): the one requested, else the next in turn that is not skipped. -/
def State.nextChannel (s : State) (g : Nat) (frame : Nat) : Option Nat :=
  let y := s.grp g
  match y.request with
  | some j => some j
  | none =>
    let ok (j : Nat) : Bool :=
      let x := s.chan g j
      let recent := match x.rejAt with
        | some a => decide ((frame + 2 ^ 32 - a) % 2 ^ 32 ≤ 64)
        | none => false
      !x.skipTurn && !recent
    ((List.range 32).map (fun i => (y.nextChan + i) % 32)).find? ok

/-- Channels passed over because of 8 rejections have had their turn (R73). -/
def State.clearTurns (s : State) (g upTo : Nat) : State :=
  let y := s.grp g
  let n := (upTo + 32 - y.nextChan) % 32
  ((List.range n).map (fun i => (y.nextChan + i) % 32)).foldl
    (fun s j => s.setChan g j { s.chan g j with skipTurn := false }) s

/-- A cycle connects its tap in the frame that starts (R71, R77). -/
def State.startCycle (s : State) (g : Nat) (st : Settings) (frame : Nat) (expChange : Bool) : State :=
  match s.nextChannel g frame with
  | none => s.clearTurns g (((s.grp g).nextChan + 31) % 32)
  | some j =>
    let s := if (s.grp g).request.isSome then s else s.clearTurns g j
    let m := 4 * (fld st.cchCtrl 19 16 + 1)
    let c : Cycle :=
      { chan := j, phase := .measure, left := m, m := m, s := max 2 (fld st.cchCtrl 11 8),
        qMax := fld st.cchLimits 15 0, failLimit := fld st.cchCtrl 27 24, fits := [], clipped := 0, pairs := [],
        expChange := expChange, repeated := false, changed := false, newOfs := 0, newGain := 0, tm := 0, dO := 0, dG := 0,
        pass := false }
    s.setGrp g { s.grp g with cycle := some c, request := none }

/-- A cycle in a later phase runs as a restore: steep with the committed codes while the spare stands in (R75, R77). -/
def Cycle.toRestore (c : Cycle) : Cycle :=
  if c.phase = .restore then c else { c with phase := .restore, left := c.s, pairs := [], fits := [] }

/-- One step of a cycle at the marker of a frame, after the frame before it has been closed. A restore that a change of mode began
completes no cycle (R70, R77): the group goes on with the same channel. -/
def State.stepCycle (s : State) (g : Nat) (c : Cycle) (ts : List Int) (frame : Nat) : State :=
  let put (s : State) (c : Cycle) : State := s.setGrp g { s.grp g with cycle := some c }
  let c := { c with left := c.left - 1 }
  if 0 < c.left then put s c
  else match c.phase with
    | .measure => s.phaseEnd g c ts frame
    | .verify => s.phaseEnd g c ts frame
    | .evaluate => if c.changed then put s { c with phase := .steep, left := c.s } else s.commitCycle g c ts
    | .steep => put s { c with phase := .verify, left := c.m, fits := [], pairs := [], clipped := 0, expChange := false }
    | .evaluate2 => if c.pass then s.commitCycle g c ts else put s c.toRestore
    | .restore => if c.pass then s.setGrp g { s.grp g with cycle := none } else s.endCycle g c false

/-- The actions of one group at the marker of a frame (R69 to R79): the frame just read, `prev`, is closed under the coefficients
it had (R72), then the spare's new coefficients, a permanent substitution, the cycle. `expChange` says that the exposure changes
with this frame. The phase that a cleared AUTO_EN or a change of mode finds is that of the frame just read (DEDUCED,
notes/assumptions/89). -/
def State.groupMarker (s : State) (st : Settings) (prev : Option Frame) (frame : Nat) (expChange : Bool) (g : Nat) : State :=
  let y := s.grp g
  let y := { y with cycle := y.cycle.map (fun c => s.closeFrame g c prev) }
  let y := match y.spareNext with
    | some t => { y with spare := t, spareNext := none }
    | none => y
  let due := y.permNext.isSome || (y.failed && decide (y.ovr = 8))
  let y := if y.failed then { y with ovr := 9 } else y
  let y := match y.permNext with
    | some j => { y with perm := some j, permNext := none, cycle := none }
    | none => if y.failed then { y with cycle := none } else y
  let s := s.setGrp g y
  let s := if due then { s with sup := { s.sup with trimDue := s.sup.trimDue.erase g ++ [g] } } else s
  let ts := s.tSet st
  match y.cycle with
  | none =>
    if calibrates st && y.perm.isNone && !y.failed then s.startCycle g st frame expChange else s
  | some c =>
    let early := decide (c.phase = .measure) || decide (c.phase = .evaluate)
    let left := !(st.mode = .imaging || st.mode = .relay || st.mode = .calibration)
    if early && (left || !bit st.cchCtrl 0) then s.setGrp g { s.grp g with cycle := none }
    else if left && decide (c.phase ≠ .restore) then s.setGrp g { s.grp g with cycle := some c.toRestore }
    else
      let s := s.stepCycle g c ts frame
      match (s.grp g).cycle with
      | some c =>
        if expChange && (c.phase = .measure || c.phase = .verify) then
          s.setGrp g { s.grp g with cycle := some { c with expChange := true } }
        else s
      | none => s

/-- The error of every spare in the frame just read, from its blanking slots (R68): how the two levels give offset and
gain error is free (Config.spareError). -/
def State.spareErrors (s : State) (f : Frame) : State :=
  match f.ptemp, s.bundleOf f.st with
  | some t, some b =>
    let ts := b.cch.tSet
    let tS : Int := fld f.st.exposure 20 8
    let k : Int := 2 ^ (fld f.st.exposure 5 4 + 1)
    let err (g : Nat) : Option (Int × Int × Int) :=
      let pts := SMap.get [] b.cch.spares g
      let iv (h : Nat × Nat × Nat → Nat) : Int := interp t ts (pts.map (fun p => ((h p : Nat) : Int)))
      let ped := iv (fun p => p.1)
      let one (x : Nat × SlotSamples) : List (Int × Int) :=
        let sl := if x.1 < 1560 then iv (fun p => p.2.1) else iv (fun p => p.2.2)
        let rd (a : Array (BitVec 16)) : Int := (a.getD g (Config.missingSample g)).toNat
        [(ped + rnd (sl * tS) 8, rd x.2.spareS), (ped + rnd (sl * k * tS) 8, rd x.2.spareL)]
      if s.plt.spareSeen.isEmpty then none
      else
        let e := Config.spareError (s.plt.spareSeen.flatMap one)
        some (e.1, e.2, t)
    (List.range 65).foldl (fun s g => s.setGrp g { s.grp g with
      pendErr := err g
      lastErr := match err g with | some (a, b, _) => (a, b) | none => (s.grp g).lastErr }) s
  | _, _ => s

/-- What a marker does to the column channels: the spares' errors of the frame just read, then every group. -/
def State.columnsMarker (s : State) (st : Settings) (prev : Option Frame) (frame : Nat) (expChange : Bool) : State :=
  let s := match prev with
    | some f => s.spareErrors f
    | none => s
  let s := { s with plt := { s.plt with spareSeen := [] } }
  (List.range 65).foldl (fun s g => s.groupMarker st prev frame expChange g) s

/-- What a latch point takes of the spares (R68, R69, R80): the filtered set points for the next frame, and failure
after 8 frames above 480 DN or 1.5 %. A frame that gives no result leaves the run of those frames as it stands (DESIGN CHOICE,
notes/assumptions/92). A substitution that was to begin at the next marker is not made by a spare that fails
before it (R79; notes/assumptions/84). -/
def State.spareLatch (s : State) (st : Settings) (g : Nat) : State :=
  let y := s.grp g
  match y.pendErr with
  | none => s
  | some (eo, eg, t) =>
    let ts := s.tSet st
    let t' := { y.spare with o := addPoints t ts y.spare.o (rnd (eo - interp t ts y.spare.o) 6),
                             g := addPoints t ts y.spare.g (rnd (eg - interp t ts y.spare.g) 6) }
    let ovr := if y.failed then y.ovr else if 7680 < eo.natAbs || gainOver eg then y.ovr + 1 else 0
    let y := { y with pendErr := none, spareNext := some t', ovr := ovr }
    if ovr = 8 && !y.failed then
      let s := ((s.setGrp g { y with failed := true, permNext := none }).postP .A 0x0030 [word g]).warnBit 3
      match y.perm, y.permNext with
      | some j, _ => (s.postP .A 0x0034 [word (32 * g + j)]).fault 2
      | none, some j => (s.postP .A 0x0033 [word g, word j]).warnBit 4
      | none, none => s
    else s.setGrp g y

/-- The column channels at the latch point of pipeline A. -/
def State.columnsLatch (s : State) (st : Settings) : State := (List.range 65).foldl (fun s g => s.spareLatch st g) s

/-- A write of CCH_CTRL: accepted at the write for cycles that connect their tap later (R77). -/
def State.writeCchCtrl (s : State) (v : Word) : State :=
  s.accept .A (fun st => { st with cchCtrl := word (v.toNat % 2 + at_ (fld v 11 8) 8 + at_ (fld v 19 16) 16 + at_ (fld v 27 24) 24) })

/-- A write of CCH_REQ (R70). -/
def State.writeCchReq (s : State) (v : Word) : State :=
  if !bit v 31 then s
  else if s.mode ≠ .calibration || decide (64 < fld v 22 16) then s.post0 0x0036 []
  else
    let g := fld v 22 16
    s.setGrp g { s.grp g with request := some (fld v 4 0) }

/-- CCH_CTRL: a write of CCH_CTRL (R77). -/
def execCchCtrl (dt : Nat) (value : Word) (s : State) : Host.Outcome State Fault Refusal :=
  .next (s.run dt (fun s => s.writeCchCtrl value))

/-- CCH_REQ: a write of CCH_REQ (R70). -/
def execCchReq (dt : Nat) (value : Word) (s : State) : Host.Outcome State Fault Refusal :=
  .next (s.run dt (fun s => s.writeCchReq value))

end Sys2Proof.Machine
end

