-- ==== Sys2Proof/Machine/Dram.lean ====
section
/-! DEFINITION. Frame memory (10): refresh debt and forced batches, the real-time ports, refresh-rate polls and drift
tracking, the row-activation guard, blocks and their errors, the write queue, the scrubber, the BND halves. The bytes that the
module's own work puts into the silos are held by what they mean, not here (DESIGN CHOICE, notes/assumptions/105). -/
namespace Sys2Proof.Machine

/-- A memory channel. -/
def State.dram (s : State) (c : Nat) : DramCh := s.drm.chans.getD c DramCh.zero

/-- A memory channel changed. -/
def State.modDram (s : State) (c : Nat) (f : DramCh → DramCh) : State :=
  { s with drm := { s.drm with chans := modAt s.drm.chans c f } }

/-- The silo table of R232: base, size in MiB, GRAIN code. -/
def siloTable : List (Nat × Nat × Nat) :=
  [(0x00000000, 64, 4), (0x04000000, 224, 8), (0x12000000, 72, 0), (0x16800000, 72, 0), (0x1b000000, 448, 0),
   (0x37000000, 448, 0), (0x53000000, 18, 0), (0x54200000, 18, 0), (0x55400000, 12, 4), (0x56000000, 12, 4),
   (0x56c00000, 48, 4), (0x59c00000, 48, 4), (0x5cc00000, 144, 0), (0x65c00000, 144, 0), (0x6ec00000, 1812, 8)]

/-- Channel, bank, row and page column of a data address in silo `i` (R234). -/
def siloAddress (i a : Nat) : Nat × Nat × Nat × Nat :=
  let (base, _, gc) := siloTable.getD i (0, 0, 0)
  let g := 2 ^ (gc + 8)
  let o := a - base
  let l := base / 4 + o / (4 * g) * g + o % g
  (o / g % 4, (l / 2 ^ 11 % 8) ^^^ (l / 2 ^ 14 % 8), l / 2 ^ 14, l % 2048)

/-- The silo of a data address (R232). -/
def siloOf (a : Nat) : Option Nat :=
  siloTable.findIdx? (fun x => decide (x.1 ≤ a) && decide (a < x.1 + x.2.1 * 2 ^ 20))

/-- The channel that a data address lies in (R234). -/
def channelOf (a : Nat) : Nat := (siloAddress ((siloOf a).getD 0) a).1

/-- Row of the check bytes of data row `x`, and the byte offset there for page column `c` (R230). -/
def checkBytes (x c : Nat) : Nat × Nat := (57344 + x / 8, x % 8 * 256 + c / 64 * 8)

/-! ## Refresh (R240 to R243) -/

/-- The refresh debt at which a forced batch starts (R240); at the quadrupled rate nothing is postponed (R241). -/
def debtLimit (rate : Nat) : Nat := if rate = 0 then 8 else if rate = 1 then 4 else 1

/-- A forced batch starts. -/
def State.startBatch (s : State) (c : Nat) : State :=
  if (s.dram c).forced then s
  else
    let s := s.modDram c (fun d => { d with forced := true, batch := 0 })
    { s with drm := { s.drm with forced := satInc s.drm.forced 1 65535 } }

/-- PLATE clocks of a refresh interval: 3.904 µs, 1.952 µs or 0.976 µs (R240, R241). -/
def refreshPeriod (rate : Nat) : Nat := if rate = 0 then 488 else if rate = 1 then 244 else 122

/-- PLATE clocks of an all-bank refresh, 280 ns (R240). -/
def refreshTime : Nat := 35

/-- A forced batch starts where the debt has reached its limit. -/
def State.batchDue (s : State) (c : Nat) : State :=
  if debtLimit (s.dram c).rate ≤ (s.dram c).debt then s.startBatch c else s

/-- A refresh interval of a channel ends (R240): intervals count from the end of training; in self-refresh none is owed. -/
def State.refreshInterval (s : State) (c : Nat) : State :=
  let d := s.dram c
  let t := d.refAt + refreshPeriod d.rate
  if s.drm.selfRefresh || decide (s.drm.init < 2) || decide (s.now < t) then s
  else (s.modDram c (fun d => { d with debt := d.debt + 1, refAt := t })).batchDue c

/-- The sizes and thresholds of the FIFOs (R237): a port is in panic while its read FIFO is below 16 KiB or its write FIFO above
16 KiB, RT1 while its read FIFO is below 8 KiB. -/
def inPanic (port : Nat) (fill : Nat × Nat) : Bool :=
  if port = 1 then decide (fill.1 < 8192) else decide (fill.1 < 16384) || decide (16384 < fill.2)

/-- An underrun (R239): a read FIFO that runs empty, a write FIFO of 32 KiB that overflows. -/
def runsDry (port : Nat) (fill : Nat × Nat) : Bool := fill.1 = 0 || (port ≠ 1 && decide (32768 < fill.2))

/-- The fills of a real-time port. -/
def State.fill (s : State) (port : Nat) : Nat × Nat := s.drm.fills.getD port (32768, 0)

/-- Some real-time port is in panic. -/
def State.panicking (s : State) : Bool := (List.range 3).any (fun p => inPanic p (s.fill p))

/-- The frame whose rows a front pipe is processing drops by an underrun of its port (R239). -/
def Pl.underrun (x : Pl) : Pl :=
  if x.reading || x.link.isSome then x.modFrame x.lastNo (fun f => { f with underrun := true }) else x

/-- The fills of a port change (R237 to R239): an entry into panic and an underrun are counted, RT_UNDERRUN posted. -/
def State.fillSeen (s : State) (port : Nat) (fill : Nat × Nat) : State :=
  let old := s.fill port
  let s : State := { s with drm := { s.drm with fills := s.drm.fills.set port fill,
                                                panics := if inPanic port fill && !inPanic port old then satInc s.drm.panics 1 0xffffffff else s.drm.panics } }
  if runsDry port fill && !runsDry port old then
    let s := ({ s with drm := { s.drm with under := modAt s.drm.under port (fun n => satInc n 1 255) } }).post0 0x00d2 [word port]
    if port = 0 then s.modPl .A Pl.underrun else if port = 2 then s.modPl .B Pl.underrun else s.cutCarried none 1
  else s

/-- What a real-time port passed through. -/
def State.portSeen (s : State) (port : Nat) (o : PortObs) : State := o.fills.foldl (fun s f => s.fillSeen port f) s

/-- What several ports passed through. -/
def State.portsSeen (s : State) (l : List (Fin 3 × PortObs)) : State := l.foldl (fun s x => s.portSeen x.1.val x.2) s

/-- An underrun is among the fills of a port. -/
def portDry (o : PortObs) (port : Nat) : Bool := o.fills.any (runsDry port)

/-- One all-bank refresh completes (R240): only with a debt, only in a forced batch while a port is in panic, and one at a time. -/
def State.allBankRefresh (s : State) (c : Nat) : State :=
  let d := s.dram c
  if d.debt = 0 || (s.panicking && !d.forced) || decide (s.now < d.refDone + refreshTime) then s
  else
    let debt := d.debt - 1
    let n := if d.forced then d.batch + 1 else 0
    let s := s.modDram c (fun d => { d with debt := debt, batch := if debt = 0 then 0 else n, forced := d.forced && decide (0 < debt),
                                            refDone := s.now })
    { s with drm := { s.drm with maxBatch := max s.drm.maxBatch (min n 15) } }

/-- Every owed refresh issued before self-refresh, those of a forced batch counted in it (R240). -/
def State.drainRefresh (s : State) : State :=
  let longest := (s.drm.chans.map (fun d => if d.forced then min (d.batch + d.debt) 15 else 0)).foldl max s.drm.maxBatch
  { s with drm := { s.drm with selfRefresh := true, maxBatch := longest,
                               chans := s.drm.chans.map (fun d => { d with debt := 0, forced := false, batch := 0 }) } }

/-- The refresh-rate status of a channel (R241): REFRESH_RATE at a change; a debt that has reached the limit of the rate in force is
worked off at once; at 4× the module makes no claim any more. -/
def State.applyRate (s : State) (c rate : Nat) : State :=
  let old := (s.dram c).rate
  let s := s.modDram c (fun d => { d with rate := rate })
  let s := if old = rate then s else s.post0 0x00d4 [word c, word rate]
  let s := s.batchDue c
  if rate = 2 then s.fault 8 else s

/-- The status read at reset (R241). -/
def State.resetRates (s : State) (l : List (Fin 3)) : State :=
  (l.zipIdx.filter (fun x => decide (x.2 < 4))).foldl (fun s x => s.applyRate x.2 x.1.val) s

/-- A refresh-rate poll of a channel (R241) with the drift the interval oscillator shows (R248). -/
def State.statusPoll (s : State) (c rate : Nat) (drift : Int) : State :=
  let s := s.applyRate c rate
  let step := (s.dram c).drift + drift.sign
  if 32 < step.natAbs then
    (s.post0 0x00d5 [word c, word (code (s.dram c).drift 8)]).fault 9
  else s.modDram c (fun d => { d with drift := step })

/-! ## Row-activation guard (R244, R245) -/

/-- The count of a row in the activation table of its bank. -/
def DramCh.count (d : DramCh) (bank row : Nat) : Nat :=
  ((d.table.find? (fun e => e.1 = bank && e.2.1 = row)).map (fun e => e.2.2)).getD 0

/-- A row counted, which keeps no row under its count: of the 288 entries of a full bank the least gives way to it, with its count
(DESIGN CHOICE, notes/assumptions/106). -/
def DramCh.counted (d : DramCh) (bank row n : Nat) : DramCh :=
  let mine := d.table.filter (fun e => e.1 = bank)
  if mine.any (fun e => e.2.1 = row) then
    { d with table := d.table.map (fun e => if e.1 = bank && e.2.1 = row then (bank, row, e.2.2 + n) else e) }
  else if mine.length < 288 then { d with table := d.table ++ [(bank, row, n)] }
  else
    let least := mine.foldl (fun (b : Nat × Nat × Nat) e => if e.2.2 < b.2.2 then e else b) (mine.headD (bank, row, 0))
    { d with table := d.table.map (fun e => if e = least then (bank, row, least.2.2 + n) else e) }

/-- A bank in which other masters are limited takes one activation per µs of them (R245). -/
def DramCh.allowed (d : DramCh) (bank n now : Nat) (realTime : Bool) : Nat :=
  match d.limited.find? (fun x => x.1 = bank) with
  | some (_, t) => if realTime then n else if t + us ≤ now then min n 1 else 0
  | none => n

/-- A row is activated (R244): a count that reaches 4096 calls for a guard action. -/
def State.activate (s : State) (c bank row n : Nat) (realTime : Bool) : State :=
  let d := s.dram c
  let n := d.allowed bank n s.now realTime
  if n = 0 then s
  else
    let e := d.counted bank row n
    let due := if decide (e.count bank row < 4096) || d.due.any (fun x => x.1 = bank && x.2.1 = row) then d.due
      else d.due ++ [(bank, row, realTime)]
    let limited := if realTime then d.limited else d.limited.map (fun x => if x.1 = bank then (bank, s.now) else x)
    s.modDram c (fun _ => { e with due := due, limited := limited })

/-- The rows beside a row, one at the edge of its bank (R244). -/
def adjacentRows (row : Nat) : List Nat := (if 0 < row then [row - 1] else []) ++ (if row < 65535 then [row + 1] else [])

/-- A guard action in its turn, 8 µs after the last on the channel at the earliest (R244, R245): the adjacent rows refreshed, the count
of the row 0, the action counted, the master limited where it is not a real-time port, reported once per window and bank. The
controller may act earlier than a count requires. -/
def State.guardAction (s : State) (c bank row : Nat) (realTime : Bool) : State :=
  let d := s.dram c
  let early := match d.guardTime with
    | some t => decide (s.now < t + 8 * us)
    | none => false
  if early then s
  else
    let first := !d.reported.contains bank
    let rt := ((d.due.find? (fun x => x.1 = bank && x.2.1 = row)).map (fun x => x.2.2)).getD realTime
    let s := s.modDram c (fun d =>
      { d with guardTime := some s.now, reported := if first then bank :: d.reported else d.reported,
               limited := if rt || d.limited.any (fun x => x.1 = bank) then d.limited else (bank, s.now) :: d.limited,
               table := d.table.filter (fun e => !(e.1 = bank && e.2.1 = row)),
               due := d.due.filter (fun x => !(x.1 = bank && x.2.1 = row)) })
    let s := { s with drm := { s.drm with hits := satInc s.drm.hits 1 65535, lastCh := c, lastBank := bank, lastRow := row,
                                          guarded := adjacentRows row } }
    if first then s.post0 0x00d3 [word c, word bank, word row] else s

/-- The activation tables cleared (R244), at windows of 64 ms from the end of initialisation. -/
def State.clearActivation (s : State) : State :=
  match s.drm.readyAt with
  | some t =>
    if t + (s.drm.windows + 1) * (64 * ms) ≤ s.now then
      { s with drm := { s.drm with windows := s.drm.windows + 1,
                                   chans := s.drm.chans.map (fun d => { d with reported := [], limited := [], table := [] }) } }
    else s
  | none => s

/-! ## Errors (R249, R250) -/

/-- A corrected error: counted, its address kept, DRAM_CE at most once per second for each channel. -/
def State.corrected (s : State) (c : Nat) (a : Word) : State :=
  let d := s.dram c
  let n := d.ceNew + 1
  let due := match d.ceTime with
    | some t => decide (t + sec ≤ s.now)
    | none => true
  let s := s.modDram c (fun d =>
    { d with ce := satInc d.ce 1 0xffffffff, errAddr := word (a.toNat / 64 * 64), ceNew := if due then 0 else n,
             ceTime := if due then some s.now else d.ceTime })
  if due then s.post0 0x00d0 [word c, word n, a] else s

/-- What an uncorrectable error does by its silo (R250): FW, BND and SOT are a dangerous fault; in GLN the accumulator
is cleared. -/
def State.poisoned (s : State) (silo : Nat) : State :=
  if silo = 0 || (4 ≤ silo && silo ≤ 7) then s.fault 10
  else if silo = 8 then s.modPl .A Pl.clearGlean
  else if silo = 9 then s.modPl .B Pl.clearGlean
  else s

/-- An uncorrectable error: counted, posted, handled by its silo. -/
def State.uncorrectable (s : State) (c silo : Nat) (a : Word) : State :=
  let s := s.modDram c (fun d => { d with ue := satInc d.ue 1 0xffffffff, errAddr := word (a.toNat / 64 * 64 + 1) })
  (s.post0 0x00d1 [word c, word silo, a]).poisoned silo

/-! ## Blocks, the write queue and reads (R230, R231, R235, R236) -/

/-- The number of a master. -/
def masterNum : Master → Nat
  | .rt0 => 0 | .rt1 => 1 | .rt2 => 2 | .other => 3

/-- A block. -/
def State.block (s : State) (b : Nat) : MBlock := SMap.get MBlock.zero s.drm.blocks b

/-- A block written. -/
def State.putBlock (s : State) (b : Nat) (x : MBlock) : State :=
  { s with drm := { s.drm with blocks := SMap.put MBlock.zero s.drm.blocks b x } }

/-- The turned bits of a code word of a block. -/
def MBlock.errors (x : MBlock) (w : Nat) : Nat := (x.flips.filter (fun k => k / 72 = w)).length

/-- The SECDED code corrects one bit of each word (R230) and finds two; more than two, of which the code promises nothing, count as
found (PRESUMED, notes/assumptions/105). -/
def MBlock.lost (x : MBlock) : Bool := (List.range 8).any (fun w => decide (2 ≤ x.errors w))

/-- A bit of a block turned over. -/
def MBlock.flip (x : MBlock) (k : Nat) : MBlock :=
  if x.flips.contains k then { x with flips := x.flips.filter (· ≠ k) }
  else { x with flips := x.flips.filter (· < k) ++ k :: x.flips.filter (k < ·) }

/-- A block read from the array: its errors are counted and posted (R249, R250); whether it is lost. -/
def State.arrayRead (s : State) (b : Nat) : State × Bool :=
  let x := s.block b
  let a := word (64 * b)
  let silo := (siloOf (64 * b)).getD 0
  if x.lost then (s.uncorrectable (channelOf (64 * b)) silo a, true)
  else if x.flips.isEmpty then (s, false)
  else (s.corrected (channelOf (64 * b)) a, false)

/-- A queued write is of a whole block. -/
def QWrite.whole (q : QWrite) : Bool := q.off = 0 && q.data.length = 64

/-- Bytes put into a block from an offset on. -/
def patch (old : List Byte) (off : Nat) (data : List Byte) : List Byte :=
  (old.take off ++ data ++ old.drop (off + data.length)).take 64

/-- A write reaches the array (R231): that of a whole block replaces it and clears its errors; a smaller one is a read-modify-write,
which leaves an uncorrectable error where it was. The silo of an uncorrectable error met on the way. -/
def State.arrayWrite (s : State) (q : QWrite) : State × List Nat :=
  if q.whole then (s.putBlock q.block ⟨q.data, []⟩, [])
  else
    let r := s.arrayRead q.block
    let x := r.1.block q.block
    let new : MBlock := ⟨patch x.data q.off q.data, if r.2 then x.flips else []⟩
    (r.1.putBlock q.block new, if r.2 then (siloOf (64 * q.block)).toList else [])

/-- Queued writes reach the array in their order. -/
def State.arrayWrites (s : State) (l : List QWrite) : State × List Nat :=
  l.foldl (fun r q => let n := r.1.arrayWrite q; (n.1, r.2 ++ n.2)) (s, [])

/-- Write-queue entries and transaction slots reserved for a master (R236). -/
def reservedWrites : Master → Nat
  | .rt0 => 256 | .rt2 => 256 | .rt1 => 0 | .other => 0
def reservedSlots : Master → Nat
  | .other => 0
  | _ => 1024

/-- What the masters take beyond what is reserved for them. -/
def sharedUse (used reserved : Master → Nat) : Nat :=
  ([Master.rt0, .rt1, .rt2, .other].map (fun m => used m - reserved m)).sum

/-- Entries and slots that a master takes. -/
def State.writesOf (s : State) (m : Master) : Nat := (s.drm.queue.filter (fun q => q.master = m)).length
def State.readsOf (s : State) (m : Master) : Nat := (s.drm.reads.filter (fun r => r.1 = m)).length

/-- There is room for a write of a master: an entry reserved for it, or one of the 512 others (R236). -/
def State.writeRoom (s : State) (m : Master) : Bool :=
  decide (s.writesOf m < reservedWrites m) || decide (sharedUse s.writesOf reservedWrites < 512)

/-- There is a transaction slot for a read of a master: one reserved for it, or one of the 5120 others (R236; DEDUCED,
notes/assumptions/105). -/
def State.readRoom (s : State) (m : Master) : Bool :=
  decide (s.readsOf m < reservedSlots m) || decide (sharedUse s.readsOf reservedSlots < 5120)

/-- The master of a stalled access. -/
def opMaster : MemOp → Option Master
  | .read m _ => some m
  | .write m _ _ => some m
  | _ => none

/-- An access waits for room (R236). -/
def State.stall (s : State) (op : MemOp) : State := { s with drm := { s.drm with stalled := s.drm.stalled ++ [op] } }

/-- A read or write is issued; without room, or behind an access of its master that waits, it waits, and no other master with it. -/
def State.issue (s : State) (op : MemOp) : State :=
  match op with
  | .read m a =>
    if s.drm.stalled.any (fun x => opMaster x = some m) || !s.readRoom m then s.stall op
    else { s with drm := { s.drm with reads := s.drm.reads ++ [(m, a.toNat / 64)] } }
  | .write m a data =>
    if s.drm.stalled.any (fun x => opMaster x = some m) || !s.writeRoom m then s.stall op
    else { s with drm := { s.drm with queue := s.drm.queue ++ [⟨m, a.toNat / 64, a.toNat % 64, data⟩] } }
  | _ => s

/-- The accesses that waited are issued where there is room now. -/
def State.reissue (s : State) : State :=
  s.drm.stalled.foldl State.issue { s with drm := { s.drm with stalled := [] } }

/-- The oldest queued write reaches the array. -/
def State.drainWrite (s : State) : State × List Nat :=
  match s.drm.queue with
  | [] => (s, [])
  | q :: rest =>
    let r := { s with drm := { s.drm with queue := rest } }.arrayWrite q
    (r.1.reissue, r.2)

/-- The queued writes of a block that are not all of it are merged before a read of the block goes on (R231). -/
def State.mergeBlock (s : State) (b : Nat) : State × List Nat :=
  let mine := s.drm.queue.filter (fun q => q.block = b)
  if mine.all QWrite.whole then (s, [])
  else
    let r := { s with drm := { s.drm with queue := s.drm.queue.filter (fun q => q.block ≠ b) } }.arrayWrites mine
    (r.1.reissue, r.2)

/-- A read of a block is answered: from the queue where a write of it waits there (R235), else from the array. -/
def State.answerRead (s : State) (m : Master) (b : Nat) : State × List Nat :=
  let give (s : State) (d : List Byte) (bad : Bool) : State :=
    { s with drm := { s.drm with answers := s.drm.answers.set (masterNum m) (some ⟨b, d, bad⟩) } }
  let (s, l) := s.mergeBlock b
  match (s.drm.queue.filter (fun q => q.block = b)).getLast? with
  | some q => (give s q.data false, l)
  | none =>
    let r := s.arrayRead b
    (give r.1 (r.1.block b).data r.2, if r.2 then l ++ (siloOf (64 * b)).toList else l)

/-- An uncorrectable error that the NL egress lanes read in PRD_A or PRD_B cuts what they transfer (R250, R294); the silos of the
others. -/
def State.egressRead (s : State) (m : Master) (silos : List Nat) : State × List Nat :=
  if m = .rt1 then
    let s := if silos.contains 12 then s.cutCarried (some .A) 2 else s
    let s := if silos.contains 13 then s.cutCarried (some .B) 2 else s
    (s, silos.filter (fun i => i ≠ 12 && i ≠ 13))
  else (s, silos)

/-- The oldest read in flight of a master is answered, and its slot is free. -/
def State.serveRead (s : State) (m : Master) : State × List Nat :=
  match s.drm.reads.find? (fun r => r.1 = m) with
  | none => (s, [])
  | some r =>
    let a := { s with drm := { s.drm with reads := s.drm.reads.erase r } }.reissue.answerRead m r.2
    a.1.egressRead m a.2

/-- What the controller meets: the state, and the silos of the uncorrectable errors that were read. -/
def State.memOp (s : State) (op : MemOp) : State × List Nat :=
  match op with
  | .flip a bits => (s.putBlock (a.toNat / 64) (bits.foldl MBlock.flip (s.block (a.toNat / 64))), [])
  | .read .. => (s.issue op, [])
  | .write .. => (s.issue op, [])
  | .serve m => s.serveRead m
  | .drain => s.drainWrite
  | .activate c bank row m n => (s.activate c.val bank.val row.toNat n (m ≠ .other), [])

/-- The accesses of a command. -/
def State.memRun (s : State) (o : MemObs) : State × List Nat :=
  o.ops.foldl (fun r op => let n := r.1.memOp op; (n.1, r.2 ++ n.2)) (s, [])

/-- An uncorrectable error read in one of these silos drops the frame whose work issued the read, with reason CHECK (R250). -/
def failsFrame (silos : List Nat) : Bool := silos.any (fun i => i = 2 || i = 3 || (10 ≤ i && i ≤ 14))

/-! ## The scrubber (R251) -/

/-- The half of a BND silo that a data address lies in. -/
def bndHalf (base a : Nat) : Nat := (a - base) / (224 * 2 ^ 20)

/-- A block that the scrubber reads: of FW, of a BND half in use, of the SOT buffers. -/
def State.scrubbed (s : State) (b : Nat) : Bool :=
  match siloOf (64 * b) with
  | some 0 => true
  | some 4 => (s.drm.bnd.getD (bndHalf 0x1b000000 (64 * b)) none).isSome
  | some 5 => (s.drm.bnd.getD (2 + bndHalf 0x37000000 (64 * b)) none).isSome
  | some i => i = 6 || i = 7
  | none => false

/-- A block scrubbed: a corrected error is written back. -/
def State.scrubBlock (s : State) (b : Nat) : State :=
  let r := s.arrayRead b
  if r.2 then r.1 else r.1.putBlock b { r.1.block b with flips := [] }

/-- A pass of the scrubber, over the blocks in which a bit has turned over among those it reads. -/
def State.scrub (s : State) : State :=
  ((s.drm.blocks.filter (fun e => !e.2.flips.isEmpty && s.scrubbed e.1)).map Prod.fst).foldl State.scrubBlock s

/-! ## BND halves (R232, R233) -/

/-- The bundles of a pipeline that something still uses. -/
def Pl.bundles (x : Pl) : List Nat :=
  x.snap.bundle :: x.pend.bundle :: (x.prior.toList.map (fun q => q.2.bundle) ++ (x.gone.toList ++ x.frames).map (fun f => f.st.bundle))

/-- A bundle copied into the BND half that does not hold the one in force (R233). -/
def State.placeBundle (s : State) (p : Pipe) (k : Nat) : State :=
  let base := 2 * pipeNum p
  let half := if s.drm.bnd.getD base none = some (s.pl p).inForce.bundle then base + 1 else base
  { s with drm := { s.drm with bnd := s.drm.bnd.set half (some k) } }

/-- BND halves that nothing uses any more are free. -/
def State.freeHalves (s : State) : State :=
  let keep (i : Nat) (k : Nat) : Bool := (if i < 2 then s.pa.bundles else s.pb.bundles).contains k
  { s with drm := { s.drm with bnd := s.drm.bnd.zipIdx.map (fun x => x.1.filter (keep x.2)) } }

/-! ## Training (R246, R247) -/

/-- Every data block holds zero data with valid check bytes: READY (R246). -/
def State.dramReady (s : State) : State :=
  if s.drm.init = 2 then
    { s with drm := { s.drm with init := 3, blocks := [], queue := [], readyAt := some s.now, windows := 0 } }
  else s

/-- Training ends, and initialisation begins; or a channel has failed all three attempts, which is a dangerous fault. A further
DRAM_TRAINING tells the end of initialisation. -/
def State.dramTraining (s : State) (failed : BitVec 4) : State :=
  if s.drm.init = 1 then
    let s := { s with drm := { s.drm with
      chans := s.drm.chans.zipIdx.map (fun d => { d.1 with trained := !failed.getLsbD d.2, refAt := s.now }),
      init := if failed = 0#4 then 2 else 1 } }
    if failed = 0#4 then s else { s with sup := { s.sup with failStep := 4 } }.fault 11
  else s.dramReady

/-! ## Commands -/

/-- REFRESH_INTERVAL (R240). -/
def execRefreshInterval (dt : Nat) (channel : Fin 4) (ports : List (Fin 3 × PortObs)) (s : State) :
    Host.Outcome State Fault Refusal :=
  .next (s.run dt (fun s => (s.portsSeen ports).refreshInterval channel.val))

/-- ALL_BANK_REFRESH (R240). -/
def execAllBankRefresh (dt : Nat) (channel : Fin 4) (ports : List (Fin 3 × PortObs)) (s : State) :
    Host.Outcome State Fault Refusal :=
  .next (s.run dt (fun s => (s.portsSeen ports).allBankRefresh channel.val))

/-- REFRESH_STATUS_POLL (R241, R248). -/
def execRefreshStatusPoll (dt : Nat) (channel : Fin 4) (status : Fin 3) (drift : Int) (s : State) :
    Host.Outcome State Fault Refusal :=
  .next (s.run dt (fun s => s.statusPoll channel.val status.val drift))

/-- GUARD_ACTION (R244, R245). -/
def execGuardAction (dt : Nat) (channel : Fin 4) (bank : Fin 8) (row : BitVec 16) (realTime : Bool) (s : State) :
    Host.Outcome State Fault Refusal :=
  .next (s.run dt (fun s => s.guardAction channel.val bank.val row.toNat realTime))

/-- ACTIVATION_WINDOW (R244). -/
def execActivationWindow (dt : Nat) (s : State) : Host.Outcome State Fault Refusal :=
  .next (s.run dt (fun s => s.clearActivation))

/-- SCRUBBER_PASS (R251). -/
def execScrubberPass (dt : Nat) (obs : MemObs) (s : State) : Host.Outcome State Fault Refusal :=
  .next (s.run dt (fun s => (s.memRun obs).1.scrub))

/-- DRAM_TRAINING (R246, R247). -/
def execDramTraining (dt : Nat) (failed : BitVec 4) (s : State) : Host.Outcome State Fault Refusal :=
  .next (s.run dt (fun s => s.dramTraining failed))

end Sys2Proof.Machine
end

