-- ==== Sys2Proof/Machine/FrontPipe.lean ====
section
/-! DEFINITION. The front pipes (04): channel correction, linearisation, HDR merge, blind-column drift, NUC, scene
offset, winnow, and the reference check, row by row. -/
namespace Sys2Proof.Machine

/-! ## The stages on one pixel -/

/-- Stage 1 (R85). -/
def channelCorrect (x : Nat) (o g : Int) : Nat := (satU (rnd ((16 * (x : Int) - o) * ginv g) 20) 18).toNat

/-- Stage 2 (R87): BASE and DELTA of the table's segment. -/
def linearise (t : Array Word) (y : Nat) : Int :=
  let e := t.getD (y / 256) 0#32
  satU ((fld e 19 0 : Int) + rnd ((fld e 31 20 : Int) * ((y % 256 : Nat) : Int)) 8) 20

/-- Stage 3 (R88, R89): the merged value of raw S and L with their linearised values. -/
def hdrMerge (f : Fpc) (kappa : Nat) (rawS rawL : Nat) (lamS lamL : Int) : HPix :=
  let hL := lamL * 2 ^ (4 - kappa)
  let hS := lamS * 16
  let lo : Int := f.blLo
  let hi : Int := f.blHi
  let (h, blend, sonly) :=
    if decide (f.lSat ≤ rawL) || decide (hi ≤ lamL) then (hS, false, true)
    else if lamL ≤ lo then (hL, false, false)
    else
      let wb := divF ((lamL - lo) * 256) (hi - lo)
      (hL + rnd (wb * (hS - hL)) 8, decide (0 < wb), false)
  let h' := satU h 24
  ⟨h', blend, sonly, decide (f.sSat ≤ rawS) || decide (h' ≠ h)⟩

/-- The constants of a frame (R84, R93). -/
structure FpConst where
  kappa : Nat
  sigma : Int
  rho : Int
  setA : Nat
  w : Int
  deriving DecidableEq, Repr

/-- The bracketing NUC sets and weight (R93). -/
def nucBracket (f : Fpc) (t : Int) : Nat × Int :=
  let n := f.nSets
  let tau (i : Nat) : Int := f.tau.getD i 0
  if t ≤ tau 0 then (0, 0)
  else if tau (n - 1) ≤ t then (n - 2, 65536)
  else
    let a := (List.range (n - 1)).foldl (fun a j => if tau j ≤ t then j else a) 0
    (a, divF ((t - tau a) * 65536) (tau (a + 1) - tau a))

/-- The constants at exposure `e` and temperature `t` (R84). -/
def fpConst (f : Fpc) (e : Word) (t : Int) : FpConst :=
  let ts : Int := fld e 20 8
  let tr : Int := f.tRef
  let (a, w) := nucBracket f t
  ⟨fld e 5 4 + 1, divF (ts * 2 ^ 14) tr, divF (tr * 2 ^ 16) ts, a, w⟩

/-- An entry of a NUC set (R92). -/
def NucSet.at (n : NucSet) (i : Nat) : BitVec 64 := SMap.get n.dflt n.ents i

/-- OFS, GAIN and DCLASS of an entry. -/
def nucFields (e : BitVec 64) : Int × Int × Nat := (e.toNat / 2 ^ 40, e.toNat / 2 ^ 24 % 2 ^ 16, e.toNat / 2 ^ 20 % 16)

/-- The class of a DCLASS code (R96). -/
def dclass (d : Nat) : Nat := if d = 0 then 0 else if d = 2 then 2 else 1

/-- The more severe of two classes (R96). -/
def severe (a b : Nat) : Nat := if a = 1 || b = 1 then 1 else if a = 2 || b = 2 then 2 else 0

/-- O_T, G_T and the class of the pixel at index `i` (R93, R96). -/
def nucAt (b : Bundle) (c : FpConst) (i : Nat) : Int × Int × Nat :=
  let zero : NucSet := ⟨0#64, []⟩
  let (oa, ga, ca) := nucFields ((b.nuc.getD c.setA zero).at i)
  if c.w = 0 then (oa, ga, dclass ca)
  else
    let (ob, gb, cb) := nucFields ((b.nuc.getD (c.setA + 1) zero).at i)
    if c.w = 65536 then (ob, gb, dclass cb)
    else (oa + rnd (c.w * (ob - oa)) 16, ga + rnd (c.w * (gb - ga)) 16, severe (dclass ca) (dclass cb))

/-- O_eff (R93). -/
def offsetEff (c : FpConst) (oT : Int) : Int := rnd (oT * c.sigma) 14

/-- A value and whether its saturation to 24 bits changed it. -/
def sat24 (x : Int) : Int × Bool := (satS x 24, decide (satS x 24 ≠ x))

/-! ## Whole rows -/

/-- Stages 1 to 3 on a physical row. -/
def mergeRow (b : Bundle) (kappa : Nat) (coef : Nat → Int × Int) (sRow lRow : Array (BitVec 16)) : Array HPix :=
  (Array.range 2080).map (fun q =>
    let (o, g) := coef q
    let rs := (sRow.getD q (Config.missingSample q)).toNat
    let rl := (lRow.getD q (Config.missingSample q)).toNat
    hdrMerge b.fpc kappa rs rl (linearise b.linS (channelCorrect rs o g)) (linearise b.linL (channelCorrect rl o g)))

/-- h of a pixel of a row. -/
def hAt (row : Array HPix) (q : Nat) : Int := (row.getD q ⟨0, false, false, false⟩).h

/-- δ of a blind pixel (R90). -/
def delta (b : Bundle) (c : FpConst) (row : Array HPix) (p q : Nat) : Int :=
  hAt row q - offsetEff c (nucAt b c (2080 * p + q)).1

/-- A value in its place in an ascending list. -/
def insertSorted (x : Int) : List Int → List Int
  | [] => [x]
  | y :: ys => if x ≤ y then x :: y :: ys else y :: insertSorted x ys

/-- A list sorted ascending. -/
def sortInts (xs : List Int) : List Int := xs.foldr insertSorted []

/-- D(p) of R90 from the 32 blind columns. -/
def rowDrift (b : Bundle) (c : FpConst) (row : Array HPix) (p : Nat) : Int :=
  let qs := List.range 16 ++ (List.range 16).map (· + 2064)
  rnd (((sortInts (qs.map (delta b c row p))).drop 8).take 16).sum 4

/-- Σ δ of a blind row over columns 16–2063 (R91). -/
def blindSum (b : Bundle) (c : FpConst) (row : Array HPix) (p : Nat) : Int :=
  ((List.range 2048).map (fun i => delta b c row p (i + 16))).sum

/-- Stages 4 to 6 on the active pixels of physical row p (R90, R94, R95), with the row drift `df` and the row of the
scene-offset table. -/
def correctRow (b : Bundle) (c : FpConst) (bypass : Nat) (row : Array HPix) (p : Nat) (df : Int) (so : Array Int) : Array UPix :=
  (Array.range 2048).map (fun i =>
    let x := row.getD (i + 16) ⟨0, false, false, false⟩
    let (oT, gT, cls) := nucAt b c (2080 * p + i + 16)
    let h' := if bypass % 2 = 1 then x.h else x.h - df
    let (v, c1) := if bypass / 2 % 2 = 1 then (h', false) else sat24 (rnd ((h' - offsetEff c oT) * gT * c.rho) 30)
    let (u, c2) := if bypass / 4 % 2 = 1 then (v, false) else sat24 (v + so.getD i 0)
    ⟨u, cls, x.blend, x.sonly, x.clip || c1 || c2⟩)

/-- The silo word (R99). -/
def siloWord (r c : Nat) (dynamic cluster replaced : Bool) (p : UPix) (value : Int) : Word :=
  let v := if value < -(2 ^ 23) || 2 ^ 23 - 1 < value then (Config.siloWide value).toNat else code value 24
  word (at_ ((r + c) % 2) 30 + flag dynamic 29 + flag cluster 28 + flag p.clip 27 + flag p.sonly 26 + flag p.blend 25 +
    flag replaced 24 + v)

/-- What winnow did to a pixel. -/
inductive Win where
  | kept | static | dynamic | cluster
  deriving DecidableEq, Repr

/-- The replacement value of R98; none where no neighbour is valid. -/
def replacement (diag pair : List Int) : Option Int :=
  match diag.length, pair.length with
  | 4, _ => some (rnd diag.sum 2)
  | 3, _ => some (rnd (diag.sum * 21845) 16)
  | 2, _ => some (rnd diag.sum 1)
  | 1, _ => some diag.sum
  | _, 2 => some (rnd pair.sum 1)
  | _, 1 => some pair.sum
  | _, _ => none

/-- Winnow on one pixel (R96 to R98). -/
def winnowPix (f : Fpc) (dynEn : Bool) (up mid dn : Option (Array UPix)) (c : Nat) : Win × Int :=
  let get (row : Option (Array UPix)) (i : Int) : Option UPix :=
    if i < 0 || 2047 < i then none else row.bind (fun a => a[i.toNat]?)
  let x := ((get mid c).getD ⟨0, 0, false, false, false⟩)
  let ok (y : Option UPix) : Option Int := y.bind (fun z => if z.cls = 1 then none else some z.u)
  let ci : Int := c
  let diag := [get up (ci - 1), get up (ci + 1), get dn (ci - 1), get dn (ci + 1)].filterMap ok
  let pair := [get mid (ci - 2), get mid (ci + 2)].filterMap ok
  let nb := diag ++ pair
  let th : Int := if x.cls = 2 then f.thUnst else f.thDyn
  let test := dynEn && decide (x.cls ≠ 1) && decide (4 ≤ nb.length) &&
    (decide (nb.foldl max (nb.headD 0) + th < x.u) || decide (x.u < nb.foldl min (nb.headD 0) - th))
  if x.cls = 1 || test then
    match replacement diag pair with
    | some v => (if x.cls = 1 then .static else .dynamic, v)
    | none => (.cluster, x.u)
  else (.kept, x.u)

/-- Winnow on an active row (R96 to R100): its silo words and the counts of static, dynamic and cluster pixels. -/
def winnowRow (f : Fpc) (fp : Word) (r : Nat) (up mid dn : Option (Array UPix)) : Array Word × Nat × Nat × Nat :=
  let bypass := bit fp 7
  let res := (Array.range 2048).map (fun c =>
    let x := (mid.getD #[]).getD c ⟨0, 0, false, false, false⟩
    let (k, v) := if bypass then (Win.kept, x.u) else winnowPix f (bit fp 0) up mid dn c
    (k, siloWord r c (k = .dynamic) (k = .cluster) (k = .static || k = .dynamic) x v))
  let n (k : Win) : Nat := res.foldl (fun n x => if x.1 = k then n + 1 else n) 0
  (res.map Prod.snd, n .static, n .dynamic, n .cluster)

/-! ## Reference check (R101, R102) -/

/-- H_exp of a level for a frame, scaled for a host level (R101). -/
def refExpected (b : Bundle) (c : FpConst) (st : Settings) (level : Nat) : Int :=
  let r (j : Nat) : Int := (b.fpc.rExp.getD (8 * level + j) 0 : Nat)
  let base :=
    if c.w = 0 then r c.setA else if c.w = 65536 then r (c.setA + 1)
    else r c.setA + rnd (c.w * (r (c.setA + 1) - r c.setA)) 16
  let h := rnd (base * c.sigma) 14
  match st.hostLvl with
  | some ls =>
    let l : Int := (b.cch.lvl.getD level 0 : Nat)
    divF (2 * h * (ls.getD level 0 : Nat) + l) (2 * l)
  | none => h

/-- The check of reference row `i` of frame `n`; test 5 of R320 offsets the expected value of row 0 by REF_COL_TOL + 1. -/
def refCheck (b : Bundle) (c : FpConst) (st : Settings) (n i : Nat) (test5 : Bool) (row : Array HPix) : RefRow :=
  let level := (i + n) % 8
  let e := refExpected b c st level + (if test5 && i = 0 then (b.fpc.refColTol : Int) + 1 else 0)
  let tol : Int := b.fpc.refColTol
  let dev (q : Nat) : Nat := (hAt row q - e).natAbs
  let bad := (List.range 2080).filter (fun q => decide (tol < (dev q : Int)))
  let sum := ((List.range 2080).map (hAt row)).sum
  let meanFail := decide (2080 * (b.fpc.refMeanTol : Int) < (sum - 2080 * e).natAbs)
  { level := level, pass := bad.isEmpty && !meanFail, failCols := bad.length, firstCol := bad.headD 0,
    colFail := !bad.isEmpty, meanFail := meanFail, hExp := e, meanDev := divF (2 * (sum - 2080 * e) + 2080) 4160,
    maxDev := (List.range 2080).foldl (fun m q => max m (dev q)) 0 }

/-! ## One row through the pipe -/

/-- The coefficients of a column in a frame (R63, R67; R86 for pipeline B). -/
def State.coefficient (s : State) (p : Pipe) (f : Frame) (t : Int) (q : Nat) : Int × Int :=
  match p with
  | .A =>
    let ts := s.tSet f.st
    let k := s.servedTrim q
    (interp t ts k.o, interp t ts k.g)
  | .B => ((f.coeff.getD #[]).getD q (0, 0))

/-- The scene-offset row of a frame (R95). -/
def Pl.soRow (x : Pl) (f : Frame) (r : Nat) : Array Int :=
  match x.tables.find? (fun t => t.seq = f.soSeq) with
  | some t => SMap.get #[] t.table r
  | none => #[]

/-- The frame number of the plate that read a frame: the companion's for pipeline B (R33, R43; DEDUCED,
notes/assumptions/21). -/
def plateFrame (f : Frame) : Nat :=
  match f.comp with
  | some h => h.frame.toNat
  | none => f.n

/-- Rows 4 to 1539 leave stages 4 to 6 when the row after them has arrived (R90). -/
def advanceCorrect (b : Bundle) (c : FpConst) (x : Pl) (f : Frame) (p : Nat) (dNew : Int) : FpBuf :=
  let k := f.buf
  if 5 ≤ p && p ≤ 1540 then
    let dPrev := if p = 5 then k.dCur else k.dPrev
    let df := rnd (dPrev + 2 * k.dCur + dNew) 2
    let u := correctRow b c (fld f.st.fp 7 4) k.hRow (p - 1) df (x.soRow f (p - 5))
    { k with uPrev := k.uCur, uCur := u, dPrev := k.dCur, dCur := dNew }
  else { k with dCur := dNew }

/-- One physical row of a frame through the front pipe (R83, R90, R98): stages 1 to 3 on row p, stages 4 to 6 on row
p − 1, winnow on row p − 2. -/
def State.pipeRow (s : State) (pp : Pipe) (f : Frame) (t : Int) (p : Nat) (sRow lRow : Array (BitVec 16)) : Frame :=
  let b := (s.bundleOf f.st).getD Bundle.factory
  let x := s.pl pp
  let c := fpConst b.fpc f.st.exposure t
  let h := mergeRow b c.kappa (s.coefficient pp f t) sRow lRow
  let f := { f with set_a := c.setA, w := c.w.toNat }
  let f := if p < 4 then
      let sum := f.bdSum + blindSum b c h p
      { f with bdSum := sum, bd := if p = 3 then rnd sum 13 else f.bd }
    else f
  let f := if 1540 ≤ p then { f with refs := f.refs ++ [refCheck b c f.st (plateFrame f) (p - 1540) f.test5 h] } else f
  let dNew := if 4 ≤ p && p < 1540 then rowDrift b c h p else f.buf.dCur
  let k := advanceCorrect b c x f p dNew
  let f := if 6 ≤ p && p ≤ 1541 then
      let r := p - 6
      let up := if r = 0 then none else some f.buf.uPrev
      let (up, mid, dn) := if p = 1541 then (some f.buf.uPrev, f.buf.uCur, none) else (up, f.buf.uCur, some k.uCur)
      let (words, ns, nd, nc) := winnowRow b.fpc f.st.fp r up (some mid) dn
      { f with silo := SMap.insert f.silo r words, nStatic := f.nStatic + ns, nDynamic := f.nDynamic + nd, nCluster := f.nCluster + nc }
    else f
  { f with buf := { k with hRow := h } }

/-- FP_REFCHK of a finished check (R102). -/
def refWord (refs : List RefRow) : Word :=
  match refs.findIdx? (fun r => !r.pass) with
  | none => 0#32
  | some i =>
    let r := refs.getD i ⟨0, true, 0, 0, false, false, 0, 0, 0⟩
    word (2 ^ 31 + flag r.meanFail 30 + flag r.colFail 29 + at_ r.firstCol 16 + i)

/-- VALUE of a silo or plane word, s24. -/
def value24 (w : Word) : Int := sgn (fld w 23 0) 24

/-- A frame number from `a` to `b`. -/
def inRange (n a b : Nat) : Bool := decide ((n + 2 ^ 32 - a) % 2 ^ 32 ≤ (b + 2 ^ 32 - a) % 2 ^ 32)

/-- An averaging frame that has left the front pipe (R123 CHECK, R125): its words are summed, and pixels with REPLACED,
CLUSTER or CLIP noted. -/
def State.takeFrame (s : State) (p : Pipe) (f : Frame) (refFail : Bool) : State :=
  match (s.pl p).event with
  | none => s
  | some e =>
    match e.win with
    | none => s
    | some (_, a0, a1) =>
      if !inRange f.n a0 a1 || e.fail.isSome || e.formed then s
      else if refFail then s.failEvent p 3
      else
        let rows := List.range 1536
        let old (r : Nat) : Array Int := SMap.get #[] e.sums r
        let oldBad (r : Nat) : Array Bool := SMap.get #[] e.bad r
        let w (r c : Nat) : Word := (SMap.get #[] f.silo r).getD c 0#32
        let sums := rows.map (fun r => (r, (Array.range 2048).map (fun (c : Nat) => (old r).getD c 0 + value24 (w r c))))
        let bad := rows.map (fun r => (r, (Array.range 2048).map (fun (c : Nat) =>
          (oldBad r).getD c false || bit (w r c) 24 || bit (w r c) 27 || bit (w r c) 28)))
        s.modPl p (fun x => { x with event := some { e with sums := sums, bad := bad, taken := e.taken + 1 } })

/-- The front pipe has finished a frame: registers, the check's result, WINNOW_EXCESS (R100, R102). -/
def State.endFrontPipe (s : State) (p : Pipe) (f : Frame) : State :=
  let fail := f.refs.any (fun r => !r.pass)
  let s := s.modPl p (fun x =>
    { x with regs := { x.regs with
               setA := f.set_a, w := f.w, ptemp := f.ptemp.getD 0, frame := f.n, refchk := refWord f.refs, refFrame := f.n,
               refCnt := if fail then satInc x.regs.refCnt 1 0xffffffff else x.regs.refCnt,
               winnow := word (at_ (min f.nDynamic 65535) 16 + min f.nStatic 65535), blind := f.bd, soGen := f.soSeq } })
  let excess := decide ((s.pl p).regs.limit < f.nDynamic)
  let s := s.modPl p (fun x => x.modFrame f.n (fun g => { g with refFail := fail, excess := excess }))
  let s := if f.test5 then s.injected 5 fail else s
  let s := s.takeFrame p f fail
  if excess then s.postF p f 0x0013 [word f.nDynamic] else s

/-- The row on the link enters the front pipe of the frame that began last (R83); a companion's frame that is fully received
passes it also after the companion is lost (R35). A row out of turn leaves the frame
incomplete (DESIGN CHOICE, notes/assumptions/21); a frame without a plate temperature has no constants and is not
processed (R24); in RELAY no front pipe runs. -/
def State.frontRow (s : State) (p : Pipe) (o : PortObs) : State :=
  match (s.pl p).link, (s.pl p).frame? (s.pl p).lastNo with
  | some (row, a, b), some f =>
    if f.st.mode = .relay then s.modPl p (fun x => { x with link := none })
    else
      let port := match p with | .A => 0 | .B => 2
      let dry := portDry o port || runsDry port (s.fill port)
      let s := (s.portSeen port o).modPl p (fun x => { x with link := none })
      let f := { f with underrun := f.underrun || dry, incomplete := f.incomplete || decide (row ≠ f.nextRow), nextRow := row + 1,
                        raw := SMap.insert f.raw row (a, b) }
      let f := match f.ptemp with
        | some t => s.pipeRow p f t row a b
        | none => f
      let s := s.modPl p (fun x => x.modFrame f.n (fun _ => f))
      if row = 1547 && f.ptemp.isSome && !f.incomplete then s.endFrontPipe p f else s
  | _, _ => s

/-- FRONT_PIPE_ROW (R83). -/
def execFrontPipeRow (dt : Nat) (pipe : Pipe) (obs : PortObs) (s : State) : Host.Outcome State Fault Refusal :=
  .next (s.run dt (fun s => s.frontRow pipe obs))

/-- A write of FP_CTRL (R106): accepted at the write; BYPASS outside CALIBRATION and DIAGNOSTIC is stored as 0. -/
def State.writeFpCtrl (s : State) (p : Pipe) (v : Word) : State :=
  let ok := s.mode = .calibration || s.mode = .diagnostic
  let by_ := if ok then fld v 7 4 else 0
  let s := s.accept p (fun st => { st with fp := word (v.toNat % 2 + at_ by_ 4) })
  if !ok && fld v 7 4 ≠ 0 then s.post 0x0014 0xffffffff#32 0 (pipeNum p) [] else s

/-- FP_CTRL (R106). -/
def execFpCtrl (dt : Nat) (pipe : Pipe) (value : Word) (s : State) : Host.Outcome State Fault Refusal :=
  .next (s.run dt (fun s => s.writeFpCtrl pipe value))

end Sys2Proof.Machine
end

