-- ==== Sys2Proof/Machine/Pcv.lean ====
section
/-! DEFINITION. The precision converters (11): passes, conversions, urgent slots, temperatures and the monitors that the
safety supervisor judges (R60, R391). -/
namespace Sys2Proof.Machine

/-! ## Entries -/

/-- PLATE clocks in one modulator clock (R253). -/
def modClk : Nat := 64

/-- A sequencer entry. -/
def State.entry (s : State) (i : Nat) : Entry := s.pcv.entries.getD i ⟨0#32, none, 0#32, 0#32, 0⟩

/-- A sequencer entry changed. -/
def State.modEntry (s : State) (i : Nat) (f : Entry → Entry) : State :=
  { s with pcv := { s.pcv with entries := modAt s.pcv.entries i f } }

/-- A configuration as its register reads. -/
def Entry.reg (e : Entry) : Word := e.newCfg.getD e.cfg

/-- Fields of PCV_ENTRY_CFG. -/
def cfgEn (c : Word) : Bool := bit c 31
def cfgMod (c : Word) : Nat := fld c 30 30
def cfgTrig (c : Word) : Nat := fld c 29 28
def cfgChan (c : Word) : Nat := fld c 23 20
def cfgExc (c : Word) : Nat := fld c 14 13

/-- N_f · OSR of a configuration, in modulator clocks (R255, R259). -/
def cfgClocks (c : Word) : Nat := (fld c 16 15 + 3) * (8 * fld c 12 0)

/-- A modulator. -/
def State.modu (s : State) (m : Nat) : Modulator := s.pcv.mods.getD m ⟨none, [], none, none, false, false⟩

/-- A modulator replaced. -/
def State.setModu (s : State) (m : Nat) (x : Modulator) : State := { s with pcv := { s.pcv with mods := s.pcv.mods.set m x } }

/-- Load of the fixed entries of a modulator. -/
def fixedLoad (m : Nat) : Nat := if m = 0 then 4608 else 768

/-- Load of a modulator with the registers as given (R259). -/
def modLoad (ctrl : Word) (regs : List Word) (m : Nat) : Nat :=
  fixedLoad m + (((regs.drop 7).filter (fun c => cfgEn c && cfgMod c = m)).map cfgClocks).sum + (if bit ctrl m then 64 else 0)

/-! ## Conversions -/

/-- The conversion of an entry would run together with one that excites the same channel (R261). -/
def State.excClash (s : State) (m : Nat) (c : Word) : Bool :=
  match (s.modu (1 - m)).now with
  | some o => cfgExc c ≠ 0 && cfgExc o.cfg ≠ 0 && cfgChan o.cfg = cfgChan c
  | none => false

/-- A conversion of an entry starts at time `t` (R255). -/
def State.startConv (s : State) (m e t : Nat) (urgent : Bool) (queue : List Nat) : State :=
  let x := s.modu m
  let c := (s.entry e).cfg
  let p := if x.cold || x.recover then 64 else 0
  s.setModu m { x with now := some ⟨e, c, t, t + (cfgClocks c + p) * modClk, urgent⟩, queue := queue, recover := false, cold := false }

/-- What a modulator with no conversion in progress does at time `t` (R257, R261, R262): the fixed entries of the pass,
then an urgent request, then the host entries; with nothing left it powers down where its PD bit says so (R256). -/
def State.nextConv (s : State) (m t : Nat) : State :=
  let x := s.modu m
  if x.now.isSome then s
  else match x.queue, x.urg with
    | e :: rest, none =>
      if 7 ≤ e && s.excClash m (s.entry e).cfg then s else s.startConv m e t false rest
    | e :: rest, some u =>
      if e < 7 then s.startConv m e t false rest
      else if s.excClash m (s.entry u.entry).cfg then s else s.startConv m u.entry t true (e :: rest)
    | [], some u => if s.excClash m (s.entry u.entry).cfg then s else s.startConv m u.entry t true []
    | [], none => if bit s.pcv.ctrl m then s.setModu m { x with cold := true } else s

/-- An entry is due in the pass that starts (R260). -/
def State.dueEntry (s : State) (i : Nat) : Bool :=
  let c := (s.entry i).cfg
  match cfgTrig c with
  | 0 => true
  | 1 => decide (s.pcv.passes % (fld c 26 24 + 1) = 0)
  | 2 => s.pcv.trig2
  | _ => decide (s.pcv.swtrig / 2 ^ i % 2 = 1)

/-- The entries of a modulator for the pass that starts. -/
def State.passQueue (s : State) (m : Nat) : List Nat :=
  (if m = 0 then [0, 1, 2, 3, 4, 5] else [6]) ++
    ((List.range 16).drop 7).filter (fun i => cfgEn (s.entry i).cfg && cfgMod (s.entry i).cfg = m && s.dueEntry i)

/-- What a pass start takes from a modulator (R258): a host conversion in progress and the host entries not started are
skipped, an urgent conversion in progress is aborted and stays requested. -/
def Modulator.cut (x : Modulator) : Modulator × Nat :=
  let run := match x.now with
    | some c => if !c.urgent && 7 ≤ c.entry then 1 else 0
    | none => 0
  ({ x with now := none, queue := [] }, run + (x.queue.filter (fun e => decide (7 ≤ e))).length)

/-- The status of a host request. -/
def State.urgStat (s : State) (no status : Nat) : State :=
  if no = s.pcv.urgNo then { s with pcv := { s.pcv with urgStatus := status } } else s

/-- The request of a modulator that waits gives way to the module's (R262). -/
def State.preempted (s : State) (u : Urg) : State := if u.fromModule then s else s.urgStat u.no 3

/-- An urgent request put into a modulator's slot; none where it is refused. A request of the module goes ahead of a
host request that is not converting yet. -/
def State.putUrgent (s : State) (m : Nat) (r : Urg) : Option State :=
  let x := s.modu m
  let converting := match x.now with
    | some c => c.urgent
    | none => false
  match x.urg, x.wait with
  | none, _ => some (s.setModu m { x with urg := some r })
  | some u, none =>
    if r.fromModule && !u.fromModule && !converting then some (s.setModu m { x with urg := some r, wait := some u })
    else some (s.setModu m { x with wait := some r })
  | some u, some w =>
    if !r.fromModule || w.fromModule then none
    else if !u.fromModule && !converting then some ((s.setModu m { x with urg := some r, wait := some u }).preempted w)
    else some ((s.setModu m { x with wait := some r }).preempted w)

/-- A blade result reaches the shutter event of pipeline A (R121); none is one that is not valid. -/
def State.bladeResult (s : State) (t : Option Int) : State :=
  s.modPl .A (fun x => { x with event := x.event.map (fun e => { e with blades := e.blades ++ [t] }) })

/-- A blade request of the module refused (R262): the event gets no such result, and STATUS shows the refusal. -/
def State.refusedBlade (s : State) : State := { s.bladeResult none with pcv := { s.pcv with urgStatus := 2 } }

/-- An urgent request is converted by its entry's modulator as it stands when the conversion starts (R262): where the
configurations taken at a pass start move an entry to the other modulator, its request moves too. One that finds the
slot full is refused. -/
def State.rehomeUrgent (s : State) : State :=
  let held := (List.range 2).flatMap (fun m => (s.modu m).urg.toList ++ (s.modu m).wait.toList)
  let strays := (List.range 2).any (fun m =>
    ((s.modu m).urg.toList ++ (s.modu m).wait.toList).any (fun u => decide (cfgMod (s.entry u.entry).cfg ≠ m)))
  if !strays then s
  else
    let s := { s with pcv := { s.pcv with mods := s.pcv.mods.map (fun (x : Modulator) => ({ x with urg := none, wait := none } : Modulator)) } }
    held.foldl (fun s u =>
      match s.putUrgent (cfgMod (s.entry u.entry).cfg) u with
      | some s => s
      | none => if u.fromModule then s.refusedBlade else s.urgStat u.no 2) s

/-- A pass starts (R257 to R260). -/
def State.beginPass (s : State) (t : Nat) : State :=
  let (x0, n0) := (s.modu 0).cut
  let (x1, n1) := (s.modu 1).cut
  let count := match s.pcv.passStart with
    | some _ => (s.pcv.passes + 1) % 65536
    | none => s.pcv.passes
  let s := { s with pcv := { s.pcv with
    mods := [x0, x1], skips := satInc s.pcv.skips (n0 + n1) 255, passes := count, passStart := some t,
    ctrl := s.pcv.newCtrl.getD s.pcv.ctrl, newCtrl := none,
    entries := s.pcv.entries.map (fun (e : Entry) => ({ e with cfg := e.reg, newCfg := none } : Entry)) } }.rehomeUrgent
  let q0 := s.passQueue 0
  let q1 := s.passQueue 1
  let s := { s with pcv := { s.pcv with mods := [{ s.modu 0 with queue := q0 }, { s.modu 1 with queue := q1 }], trig2 := false, swtrig := 0 } }
  (s.nextConv 0 t).nextConv 1 t

/-- PASS_START: the sequencer runs, and 8000 modulator clocks have passed since the last pass start (R257). -/
def State.passStart (s : State) : State :=
  if !s.pcv.running then s
  else match s.pcv.passStart with
    | none => s.beginPass s.now
    | some t => if t + 8000 * modClk ≤ s.now then s.beginPass (t + 8000 * modClk) else s

/-! ## Urgent requests (R262) -/

/-- A request that names no entry an urgent conversion may use. -/
def State.urgBad (s : State) (e : Nat) : Bool :=
  let c := (s.entry e).cfg
  decide (e < 7) || decide (15 < e) || !cfgEn c || decide (8000 < cfgClocks c + fixedLoad (cfgMod c))

/-- An urgent request starts at once where it may: a host conversion in progress is aborted and goes back to the front of
its pass, and an entry of the other modulator that waited for its end (R261) starts. -/
def State.kickUrgent (s : State) (m : Nat) : State :=
  let x := s.modu m
  match x.now with
  | none => s.nextConv m s.now
  | some c =>
    if c.urgent || c.entry < 7 then s
    else ((s.setModu m { x with now := none, queue := c.entry :: x.queue }).nextConv m s.now).nextConv (1 - m) s.now

/-- A host request through PCV_URG. -/
def State.hostUrgent (s : State) (e : Nat) : State :=
  let no := s.pcv.urgNo + 1
  let s := { s with pcv := { s.pcv with urgNo := no, urgEntry := e, urgStatus := 0 } }
  let m := cfgMod (s.entry e).cfg
  if s.urgBad e then s.urgStat no 2
  else match s.putUrgent m ⟨e, false, no⟩ with
    | some s => s.kickUrgent m
    | none => s.urgStat no 2

/-- The entry of the module's blade requests: the lowest enabled host entry that converts BLADE_CH0. -/
def State.bladeEntry (s : State) (ch : Nat) : Option Nat :=
  ((List.range 16).drop 7).find? (fun i => cfgEn (s.entry i).cfg && cfgChan (s.entry i).cfg = 6 + ch)

/-- The module's own blade request; a refused one leaves the event without that result (R262). -/
def State.moduleUrgent (s : State) (ch : Nat) : State :=
  match s.bladeEntry ch with
  | none => s.bladeResult none
  | some e =>
    let m := cfgMod (s.entry e).cfg
    if s.urgBad e then s.refusedBlade
    else match s.putUrgent m ⟨e, true, 0⟩ with
      | some s => s.kickUrgent m
      | none => s.refusedBlade

/-! ## Results -/

/-- The internal reference of 1.250 V in pV. -/
def vrefInt : Nat := 1250000000000

/-- VREF_EXT lies within its operating conditions (R401). -/
def vrefOk (v : Nat) : Bool := decide (1000000000000 ≤ v) && decide (v ≤ 1300000000000)

/-- The code of an input voltage at a gain and by a reference (R254); round takes a tie towards +∞ as rnd does (DEDUCED,
notes/assumptions/103). -/
def inputCode (gain v : Int) (vref : Nat) : Int :=
  sat (divF (2 * (v * gain * 2 ^ 23) + vref) (2 * vref)) (-8388607) 8388606

/-- The code of a conversion, and whether it is over-range (R254). By VREF_EXT outside its operating conditions the code is
undefined. -/
def convCode (c : Conv) : ConvResult → Int × Bool
  | .input v vref =>
    let ext := bit c.cfg 27
    if ext && !vrefOk vref then ((Config.undefinedCode c.entry c.stop).toInt, false)
    else (inputCode (2 ^ fld c.cfg 19 17) v (if ext then vref else vrefInt), false)
  | .overPos => (0x7fffff, true)
  | .overNeg => (-0x800000, true)

/-- The temperature of a code by a table of the PCV section (R264): none outside it. -/
def tableTemp (pts : List (Int × Int)) (x : Int) : Option Int :=
  let px (i : Nat) : Int := (pts.getD i (0, 0)).1
  let pt (i : Nat) : Int := (pts.getD i (0, 0)).2
  if pts.isEmpty || x < px 0 || px 16 < x then none
  else if x = px 16 then some (pt 16)
  else
    let i := (List.range 16).foldl (fun a j => if px j ≤ x then j else a) 0
    let d := px (i + 1) - px i
    let t := pt i + divF (2 * (x - px i) * (pt (i + 1) - pt i) + d) (2 * d)
    if t < -32768 || 32767 < t then none else some t

/-- The PCV table of a channel in the bundle last accepted (R267); none where no bundle has been. -/
def State.pcvTable (s : State) (chan : Nat) : List (Int × Int) :=
  let i := if chan < 4 then some chan else if 6 ≤ chan && chan ≤ 11 then some (chan - 2) else none
  match i, s.bundleOf s.pa.pend with
  | some i, some b => b.pcv.getD i []
  | _, _ => []

/-- The newest diode results with a valid temperature, by diode. -/
def State.diodesNow (s : State) : List (Nat × Int) :=
  (List.range 4).filterMap (fun i => match s.pcv.diodes.getD i [] with
    | (some t, _, false) :: _ => some (i, t)
    | _ => none)

/-- A value in its place in an ascending list. -/
def ascending (x : Int) : List Int → List Int
  | [] => [x]
  | y :: ys => if x ≤ y then x :: y :: ys else y :: ascending x ys

/-- The median of R265 of three or four temperatures. -/
def diodeMedian (ts : List Int) : Int :=
  let l := ts.foldr ascending []
  if l.length = 4 then rnd (l.getD 1 0 + l.getD 2 0) 1 else l.getD 1 0

/-- The median test when a diode conversion has completed (R265). -/
def State.implausible (s : State) : State :=
  let ts := s.diodesNow
  if ts.length < 3 then s
  else
    let m := diodeMedian (ts.map Prod.snd)
    (ts.filter (fun x => decide (256 < (x.2 - m).natAbs))).foldl (fun s x =>
      let mark (l : List (Option Int × Nat × Bool)) : List (Option Int × Nat × Bool) :=
        match l with
        | (t, a, _) :: rest => (t, a, true) :: rest
        | [] => []
      ({ s with pcv := { s.pcv with diodes := modAt s.pcv.diodes x.1 mark } }).modEntry x.1
        (fun e => { e with temp := word (e.temp.toNat % 2 ^ 29 + e.temp.toNat / 2 ^ 30 % 2 * 2 ^ 30 + 2 ^ 29) })) s

/-- A voltage monitor's code as voltage × 2^23 / V, at gain 1 with the internal reference and the input divided by 4. -/
def monitorVolts (x : Int) : Int := 5 * x

/-- The bias or reference monitor lies more than 0.5 % from its set voltage (R60); `set4` is the set voltage in 0.25 mV. -/
def biasOut (x : Int) (set4 : Int) : Bool := decide (set4 * 2 ^ 23 < 200 * (monitorVolts x * 4000 - set4 * 2 ^ 23).natAbs)

/-- The same with the set voltage offset by 1 % (R320, test 3). -/
def biasOutTest (x : Int) (set4 : Int) : Bool :=
  decide (101 * set4 * 2 ^ 23 < 200 * (100 * monitorVolts x * 4000 - 101 * set4 * 2 ^ 23).natAbs)

/-- The set voltages in 0.25 mV (R59). -/
def State.biasSet (s : State) (i : Nat) : Int :=
  if i = 0 then 4000 + 2 * (s.plt.bias.1 : Int) else 3200 + (s.plt.bias.2 : Int)

/-- A monitor result judged (R60): the bias on for 1 ms when the conversion began and since. An injected test judges by
its own set voltage and leaves the count alone (R320). -/
def State.judgeBias (s : State) (i start : Nat) (x : Int) : State :=
  let judged := match s.pcv.biasOn with
    | some t => decide (t + ms ≤ start)
    | none => false
  if i = 0 && s.injecting 3 then s.injected 3 (biasOutTest x (s.biasSet 0))
  else if !judged then s
  else if biasOut x (s.biasSet i) then
    let n := s.pcv.biasRun.getD i 0 + 1
    let s := { s with pcv := { s.pcv with biasRun := s.pcv.biasRun.set i n } }
    if n = 2 then s.fault 1 else s
  else { s with pcv := { s.pcv with biasRun := s.pcv.biasRun.set i 0 } }

/-- The fault windows of the supply monitors in mV (R391). -/
def supplyWindow : List (Int × Int) :=
  [(740, 860), (1020, 1210), (550, 670), (1650, 1950), (3050, 3550), (2400, 2600), (850, 950), (1140, 1260)]

/-- The nominal voltages of the monitored rails in mV (R390); of the internal regulators, the middle of their windows (DEDUCED,
notes/assumptions/110). -/
def supplyNominal : List Int := [800, 1100, 600, 1800, 3300, 2500, 900, 1200]

/-- The result lies outside the band of test 4 (R320): 0.2 % of the nominal wide, wholly above the upper limit of the window. -/
def bandOut (m : Nat) (x : Int) : Bool :=
  let lo := (supplyWindow.getD m (0, 0)).2 * 1000000 + Config.testBand m + 1
  let hi := lo + supplyNominal.getD m 0 * 2000
  let v := monitorVolts x * 1000000000
  decide (v < lo * 2 ^ 23) || decide (hi * 2 ^ 23 < v)

/-- A SUPPLY result outside its window is a dangerous fault (R391); an injected test has no reaction (R320). -/
def State.judgeSupply (s : State) (x : Int) : State :=
  let (lo, hi) := supplyWindow.getD (s.pcv.passes % 8) (0, 0)
  let v := monitorVolts x * 1000
  if s.injecting 4 then s.injected 4 (bandOut (s.pcv.passes % 8) x)
  else if v < lo * 2 ^ 23 || hi * 2 ^ 23 < v then s.fault 4 else s

/-- The registers of an entry after a conversion (PCV_ENTRY registers). -/
def State.putResult (s : State) (c : Conv) (t : Nat) (x : Int) (ovr : Bool) (temp : Option Int) (range : Bool) : State :=
  let res := flag (!ovr) 31 + flag ovr 30 + flag c.urgent 29 + code x 24
  let tw := match temp with
    | some v => 2 ^ 31 + code v 16
    | none => flag range 30 + (Config.invalidTemp c.entry t).toNat
  let hasTemp := cfgChan c.cfg < 4 || (6 ≤ cfgChan c.cfg && cfgChan c.cfg ≤ 11)
  s.modEntry c.entry (fun e => { e with result := word res, temp := if hasTemp then word tw else e.temp, time := t })

/-- A diode or external temperature kept for R24, R120 and R140. -/
def State.keepTemp (s : State) (chan t : Nat) (temp : Option Int) : State :=
  if chan < 4 then
    ({ s with pcv := { s.pcv with diodes := modAt s.pcv.diodes chan (fun l => (temp, t, false) :: l.take 2) } }).implausible
  else if 6 ≤ chan && chan ≤ 11 then
    match temp with
    | some v => { s with pcv := { s.pcv with ext := modAt s.pcv.ext (chan - 6) (fun l => (v, t) :: l.take 2) } }
    | none => s
  else s

/-- A completed conversion of BLADE_CH0, as a relayed frame reports it (R299). -/
def State.noteBlade (s : State) (c : Conv) (temp : Option Int) : State :=
  if cfgChan c.cfg = 6 + (s.ancOf s.pa.snap).bladeCh0 then
    { s with pcv := { s.pcv with bladeSeq := (s.pcv.bladeSeq + 1) % 256,
                                 bladeUrgent := if temp.isSome then c.urgent else s.pcv.bladeUrgent } }
  else s

/-- What the channel of a conversion is for (R253). -/
def State.judgeResult (s : State) (c : Conv) (x : Int) : State :=
  match cfgChan c.cfg with
  | 4 => s.judgeBias 0 c.start x
  | 5 => s.judgeBias 1 c.start x
  | 12 => s.judgeSupply x
  | _ => s

/-- The latest valid temperature of a TEMP_EXT channel (R265, R266). -/
def State.latestExt (s : State) (chan : Nat) : Option Int := ((s.pcv.ext.getD (chan - 6) []).head?).map Prod.fst

/-- The urgent slot moves on when its conversion completes. A blade result takes the latest valid temperature of its channel
(R265; DEDUCED, notes/assumptions/104). -/
def State.urgentDone (s : State) (m : Nat) (chan : Nat) : State :=
  let x := s.modu m
  match x.urg with
  | none => s
  | some u =>
    let s := s.setModu m { x with urg := x.wait, wait := none }
    if u.fromModule then s.bladeResult (s.latestExt chan) else s.urgStat u.no 1

/-- A sequencer conversion of an entry serves the software triggers written before it has run (R260). -/
def State.triggerUsed (s : State) (e : Nat) : State :=
  if s.pcv.swtrig / 2 ^ e % 2 = 1 then { s with pcv := { s.pcv with swtrig := s.pcv.swtrig - 2 ^ e } } else s

/-- The end of a conversion (R254 to R266). -/
def State.convDone (s : State) (m : Nat) (r : ConvResult) : State :=
  match (s.modu m).now with
  | none => s
  | some c =>
    if s.now < c.stop then s
    else
      let (x, ovr) := convCode c r
      let table := s.pcvTable (cfgChan c.cfg)
      let temp := if ovr then none else tableTemp table x
      let range := !table.isEmpty && (tableTemp table x).isNone
      let s := s.putResult c c.stop x ovr temp range
      let s := s.setModu m { s.modu m with now := none, recover := ovr }
      let s := (s.keepTemp (cfgChan c.cfg) c.stop temp).noteBlade c temp
      let s := if c.urgent then s.urgentDone m (cfgChan c.cfg) else s.triggerUsed c.entry
      let s := s.judgeResult c x
      (s.nextConv m c.stop).nextConv (1 - m) c.stop

/-! ## Registers (R259, R260) -/

/-- A write refused. -/
def State.cfgError (s : State) : State := { s with pcv := { s.pcv with cfgErr := true } }

/-- The registers of all entries. -/
def State.entryRegs (s : State) : List Word := s.pcv.entries.map Entry.reg

/-- A channel named by LENS_SRC of either pipeline loses its only enabled entry. -/
def State.dropsLens (s : State) (i : Nat) (v : Word) : Bool :=
  let old := (s.entry i).reg
  let named (k : Nat) : Bool := k < 6 && cfgChan old = 6 + k
  let others := (s.entryRegs.zipIdx.filter (fun e => decide (7 ≤ e.2) && decide (e.2 ≠ i) && cfgEn e.1 && cfgChan e.1 = cfgChan old))
  cfgEn old && !cfgEn v && others.isEmpty && (named s.pa.pend.radio.lensSrc || named s.pb.pend.radio.lensSrc)

/-- A write of PCV_ENTRY_CFG; those of the fixed entries are RO (R14). -/
def State.writeEntryCfg (s : State) (i : Nat) (v : Word) : State :=
  if i < 7 then s.post0 0x0003 [word (0xc040 + 16 * i)]
  else
    let ctrl := s.pcv.newCtrl.getD s.pcv.ctrl
    let regs := s.entryRegs.set i v
    let ovr := decide (8000 < modLoad ctrl regs 0) || decide (8000 < modLoad ctrl regs 1)
    let shape := decide (cfgChan v < 6) || decide (11 < cfgChan v) || decide (fld v 16 15 = 3) || decide (cfgExc v = 3) ||
      decide (fld v 12 0 < 8) || decide (4096 < fld v 12 0)
    if (cfgEn v && (ovr || shape)) || s.dropsLens i v then s.cfgError
    else s.modEntry i (fun e => { e with newCfg := some v })

/-- A write of PCV_CTRL. -/
def State.writePcvCtrl (s : State) (v : Word) : State :=
  let c := word (fld v 1 0)
  if 8000 < modLoad c s.entryRegs 0 || 8000 < modLoad c s.entryRegs 1 then s.cfgError
  else { s with pcv := { s.pcv with newCtrl := some c } }

/-- A write of PCV_URG. -/
def State.writePcvUrg (s : State) (v : Word) : State := if bit v 31 then s.hostUrgent (fld v 3 0) else s

/-- A write of PCV_SWTRIG. A trigger written while its entry waits or converts is served by that conversion, or, where the pass
start skips it, makes the entry due in the pass that starts (R260). -/
def State.writeSwtrig (s : State) (v : Word) : State :=
  let bits := ((List.range 16).drop 7).filter (fun i => bit v i && s.pcv.swtrig / 2 ^ i % 2 = 0)
  { s with pcv := { s.pcv with swtrig := s.pcv.swtrig + (bits.map (fun i => 2 ^ i)).sum } }

/-! ## What a marker takes -/

/-- The plate temperature latched at a marker and the diodes that entered it, none where no temperature is latched (R24, R265). -/
def State.plateTemp (s : State) : Option Int × Nat :=
  let used := (List.range 4).filterMap (fun i =>
    match (s.pcv.diodes.getD i []).find? (fun d => decide (d.2.1 < s.now)) with
    | some (some t, a, false) => if s.now ≤ a + 16000 * modClk then some (i, t) else none
    | _ => none)
  if used.length < 2 then (none, 0) else (some (avg (used.map Prod.snd)), (used.map (fun x => 2 ^ x.1)).sum)

/-- The latest valid blade result, where it is at most 1 s old (R120). -/
def State.freshBlade (s : State) (ch : Nat) : Bool :=
  match s.pcv.ext.getD ch [] with
  | (_, t) :: _ => decide (s.now ≤ t + sec)
  | [] => false

/-! ## Commands -/

/-- PASS_START (R257). -/
def execPassStart (dt : Nat) (s : State) : Host.Outcome State Fault Refusal := .next (s.run dt (fun s => s.passStart))

/-- CONVERSION_COMPLETE (R255). -/
def execConversionComplete (dt : Nat) (modulator : Fin 2) (result : ConvResult) (s : State) :
    Host.Outcome State Fault Refusal :=
  .next (s.run dt (fun s => s.convDone modulator.val result))

/-- PCV_CTRL (R259). -/
def execPcvCtrl (dt : Nat) (value : Word) (s : State) : Host.Outcome State Fault Refusal :=
  .next (s.run dt (fun s => s.writePcvCtrl value))

/-- PCV_ENTRY_CFG (R259). -/
def execPcvEntryCfg (dt : Nat) (entry : Fin 16) (value : Word) (s : State) : Host.Outcome State Fault Refusal :=
  .next (s.run dt (fun s => s.writeEntryCfg entry.val value))

/-- PCV_URG (R262). -/
def execPcvUrg (dt : Nat) (value : Word) (s : State) : Host.Outcome State Fault Refusal :=
  .next (s.run dt (fun s => s.writePcvUrg value))

/-- PCV_SWTRIG (R260). -/
def execPcvSwtrig (dt : Nat) (value : Word) (s : State) : Host.Outcome State Fault Refusal :=
  .next (s.run dt (fun s => s.writeSwtrig value))

end Sys2Proof.Machine
end

