-- ==== Sys2Proof/Machine/Anchor.lean ====
section
/-! DEFINITION. Scene statistics and shutter anchoring (05): the scene-offset tables, the glean, the drift estimator,
requests, grants and the decision, the closure sequence, the anchor, and its persistence. -/
namespace Sys2Proof.Machine

/-! ## Tables (R107, R108) -/

/-- The table committed last. -/
def Pl.table (x : Pl) : SoTable := x.tables.headD ⟨0, [], 0⟩

/-- A value of a table. -/
def soAt (t : SMap (Array Int)) (r c : Nat) : Int := (SMap.get #[] t r).getD c 0

/-- A table committed: the next SEQ (R107); tables that no frame uses leave the silo. -/
def Pl.commitTable (x : Pl) (t : SMap (Array Int)) (anchor : Nat) : Pl :=
  let keep := x.tables.filter (fun y => y.seq = x.soSeq || x.frames.any (fun f => f.soSeq = y.seq))
  { x with tables := ⟨(x.table.seq + 1) % 65536, t, anchor⟩ :: keep }

/-- The anchor state (R115) as the record gives it: 0 NONE, 1 STALE, 2 ANCHORED. -/
def Pl.anchorState (x : Pl) (eUrg : Nat) : Nat := if x.table.anchor = 0 then 0 else if eUrg ≤ x.e then 1 else 2

/-! ## Drift estimator (R114) -/

/-- BDf with the drift of a frame. -/
def Pl.filterDrift (x : Pl) (bd : Int) : Pl :=
  { x with bdf := some (match x.bdf with
      | none => bd
      | some b => b + rnd (bd - b) 6) }

/-- E of R114. -/
def driftE (a : Anc) (floor : Nat) (bd t : Int) (age : Nat) : Nat :=
  let terms := rnd (bd.natAbs * a.kBd) 8 + rnd (t.natAbs * a.kT) 8 + rnd (age * a.kAge) 8
  min (max floor terms.toNat) 0xffffff

/-- E, the anchor state and the frame count of F(n) at LP(n) (R108, R114, R115). A frame without a plate temperature
leaves T as it was; before any, T is free (notes/assumptions/24). -/
def State.estimate (s : State) (p : Pipe) (f : Frame) : State :=
  let a := s.ancOf f.st
  let x : Pl := s.pl p
  let x : Pl := if f.ptemp.isSome && 4 ≤ f.nextRow && f.st.mode ≠ .relay then x.filterDrift f.bd else x
  let x : Pl := { x with lastT := f.ptemp.orElse (fun _ => x.lastT) }
  let x : Pl := if x.tCheck then
      let far := match f.ptemp with
        | some t => decide (1280 < (t - x.t0).natAbs)
        | none => false
      { (if far then x.raiseFloor a.eUrg else x) with tCheck := false }
    else x
  let e := driftE a x.eFloor (x.bdf.getD 0 - x.bd0) (x.lastT.getD Config.missingTemp - x.t0) ((s.now - x.ageFrom) / sec)
  let anchor := match x.tables.find? (fun t => t.seq = f.soSeq) with
    | some t => t.anchor
    | none => 0
  let since := if anchor = 0 then none else if anchor ≠ x.curAnchor then some 0
    else x.sinceAnchor.map (fun n => min (n + 1) 0xfffffffe)
  let x : Pl := { x with e := e, curAnchor := anchor, sinceAnchor := since }
  let x := x.modFrame f.n (fun g => { g with lpE := e, lpAnchor := x.anchorState a.eUrg, lpSince := since.getD 0xffffffff })
  s.setPl p x

/-- An exposure or bundle change applies to a frame, or a wake from I2 or I3: the accumulator is cleared and E_FLOOR takes
its highest value (R113, R115). -/
def Pl.contextChange (x : Pl) : Pl := x.clearGlean.raiseFloor 0xffffff

/-- Whether the exposure of two snapshots differs, the FSYNC settings with it (R47). -/
def exposureDiffers (a b : Settings) : Bool := decide (a.exposure ≠ b.exposure) || decide (a.fsync ≠ b.fsync)

/-- Whether an exposure change lies between two snapshots for R73, R113, R115, R123 and R138, which count a change of the bias
codes as one (R59). -/
def expDiffers (a b : Settings) : Bool := exposureDiffers a b || decide (a.bias ≠ b.bias)

/-- What the settings of a frame that starts do to the anchoring of its pipeline (R113, R115, R131): while the exposure of
a loaded table is still to be compared, changes are not, and the first frame at or after B + 3.5 s is. The first frame of all is
held to the bundle under which the table was loaded. -/
def Pl.contextMarker (x : Pl) (st : Settings) (held : Bool) : Pl :=
  let changed := match x.lastRead, x.bootBundle with
    | some l, _ => (expDiffers l st, decide (l.bundle ≠ st.bundle))
    | none, some b => (false, decide (b ≠ st.bundle))
    | none, none => (false, false)
  match x.bootExp with
  | some (t, k) =>
    let x := if changed.2 then x.contextChange else if changed.1 then x.clearGlean else x
    if held then x
    else
      let x := { x with bootExp := none }
      if fld st.exposure 20 8 = t && fld st.exposure 5 4 = k then x else x.contextChange
  | none => if changed.1 || changed.2 then x.contextChange else x

/-! ## Requests and grants (R116, R117) -/

/-- DUR in ms (R116). -/
def durMs (a : Anc) (e : Word) : Nat := ((a.sSet + 2 ^ a.nAvgLog2 + 6) * pNom e + ms - 1) / ms

/-- SHUTTER_REQUEST with current values. -/
def State.postRequest (s : State) (p : Pipe) (urgent : Bool) : State :=
  let x := s.pl p
  let s := s.postP p 0x0040 [if urgent then 1#32 else 0#32, word x.e, word (durMs (s.ancOf x.snap) x.snap.exposure)]
  s.modPl p (fun x => { x with request := some ⟨urgent, s.now⟩ })

/-- A time has passed since the start of the previous event of a pipeline; after reset it counts as passed (R119). -/
def State.sinceEvent (s : State) (p : Pipe) (t : Nat) : Bool :=
  match (s.pl p).lastEvent with
  | some l => decide (l + t ≤ s.now)
  | none => true

/-- The drift is urgent now (R116, R120). -/
def State.urgentNow (s : State) (p : Pipe) : Bool :=
  decide ((s.ancOf (s.pl p).snap).eUrg ≤ (s.pl p).e) && s.sinceEvent p (60 * sec)

/-- An open request posted again after 60 s, with the urgency and E as they are then (R116). -/
def State.repostRequest (s : State) (p : Pipe) : State :=
  match (s.pl p).request with
  | some r => if r.posted + 60 * sec ≤ s.now then s.postRequest p (s.urgentNow p) else s
  | none => s

/-- A grant whose window has ended unused lapses (R117). -/
def State.grantLapse (s : State) (p : Pipe) : State :=
  match (s.pl p).grant with
  | some g => if g.end_ ≤ s.now then (s.modPl p (fun x => { x with grant := none })).postP p 0x0041 [] else s
  | none => s

/-- A grant covers a marker. -/
def Grant.covers (g : Grant) (m : Nat) : Bool := decide (g.start ≤ m) && decide (m < g.end_)

/-! ## Decision (R118 to R120) -/

/-- The drive of the pipeline accepts an event at `m`: this module's for A; for B the companion, whose own rules are not
known here, reports OPEN (R128). -/
def State.driveAccepts (s : State) (p : Pipe) (m : Nat) : Bool :=
  match p with
  | .A => s.acceptsEvent m
  | .B => decide (s.nl.comp.pos0 = 1)

/-- A blade result of the shutter within the last second (R120). -/
def State.bladeFresh (s : State) (p : Pipe) (a : Anc) : Bool :=
  match p with
  | .A => s.freshBlade a.bladeCh0
  | .B => match s.nl.comp.blade with
    | some (_, t) => decide (s.now ≤ t + sec)
    | none => false

/-- The policy in force: DELEGATED in 1210 mode (R118). -/
def Settings.policyNow (st : Settings) : Nat := if st.compat then 1 else st.policy

/-- R120 at LP(n): `f` is F(n), the snapshot of F(n+1) is in force. -/
def State.shutterDecision (s : State) (p : Pipe) (f : Frame) : State :=
  let x := s.pl p
  let st := x.snap
  let a := s.ancOf st
  if x.event.isSome || x.prepared.isSome || (st.mode ≠ .imaging && st.mode ≠ .calibration) then s
  else
    let urgent := s.urgentNow p
    let routine := decide (a.eReq ≤ x.e) && s.sinceEvent p (st.minInterval * 60 * sec)
    let offered := decide (a.eOpp ≤ x.e) && s.sinceEvent p (60 * sec)
    let s := match x.request with
      | none => if urgent || routine then s.postRequest p urgent else s
      | some r => if urgent && !r.urgent then s.postRequest p true else s
    let m := f.marker + pNom f.st.exposure
    let g := match x.grant with
      | some g => if g.covers m then some g else none
      | none => none
    let want := match g with
      | some g => g.force || offered
      | none => decide (st.policyNow = 1) && (urgent || routine)
    let room := match g with
      | some g => decide (m + durMs a st.exposure * ms ≤ g.end_)
      | none => true
    if st.policyNow = 2 || !want || !room || !s.bladeFresh p a || !s.driveAccepts p m then s
    else
      let s := s.modPl p (fun x => { x with prepared := some g })
      match p with
      | .A => s
      | .B => s.shutterPulse .B .close

/-- The event booked at the latch point begins with frame `n` at this marker (R120, R121); under slaving the conditions
that name the marker are judged again. It uses up the grant it was booked on, and no grant that has replaced that one since
(R117). -/
def State.beginEvent (s : State) (p : Pipe) (n : Nat) (slaved : Bool) : State :=
  let x := s.pl p
  match x.prepared with
  | none => s
  | some g =>
    let st := x.snap
    let s := s.modPl p (fun x => { x with prepared := none })
    let still := match g with
      | some g => g.covers s.now && decide (s.now + durMs (s.ancOf st) st.exposure * ms ≤ g.end_)
      | none => true
    if p = .A && slaved && !(still && s.acceptsEvent s.now) then s
    else
      let e : ShEvent :=
        { c := n, start := s.now, closed := false, win := none, sums := [], bad := [], taken := 0, temps := [], bds := [],
          blades := [], asked := 0, fail := none, openDue := false, opens := 0, lastOpen := 0, driven := false, opened := false,
          formed := false, ended := none, anc := s.ancOf st }
      let s := s.modPl p (fun x =>
        { x with event := some e, request := none, grant := if x.grant = g then none else x.grant, lastEvent := some s.now })
      match p with
      | .A => s.shutterPulse .A .close
      | .B => s

/-! ## Closure sequence (R121 to R124) -/

/-- Position of the pipeline's shutter: 0 UNKNOWN, 1 OPEN, 2 CLOSED (R278, R299). -/
def State.shutterPos (s : State) (p : Pipe) : Nat :=
  match p with
  | .A => s.position 0
  | .B => s.nl.comp.pos0

/-- A blade conversion requested (R121): the urgent slot for A, CMD BLADE for B. -/
def State.askBlade (s : State) (p : Pipe) : State :=
  let s := s.modPl p (fun x => { x with event := x.event.map (fun e => { e with asked := e.asked + 1 }) })
  match p with
  | .A => s.moduleUrgent (s.ancOf s.pa.snap).bladeCh0
  | .B => s.sendCmd 4 0 0

/-- The actions of an event in progress at the marker of frame `n` (R121 steps 2, 4 and 6, R123). `st` and `prev` are the
snapshots of F(n) and F(n−1). -/
def State.eventMarker (s : State) (p : Pipe) (n : Nat) (st : Settings) (prev : Option Settings) : State :=
  match (s.pl p).event with
  | none => s
  | some e =>
    if e.ended.isSome || e.c = n then s
    else if e.opened then
      (s.modPl p (fun x => { x with event := some { e with ended := some n } })).closeEvent p
    else
      let a := s.ancOf st
      let e := if e.win.isNone && e.closed && e.fail.isNone && e.opens = 0 then
          { e with win := some (n, (n + a.sSet) % 2 ^ 32, (n + a.sSet + 2 ^ a.nAvgLog2 - 1) % 2 ^ 32), anc := a }
        else e
      let s := s.modPl p (fun x => { x with event := some e })
      match e.win with
      | none => s
      | some (s0, a0, a1) =>
        if e.fail.isSome || !inRange n s0 a1 then s
        else if s.shutterPos p ≠ 2 then s.failEvent p 2
        else if (match prev with
            | some q => expDiffers q st
            | none => false) then s.failEvent p 4
        else if n = a0 then s.askBlade p
        else s

/-- The actions of an event at LP(n) (R121 steps 4 and 5, R123). -/
def State.eventLatch (s : State) (p : Pipe) (f : Frame) : State :=
  match (s.pl p).event with
  | none => s
  | some e =>
    if e.fail.isSome then (if e.openDue then s.issueOpen p else s)
    else match e.win with
      | none => s
      | some (_, a0, a1) =>
        if !inRange f.n a0 a1 then s
        else
          let s := s.modPl p (fun x =>
            { x with event := some { e with temps := e.temps ++ [f.ptemp], bds := e.bds ++ [x.bdf.getD 0] } })
          if f.n = a1 then (s.issueOpen p).askBlade p else s

/-- NO_CLOSE (R123): CLOSED not reported within 80 ms of M(c). -/
def State.noClose (s : State) (p : Pipe) : State :=
  match (s.pl p).event with
  | some e => if !e.closed && e.fail.isNone && e.opens = 0 && e.start + 80 * ms ≤ s.now then s.failEvent p 1 else s
  | none => s

/-- The latest marker of a pipeline. -/
def Pl.lastMarker (x : Pl) : Option Nat := x.cur.map Frame.marker

/-- The 80 ms rule on the open pulse of an event (R124). A shutter that reads OPEN then is open (DEDUCED,
notes/assumptions/25). -/
def State.repeatEvent (s : State) (p : Pipe) : State :=
  match (s.pl p).event with
  | none => s
  | some e =>
    let pending := match p with
      | .A => s.openPending
      | .B => false
    if e.opens = 0 || e.opened || pending || s.now < e.lastOpen + 80 * ms then s
    else if s.shutterPos p = 1 then s.modPl p (fun x => { x with event := some { e with opened := true } })
    else if 3 ≤ e.opens then s.fault 15
    else if repeatDue s.now e.lastOpen (s.pl p).lastMarker then
      (s.modPl p (fun x => { x with event := some { e with opens := e.opens + 1, lastOpen := s.now } })).shutterPulse p .open_
    else s

/-- An event that ends with no marker to follow: the pipeline no longer reads, and OPEN has been reported (R383, R385). -/
def State.endIdleEvent (s : State) (p : Pipe) : State :=
  let x := s.pl p
  match x.event with
  | some e =>
    if !x.reading && e.opened && e.ended.isNone then
      (s.modPl p (fun x => { x with event := some { e with ended := some x.frameNo } })).closeEvent p
    else s
  | none => s

/-- OPEN_REPEAT: the open pulses of an event, and those of an opening outside one. -/
def State.openRepeat (s : State) (p : Pipe) : State :=
  let s := (s.repeatEvent p).endIdleEvent p
  match p with
  | .A => s.repeatOpening s.pa.lastMarker
  | .B => s

/-! ## The anchor (R125, R126) -/

/-- V_b(T_B) (R125). -/
def bladeValue (tab : List Nat) (tB : Int) : Int :=
  let i := sat ((tB + 10240) / 640) 0 63
  let wt := sat (((tB + 10240 - 640 * i) * 65536) / 640) 0 65536
  let v (k : Nat) : Int := (tab.getD k 0 : Nat)
  v i.toNat + rnd (wt * (v (i.toNat + 1) - v i.toNat)) 16

/-- ū of a pixel. -/
def meanAt (sums : SMap (Array Int)) (nLog r c : Nat) : Int := rnd ((SMap.get #[] sums r).getD c 0) nLog

/-- V_b − ū of a pixel, by its band. -/
def devAt (vA vB : Int) (sums : SMap (Array Int)) (nLog r c : Nat) : Int :=
  (if (r + c) % 2 = 0 then vA else vB) - meanAt sums nLog r c

/-- A sum over the pixels of a band in a rectangle of rows and columns. -/
def bandSum (b r0 rows c0 cols : Nat) (x : Nat → Nat → Int) : Int :=
  ((List.range rows).map (fun i => ((List.range cols).map (fun j =>
    if (r0 + i + (c0 + j)) % 2 = b then x (r0 + i) (c0 + j) else 0)).sum)).sum

/-- ZONE holds for a band: the zone means of ū, each over 8192 pixels, spread by at most ZONE_TOL. -/
def zoneOk (a : Anc) (e : ShEvent) (b : Nat) : Bool :=
  let ms := (List.range 192).map (fun z => bandSum b (128 * (z / 16)) 128 (128 * (z % 16)) 128 (meanAt e.sums a.nAvgLog2))
  decide (ms.foldl max (ms.headD 0) - ms.foldl min (ms.headD 0) ≤ 8192 * (a.zoneTol : Int))

/-- A pixel takes a new offset (R125). -/
def changes (a : Anc) (e : ShEvent) (vA vB : Int) (r c : Nat) : Bool :=
  !((SMap.get #[] e.bad r).getD c false) && decide ((devAt vA vB e.sums a.nAvgLog2 r c).natAbs ≤ a.corrMax)

/-- MEAN holds for a band. -/
def meanOk (a : Anc) (e : ShEvent) (vA vB : Int) (b : Nat) : Bool :=
  let n := bandSum b 0 1536 0 2048 (fun r c => if changes a e vA vB r c then 1 else 0)
  let t := bandSum b 0 1536 0 2048 (fun r c => if changes a e vA vB r c then devAt vA vB e.sums a.nAvgLog2 r c else 0)
  decide ((t.natAbs : Int) ≤ a.meanMax * n)

/-- CORR holds for a band. -/
def corrOk (a : Anc) (e : ShEvent) (vA vB : Int) (b : Nat) : Bool :=
  decide (bandSum b 0 1536 0 2048 (fun r c => if a.corrMax < (devAt vA vB e.sums a.nAvgLog2 r c).natAbs then 1 else 0) ≤ 1572)

/-- The reason why an anchor is not committed (R126); none where it passes. An averaging frame that did not leave the front
pipe whole has no passed check (DEDUCED, notes/assumptions/25). -/
def anchorReason (a : Anc) (e : ShEvent) (vA vB : Int) : Option Nat :=
  let b0 := (e.blades.getD 0 none)
  let b1 := (e.blades.getD 1 none)
  let blade := match b0, b1 with
    | some x, some y => decide ((x - y).natAbs ≤ a.bladeSpread)
    | _, _ => false
  let ts := e.temps.filterMap id
  let plate := decide (ts.length = 2 ^ a.nAvgLog2) && decide (ts.foldl max (ts.headD 0) - ts.foldl min (ts.headD 0) ≤ 26)
  if !blade then some 6 else if !plate then some 7
  else if e.taken ≠ 2 ^ a.nAvgLog2 then some 3
  else if !(zoneOk a e 0 && zoneOk a e 1) then some 8
  else if !(meanOk a e vA vB 0 && meanOk a e vA vB 1) then some 9
  else if !(corrOk a e vA vB 0 && corrOk a e vA vB 1) then some 10
  else none

/-- SO′ (R125). -/
def anchorTable (a : Anc) (e : ShEvent) (vA vB : Int) (so : SMap (Array Int)) : SMap (Array Int) :=
  (List.range 1536).map (fun r => (r, (Array.range 2048).map (fun (c : Nat) =>
    if changes a e vA vB r c then satS (soAt so r c + devAt vA vB e.sums a.nAvgLog2 r c) 16 else soAt so r c)))

/-- ANCHOR_FORMED: the anchor is judged once the averaging frames and both blade results are in. -/
def State.formAnchor (s : State) (p : Pipe) : State :=
  let x := s.pl p
  match x.event with
  | none => s
  | some e =>
    match e.win with
    | none => s
    | some (_, _, a1) =>
      let a := e.anc
      let past := x.frames.all (fun f => f.n ≠ a1) || decide (e.taken = 2 ^ a.nAvgLog2)
      let ready := decide (e.temps.length = 2 ^ a.nAvgLog2) && past && (decide (2 ≤ e.blades.length) || e.ended.isSome)
      if e.fail.isSome || e.formed || !ready then s
      else
        let tB := rnd ((e.blades.getD 0 none).getD 0 + (e.blades.getD 1 none).getD 0) 1
        let vA := bladeValue a.shutA tB
        let vB := bladeValue a.shutB tB
        let s := match anchorReason a e vA vB with
          | some r => s.failEvent p r
          | none =>
            let t : NextTable := ⟨anchorTable a e vA vB x.table.table, x.table.seq, some (avg e.bds, avg (e.temps.filterMap id))⟩
            s.modPl p (fun x => { x with anchorNext := some t, event := some { e with formed := true } })
        s.closeEvent p

/-! ## Persistence (R129, R130) -/

/-- A write of the table in force to the slot with the lower PSEQ starts; until it completes that slot is not valid. -/
def State.startPersist (s : State) : State :=
  let q (i : Nat) : Nat := (s.nv.soSlots.getD i ⟨0, 0, 0, 0, 0, 0, false, []⟩).pseq
  let i := if q 1 < q 0 then 1 else 0
  let e := s.plt.activeExp
  let id := match s.bundleOf s.pa.snap with
    | some b => b.id
    | none => 0
  let slot : SoSlot := ⟨max (q 0) (q 1) + 1, id, fld e 20 8, fld e 5 4, s.pa.t0, s.pa.bd0, true, s.pa.table.table⟩
  { s with nv := { s.nv with soSlots := modAt s.nv.soSlots i (fun x => { x with ok := false }) },
           sup := { s.sup with soWrite := some (i, slot), soAgain := false, gleanDirty := false } }

/-- A persist write asked for: one follows the write in progress (R130). -/
def State.persist (s : State) : State :=
  if s.sup.soWrite.isSome then { s with sup := { s.sup with soAgain := true } } else s.startPersist

/-- SO_PERSISTED: the write completes. -/
def State.persisted (s : State) : State :=
  match s.sup.soWrite with
  | none => s
  | some (i, slot) =>
    let s := { s with nv := { s.nv with soSlots := s.nv.soSlots.set i slot }, sup := { s.sup with soWrite := none } }
    let s := s.post0 0x0046 [word slot.pseq]
    if s.sup.soAgain then s.startPersist else s

/-- The slot that BOOT loads (R131): valid, of the bundle in force, with the higher PSEQ. -/
def State.bootSlot (s : State) (bundleId : Nat) : Option SoSlot :=
  match s.nv.soSlots.filter (fun x => x.ok && x.bundleId = bundleId) with
  | [] => none
  | x :: rest => some (rest.foldl (fun a b => if a.pseq < b.pseq then b else a) x)

/-- The scene-offset table loaded at BOOT (R115, R131). -/
def State.loadTable (s : State) : State :=
  match s.bundleOf s.pa.pend with
  | none => s
  | some b =>
    match s.bootSlot b.id with
    | none => s
    | some k =>
      let s := s.modPl .A (fun x =>
        { x with tables := [⟨0, k.table, 1⟩], anchors := 1, bd0 := k.bd0, t0 := k.tPlate, ageFrom := s.now,
                 eFloor := b.anc.eReq, bootExp := some (k.tShort, k.hdrK), bootBundle := some x.pend.bundle, tCheck := true })
      { s with sup := { s.sup with soLoaded := true } }

/-! ## Glean (R109 to R113) -/

/-- d of a pixel that contributes (R110), from the words of F(n) and F(n−1). -/
def gleanPixel (a : Anc) (now prev : Nat → Nat → Word) (r c : Nat) : Option Int :=
  let ws := [now r c, now (r - 1) (c - 1), now (r - 1) (c + 1), now (r + 1) (c - 1), now (r + 1) (c + 1)]
  let v (w : Word) : Int := sgn (fld w 23 0) 24
  let u := v (now r c)
  let d := u - rnd ((ws.drop 1).map v).sum 2
  if r = 0 || c = 0 || 1534 < r || 2046 < c || ws.any (fun w => bit w 24 || bit w 26 || bit w 27 || bit w 28) ||
    decide (a.gSpat < d.natAbs) || decide ((u - v (prev r c)).natAbs < a.gTemp) then none
  else some d

/-- The contributions of a frame, by row. -/
def gleanRows (a : Anc) (silo prev : SMap (Array Word)) : List (Nat × Array (Option Int)) :=
  let w (m : SMap (Array Word)) (r c : Nat) : Word := (SMap.get #[] m r).getD c 0#32
  (List.range 1536).map (fun r => (r, (Array.range 2048).map (fun (c : Nat) => gleanPixel a (w silo) (w prev) r c)))

/-- What later frames ask of a frame. -/
def Frame.done (f : Frame) : Done := ⟨f.n, f.st, f.soSeq, f.silo, f.shutter, decide (f.stripes = 24) && !f.incomplete, f.refFail⟩

/-- The frame before frame `n`: in flight, or the last that poured or dropped. -/
def Pl.before (x : Pl) (n : Nat) : Option Done :=
  let k := (n + 0xffffffff) % 2 ^ 32
  match x.frame? k with
  | some f => some f.done
  | none => x.lastDone.filter (fun q => q.n = k)

/-- A frame that pours is offered to the glean (R109 to R112). -/
def State.gleanFrame (s : State) (p : Pipe) (f : Frame) : State :=
  let x := s.pl p
  let a := s.ancOf f.st
  let runs := decide (f.st.mode = .imaging) || (decide (f.st.mode = .calibration) && !bit f.st.fp 6)
  let idle := match x.event with
    | some e => e.ended.isSome
    | none => true
  match x.before f.n with
  | none => s
  | some q =>
    let fits := !q.shutter && !f.shutter && !exposureDiffers q.st f.st && decide (q.soSeq = f.soSeq)
    if !runs || !idle || !fits then s
    else
      let rows := gleanRows a f.silo q.silo
      let n : Nat := (rows.map (fun r => r.2.foldl (fun n d => if d.isSome then n + 1 else n) 0)).sum
      if n < 49152 then s
      else
        let g := rows.map (fun r =>
          let old := SMap.get #[] x.glean r.1
          (r.1, r.2.mapIdx (fun c d =>
            let o := old.getD c (0, 0)
            match d with
            | some d => (o.1 + 1, o.2 + d)
            | none => o)))
        let x := { x with glean := g, accepted := x.accepted + 1 }
        let x := if a.w ≤ x.accepted then { x.clearGlean with gleanCopy := some (g, x.table.seq) } else x
        s.setPl p x

/-- The step of a pixel of the copy (R112); none for a pixel with too few contributions. -/
def gleanStep (a : Anc) (x : Nat × Int) : Option Int :=
  if x.1 < a.w / 4 || x.1 = 0 then none
  else
    let num := x.2 * a.mu
    let den : Int := (x.1 : Int) * 256
    some (sat (divF (2 * num + den) (2 * den)) (-(a.stepMax : Int)) a.stepMax)

/-- The updated table (R112). -/
def gleanTable (a : Anc) (acc : SMap (Array (Nat × Int))) (so : SMap (Array Int)) : SMap (Array Int) :=
  let st (r c : Nat) : Option Int := gleanStep a ((SMap.get #[] acc r).getD c (0, 0))
  let mean (b : Nat) : Int :=
    let n := bandSum b 0 1536 0 2048 (fun r c => if (st r c).isSome then 1 else 0)
    let t := bandSum b 0 1536 0 2048 (fun r c => (st r c).getD 0)
    if n = 0 then 0 else divF (2 * t + n) (2 * n)
  let mA := mean 0
  let mB := mean 1
  let lim : Int := a.soLimit
  (List.range 1536).map (fun r => (r, (Array.range 2048).map (fun (c : Nat) =>
    match st r c with
    | some d => sat (soAt so r c - (d - (if (r + c) % 2 = 0 then mA else mB))) (-lim) lim
    | none => soAt so r c)))

/-- POSITION_REPORT (R278, R279). -/
def execPositionReport (dt : Nat) (input : Fin 2) (level : Bool) (s : State) : Host.Outcome State Fault Refusal :=
  .next (s.run dt (fun s => (s.positionReport input.val level).endIdleEvent .A))

/-- GLEAN_UPDATE: the update formed from the copy awaits its commit. -/
def State.gleanUpdate (s : State) (p : Pipe) : State :=
  let x := s.pl p
  match x.gleanCopy with
  | none => s
  | some (acc, base) =>
    let t : NextTable := ⟨gleanTable (s.ancOf x.snap) acc x.table.table, base, none⟩
    s.modPl p (fun x => { x with gleanCopy := none, gleanNext := some t })

/-! ## Commits at a pour (R107, R112, R113, R126) -/

/-- What a shutter commit does to a pipeline: the accumulator is cleared, a glean update being formed is discarded, BD_0,
T_0, the age and E_FLOOR take their new values, the count of failures returns to 0. -/
def Pl.anchored (x : Pl) (t : NextTable) (bd t0 : Int) (now : Nat) : Pl :=
  let y : Pl := (x.commitTable t.table (x.anchors + 1)).clearGlean
  let y : Pl := { y with anchors := x.anchors + 1, anchorNext := none, gleanCopy := none, gleanNext := none }
  { y with bd0 := bd, t0 := t0, ageFrom := now, eFloor := 0, fails := 0, degraded := false }

/-- A shutter commit, with ANCHOR_DONE (R126). -/
def State.commitAnchor (s : State) (p : Pipe) (t : NextTable) (bd t0 : Int) : State :=
  let s := s.modPl p (fun x => x.anchored t bd t0 s.now)
  let s := s.postP p 0x0043 [word (s.pl p).table.seq]
  match p with
  | .A => s.persist
  | .B => s

/-- A glean commit; an update whose base is not the table in force is discarded. -/
def State.commitGlean (s : State) (p : Pipe) (t : NextTable) : State :=
  let ok := decide (t.base = (s.pl p).table.seq)
  let s := s.modPl p (fun x =>
    let x := { x with gleanNext := none }
    if ok then x.commitTable t.table x.table.anchor else x)
  if ok && p = .A then { s with sup := { s.sup with gleanDirty := true } } else s

/-- What a pour commits: a shutter commit before a glean commit. -/
def State.commitAtPour (s : State) (p : Pipe) : State :=
  match (s.pl p).anchorNext with
  | some t =>
    let r := t.anchor.getD (0, 0)
    s.commitAnchor p t r.1 r.2
  | none =>
    match (s.pl p).gleanNext with
    | some t => s.commitGlean p t
    | none => s

/-! ## Commands -/

/-- GLEAN_UPDATE (R112). -/
def execGleanUpdate (dt : Nat) (pipe : Pipe) (s : State) : Host.Outcome State Fault Refusal := .next (s.run dt (fun s => s.gleanUpdate pipe))

/-- ANCHOR_FORMED (R125, R126). -/
def execAnchorFormed (dt : Nat) (pipe : Pipe) (s : State) : Host.Outcome State Fault Refusal := .next (s.run dt (fun s => s.formAnchor pipe))

/-- NO_CLOSE (R123). -/
def execNoClose (dt : Nat) (pipe : Pipe) (s : State) : Host.Outcome State Fault Refusal := .next (s.run dt (fun s => s.noClose pipe))

/-- OPEN_REPEAT (R124). -/
def execOpenRepeat (dt : Nat) (pipe : Pipe) (s : State) : Host.Outcome State Fault Refusal := .next (s.run dt (fun s => s.openRepeat pipe))

/-- SHUTTER_REQUEST_REPOST (R116). -/
def execShutterRequestRepost (dt : Nat) (pipe : Pipe) (s : State) : Host.Outcome State Fault Refusal :=
  .next (s.run dt (fun s => s.repostRequest pipe))

/-- SHUTTER_GRANT_LAPSED (R117). -/
def execShutterGrantLapsed (dt : Nat) (pipe : Pipe) (s : State) : Host.Outcome State Fault Refusal :=
  .next (s.run dt (fun s => s.grantLapse pipe))

/-- SO_PERSISTED (R130). -/
def execSoPersisted (dt : Nat) (s : State) : Host.Outcome State Fault Refusal := .next (s.run dt (fun s => s.persisted))

end Sys2Proof.Machine
end

