-- ==== Sys2Proof/Machine/Bundle.lean ====
section
/-! DEFINITION. UMV bundles as staged (R222): the header and directory, the sections FPC, LIN, NUC, ANC, RAD, PCV and CCH
(R87, R92, R103, R132, R150, R267, R415), and the rules that R104 and the sections' ranges ask. -/
namespace Sys2Proof.Machine

/-! ## Reading -/

/-- An unsigned little-endian field of `n` bytes at an offset. -/
def rd (m : SMap Byte) (a n : Nat) : Nat := unle (m.bytes a n)

/-- A signed one. -/
def rdS (m : SMap Byte) (a n : Nat) : Int := sgn (rd m a n) (8 * n)

/-- Unsigned fields one after the other. -/
def rdList (m : SMap Byte) (a n k : Nat) : List Nat := (List.range k).map (fun i => rd m (a + n * i) n)

/-- Signed ones. -/
def rdListS (m : SMap Byte) (a n k : Nat) : List Int := (List.range k).map (fun i => rdS m (a + n * i) n)

/-- Bytes that must be 0. -/
def zeros (m : SMap Byte) (a n : Nat) : Bool := (m.bytes a n).all (fun b => b = 0#8)

/-- A list rises strictly, by at least `d` from one to the next. -/
def rises (d : Int) : List Int → Bool
  | a :: b :: l => decide (a + d ≤ b) && rises d (b :: l)
  | _ => true

/-- A value lies in a range. -/
def within_ (x : Nat) (lo hi : Nat) : Bool := decide (lo ≤ x) && decide (x ≤ hi)

/-! ## Header and directory (R222) -/

/-- A directory entry: identifier, offset, length. -/
abbrev DirEntry := Nat × Nat × Nat

/-- The entries of the directory. -/
def directory (m : SMap Byte) : List DirEntry :=
  (List.range (rd m 6 2)).map (fun i => (rd m (16 + 12 * i) 4, rd m (20 + 12 * i) 4, rd m (24 + 12 * i) 4))

/-- TOTAL of the header. -/
def headerTotal (m : SMap Byte) : Nat := rd m 0x0c 4

/-- The header keeps its rules, for a bundle of `total` bytes. -/
def headerOk (m : SMap Byte) (total : Nat) : Bool :=
  let n := rd m 6 2
  decide (rd m 0 4 = 0x31564d55) && decide (rd m 4 2 = 1) && within_ n 1 32 && decide (rd m 8 4 ≠ 0) &&
    decide (headerTotal m = total) && zeros m (16 + 12 * n) (384 - 12 * n) && zeros m 0x190 0x30

/-- The offset of a section of a given length; none where it is missing, of another length or outside the bundle. -/
def section_ (m : SMap Byte) (total id len : Nat) : Option Nat :=
  match (directory m).find? (fun d => d.1 = id) with
  | some (_, o, l) => if l = len && o + len ≤ total then some o else none
  | none => none

/-! ## Sections -/

/-- FPC (R103, R104). -/
def parseFpc (m : SMap Byte) (o : Nat) : Option Fpc :=
  let n := rd m (o + 2) 1
  let tau := rdListS m (o + 4) 2 8
  let r := rdList m (o + 0x28) 4 64
  let lo := rd m (o + 0x14) 4
  let hi := rd m (o + 0x18) 4
  if within_ (rd m o 2) 32 8191 && within_ n 2 8 && zeros m (o + 3) 1 && rises 1280 (tau.take n) &&
      (tau.drop n).all (fun t => decide (t = 0)) && decide (hi ≤ 0xfffff) && decide (lo + 4096 ≤ hi) &&
      r.all (fun x => decide (x < 2 ^ 24)) && zeros m (o + 0x128) 0xd8 then
    some { tRef := rd m o 2, nSets := n, tau := tau, blLo := lo, blHi := hi, lSat := rd m (o + 0x1c) 2, sSat := rd m (o + 0x1e) 2,
           thDyn := rd m (o + 0x20) 2, thUnst := rd m (o + 0x22) 2, refColTol := rd m (o + 0x24) 2, refMeanTol := rd m (o + 0x26) 2,
           rExp := r }
  else none

/-- A linearisation table (R87). -/
def parseLin (m : SMap Byte) (o : Nat) : Array Word := (Array.range 1024).map (fun (i : Nat) => word (rd m (o + 4 * i) 4))

/-- Entries of a NUC set (R92). -/
def nucEntries : Nat := 1540 * 2080

/-- A NUC set (R92, R104): bits [19:0] of every entry 0. -/
def parseNuc (m : SMap Byte) (o : Nat) : Option NucSet :=
  if (List.range nucEntries).all (fun i => decide (rd m (o + 8 * i) 8 % 2 ^ 20 = 0)) then
    some ⟨0#64, (List.range nucEntries).foldl (fun t i => SMap.put 0#64 t i (BitVec.ofNat 64 (rd m (o + 8 * i) 8))) []⟩
  else none

/-- The ranges of ANC (R132). -/
def ancOk (m : SMap Byte) (o : Nat) : Bool :=
  let u (a n lo hi : Nat) : Bool := within_ (rd m (o + a) n) lo hi
  u 0x00 2 64 32767 && u 0x02 2 16 4096 && u 0x04 1 16 255 && u 0x05 1 1 255 && u 0x06 2 1 256 && u 0x08 2 256 32767 &&
    u 0x0a 1 3 6 && u 0x0b 1 1 8 && u 0x0c 2 0 4096 && u 0x0e 2 0 4096 && u 0x10 2 0 4096 && u 0x12 2 1 256 &&
    u 0x14 4 0 (rd m (o + 0x18) 4) && u 0x18 4 0 (rd m (o + 0x1c) 4) && u 0x1c 4 0 0xfffffe && u 0x20 2 64 32767 &&
    u 0x22 2 16 8192 && u 0x24 2 64 32767 && u 0x26 1 0 5 && u 0x27 1 0 5 &&
    (rdList m (o + 0x28) 4 130).all (fun x => decide (x < 2 ^ 24)) && zeros m (o + 0x230) 0xd0

/-- ANC (R132). -/
def parseAnc (m : SMap Byte) (o : Nat) : Option Anc :=
  if ancOk m o then
    some { gSpat := rd m o 2, gTemp := rd m (o + 2) 2, w := rd m (o + 4) 1, mu := rd m (o + 5) 1, stepMax := rd m (o + 6) 2,
           soLimit := rd m (o + 8) 2, nAvgLog2 := rd m (o + 0x0a) 1, sSet := rd m (o + 0x0b) 1, kBd := rd m (o + 0x0c) 2,
           kT := rd m (o + 0x0e) 2, kAge := rd m (o + 0x10) 2, bladeSpread := rd m (o + 0x12) 2, eOpp := rd m (o + 0x14) 4,
           eReq := rd m (o + 0x18) 4, eUrg := rd m (o + 0x1c) 4, corrMax := rd m (o + 0x20) 2, meanMax := rd m (o + 0x22) 2,
           zoneTol := rd m (o + 0x24) 2, bladeCh0 := rd m (o + 0x26) 1, bladeCh1 := rd m (o + 0x27) 1,
           shutA := rdList m (o + 0x28) 4 65, shutB := rdList m (o + 0x12c) 4 65 }
  else none

/-- RAD (R150). -/
def parseRad (m : SMap Byte) (o : Nat) : Option Rad :=
  let a := rdList m (o + 0x40) 4 257
  let b := rdList m (o + 0x444) 4 257
  let x0 (k : Nat) : Bool := decide (-(2 ^ 23) ≤ rdS m (o + k) 4) && decide (rdS m (o + k) 4 < 2 ^ 23)
  let pl (l : List Nat) : Bool := decide (1 ≤ l.getD 0 0) && rises 1 (l.map Int.ofNat)
  if x0 0 && x0 4 && within_ (rd m (o + 8) 4) 1 (2 ^ 31) && within_ (rd m (o + 0x0c) 4) 1 (2 ^ 31) &&
      within_ (rd m (o + 0x10) 2) 1 4096 && zeros m (o + 0x12) 0x2e && pl a && pl b &&
      decide (a.getD 256 0 + b.getD 256 0 ≤ 2 ^ 31 - 1) && zeros m (o + 0x848) 0xb8 then
    some { x0A := rdS m o 4, x0B := rdS m (o + 4) 4, rgA := rd m (o + 8) 4, rgB := rd m (o + 0x0c) 4, rcE := rd m (o + 0x10) 2,
           plA := a, plB := b }
  else none

/-- A temperature table of PCV. -/
def parseTable (m : SMap Byte) (o : Nat) : List (Int × Int) :=
  (List.range 17).map (fun i => (rdS m (o + 8 * i) 4, rdS m (o + 8 * i + 4) 4))

/-- PCV (R267). -/
def parsePcv (m : SMap Byte) (o : Nat) : Option (List (List (Int × Int))) :=
  let mask := rd m o 2
  let present (t : Nat) : Bool := decide (mask / 2 ^ t % 2 = 1)
  let at_ (t : Nat) : Nat := o + 0x10 + 136 * t
  let ok (t : Nat) : Bool :=
    if present t then
      let l := parseTable m (at_ t)
      rises 1 (l.map Prod.fst) && l.all (fun p => decide (-32768 ≤ p.2) && decide (p.2 ≤ 32767))
    else zeros m (at_ t) 136
  if mask % 16 = 15 && decide (mask < 1024) && zeros m (o + 2) 14 && (List.range 10).all ok && zeros m (o + 0x560) 0xa0 then
    some ((List.range 10).map (fun t => if present t then parseTable m (at_ t) else []))
  else none

/-- CCH (R415). -/
def parseCch (m : SMap Byte) (o : Nat) : Option CchSect :=
  let lvl := rdList m o 2 8
  let ts := rdListS m (o + 0x10) 2 3
  let spare (g : Nat) : List (Nat × Nat × Nat) := (List.range 3).map (fun i =>
    let a := o + 0x20 + 24 * g + 8 * i
    (rd m a 2, rd m (a + 2) 2, rd m (a + 4) 2))
  if lvl.all (fun x => within_ x 1 4095) && rises 2560 ts && zeros m (o + 0x16) 10 && zeros m (o + 0x638) 0x48 &&
      (List.range 195).all (fun i => zeros m (o + 0x20 + 8 * i + 6) 2) then
    some ⟨lvl, ts, (List.range 65).map (fun g => (g, spare g))⟩
  else none

/-! ## The bundle -/

/-- A section parsed, or its identifier where it is missing or breaks its rules. -/
def needed {α : Type} (m : SMap Byte) (total id len : Nat) (f : Nat → Option α) : Except Nat α :=
  match section_ m total id len with
  | some o => match f o with
    | some x => .ok x
    | none => .error id
  | none => .error id

/-- The NUC sets of a bundle. -/
def parseNucs (m : SMap Byte) (total : Nat) : Nat → Except Nat (List NucSet)
  | 0 => .ok []
  | n + 1 =>
    match parseNucs m total n with
    | .error e => .error e
    | .ok l => match needed m total (16 + n) (8 * nucEntries) (parseNuc m) with
      | .error e => .error e
      | .ok x => .ok (l ++ [x])

/-- A staged bundle of `total` bytes, or the identifier of the section that breaks a rule, 0 for the header. -/
def parseBundle (m : SMap Byte) (total : Nat) : Except Nat Bundle :=
  if !headerOk m total then .error 0
  else do
    let fpc ← needed m total 1 512 (parseFpc m)
    let linS ← needed m total 2 4096 (fun o => some (parseLin m o))
    let linL ← needed m total 3 4096 (fun o => some (parseLin m o))
    let nuc ← parseNucs m total fpc.nSets
    let anc ← needed m total 4 768 (parseAnc m)
    let rad ← needed m total 5 2304 (parseRad m)
    let pcv ← needed m total 32 1536 (parsePcv m)
    let cch ← needed m total 33 1664 (parseCch m)
    .ok { id := rd m 8 4, fpc := fpc, linS := linS, linL := linL, nuc := nuc, anc := anc, rad := rad, pcv := pcv, cch := cch,
          staged := some (total, m) }

/-- Bytes of the stored form of a bundle (R224). -/
def storedBytes (m : SMap Byte) (total : Nat) : Nat :=
  total - ((directory m).filter (fun d => decide (16 ≤ d.1) && decide (d.1 ≤ 31))).length * (25625600 - 17617600)

end Sys2Proof.Machine
end

