-- ==== Sys2Proof/Machine/Ledger.lean ====
section
/-! DEFINITION. The ledger (15): resolution of its records at boot, lockouts and the guard record (R219, R331, R351,
R352), the record and log writes that are due, and the windows of LEDGER_READ and LEDGER_WRITE (R349, R350). -/
namespace Sys2Proof.Machine

/-! ## Resolution (R341, R342, R346) -/

/-- A tally after R346. -/
def Tally.repaired (t : Tally) : Tally :=
  let high := t.high.settled t.tag
  let h := high.cur 0
  let eff := max h t.tag
  let high := if h < eff then high.write eff else high
  if t.tag ≠ eff then ⟨high, 0, eff⟩
  else if 256 ≤ t.bits then ⟨high.write (eff + 1), 0, eff + 1⟩
  else ⟨high, t.bits, t.tag⟩

/-- The TRIM record of a group. -/
def Nv.trimRec (n : Nv) (g : Nat) : Rec TrimGroup := SMap.get (Rec.both 0 TrimGroup.zero) n.trim g

/-- The factory content of a key slot: the MAINTENANCE slot takes the key of IDENT (R342). -/
def Nv.lostKey (n : Nv) (k : Nat) : List Byte := if k = 2 then n.identKey else []

/-- No password: sixteen zero bytes. -/
def noPassword : List Byte := List.replicate 16 0#8

/-- The ledger with every record settled. -/
def Nv.settled (n : Nv) : Nv :=
  { n with
    trim := (List.range 65).foldl (fun m g =>
      SMap.put (Rec.both 0 TrimGroup.zero) m g ((SMap.get (Rec.both 0 TrimGroup.zero) m g).settled TrimGroup.zero)) n.trim
    bias := n.bias.settled n.identBias
    tally := n.tally.map Tally.repaired
    keys := n.keys.zipIdx.map (fun k => k.1.settled (n.lostKey k.2))
    pw := n.pw.map (fun r => r.settled (noPassword, noPassword))
    guard := n.guard.settled ⟨List.replicate 8 0, List.replicate 8 30⟩ }

/-- A record resolved at boot: what it reports, and its count in LDG_STAT. -/
def State.bootRec {α : Type} (s : State) (r : Rec α) (offset : Nat) : State :=
  let s := s.resolveRec r offset
  match r.resolve with
  | none => { s with sup := { s.sup with ledgerLost := satInc s.sup.ledgerLost 1 255 } }
  | some (_, rewrite, _, _) =>
    if rewrite then { s with sup := { s.sup with ledgerRec := satInc s.sup.ledgerRec 1 255 } } else s

/-- The reports of the resolution, by rising offset. -/
def State.resolveReports (s : State) : State :=
  let n := s.nv
  let s := (List.range 65).foldl (fun s g => s.bootRec (n.trimRec g) (trimOffset g)) s
  let s := s.bootRec n.bias biasOffset
  let s := n.tally.zipIdx.foldl (fun s t => s.bootRec t.1.high (tallyOffset t.2)) s
  let s := n.keys.zipIdx.foldl (fun s k => s.bootRec k.1 (keyOffset k.2)) s
  let s := n.pw.zipIdx.foldl (fun s p => s.bootRec p.1 (pwOffset p.2)) s
  s.bootRec n.guard guardOffset

/-! ## Lockouts (R219, R331, R351, R352): who 0 to 3 a role, 4 to 7 a partition -/

/-- Seconds left of a lockout, a part of a second as a whole one (DESIGN CHOICE, notes/assumptions/30). -/
def State.lockLeft (s : State) (who : Nat) : Nat :=
  match s.sup.lockEnd.getD who none with
  | some t => (t - s.now + (sec - 1)) / sec
  | none => 0

/-- A lockout runs. -/
def State.lockedOut (s : State) (who : Nat) : Bool := decide (0 < s.lockLeft who)

/-- The content of the guard record now. -/
def State.guardNow (s : State) : Guard := ⟨s.sup.lockFails, (List.range 8).map s.lockLeft⟩

/-- The guard record rewritten. -/
def State.putGuard (s : State) : State :=
  { s with nv := { s.nv with guard := s.nv.guard.write s.guardNow }, sup := { s.sup with guardAt := s.now } }

/-- Lockouts of 30 s for the roles and partitions from a number on (R342). -/
def State.lockFrom (s : State) (who : Nat) : State :=
  { s with sup := { s.sup with
    lockEnd := s.sup.lockEnd.zipIdx.map (fun e => if who ≤ e.2 then some (max (e.1.getD 0) (s.now + 30 * sec)) else e.1) } }

/-- The guard record read back; where neither copy is valid its counts are 0 and everybody is locked out (R342). -/
def State.readGuard (s : State) : State :=
  let r := s.nv.guard
  let s := s.readRec r ⟨List.replicate 8 0, List.replicate 8 30⟩ guardOffset (fun n r => { n with guard := r })
  if r.resolve.isNone then { s with sup := { s.sup with lockFails := List.replicate 8 0 } }.lockFrom 0 else s

/-- The guard record read back and rewritten. -/
def State.writeGuard (s : State) : State := s.readGuard.putGuard

/-- Length in seconds of the lockout that the n-th consecutive failure starts. -/
def lockSeconds (n : Nat) : Nat := min 480 (30 * 2 ^ (n - 3))

/-- The event of a lockout start, which the log takes too. -/
def State.lockEvent (s : State) (who secs : Nat) : State :=
  let (code, a) := if who = 3 then (0x00c2, 3) else if who < 4 then (0x0007, who) else (0x00e2, who - 4)
  (s.post0 code [word a, word secs]).logCause 3 code [a, secs, 0]

/-- A failure counted. -/
def State.authFailure (s : State) (who : Nat) : State :=
  let n := satInc (s.sup.lockFails.getD who 0) 1 255
  let s := { s with sup := { s.sup with lockFails := s.sup.lockFails.set who n } }
  if n < 3 then s.writeGuard
  else
    let t := lockSeconds n
    let s := { s with sup := { s.sup with lockEnd := s.sup.lockEnd.set who (some (s.now + t * sec)) } }
    s.writeGuard.lockEvent who t

/-- A success returns the failure count to 0. -/
def State.authSuccess (s : State) (who : Nat) : State :=
  if s.sup.lockFails.getD who 0 = 0 then s
  else ({ s with sup := { s.sup with lockFails := s.sup.lockFails.set who 0 } }).writeGuard

/-- A fail count and a lockout cleared (R351). -/
def State.clearLock (s : State) (who : Nat) : State :=
  ({ s with sup := { s.sup with lockFails := s.sup.lockFails.set who 0, lockEnd := s.sup.lockEnd.set who none } }).writeGuard

/-- A lockout timer that has run out ends the lockout. -/
def State.lockoutEnd (s : State) (who : Nat) : State :=
  match s.sup.lockEnd.getD who none with
  | some t =>
    if t ≤ s.now then ({ s with sup := { s.sup with lockEnd := s.sup.lockEnd.set who none } }).writeGuard else s
  | none => s

/-- Counts and lockouts after boot: from the guard record, and 30 s for every partition where passwords were lost (R342,
notes/assumptions/83). -/
def State.restoreLocks (s : State) (pwLost : List Bool) : State :=
  let g := s.nv.guard.cur ⟨List.replicate 8 0, List.replicate 8 30⟩
  let remain (w : Nat) : Nat :=
    let r := g.remain.getD w 0
    if 4 ≤ w && pwLost.contains true then max r 30 else r
  let ends := (List.range 8).map (fun w => if remain w = 0 then none else some (s.now + remain w * sec))
  let s := { s with sup := { s.sup with lockFails := (List.range 8).map (fun w => g.fails.getD w 0), lockEnd := ends,
                                        guardAt := s.now } }
  if pwLost.contains true then s.writeGuard else s

/-- BOOT step 3: every record resolved, the boot counted, lockouts resumed, RESID resumed. -/
def State.ledgerBoot (s : State) : State :=
  let pwLost := s.nv.pw.map (fun r => r.resolve.isNone)
  let r := s.resolveReports
  let r := ({ r with nv := r.nv.settled }).countTally 5
  let r := r.restoreLocks pwLost
  { r with sup := { r.sup with ledgerReady := true, opSince := -((min 359 r.nv.resid * sec : Nat) : Int), residSince := 0 } }

/-! ## Writes that are due -/

/-- The TRIM record of a group from the channels as they stand (R81, R343). -/
def State.trimNow (s : State) (g : Nat) : TrimGroup :=
  { perm := (s.grp g).perm, spareFailed := (s.grp g).failed,
    chans := (List.range 32).map (fun j => (s.chan g j).trim) ++ [(s.grp g).spare] }

/-- The TRIM record of a group placed. -/
def Nv.putTrim (n : Nv) (g : Nat) (r : Rec TrimGroup) : Nv :=
  { n with trim := SMap.put (Rec.both 0 TrimGroup.zero) n.trim g r }

/-- The TRIM record of a group read back and rewritten. -/
def State.writeTrim (s : State) (g : Nat) : State :=
  let s := s.readRec (s.nv.trimRec g) TrimGroup.zero (trimOffset g) (fun n r => n.putTrim g r)
  { s with nv := s.nv.putTrim g ((s.nv.trimRec g).write (s.trimNow g)) }

/-- The group records that are due (R81). -/
def State.writeTrims (s : State) : State :=
  let s := s.sup.trimDue.foldl State.writeTrim s
  { s with sup := { s.sup with trimDue := [] } }

/-- The bias record that is due (R59), read back and rewritten. -/
def State.writeBias (s : State) : State :=
  match s.sup.biasWrite with
  | none => s
  | some b =>
    let s := s.readRec s.nv.bias s.nv.identBias biasOffset (fun n r => { n with bias := r })
    { s with nv := { s.nv with bias := s.nv.bias.write b }, sup := { s.sup with biasWrite := none } }

/-- SEQ of the newest valid entry (R347); none where no entry is valid. -/
def newestLog (m : SMap (Option LogEntry)) : Option Nat :=
  (m.filterMap Prod.snd).foldl (fun b e =>
    match b with
    | none => some e.seq
    | some q => if newer 32 e.seq q then some e.seq else some q) none

/-- The oldest entry that is due, written (R347, R348). MS is the time of the write (DESIGN CHOICE,
notes/assumptions/31). -/
def State.writeLog (s : State) : State :=
  match s.sup.logDue with
  | [] => s
  | (kind, code, args) :: rest =>
    if !s.sup.ledgerReady then s
    else
      let q := match newestLog s.nv.log with
        | some q => (q + 1) % 2 ^ 32
        | none => 0
      let e : LogEntry := ⟨q, (s.tally 5).value, s.now / ms, kind, code, (args ++ [0, 0, 0]).take 3⟩
      { s with nv := { s.nv with log := SMap.put none s.nv.log (q % 2048) (some e) }, sup := { s.sup with logDue := rest } }

/-- The guard record 16 s after its last write, while a lockout runs (R352). -/
def State.rewriteGuard (s : State) : State :=
  if (List.range 8).any s.lockedOut && decide (s.sup.guardAt + 16 * sec ≤ s.now) then s.writeGuard else s

/-- RESID after 60 s of operating time (R344). -/
def State.rewriteResid (s : State) : State :=
  if s.sup.ledgerReady && decide (s.sup.residSince + 60 * (sec : Int) ≤ s.now) then
    let t := s.sup.residSince + 60 * (sec : Int)
    { s with nv := { s.nv with resid := min 359 ((t - s.sup.opSince) / (sec : Int)).toNat }, sup := { s.sup with residSince := t } }
  else s

/-- 0.1 h of operating time (R344). -/
def State.operating (s : State) : State :=
  if s.sup.ledgerReady && decide (s.sup.opSince + 360 * (sec : Int) ≤ s.now) then
    let t := s.sup.opSince + 360 * (sec : Int)
    let s := s.countTally 4
    { s with nv := { s.nv with resid := 0 }, sup := { s.sup with opSince := t, residSince := t } }
  else s

/-! ## The windows of LEDGER_READ and LEDGER_WRITE (R349, R350) -/

/-- What a range of a window names. -/
inductive Window where
  | customer (p offset : Nat)
  | log (offset : Nat)
  | key (slot : Nat)
  | password (p : Nat)
  deriving DecidableEq, Repr

/-- The window of OFFSET and LENGTH; none where the range leaves it or the length is not allowed. -/
def window (off len : Nat) : Option Window :=
  if len = 0 || decide (4096 < len) then none
  else if off < 0x40000 then
    if off % 0x10000 + len ≤ 0x10000 then some (.customer (off / 0x10000) off) else none
  else if 0x100000 ≤ off && decide (off + len ≤ 0x110000) then some (.log (off - 0x100000))
  else if 0x200000 ≤ off && decide (off < 0x200080) && off % 32 = 0 && len = 32 then some (.key ((off - 0x200000) / 32))
  else if 0x300000 ≤ off && decide (off < 0x300080) && off % 32 = 0 && len = 32 then some (.password ((off - 0x300000) / 32))
  else none

/-- The 32 bytes of a log entry; of a place with no valid entry, zeros (DESIGN CHOICE, notes/assumptions/31). -/
def logBytes : Option LogEntry → List Byte
  | none => List.replicate 32 0#8
  | some e =>
    let b := le 4 e.seq ++ le 4 e.boot ++ le 4 e.ms ++ le 1 e.kind ++ le 1 0 ++ le 2 e.code ++ e.args.flatMap (le 4)
    b ++ le 4 (crc32 b).toNat

/-- Bytes of the LOG window. -/
def Nv.logRange (n : Nv) (off len : Nat) : List Byte :=
  let all := (List.range (len / 32 + 2)).flatMap (fun i => logBytes (SMap.get none n.log (off / 32 + i)))
  (all.drop (off % 32)).take len

/-- The first `n` bytes, short ones filled with zeros. -/
def takeBytes (n : Nat) (b : List Byte) : List Byte := (b ++ List.replicate (n - b.length) 0#8).take n

/-- The passwords of a partition. -/
def State.passwords (s : State) (p : Nat) : List Byte × List Byte :=
  (s.nv.pw.getD p (Rec.both 0 (noPassword, noPassword))).cur (noPassword, noPassword)

/-- The key in a slot; empty: no byte. -/
def State.keyOf (s : State) (k : Nat) : List Byte := (s.nv.keys.getD k (Rec.both 0 [])).cur []

/-- A key slot read back (R341). -/
def State.readKey (s : State) (k : Nat) : State :=
  s.readRec (s.nv.keys.getD k (Rec.both 0 [])) (s.nv.lostKey k) (keyOffset k) (fun n r => { n with keys := n.keys.set k r })

/-- The passwords of a partition read back; where neither copy is valid every partition is locked out (R341, R342). -/
def State.readPw (s : State) (p : Nat) : State :=
  let r := s.nv.pw.getD p (Rec.both 0 (noPassword, noPassword))
  let s := s.readRec r (noPassword, noPassword) (pwOffset p) (fun n r => { n with pw := n.pw.set p r })
  if r.resolve.isNone then (s.lockFrom 4).writeGuard else s

/-- The password check of a CUSTOMER command (R350, R351): the status, 0 where the command may go on. -/
def State.checkPassword (s : State) (p : Nat) (given : List Byte) (writing : Bool) : State × Nat :=
  let s := s.readPw p
  let (rpw, wpw) := s.passwords p
  let needed := if writing then wpw else rpw
  if s.lockedOut (4 + p) then (s, 14)
  else if needed = noPassword then (s, 0)
  else if given = needed || (given = wpw && wpw ≠ noPassword) then (s.authSuccess (4 + p), 0)
  else (s.authFailure (4 + p), 13)

/-- LEDGER_READ: the status. -/
def State.ledgerRead (s : State) (off len : Nat) (addr : BitVec 64) (block : Option (List Byte)) : State × Nat :=
  let give (s : State) (b : List Byte) : State :=
    { s with hif := { s.hif with hostWrites := (addr + 16#64, b) :: s.hif.hostWrites } }
  if addr.toNat % 4 ≠ 0 then (s, 2)
  else match window off len, block with
    | some (.customer p o), some b =>
      match s.checkPassword p (takeBytes 16 b) false with
      | (s, 0) => (give s (s.nv.customer.bytes o len), 0)
      | r => r
    | some (.log o), some _ => (give s (s.nv.logRange o len), 0)
    | some (.customer _ _), none => (s, 12)
    | some (.log _), none => (s, 12)
    | _, _ => (s, 2)

/-- A key slot written (R353). -/
def State.writeKey (s : State) (k : Nat) (b : List Byte) : State :=
  let set_ := decide (b ≠ List.replicate 32 0#8)
  let v := if set_ then b else []
  let s := s.readKey k
  let s := { s with nv := { s.nv with keys := modAt s.nv.keys k (fun r => r.write v) } }
  let a := if set_ then 1 else 0
  (s.post0 0x00e3 [word k, word a]).logCause 3 0x00e3 [k, a, 0]

/-- LEDGER_WRITE; `maint` is the role M that the keys and passwords ask for. -/
def State.ledgerWrite (s : State) (maint : Bool) (off len : Nat) (addr : BitVec 64) (block : Option (List Byte)) : State × Nat :=
  if addr.toNat % 4 ≠ 0 then (s, 2)
  else match window off len with
    | none => (s, 2)
    | some (.log _) => (s, 2)
    | some (.customer p o) =>
      match block with
      | none => (s, 12)
      | some b =>
        match s.checkPassword p (takeBytes 16 b) true with
        | (s, 0) => ({ s with nv := { s.nv with customer := s.nv.customer.write o (takeBytes len (b.drop 16)) } }, 0)
        | r => r
    | some (.key k) =>
      if !maint then (s, 5)
      else match block with
        | none => (s, 12)
        | some b =>
          let v := takeBytes 32 (b.drop 16)
          if k = 2 && v = List.replicate 32 0#8 then (s, 2) else (s.writeKey k v, 0)
    | some (.password p) =>
      if !maint then (s, 5)
      else match block with
        | none => (s, 12)
        | some b =>
          let v := takeBytes 32 (b.drop 16)
          let s := s.readPw p
          let s := { s with nv := { s.nv with pw := modAt s.nv.pw p (fun r => r.write (v.take 16, v.drop 16)) } }
          (s.clearLock (4 + p), 0)

/-! ## Loss of power during a write (R338, R340, R345, R349) -/

/-- Bytes of a write from an offset on that its first `n` pages take. -/
def pageBytes (off n : Nat) : Nat := n * 128 - off % 128

/-- A pulse of a channel is due, or waits for its switch, and its tally may be in the counting (R345). -/
def State.countDue (s : State) (t : Nat) : Bool :=
  if t < 4 then
    (List.range 4).any (fun ch => ch / 2 = t / 2 && ((s.ch ch).due.isSome || (s.act.waits.getD (ch / 2) none).isSome))
  else if t = 4 then s.sup.ledgerReady && decide (s.sup.opSince + 360 * (sec : Int) ≤ s.now)
  else s.mode = .boot && !s.sup.ledgerReady

/-- A LEDGER_WRITE that loses power after `n` pages. -/
def State.cutHost (s : State) (maint : Bool) (off len : Nat) (addr : BitVec 64) (block : Option (List Byte)) (n : Nat) : Nv :=
  let r := s.ledgerWrite maint off len addr block
  let data := takeBytes len ((block.getD []).drop 16)
  if r.2 ≠ 0 then r.1.nv
  else match window off len with
    | some (.customer _ o) => { r.1.nv with customer := s.nv.customer.write o (data.take (pageBytes o n)) }
    | some (.key k) =>
      let u := s.readKey k
      let v := if data = List.replicate 32 0#8 then [] else data
      { u.nv with keys := modAt u.nv.keys k (fun x => x.cut v 1 n) }
    | some (.password p) =>
      let u := s.readPw p
      { u.nv with pw := modAt u.nv.pw p (fun x => x.cut (data.take 16, data.drop 16) 1 n) }
    | _ => r.1.nv

/-- The ledger when the write that was running has lost power (R338, R372). A write that is not due changes nothing. -/
def State.cutWrite (s : State) (c : LedgerCut) : Nv :=
  match c.job with
  | .trim g => if s.sup.trimDue.contains g.val then s.nv.putTrim g.val ((s.nv.trimRec g.val).cut (s.trimNow g.val) 5 c.pages) else s.nv
  | .bias =>
    match s.sup.biasWrite with
    | some b => { s.nv with bias := s.nv.bias.cut b 1 c.pages }
    | none => s.nv
  | .tally t => if s.countDue t.val then { s.nv with tally := modAt s.nv.tally t.val (fun x => x.cut c.pages) } else s.nv
  | .log => if c.pages = 0 then s.nv else s.writeLog.nv
  | .guard => if (List.range 8).any s.lockedOut then { s.nv with guard := s.nv.guard.cut s.guardNow 1 c.pages } else s.nv
  | .host maint off len addr block => s.cutHost maint off.toNat len.toNat addr block c.pages

/-! ## Commands -/

/-- LOCKOUT_END (R219). -/
def execLockoutEnd (dt : Nat) (who : Fin 8) (s : State) : Host.Outcome State Fault Refusal := .next (s.run dt (fun s => s.lockoutEnd who))

/-- TRIM_RECORD_WRITE (R81). -/
def execTrimRecordWrite (dt : Nat) (s : State) : Host.Outcome State Fault Refusal := .next (s.run dt (fun s => s.writeTrims))

/-- BIAS_RECORD_WRITE (R59). -/
def execBiasRecordWrite (dt : Nat) (s : State) : Host.Outcome State Fault Refusal := .next (s.run dt (fun s => s.writeBias))

/-- LOG_ENTRY_WRITE (R348). -/
def execLogEntryWrite (dt : Nat) (s : State) : Host.Outcome State Fault Refusal := .next (s.run dt (fun s => s.writeLog))

/-- GUARD_RECORD_REWRITE (R352). -/
def execGuardRecordRewrite (dt : Nat) (s : State) : Host.Outcome State Fault Refusal := .next (s.run dt (fun s => s.rewriteGuard))

/-- RESID_REWRITE (R344). -/
def execResidRewrite (dt : Nat) (s : State) : Host.Outcome State Fault Refusal := .next (s.run dt (fun s => s.rewriteResid))

/-- OPERATING_TIME (R344). -/
def execOperatingTime (dt : Nat) (s : State) : Host.Outcome State Fault Refusal := .next (s.run dt (fun s => s.operating))

end Sys2Proof.Machine
end

