-- ==== Sys2Proof/Machine/Recon.lean ====
section
/-! DEFINITION. Two-band reconstruction and radiometry (06): the band planes, the temporal filter, radiance and
temperature. -/
namespace Sys2Proof.Machine

/-! ## Reconstruction (R134 to R136) -/

/-- An index taken by reflection about the edge pixels 0 and `last` (R134). -/
def reflect (i : Int) (last : Nat) : Nat := if i < 0 then (-i).toNat else if (last : Int) < i then (2 * last - i).toNat else i.toNat

/-- A silo word at a position, by reflection. -/
def siloAt (m : SMap (Array Word)) (r c : Int) : Word :=
  (SMap.get #[] m (reflect r 1535)).getD (reflect c 2047) 0#32

/-- The other band's value (R135). -/
def otherBand (v : Int → Int → Int) (e : Int) (r c : Int) : Int :=
  let xh := rnd (v r (c - 1) + v r (c + 1)) 1
  let xv := rnd (v (r - 1) c + v (r + 1) c) 1
  let gh : Int := (v r (c - 1) - v r (c + 1)).natAbs + rnd (2 * v r c - v r (c - 2) - v r (c + 2)).natAbs 1
  let gv : Int := (v (r - 1) c - v (r + 1) c).natAbs + rnd (2 * v r c - v (r - 2) c - v (r + 2) c).natAbs 1
  let num := xh * (gv + e) + xv * (gh + e)
  let den := gh + gv + 2 * e
  divF (2 * num + den) (2 * den)

/-- A plane word (R136). -/
def planeWord (tfNew repl clip interp : Bool) (v : Int) : Word :=
  word (flag tfNew 27 + flag repl 26 + flag clip 25 + flag interp 24 + code v 24)

/-- The words of X_A and X_B at a pixel (R135, R136). -/
def planesAt (m : SMap (Array Word)) (e : Int) (r c : Int) : Word × Word :=
  let w := siloAt m r c
  let nb := [siloAt m r (c - 1), siloAt m r (c + 1), siloAt m (r - 1) c, siloAt m (r + 1) c]
  let rep (x : Word) : Bool := bit x 24 || bit x 28
  let own := planeWord false (rep w) (bit w 27) false (value24 w)
  let oth := planeWord false (nb.any rep) (nb.any (fun x => bit x 27)) true (otherBand (fun i j => value24 (siloAt m i j)) e r c)
  if (r + c) % 2 = 0 then (own, oth) else (oth, own)

/-! ## Temporal filter (R137) -/

/-- One pixel of the filter: the new state and the Y word. -/
def filterPix (st : Radio) (restart : Bool) (z : Int) (x : Word) : Int × Word :=
  let v := value24 x
  let (z', new) :=
    if restart || st.tfEn = 0 || bit x 25 then (v * 16, true)
    else
      let d := v * 16 - z
      let a := shr d.natAbs 4
      let lo : Int := st.tfLo
      let hi : Int := st.tfHi
      let al : Int := st.tfAlpha
      let alpha := if a ≤ lo then al else if hi ≤ a then 256 else al + divF ((a - lo) * (256 - al)) (hi - lo)
      (z + rnd (alpha * d) 8, false)
  (z', planeWord new (bit x 26) (bit x 25) (bit x 24) (rnd z' 4))

/-! ## Radiance (R140 to R143) -/

/-- P_b(t) of a Planck table (R141). -/
def planck (pl : List Nat) (t : Int) : Int :=
  let p (i : Nat) : Int := (pl.getD i 0 : Nat)
  if t ≤ 12800 then p 0
  else if 45568 ≤ t then p 256
  else
    let i := ((t - 12800) / 128).toNat
    p i + rnd ((t - 12800) % 128 * (p (i + 1) - p i)) 7

/-- P⁻¹_b(Λ) as a TEMPMAP code (R141, R147): 0 under, 0xffff over. -/
def planckInv (pl : List Nat) (l : Int) : Nat :=
  let p (i : Nat) : Int := (pl.getD i 0 : Nat)
  if l < p 0 then 0
  else if p 256 < l then 0xffff
  else
    let i := (List.range 256).foldl (fun a j => if p j ≤ l then j else a) 0
    let d := p (i + 1) - p i
    (12800 + 128 * (i : Int) + divF (2 * ((l - p i) * 128) + d) (2 * d)).toNat

/-- The fused table PL_F. -/
def fusedTable (r : Rad) : List Nat := List.zipWith (· + ·) r.plA r.plB

/-- A temperature in 1/256 °C as a code in 1/64 K (R140). -/
def kelvinCode (t : Int) : Nat := (rnd (t + 69926) 2).toNat

/-- Λs of one pixel (R142). -/
def sceneRadiance (x0 : Int) (rg tau : Nat) (pl : List Nat) (tLens : Nat) (y : Int) : Int :=
  let lm := rnd ((y - x0) * rg) 24
  let ll := planck pl tLens
  let num := (lm - rnd ((32768 - (tau : Int)) * ll) 15) * 2 ^ 15
  divF (2 * num + tau) (2 * tau)

/-- Λbb of one pixel (R144). -/
def blackbody (eps : Nat) (pl : List Nat) (tRefl : Nat) (ls : Int) : Int :=
  let lr := planck pl tRefl
  let num := (ls - rnd ((32768 - (eps : Int)) * lr) 15) * 2 ^ 15
  divF (2 * num + eps) (2 * eps)

/-! ## Temperature (R144 to R147) -/

/-- The bisection of R146. -/
def bisect (ge : Int → Bool) : Nat → Int → Int → Int
  | 0, _, hi => hi
  | n + 1, lo, hi =>
    if hi - lo ≤ 1 then hi
    else
      let mid := shr (lo + hi) 1
      if ge mid then bisect ge n lo mid else bisect ge n mid hi

/-- The two-band temperature and ε̂ from the window sums (R146); none is a fallback. -/
def twoBand (r : Rad) (tRefl tbMin : Nat) (clip : Bool) (sumA sumB : Int) : Option (Nat × Nat) :=
  let pa (t : Int) : Int := planck r.plA t
  let pb (t : Int) : Int := planck r.plB t
  let tr : Int := tRefl
  let dA := sumA - 9 * pa tr
  let dB := sumB - 9 * pb tr
  let ge (t : Int) : Bool := decide (dA * (pb t - pb tr) ≤ (pa t - pa tr) * dB)
  let lo := tr + 64
  if clip || decide (dB < 9 * (tbMin : Int)) || decide (dA ≤ 0) || decide (45504 < tRefl) || !ge 45568 then none
  else
    let hi := if ge lo then lo else 45568
    let t := bisect ge 17 lo hi
    let den := 9 * (pa t - pa tr)
    if den ≤ 0 then none
    else
      let e := divF (2 * (dA * 2 ^ 15) + den) (2 * den)
      if e < 16384 || 33423 < e then none else some (t.toNat, e.toNat)

/-- The planes of a finished frame at a position, by reflection. -/
def Frame.yAt (m : SMap (Array Word)) (r c : Int) : Word := siloAt m r c

/-- Λs at a position, by reflection. -/
def radAt (m : SMap (Array Int)) (r c : Int) : Int := (SMap.get #[] m (reflect r 1535)).getD (reflect c 2047) 0

/-- The nine positions of a window. -/
def window9 (r c : Int) : List (Int × Int) :=
  [(r - 1, c - 1), (r - 1, c), (r - 1, c + 1), (r, c - 1), (r, c), (r, c + 1), (r + 1, c - 1), (r + 1, c), (r + 1, c + 1)]

/-- The two-band result of a pixel of a frame. -/
def Frame.twoBandAt (f : Frame) (b : Rad) (r c : Nat) : Option (Nat × Nat) :=
  let w := window9 r c
  let clip := w.any (fun p => bit (siloAt f.yA p.1 p.2) 25 || bit (siloAt f.yB p.1 p.2) 25)
  twoBand b f.st.radio.tRefl f.st.radio.tbMin clip (w.map (fun p => radAt f.lsA p.1 p.2)).sum (w.map (fun p => radAt f.lsB p.1 p.2)).sum

/-- T_F of a pixel (R144). -/
def Frame.fusedTemp (f : Frame) (b : Rad) (r c : Nat) : Nat :=
  let x := f.st.radio
  planckInv (fusedTable b)
    (blackbody x.epsA b.plA x.tRefl (radAt f.lsA r c) + blackbody x.epsB b.plB x.tRefl (radAt f.lsB r c))

/-- The TEMPMAP code that R141 to R147 define for a pixel, and whether it fell back (R146). -/
def Frame.tempAt (f : Frame) (b : Rad) (r c : Nat) : Nat × Bool :=
  let x := f.st.radio
  let two := if x.tmMethod = 3 then f.twoBandAt b r c else none
  let fell := decide (x.tmMethod = 3) && two.isNone
  if bit (siloAt f.yA r c) 25 || bit (siloAt f.yB r c) 25 then (0xfffe, fell)
  else
    let t := match x.tmMethod, two with
      | 0, _ => planckInv b.plA (blackbody x.epsA b.plA x.tRefl (radAt f.lsA r c))
      | 1, _ => planckInv b.plB (blackbody x.epsB b.plB x.tRefl (radAt f.lsB r c))
      | 3, some y => y.1
      | _, _ => f.fusedTemp b r c
    (t, fell)

/-- A TEMPMAP code within one LSB of the defined one (R148); `k` is 0, 1 or 2. Codes that are no temperature are exact. -/
def tempStep (k : Fin 3) (t : Nat) : Nat :=
  if t < 12800 || 45568 < t then t
  else if k = 0 then max 12800 (t - 1) else if k = 2 then min 45568 (t + 1) else t

/-- TEMPMAP row r of a frame and its fallbacks; `draw` counts the free values (Config.tempmapStep). -/
def Frame.tempRow (f : Frame) (b : Rad) (draw r : Nat) : Array Nat × Nat :=
  let xs := (Array.range 2048).map (fun c =>
    let (t, fell) := f.tempAt b r c
    (tempStep (Config.tempmapStep draw r c) t, fell))
  (xs.map Prod.fst, xs.foldl (fun n x => if x.2 then n + 1 else n) 0)

/-! ## Stripes -/

/-- T_lens of a frame that starts now, and whether it is substituted (R140): a conversion that completes in the clock
cycle of the marker belongs to the next frame (R24). -/
def State.lensTemp (s : State) (x : Radio) (ptemp : Int) : Nat × Bool :=
  if x.lensSrc = 6 then (x.lensT, false)
  else if x.lensSrc = 7 then (kelvinCode ptemp, false)
  else match (s.pcv.ext.getD x.lensSrc []).find? (fun y => decide (y.2 < s.now)) with
    | some y => (kelvinCode y.1, false)
    | none => (kelvinCode ptemp, true)

/-- Rows 64k to 64k + 63 of a frame through stages 1 to 3 (R133): the new filter states, the Y planes, Λs. -/
def stripeRows (b : Rad) (st : Radio) (restart : Bool) (tLens : Nat) (silo : SMap (Array Word)) (zA zB : SMap (Array Int))
    (r : Nat) : (Array Int × Array Word × Array Int) × (Array Int × Array Word × Array Int) :=
  let px := (Array.range 2048).map (fun c => planesAt silo b.rcE r (c : Nat))
  let band (pick : Word × Word → Word) (z : Array Int) (x0 : Int) (rg tau : Nat) (pl : List Nat) :
      Array Int × Array Word × Array Int :=
    let f := (Array.range 2048).map (fun c => filterPix st restart (z.getD c 0) (pick (px.getD c (0#32, 0#32))))
    (f.map Prod.fst, f.map Prod.snd, f.map (fun y => sceneRadiance x0 rg tau pl tLens (value24 y.2)))
  (band Prod.fst (SMap.get #[] zA r) b.x0A b.rgA st.tauA b.plA, band Prod.snd (SMap.get #[] zB r) b.x0B b.rgB st.tauB b.plB)

/-- One row of a stripe put into the frame and the filter state of its pipeline. -/
def stripeStep (b : Rad) (acc : Frame × SMap (Array Int) × SMap (Array Int)) (r : Nat) :
    Frame × SMap (Array Int) × SMap (Array Int) :=
  let (f, zA, zB) := acc
  let ((za, ya, la), (zb, yb, lb)) := stripeRows b f.st.radio f.restart f.lensT f.silo zA zB r
  ({ f with yA := SMap.insert f.yA r ya, yB := SMap.insert f.yB r yb, lsA := SMap.insert f.lsA r la, lsB := SMap.insert f.lsB r lb },
   SMap.insert zA r za, SMap.insert zB r zb)

/-- Stages 1 to 3 on stripe k of a frame. -/
def stripeStages (b : Rad) (k : Nat) (f : Frame) (zA zB : SMap (Array Int)) : Frame × SMap (Array Int) × SMap (Array Int) :=
  ((List.range 64).map (fun i => 64 * k + i)).foldl (stripeStep b) (f, zA, zB)

end Sys2Proof.Machine
end

