-- ==== Sys2Proof/Machine/Products.lean ====
section
/-! DEFINITION. Products and statistics (07, and CANDIDATES, SURFACE and the 1210 stage of 08): what the engines form
of a frame, and the frame record. -/
namespace Sys2Proof.Machine

/-- A sum over 0 … n − 1. -/
def sumTo (n : Nat) (f : Nat → Int) : Int := ((List.range n).map f).sum

/-- A count over 0 … n − 1. -/
def countTo (n : Nat) (f : Nat → Bool) : Nat := ((List.range n).filter f).length

/-! ## Product sets (R168) -/

/-- The product codes a camera receives under a snapshot. -/
def Camera.codes (c : Camera) (cool : Bool) : List Nat := if cool then c.cool else c.normal

/-- The union of the cameras' sets in force, in code order. -/
def Settings.products (st : Settings) : List Nat :=
  (List.range 10).filter (fun k => st.cams.any (fun c => (c.codes st.cool).contains k))

/-- Stage TEMP runs (R175). -/
def Settings.needsTemp (st : Settings) : Bool :=
  st.products.any (fun k => k = 5 || k = 7 || k = 8) || st.services % 2 = 1

/-! ## Images of a frame -/

/-- Rows and columns of a frame's image: binned in 1210 mode (R195). -/
def Frame.dims (f : Frame) : Nat × Nat := if f.st.compat then (768, 1024) else (1536, 2048)

/-- A value of a row map. -/
def cell {α : Type} (d : α) (m : SMap (Array α)) (r c : Nat) : α := (SMap.get #[] m r).getD c d

/-- Λ_F of a pixel (R142, R195). -/
def Frame.lam (f : Frame) (r c : Nat) : Int :=
  if f.st.compat then cell 0 f.lsA r c else cell 0 f.lsA r c + cell 0 f.lsB r c

/-- The Y words of a pixel: both bands, or twice the binned one. -/
def Frame.yWords (f : Frame) (r c : Nat) : Word × Word :=
  let a := cell 0#32 f.yA r c
  (a, if f.st.compat then a else cell 0#32 f.yB r c)

/-! ## 1210 mode (R195) -/

/-- The binned word b(i, j) in the layout of R136. -/
def binnedWord (m : SMap (Array Word)) (i j : Nat) : Word :=
  let ws := [cell 0#32 m (2 * i) (2 * j), cell 0#32 m (2 * i) (2 * j + 1), cell 0#32 m (2 * i + 1) (2 * j), cell 0#32 m (2 * i + 1) (2 * j + 1)]
  planeWord false (ws.any (fun w => bit w 24 || bit w 28)) (ws.any (fun w => bit w 27)) false (rnd (ws.map value24).sum 2)

/-- Stage COMPAT on one binned row: filter state, Y words, Λ_F. The lens term is free (Config.compatLens). -/
def compatRow (b : Rad) (st : Radio) (restart : Bool) (tLens : Nat) (silo : SMap (Array Word)) (z : SMap (Array Int)) (i : Nat) :
    Array Int × Array Word × Array Int :=
  let zr := SMap.get #[] z i
  let f := (Array.range 1024).map (fun (j : Nat) => filterPix st restart (zr.getD j 0) (binnedWord silo i j))
  let x0 := rnd (b.x0A + b.x0B) 1
  let rg := (rnd ((b.rgA : Int) + b.rgB) 1)
  let tau : Int := st.tauA
  let lam (y : Int) : Int :=
    let lm := rnd ((y - x0) * rg) 24
    let num := (lm - rnd ((32768 - tau) * Config.compatLens b.plA b.plB tLens) 15) * 2 ^ 15
    divF (2 * num + tau) (2 * tau)
  (f.map Prod.fst, f.map Prod.snd, f.map (fun y => lam (value24 y.2)))

/-- Stage COMPAT on the 32 binned rows of stripe k. -/
def compatStripe (b : Rad) (k : Nat) (f : Frame) (z : SMap (Array Int)) : Frame × SMap (Array Int) :=
  ((List.range 32).map (fun i => 32 * k + i)).foldl (fun (acc : Frame × SMap (Array Int)) i =>
    let (f, z) := acc
    let (zr, y, l) := compatRow b f.st.radio f.restart f.lensT f.silo z i
    ({ f with yA := SMap.insert f.yA i y, lsA := SMap.insert f.lsA i l }, SMap.insert z i zr)) (f, z)

/-! ## Statistics (R159, R160) -/

/-- The bin of a value. -/
def histBin (base : Int) (shift : Nat) (x : Int) : Nat := (sat (shr (x - base) shift) 0 1023).toNat

/-- A histogram over an image. -/
def histogram (rows cols : Nat) (base : Int) (shift : Nat) (x : Nat → Nat → Int) : List Nat :=
  let row (h : Array Nat) (r : Nat) : Array Nat :=
    (List.range cols).foldl (fun h c => h.modify (histBin base shift (x r c)) (· + 1)) h
  ((List.range rows).foldl row (Array.replicate 1024 0)).toList

/-- One zone of a frame: MEAN_A, MEAN_B, SHARP, CLIP, REPL. -/
def Frame.zone (f : Frame) (z : Nat) : Int × Int × Nat × Nat × Nat :=
  let n := if f.st.compat then 64 else 128
  let r0 := n * (z / 16)
  let c0 := n * (z % 16)
  let ya (i j : Nat) : Int := value24 (f.yWords (r0 + i) (c0 + j)).1
  let yb (i j : Nat) : Int := value24 (f.yWords (r0 + i) (c0 + j)).2
  let fus (i j : Nat) : Int := if f.st.compat then ya i j else rnd (ya i j + yb i j) 1
  let mean (y : Nat → Nat → Int) : Int :=
    divF (2 * sumTo n (fun i => sumTo n (y i)) + (n * n : Nat)) (2 * (n * n : Nat))
  let sh := sumTo n (fun i => sumTo (n - 1) (fun j => (fus i j - fus i (j + 1)).natAbs)) +
    sumTo (n - 1) (fun i => sumTo n (fun j => (fus i j - fus (i + 1) j).natAbs))
  let cnt (k : Nat) : Nat :=
    ((List.range n).map (fun i => countTo n (fun j =>
      let w := f.yWords (r0 + i) (c0 + j)
      bit w.1 k || bit w.2 k))).sum
  (mean ya, mean yb, (satU (rnd sh 8) 32).toNat, cnt 25, cnt 26)

/-- The statistics of a frame. -/
def Frame.statistics (f : Frame) : Stats :=
  let (rows, cols) := f.dims
  let d := f.st.disp
  let none_ := List.replicate 1024 0
  let zones := (List.range 192).map f.zone
  { histF := histogram rows cols d.histBase d.histShift f.lam,
    histA := if f.st.compat then none_ else histogram rows cols d.histBase d.histShift (cell 0 f.lsA),
    histB := if f.st.compat then none_ else histogram rows cols d.histBase d.histShift (cell 0 f.lsB),
    zones := zones, clipPix := (zones.map (fun z => z.2.2.2.1)).sum }

/-! ## Window and display (R153 to R156) -/

/-- The position at which a running sum reaches a bound. -/
def reachSum (bound : Nat) : List Nat → Nat → Nat → Nat
  | [], _, i => i
  | x :: xs, acc, i => if bound ≤ acc + x then i else reachSum bound xs (acc + x) (i + 1)

/-- The smallest bin at which the running sum reaches a bound. -/
def percentile (h : List Nat) (bound : Nat) : Nat := min (reachSum bound h 0 0) 1023

/-- The window of a frame from the one before it (R153). In 1210 mode AGC is AUTO (R195). -/
def displayWindow (d : Disp) (compat restart : Bool) (h : List Nat) (n : Nat) (lo hi : Int) : Int × Int :=
  if d.agc = 0 && !compat then (d.manLo, d.manHi)
  else
    let iLo := percentile h (d.pLo * n / 1024)
    let iHi := percentile h (d.pHi * n / 1024)
    let tLo := d.histBase + (iLo : Int) * 2 ^ d.histShift
    let tHi := d.histBase + ((iHi : Int) + 1) * 2 ^ d.histShift
    let rate : Int := d.agcRate
    let wLo := if restart then tLo else lo + rnd (rate * (tLo - lo)) 8
    let wHi := if restart then tHi else hi + rnd (rate * (tHi - hi)) 8
    (wLo, if wHi - wLo < 256 then wLo + 256 else wHi)

/-- A radiance mapped through the window to `b` bits (R154). -/
def windowed (lo hi : Int) (b : Nat) (x : Int) : Nat :=
  (satU (rnd ((x - lo) * divF (((2 ^ b : Nat) - 1) * 2 ^ 16) (hi - lo)) 16) b).toNat

/-- Bytes of an image line of 16-bit values. -/
def line16 (cols : Nat) (x : Nat → Nat) : List Byte := (List.range cols).flatMap (fun c => le 2 (x c))

/-- A DISPLAY line (R155). -/
def displayLine (d : Disp) (cols : Nat) (idx : Nat → Nat) : List Byte :=
  if d.mode = 1 then (List.range cols).map (fun c => BitVec.ofNat 8 (idx c))
  else
    let y (i : Nat) : Byte := d.palY.getD i 0#8
    let mean (p : List Byte) (i j : Nat) : Byte := BitVec.ofNat 8 (((p.getD i 0#8).toNat + (p.getD j 0#8).toNat + 1) / 2)
    (List.range (cols / 2)).flatMap (fun k =>
      let i := idx (2 * k)
      let j := idx (2 * k + 1)
      [y i, mean d.palU i j, y j, mean d.palV i j])

/-- A CODING line (R156). -/
def codingLine (cols : Nat) (v : Nat → Nat) : List Byte :=
  (List.range (cols / 2)).flatMap (fun k =>
    let p := v (2 * k)
    let q := v (2 * k + 1)
    [BitVec.ofNat 8 p, BitVec.ofNat 8 (p / 256 + 16 * (q % 16)), BitVec.ofNat 8 (q / 16)])

/-- One level of PYRAMID from the one above it. -/
def pyramidNext (m : SMap (Array Nat)) (rows cols : Nat) : SMap (Array Nat) :=
  (List.range rows).map (fun i => (i, (Array.range cols).map (fun (j : Nat) =>
    let x (a b : Nat) : Nat := cell 0 m (2 * i + a) (2 * j + b)
    (rnd ((x 0 0 + x 0 1 + x 1 0 + x 1 1 : Nat) : Int) 2).toNat)))

/-- The PYRAMID payload. -/
def Frame.pyramid (f : Frame) : List Byte :=
  let l1 : SMap (Array Nat) := (List.range 768).map (fun i => (i, (Array.range 1024).map (fun (j : Nat) =>
    (satU (rnd (f.lam (2 * i) (2 * j) + f.lam (2 * i) (2 * j + 1) + f.lam (2 * i + 1) (2 * j) + f.lam (2 * i + 1) (2 * j + 1)) 6) 16).toNat)))
  let l2 := pyramidNext l1 384 512
  let l3 := pyramidNext l2 192 256
  let l4 := pyramidNext l3 96 128
  let out (m : SMap (Array Nat)) (rows cols : Nat) : List Byte := (List.range rows).flatMap (fun i => line16 cols (cell 0 m i))
  out l1 768 1024 ++ out l2 384 512 ++ out l3 192 256 ++ out l4 96 128

/-! ## STATS payload (R160) -/

/-- The bytes of STATS. -/
def Frame.statsBytes (f : Frame) (x : Stats) : List Byte :=
  let d := f.st.disp
  let h (l : List Nat) : List Byte := l.flatMap (le 4)
  let z (v : Int × Int × Nat × Nat × Nat) : List Byte :=
    le 4 (code v.1 32) ++ le 4 (code v.2.1 32) ++ le 4 v.2.2.1 ++ le 2 v.2.2.2.1 ++ le 2 v.2.2.2.2
  let r (v : RefRow) : List Byte :=
    le 1 v.level ++ le 1 (if v.pass then 1 else 0) ++ le 2 v.failCols ++ le 4 (code v.hExp 24) ++ le 4 (code v.meanDev 32) ++ le 4 v.maxDev
  le 4 (code d.histBase 32) ++ le 1 d.histShift ++ List.replicate 27 0#8 ++ h x.histF ++ h x.histA ++ h x.histB ++
    x.zones.flatMap z ++ f.refs.flatMap r ++ List.replicate (96 + 16 * (8 - f.refs.length)) 0#8

/-! ## CANDIDATES (R158, R191) -/

/-- A region of warm pixels: its box, its pixels and its first pixel. -/
structure Region where
  r0 : Nat
  c0 : Nat
  r1 : Nat
  c1 : Nat
  pixels : Nat
  deriving DecidableEq, Repr

/-- A region grown from a worklist of pixels; `seen` marks warm pixels not yet taken. -/
def growRegion (cols rows : Nat) : Nat → List (Nat × Nat) → Array Bool → Region → Array Bool × Region
  | 0, _, seen, g => (seen, g)
  | _ + 1, [], seen, g => (seen, g)
  | n + 1, (r, c) :: rest, seen, g =>
    if (seen.getD (r * cols + c) false) && decide (r < rows) && decide (c < cols) then
      let g := { g with r0 := min g.r0 r, c0 := min g.c0 c, r1 := max g.r1 r, c1 := max g.c1 c, pixels := g.pixels + 1 }
      let nb := [(r - 1, c - 1), (r - 1, c), (r - 1, c + 1), (r, c - 1), (r, c + 1), (r + 1, c - 1), (r + 1, c), (r + 1, c + 1)]
      growRegion cols rows n (nb ++ rest) (seen.setIfInBounds (r * cols + c) false) g
    else growRegion cols rows n rest seen g

/-- The regions of an image in raster order of their first pixel (R191). -/
def regions (rows cols : Nat) (warm : Array Bool) : List Region :=
  let go (acc : Array Bool × List Region) (i : Nat) : Array Bool × List Region :=
    if acc.1.getD i false then
      let r := i / cols
      let c := i % cols
      let (seen, g) := growRegion cols rows (9 * rows * cols + 1) [(r, c)] acc.1 ⟨r, c, r, c, 0⟩
      (seen, g :: acc.2)
    else acc
  ((List.range (rows * cols)).foldl go (warm, [])).2.reverse

/-- SCORE of a region (R191). -/
def Region.score (g : Region) : Nat :=
  let area := (g.r1 + 1 - g.r0) * (g.c1 + 1 - g.c0)
  min 65535 (g.pixels * 2 ^ 16 / area) * min g.pixels 4096 / 2 ^ 12

/-- A region in its place by descending SCORE, then ascending R0, then ascending C0 (R158). -/
def insertRegion (g : Region) : List Region → List Region
  | [] => [g]
  | x :: xs =>
    let before := x.score < g.score || (x.score = g.score && (g.r0 < x.r0 || (g.r0 = x.r0 && g.c0 < x.c0)))
    if before then g :: x :: xs else x :: insertRegion g xs

/-- The CANDIDATES payload of a frame. -/
def Frame.candidates (f : Frame) : List Byte :=
  let k := f.st.cand
  let t (r c : Nat) : Nat := cell 0 f.tm r c
  let warm : Array Bool := (Array.range (1536 * 2048)).map (fun (i : Nat) =>
    decide (k.tMin ≤ t (i / 2048) (i % 2048)) && decide (t (i / 2048) (i % 2048) ≤ k.tMax))
  let all := regions 1536 2048 warm
  let kept := (all.take 4096).filter (fun g =>
    decide (k.minPix ≤ g.pixels) && decide (g.r1 + 1 - g.r0 ≤ k.maxH) && decide (g.c1 + 1 - g.c0 ≤ k.maxW))
  let sorted := (kept.foldl (fun l g => insertRegion g l) []).take 256
  let peak (g : Region) : Nat :=
    ((List.range (g.r1 + 1 - g.r0)).flatMap (fun i => (List.range (g.c1 + 1 - g.c0)).map (fun j => t (g.r0 + i) (g.c0 + j)))).foldl max 0
  let ent (g : Region) : List Byte := le 2 g.r0 ++ le 2 g.c0 ++ le 2 g.r1 ++ le 2 g.c1 ++ le 2 (peak g) ++ le 2 g.score ++ le 4 g.pixels
  let ovr := decide (4096 < all.length) || decide (256 < kept.length)
  le 2 sorted.length ++ le 1 (if ovr then 1 else 0) ++ List.replicate 13 0#8 ++ sorted.flatMap ent ++
    List.replicate (16 * (256 - sorted.length)) 0#8

/-! ## SURFACE (R193) -/

/-- A point is on or inside a polygon by the even–odd rule; coordinates are doubled. -/
def insidePolygon (poly : List (Nat × Nat)) (pr pc : Int) : Bool :=
  let ps : List (Int × Int) := poly.map (fun p => (2 * (p.1 : Int), 2 * (p.2 : Int)))
  let edges := ps.zip (ps.drop 1 ++ ps.take 1)
  let cross (e : (Int × Int) × (Int × Int)) : Int := (e.2.2 - e.1.2) * (pr - e.1.1) - (pc - e.1.2) * (e.2.1 - e.1.1)
  let on (e : (Int × Int) × (Int × Int)) : Bool :=
    decide (cross e = 0) && decide (min e.1.1 e.2.1 ≤ pr) && decide (pr ≤ max e.1.1 e.2.1) && decide (min e.1.2 e.2.2 ≤ pc) &&
      decide (pc ≤ max e.1.2 e.2.2)
  let crosses (e : (Int × Int) × (Int × Int)) : Bool :=
    if decide (pr < e.1.1) == decide (pr < e.2.1) then false
    else if e.1.1 < e.2.1 then decide (0 < cross e) else decide (cross e < 0)
  edges.any on || (edges.filter crosses).length % 2 = 1

/-- The code of one SURFACE cell. -/
def Frame.surfaceCell (f : Frame) (b : Rad) (i j : Nat) : Nat :=
  let k := f.st.surf
  if !insidePolygon k.poly (32 * i + 15) (32 * j + 15) then 0
  else if f.lpAnchor = 0 then 0xff
  else
    let px := (List.range 256).filterMap (fun n =>
      let r := 16 * i + n / 16
      let c := 16 * j + n % 16
      let w := f.yWords r c
      let t := f.fusedTemp b r c
      if bit w.1 25 || bit w.2 25 || decide (t < 12800) || decide (45568 < t) then none
      else some (cell 0 f.lsA r c, cell 0 f.lsB r c, (t : Int)))
    if px.length < 128 then 0xfe
    else
      let sa := (px.map (fun p => p.1)).sum
      let sb := (px.map (fun p => p.2.1)).sum
      let tc := avg (px.map (fun p => p.2.2))
      let num := sb * planck b.plA tc * 4096
      let den := sa * planck b.plB tc
      let si := if 0 < den then divF num den else Config.surfaceIndex num den
      let cold := decide (tc ≤ 17482 + (k.margin : Int))
      if cold && decide ((k.snow : Int) ≤ si) then 4
      else if cold && decide ((k.wet : Int) ≤ si) then 3
      else if (k.wet : Int) ≤ si then 2 else 1

/-! ## Products of a frame (R152) -/

/-- The product of a code. -/
def Frame.product (f : Frame) (b : Rad) (x : Stats) (k : Nat) : Product :=
  let (rows, cols) := f.dims
  let img (g : Nat → List Byte) : List (List Byte) := (List.range rows).map g
  match k with
  | 0 => ⟨0, img (fun r => displayLine f.st.disp cols (fun c => windowed f.winLo f.winHi 8 (f.lam r c))), true, cols, f.st.disp.mode⟩
  | 1 => ⟨1, img (fun r => codingLine cols (fun c => windowed f.winLo f.winHi 12 (f.lam r c))), true, cols, 0⟩
  | 2 =>
    let v (r c : Nat) : Int := if f.st.compat then f.lam r c else cell 0 f.lsA r c
    ⟨2, img (fun r => line16 cols (fun c => (satU (rnd (v r c) 4) 16).toNat)), true, cols, 0⟩
  | 3 => ⟨3, img (fun r => line16 cols (fun c => (satU (rnd (cell 0 f.lsB r c) 4) 16).toNat)), true, cols, 0⟩
  | 4 => ⟨4, [f.pyramid], false, 0, 0⟩
  | 5 => ⟨5, img (fun r => line16 cols (cell 0 f.tm r)), true, cols, 0⟩
  | 6 => ⟨6, [f.statsBytes x], false, 0, 0⟩
  | 7 => ⟨7, [f.candidates], false, 0, 0⟩
  | 8 => ⟨8, (List.range 96).map (fun i => (List.range 128).map (fun j => BitVec.ofNat 8 (f.surfaceCell b i j))), true, 128, 0⟩
  | _ =>
    let samples (a : Array (BitVec 16)) : List Byte := line16 2080 (fun q => (a.getD q (Config.missingSample q)).toNat)
    ⟨9, (List.range 1548).map (fun p =>
      let x := SMap.get (#[], #[]) f.raw p
      samples x.1 ++ samples x.2), true, 4160, 0⟩

/-- Line bytes of a product code for a display mode, in the image or the binned image; 0 where it is not line-based
(R152, R195). -/
def lineBytes (k mode : Nat) (compat : Bool) : Nat :=
  let cols := if compat then 1024 else 2048
  match k with
  | 0 => if mode = 1 then cols else 2 * cols
  | 1 => cols / 2 * 3
  | 2 | 3 | 5 => 2 * cols
  | 8 => 128
  | 9 => 8320
  | _ => 0

/-- Lines of a product. -/
def lineCount (k : Nat) (compat : Bool) : Nat :=
  match k with
  | 0 | 1 | 2 | 3 | 5 => if compat then 768 else 1536
  | 8 => 96
  | 9 => 1548
  | _ => 0

/-- Payload bytes of a product that is not line-based (R152). -/
def packedBytes (k : Nat) : Nat := if k = 4 then 2088960 else if k = 6 then 15616 else if k = 7 then 4112 else 0

/-- STRIDE of a product on a ring (R151). -/
def effStride (ringStride line : Nat) : Nat := if ringStride = 0 then (line + 63) / 64 * 64 else ringStride

/-- Bytes a buffer needs for a product at a stride (R163, R169). -/
def bufferBytes (k mode : Nat) (compat : Bool) (ringStride : Nat) : Nat :=
  let l := lineBytes k mode compat
  if l = 0 then 256 + packedBytes k else 256 + lineCount k compat * effStride ringStride l

/-- PAYLOAD_BYTES of a product (R161). -/
def payloadBytes (k mode : Nat) (compat : Bool) : Nat :=
  let l := lineBytes k mode compat
  if l = 0 then packedBytes k else lineCount k compat * l

/-! ## The frame record (R161, R162) -/

/-- The record fields that a pour fixes: generation, time, FLAGS. -/
structure PourInfo where
  gen : Nat
  time : Nat
  flags : Nat
  deriving DecidableEq, Repr

/-- The frame record of a buffer. `payload` is 0 for a TOO_SMALL buffer. -/
def Frame.record (f : Frame) (pipe : Pipe) (bundleId : Nat) (i : PourInfo) (product camera ring stride payload : Nat) : List Byte :=
  let st := f.st
  let r := st.radio
  let l := lineBytes product st.disp.mode st.compat
  let width := if l = 0 then 0 else if product = 8 then 128 else if product = 9 then 4160 else f.dims.2
  let compFrame := match f.comp with | some h => h.frame.toNat | none => 0
  let compMarker := match f.comp with | some h => h.marker.toNat | none => 0
  let body :=
    le 4 0x31524644 ++ le 2 1 ++ le 2 256 ++ le 4 f.n ++ le 2 i.gen ++ le 1 (pipeNum pipe) ++ le 1 product ++
    le 8 f.marker ++ le 8 i.time ++ le 4 st.exposure.toNat ++ le 2 (code (f.ptemp.getD 0) 16) ++ le 2 f.lensT ++ le 2 r.tRefl ++
    le 1 r.tmMethod ++ le 1 f.lpAnchor ++ le 4 i.flags ++ le 2 f.soSeq ++ le 1 f.set_a ++ le 1 0 ++ le 4 f.w ++ le 4 f.lpE ++
    le 4 f.lpSince ++ le 4 (code f.bd 32) ++ le 4 f.nStatic ++ le 4 f.nDynamic ++ le 4 f.nCluster ++ le 4 f.fallback ++
    le 4 (match f.stats with | some x => x.clipPix | none => 0) ++ le 1 f.tempSubst ++ le 1 f.permSubst ++ le 1 (fld st.fp 7 4) ++ le 1 0 ++
    le 4 bundleId ++ le 4 compFrame ++ le 4 0 ++ le 2 width ++ le 2 (lineCount product st.compat) ++ le 4 (if l = 0 then 0 else stride) ++
    le 4 payload ++ le 1 (if product = 0 then st.disp.mode else 0) ++ le 1 camera ++ le 1 ring ++ le 1 0 ++ le 4 (code f.winLo 32) ++
    le 4 (code f.winHi 32) ++ le 2 r.tauA ++ le 2 r.tauB ++ le 2 r.epsA ++ le 2 r.epsB ++ le 4 (code f.lpTj 32) ++ le 4 0 ++ le 8 compMarker ++
    List.replicate 100 0#8
  body ++ le 4 (crc32 body).toNat

end Sys2Proof.Machine
end

