-- ==== Sys2Proof/Machine/Engines.lean ====
section
/-! DEFINITION. The engine array (08) and the budgets (07): demand, placement, partner checks, sheaves going offline and
back, self-tests, and the memory, link, NL and engine budgets of R169 to R177. -/
namespace Sys2Proof.Machine

/-! ## Demand and placement (R175 to R179) -/

/-- The stages that a snapshot enables with their engines D at FRATE 0, in code order (R175). In RELAY none run. -/
def Settings.stages (st : Settings) : List (Nat × Nat) :=
  if st.mode = .relay then []
  else
    let ps := st.products
    let on (b : Bool) (x : Nat × Nat) : List (Nat × Nat) := if b then [x] else []
    on (!st.compat) (0, 16) ++ on (!st.compat) (1, 8) ++ on (!st.compat) (2, 8) ++
      on (!st.compat && st.needsTemp) (3, if st.radio.tmMethod = 3 then 16 else 8) ++ [(4, 8), (5, 8), (6, 8)] ++
      on (st.services % 2 = 1) (8, 4) ++ on (st.services / 2 % 2 = 1) (9, 4) ++ on (ps.contains 7) (10, 12) ++
      on (ps.contains 8) (11, 4) ++ on st.compat (15, 32)

/-- Engines of a stage at a frame rate. -/
def stageNeed (d f : Nat) : Nat := (d + 2 ^ f - 1) / 2 ^ f

/-- FRATE that counts for a pipeline's demand: the exposure's for A, the admitted rate for B (R176). -/
def Settings.demandRate (st : Settings) (p : Pipe) : Nat :=
  match p with
  | .A => fld st.exposure 1 0
  | .B => st.rate

/-- Stages given the lowest-numbered free engines in turn (R178). -/
def placeStages (pipe f : Nat) : List (Nat × Nat) → List Nat → Option (List Placed × List Nat)
  | [], free => some ([], free)
  | (b, d) :: rest, free =>
    let n := stageNeed d f
    if free.length < n then none
    else match placeStages pipe f rest (free.drop n) with
      | some (l, free') => some (⟨pipe, b, free.take n⟩ :: l, free')
      | none => none

/-- A sheaf. -/
def State.sheaf (s : State) (i : Nat) : Sheaf :=
  s.eng.sheaves.getD i Sheaf.reset

/-- A sheaf changed. -/
def State.modSheaf (s : State) (i : Nat) (f : Sheaf → Sheaf) : State :=
  { s with eng := { s.eng with sheaves := modAt s.eng.sheaves i f } }

/-- A sheaf counts as online for placement. -/
def Sheaf.online (x : Sheaf) : Bool := x.st = .idle

/-- The online sheaves by global index. -/
def State.onlineSheaves (s : State) : List Nat := (List.range 16).filter (fun i => (s.sheaf i).online)

/-- Two frames among 64 consecutive ones (R184). -/
def near64 (a b : Nat) : Bool := decide ((a + 2 ^ 32 - b) % 2 ^ 32 < 64) || decide ((b + 2 ^ 32 - a) % 2 ^ 32 < 64)

/-- Two hits with different partners within 64 consecutive frames of pipeline A (R184). -/
def twoPartners : List (Nat × Nat) → Bool
  | [] => false
  | h :: rest => rest.any (fun g => decide (g.2 ≠ h.2) && near64 g.1 h.1) || twoPartners rest

/-- Two errors within 64 consecutive frames of pipeline A (R184). -/
def twoErrors : List Nat → Bool
  | [] => false
  | h :: rest => rest.any (near64 h) || twoErrors rest

/-- The frame of pipeline A that an event about a frame falls in (R184). -/
def State.frameOfA (s : State) (p : Pipe) (n : Nat) : Nat :=
  match p with
  | .A => n
  | .B => s.pa.lastNo

/-- A sheaf becomes FAILED (R174, R184): not placed, retested a second later (R314). -/
def State.failSheaf (s : State) (i : Nat) : State :=
  let s := s.modSheaf i (fun x =>
    { x with st := .failed, passed := false, ret := false, retestAt := some (s.now + sec), history := [], ues := [] })
  (s.post0 0x0062 [word i]).warnBit 2

/-- OFFLINE_REQ and a return request as they stood before a latch point at `l` (R51, R185). -/
def Sheaf.requests (x : Sheaf) (l : Nat) : Bool × Bool :=
  match x.prior with
  | some (t, q) => if l ≤ t then q else (x.offReq, x.ret)
  | none => (x.offReq, x.ret)

/-- What a latch point at `l` does to one sheaf: failure by its history (R184), an offline or a return request that applies
(R185). -/
def State.sheafLatch (s : State) (l i : Nat) : State :=
  let x := s.sheaf i
  let q := x.requests l
  if x.st ≠ .failed && x.st ≠ .test && (twoPartners x.history || twoErrors x.ues) then s.failSheaf i
  else if x.online && q.1 then s.modSheaf i (fun x => { x with st := .draining })
  else if (x.st = .offline || x.st = .draining) && !q.1 then s.modSheaf i (fun x => { x with st := .idle })
  else if x.st = .failed && q.2 then s.modSheaf i (fun x => { x with st := .idle, ret := false, retestAt := none })
  else s

/-- The placement of the next frame of a pipeline at its latch point `l` (R178, R179), with the partner pairs it will use
(R180). -/
def State.latchPlacement (s : State) (p : Pipe) (l : Nat) : State :=
  let s := (List.range 16).foldl (fun s i => s.sheafLatch l i) s
  let online := s.onlineSheaves
  let free := online.flatMap (fun i => (List.range 8).map (fun e => 8 * i + e))
  let stA : List (Nat × Nat) := if p = .A || s.pa.reading then s.pa.snap.stages else []
  let stB : List (Nat × Nat) := if p = .B || s.pb.reading then s.pb.snap.stages else []
  let (a, okA, b, okB) := match placeStages 0 (s.pa.snap.demandRate .A) stA free with
    | none => (([] : List Placed), false, ([] : List Placed), false)
    | some (a, free) =>
      match placeStages 1 (s.pb.snap.demandRate .B) stB free with
      | none => (a, true, [], stB.isEmpty)
      | some (b, _) => (a, true, b, true)
  let n := match p with
    | .A => s.pa.frameNo
    | .B => if s.pa.reading then s.pa.pairN else s.pb.frameNo
  let online' := match p with
    | .A => online
    | .B => if s.pa.reading then s.pa.sheaves else online
  let s := s.modPl p (fun x =>
    { x with place := a ++ b, placed := match p with | .A => okA | .B => okB, sheaves := online', pairN := n })
  let ok := okA && okB
  let s := if ok || s.eng.capacity then s else s.post0 0x0060 []
  let s := { s with eng := { s.eng with capacity := !ok } }
  if online.length < 2 then s.fault 12 else s

/-! ## Partner checks (R180 to R183) -/

/-- A partner check: checking sheaf, checked sheaf, the stage placed there, the tile. -/
structure Check where
  checker : Nat
  checked : Nat
  stage : Placed
  tile : Nat
  deriving DecidableEq, Repr

/-- The checks of a frame whose checked stage belongs to its own pipeline (R180, R181). -/
def Frame.checks (f : Frame) (p : Pipe) : List Check :=
  let l := f.sheaves
  let m := l.length
  if m < 2 then []
  else (List.range m).filterMap (fun i =>
    let checked := l.getD ((i + 1 + f.pairN % (m - 1)) % m) 0
    let ss := f.place.filter (fun x => x.engines.any (fun e => e / 8 = checked))
    match ss[f.pairN % ss.length]? with
    | some x => if x.pipe = pipeNum p then some ⟨l.getD i 0, checked, x, f.pairN / ss.length % 768⟩ else none
    | none => none)

/-- The counters of a unit changed. -/
def State.modUnit (s : State) (i : Nat) (f : UnitCnt → UnitCnt) : State :=
  { s with eng := { s.eng with units := SMap.put UnitCnt.zero s.eng.units i (f (SMap.get UnitCnt.zero s.eng.units i)) } }

/-- The units above a sheaf: its stook and the array. -/
def unitsAbove (sheaf : Nat) : List Nat := [0, 1 + sheaf / 4]

/-- A list without repeats. -/
def dedup (l : List Nat) : List Nat := l.foldl (fun acc x => if acc.contains x then acc else acc ++ [x]) []

/-- The units that a check of work on a sheaf counts in: the sheaf, those above it, the engines of the stage there. -/
def Check.units (c : Check) : List Nat :=
  (5 + c.checked) :: unitsAbove c.checked ++ (c.stage.engines.filter (fun e => e / 8 = c.checked)).map (· + 21)

/-- A frame was filtered against the state of the frame before it (R137). -/
def Frame.filtered (f : Frame) : Bool := !f.restart && decide (f.st.radio.tfEn = 1)

/-- The filter state after a mismatch in frame n (R139): later frames filtered against it do not pour, and the next
frame to begin stage 2 restarts. -/
def Pl.taint (x : Pl) (n : Nat) : Pl :=
  let later := x.frames.filter (fun f => newer 32 f.n n && decide (0 < f.stripes))
  let hit := later.takeWhile Frame.filtered
  { x with frames := x.frames.map (fun f => if hit.any (fun g => g.n = f.n) then { f with tainted := true } else f),
           histTaint := true }

/-- A hit of R184 noted with its frame; those more than 63 frames away are let go. -/
def Sheaf.noteHit (x : Sheaf) (n partner : Nat) : Sheaf :=
  { x with history := (n, partner) :: x.history.filter (fun h => near64 h.1 n) }

/-- A partner check that found a difference (R182). -/
def State.mismatch (s : State) (p : Pipe) (f : Frame) (c : Check) : State :=
  let us := dedup (c.units ++ (5 + c.checker) :: unitsAbove c.checker)
  let s := us.foldl (fun s u => s.modUnit u (fun x => { x with mismatch := satInc x.mismatch 1 0xffffffff, frame := f.n })) s
  let s := s.modSheaf c.checker (fun x => x.noteHit (s.frameOfA p f.n) c.checked)
  let s := s.modSheaf c.checked (fun x => x.noteHit (s.frameOfA p f.n) c.checker)
  let s := s.modPl p (fun x => (x.modFrame f.n (fun g => { g with tileFail := true })).taint f.n)
  s.postF p f 0x0061 [word c.checker, word c.checked, word c.stage.stage, word c.tile]

/-- A partner check that passed. -/
def State.checkPassed (s : State) (c : Check) : State :=
  c.units.foldl (fun s u => s.modUnit u (fun x => { x with checks := satInc x.checks 1 0xffffffff })) s

/-- The checks whose tile lies in stripe k; `bad` are the checking sheaves whose recomputation differed. -/
def State.stripeChecks (s : State) (p : Pipe) (f : Frame) (k : Nat) (bad : List (Fin 16)) : State :=
  (f.checks p).foldl (fun s c =>
    if c.tile / 32 ≠ k then s
    else if bad.any (fun b => b.val = c.checker) then s.mismatch p f c else s.checkPassed c) s

/-- The frames of a pipeline that an SRAM error of an engine fails (R183): those named as held that are placed on it. -/
def State.sramFails (s : State) (p : Pipe) (engine : Nat) (held : List Word) : State :=
  (s.pl p).frames.foldl (fun s f =>
    match f.place.find? (fun x => x.pipe = pipeNum p && x.engines.contains engine) with
    | some st =>
      if held.any (fun h => h.toNat = f.n) then
        let us := [21 + engine, 5 + engine / 8] ++ unitsAbove (engine / 8)
        let s := us.foldl (fun s u => s.modUnit u (fun x => { x with mismatch := satInc x.mismatch 1 0xffffffff, frame := f.n })) s
        let s := s.modPl p (fun x => (x.modFrame f.n (fun g => { g with tileFail := true })).taint f.n)
        s.postF p f 0x0061 [word (engine / 8), 0xff#32, word st.stage, 0#32]
      else s
    | none => s) s

/-- Corrected local-SRAM errors of engines, counted in SRAM_CE of each engine, its sheaf and the units above (R174). -/
def State.sramCorrected (s : State) (es : List (Fin 128)) : State :=
  es.foldl (fun s e => ([21 + e.val, 5 + e.val / 8] ++ unitsAbove (e.val / 8)).foldl
    (fun s u => s.modUnit u (fun x => { x with ce := satInc x.ce 1 0xffffffff })) s) s

/-- An uncorrectable local-SRAM error (R183, R184). -/
def State.engineSramUe (s : State) (engine : Nat) (heldA heldB : List Word) : State :=
  let us := [21 + engine, 5 + engine / 8] ++ unitsAbove (engine / 8)
  let s := us.foldl (fun s u => s.modUnit u (fun x => { x with ue := satInc x.ue 1 0xffffffff })) s
  let s := s.modSheaf (engine / 8) (fun x => { x with ues := s.pa.lastNo :: x.ues.filter (near64 s.pa.lastNo) })
  (s.sramFails .A engine heldA).sramFails .B engine heldB

/-! ## Budgets (R169 to R172, R177) -/

/-- P_min of FRATE 0 (R57); those of FRATE 1 and 2 are twice and four times it. -/
def pMin0 : Nat := 2041050

/-- The cameras' destinations of a product under the normal or the cool sets. -/
def dests (cams : List Camera) (cool : Bool) (k : Nat) : List Nat :=
  (cams.filter (fun c => (c.codes cool).contains k)).map (fun c => c.dest.getD k 0)

/-- S of a product at one destination (R169): a ring's stride, the minimum stride on NL. -/
def State.sizeAt (s : State) (st : Settings) (k dest : Nat) : Nat :=
  bufferBytes k st.disp.mode st.compat (if dest = 254 then 0 else (s.ring dest).stride.toNat)

/-- The products of a set of cameras. -/
def codesOf (cams : List Camera) (cool : Bool) : List Nat := (List.range 10).filter (fun k => !(dests cams cool k).isEmpty)

/-- C of a pipeline (R170). -/
def State.memoryTraffic (s : State) (st : Settings) (cams : List Camera) (cool : Bool) : Nat :=
  221120512 + ((codesOf cams cool).map (fun k =>
    let ds := dests cams cool k
    (ds.map (s.sizeAt st k)).foldl max 0 * (1 + ds.length))).sum

/-- Bytes per frame to rings (R171). -/
def State.ringTraffic (s : State) (st : Settings) (cams : List Camera) (cool : Bool) : Nat :=
  ((codesOf cams cool).map (fun k => (((dests cams cool k).filter (· ≠ 254)).map (s.sizeAt st k)).sum)).sum

/-- Bytes per frame to the NL lanes (R172). -/
def State.nlTraffic (s : State) (st : Settings) (cams : List Camera) (cool : Bool) : Nat :=
  ((codesOf cams cool).map (fun k => (((dests cams cool k).filter (· = 254)).map (s.sizeAt st k)).sum)).sum

/-- A pipeline as the budgets see it: whether it is enabled, its rate code, settings and cameras. -/
structure Load where
  on : Bool
  rate : Nat
  st : Settings
  cams : List Camera
  deriving DecidableEq, Repr

/-- The enabled pipelines. -/
def enabled (ls : List Load) : List Load := ls.filter Load.on

/-- Σ x · f_max in units of 125 MHz / (4 · P_min of FRATE 0). -/
def weighted (ls : List Load) (x : Load → Nat) : Nat := (ls.map (fun l => x l * 2 ^ (2 - l.rate))).sum

/-- A bound in 0.1 MB/s in the same units. -/
def within (n bound : Nat) : Bool := decide (n * 125000000 ≤ bound * 100000 * (4 * pMin0))

/-- The link budget in 0.1 MB/s (R171). -/
def linkBudget (speed width : Nat) : Nat :=
  match speed, width with
  | 1, 1 => 2188 | 1, 2 => 4375 | 1, 4 => 8750
  | 2, 1 => 4375 | 2, 2 => 8750 | 2, 4 => 17500
  | 3, 1 => 8615 | 3, 2 => 17231 | 3, 4 => 34462
  | _, _ => 0

/-- The NL budget in 0.1 MB/s for the egress lanes in service (R172). -/
def nlBudget (egr : Nat) : Nat :=
  match egr % 2 + egr / 2 % 2 with
  | 0 => 0 | 1 => 8500 | _ => 17000

/-- R170 to R172 for the normal or the cool sets. What is bound to the NL lanes counts for a disabled pipeline too, at the
admitted rate of its settings (DEDUCED, notes/assumptions/96). -/
def State.dataBudget (s : State) (ls : List Load) (cool : Bool) : Bool :=
  within (weighted (enabled ls) (fun l => s.memoryTraffic l.st l.cams cool)) 224000 &&
    within (weighted (enabled ls) (fun l => s.ringTraffic l.st l.cams cool)) (linkBudget s.hif.link.1 s.hif.link.2) &&
    within (weighted ls (fun l => s.nlTraffic l.st l.cams cool)) (nlBudget (s.nl.egrReq.getD s.nl.egrEn))

/-- At most two products on the NL lanes (R172). -/
def nlCount (ls : List Load) (cool : Bool) : Nat :=
  (ls.map (fun l => countTo 10 (fun k => (dests l.cams cool k).contains 254))).sum

/-- S_on: sheaves online and not requested offline (R177). -/
def State.sOn (s : State) : Nat := countTo 16 (fun i => (s.sheaf i).online && !(s.sheaf i).offReq)

/-- The engine demand of loads under the normal or the cool sets. -/
def loadDemand (ls : List Load) (cool : Bool) : Nat :=
  ((enabled ls).map (fun l =>
    let st : Settings := { l.st with cams := l.cams, cool := cool }
    (st.stages.map (fun x => stageNeed x.2 l.rate)).sum)).sum

/-- R177 with a number of sheaves. -/
def engineBudget (ls : List Load) (cool : Bool) (sOn : Nat) : Bool := decide (loadDemand ls cool ≤ 8 * (sOn - 1))

/-- The loads of both pipelines under given settings. -/
def State.loads (s : State) (a b : Settings) : List Load := [⟨true, fld a.exposure 1 0, a, a.cams⟩, ⟨s.sup.pipeB, b.rate, b, b.cams⟩]

/-- Both pipelines as pending. -/
def State.pendingLoads (s : State) : List Load := s.loads s.pa.pend s.pb.pend

/-- The budgets of a combination: 0 within, 7 BUDGET, 8 ENGINE_BUDGET as completion codes (R26, R177, R212). -/
def State.budgetCode (s : State) (ls : List Load) : Nat :=
  if !(s.dataBudget ls false && s.dataBudget ls true) || decide (2 < nlCount ls false) || decide (2 < nlCount ls true) then 7
  else if !(engineBudget ls false s.sOn && engineBudget ls true s.sOn) then 8 else 0

/-! ## What the unit records show of a frame (R174, R180) -/

/-- The sheaf that sheaf `i` checks in a frame; none where it checks none. -/
def Frame.partnerOf (f : Frame) (i : Nat) : Option Nat :=
  let m := f.sheaves.length
  match f.sheaves.idxOf? i with
  | some k =>
    let c := f.sheaves.getD ((k + 1 + f.pairN % (m - 1)) % m) 0
    if 2 ≤ m && f.place.any (fun x => x.engines.any (fun e => e / 8 = c)) then some c else none
  | none => none

/-- PARTNER of every sheaf record for a frame of pipeline A. -/
def State.notePartners (s : State) (f : Frame) : State :=
  (List.range 16).foldl (fun s i => s.modSheaf i (fun x => { x with partner := some (f.n % 256, (f.partnerOf i).getD 255) })) s

/-! ## Sheaves offline, back, tested (R185, R186, R314) -/

/-- ENGINE_OFFLINE_REFUSED. -/
def State.refuseOffline (s : State) (i : Nat) : State := s.post0 0x0063 [word i]

/-- The requests of a sheaf before the instant of the write that is accepted now (R51): as they are, or as they were before an
earlier write that a latch point has still to count as after it. -/
def State.requestsBefore (s : State) (x : Sheaf) : Nat × Bool × Bool :=
  let due (p : Pipe) (t : Nat) : Bool := (s.latchDue p).any (fun l => decide (l ≤ t))
  match x.prior with
  | some q => if q.1 = s.now || due .A q.1 || due .B q.1 then q else (s.now, x.offReq, x.ret)
  | none => (s.now, x.offReq, x.ret)

/-- A request for a sheaf accepted now (R185). -/
def State.requestSheaf (s : State) (i : Nat) (off ret : Bool) : State :=
  let q := s.requestsBefore (s.sheaf i)
  s.modSheaf i (fun x => { x with offReq := off, ret := ret, prior := some q })

/-- A write of 1 to OFFLINE_REQ: the budget must hold without the sheaf for the sets and rates in force and pending. -/
def State.offlineReq (s : State) (i : Nat) : State :=
  let x := s.sheaf i
  if x.offReq then s
  else
    let n := if x.online then s.sOn - 1 else s.sOn
    let ok (ls : List Load) : Bool := engineBudget ls false n && engineBudget ls true n
    if ok (s.loads s.pa.inForce s.pb.inForce) && ok s.pendingLoads then s.requestSheaf i true false
    else s.refuseOffline i

/-- A write of 0 to OFFLINE_REQ. -/
def State.returnReq (s : State) (i : Nat) : State :=
  let x := s.sheaf i
  let failed := x.st = .failed || (x.st = .test && x.prev = .failed)
  if failed && !x.passed then s.refuseOffline i
  else s.requestSheaf i false (x.ret || failed)

/-- Some frame in flight or to come is placed on a sheaf. -/
def State.sheafInUse (s : State) (i : Nat) : Bool :=
  let on (p : Nat) (l : List Placed) : Bool := l.any (fun x => x.pipe = p && x.engines.any (fun e => e / 8 = i))
  let pl (p : Nat) (x : Pl) : Bool := x.frames.any (fun f => on p f.place) || (x.reading && on p x.place)
  pl 0 s.pa || pl 1 s.pb

/-- A DRAINING sheaf with no frame left becomes OFFLINE. -/
def State.sheafDrained (s : State) (i : Nat) : State :=
  if (s.sheaf i).st = .draining && !s.sheafInUse i then s.modSheaf i (fun x => { x with st := .offline }) else s

/-- A self-test starts. -/
def State.startTest (s : State) (i : Nat) (sched : Bool) : State :=
  s.modSheaf i (fun x => { x with prev := x.st, st := .test, sched := sched })

/-- A write of 1 to TEST_REQ. -/
def State.testReq (s : State) (i : Nat) : State :=
  let x := s.sheaf i
  if x.st = .offline || x.st = .failed then s.startTest i false else s.refuseOffline i

/-- A self-test ends (R186); one that the safety supervisor scheduled sets warning bit 9 where it fails, and a later pass of such a one
ends its condition (R311). -/
def State.sheafTest (s : State) (i : Nat) (pass : Bool) : State :=
  let x := s.sheaf i
  if x.st ≠ .test then s
  else
    let s := s.modSheaf i (fun x =>
      { x with st := x.prev, result := if pass then 1 else 2, passed := x.passed || (pass && decide (x.prev = .failed)),
               history := if pass then [] else x.history, ues := if pass then [] else x.ues, sched := false })
    let s := s.post0 0x0064 [word i, if pass then 1#32 else 2#32]
    if x.sched then s.testRan (8 + i) pass else s

/-- The retest of a FAILED sheaf by the safety supervisor, once, a second after the failure (R314). -/
def State.sheafRetest (s : State) (i : Nat) : State :=
  let x := s.sheaf i
  match x.retestAt with
  | some t =>
    if x.st = .failed && t ≤ s.now then (s.modSheaf i (fun x => { x with retestAt := none })).startTest i true else s
  | none => s

/-! ## Commands -/

/-- ENGINE_SRAM_UE (R183). -/
def execEngineSramUe (dt : Nat) (engine : Fin 128) (heldA heldB : List Word) (s : State) : Host.Outcome State Fault Refusal :=
  .next (s.run dt (fun s => s.engineSramUe engine.val heldA heldB))

/-- OFFLINE_REQ (R185). -/
def execOfflineReq (dt : Nat) (sheaf : Fin 16) (s : State) : Host.Outcome State Fault Refusal :=
  .next (s.run dt (fun s => s.offlineReq sheaf.val))

/-- RETURN_REQUEST (R185). -/
def execReturnRequest (dt : Nat) (sheaf : Fin 16) (s : State) : Host.Outcome State Fault Refusal :=
  .next (s.run dt (fun s => s.returnReq sheaf.val))

/-- SHEAF_DRAINED (R185). -/
def execSheafDrained (dt : Nat) (sheaf : Fin 16) (s : State) : Host.Outcome State Fault Refusal :=
  .next (s.run dt (fun s => s.sheafDrained sheaf.val))

/-- TEST_REQ (R186). -/
def execTestReq (dt : Nat) (sheaf : Fin 16) (s : State) : Host.Outcome State Fault Refusal :=
  .next (s.run dt (fun s => s.testReq sheaf.val))

/-- SHEAF_TEST (R186). -/
def execSheafTest (dt : Nat) (sheaf : Fin 16) (pass : Bool) (s : State) : Host.Outcome State Fault Refusal :=
  .next (s.run dt (fun s => s.sheafTest sheaf.val pass))

/-- SHEAF_RETEST (R314). -/
def execSheafRetest (dt : Nat) (sheaf : Fin 16) (s : State) : Host.Outcome State Fault Refusal :=
  .next (s.run dt (fun s => s.sheafRetest sheaf.val))

end Sys2Proof.Machine
end

