-- ==== Sys2Proof/Machine/Services.lean ====
section
/-! DEFINITION. The services RADIOMETRY and OBSCURATION (08, R188 to R190) at the pour of a frame. -/
namespace Sys2Proof.Machine

/-! ## RADIOMETRY (R188) -/

/-- A RADIOMETRY result (R188). -/
structure RectResult where
  n : Nat
  max : Nat
  min : Nat
  mean : Nat
  eps : Nat
  deriving DecidableEq, Repr

/-- The pixels of a rectangle. -/
def Rect.pixels (r : Rect) : List (Nat × Nat) :=
  (List.range (r.bottom + 1 - r.top)).flatMap (fun i => (List.range (r.right + 1 - r.left)).map (fun j => (r.top + i, r.left + j)))

/-- The result of a rectangle on a frame. With no value left, maximum, minimum and mean are free. -/
def Frame.rectResult (f : Frame) (b : Rad) (r : Rect) : RectResult :=
  let ps := r.pixels.filter (fun p => let t := cell 0 f.tm p.1 p.2; t ≠ 0 && t ≠ 0xfffe && t ≠ 0xffff)
  let ts := ps.map (fun p => cell 0 f.tm p.1 p.2)
  let es := if f.st.radio.tmMethod = 3 then ps.filterMap (fun p => (f.twoBandAt b p.1 p.2).map Prod.snd) else []
  let mean (l : List Nat) : Nat := (2 * l.sum + l.length) / (2 * l.length)
  { n := ts.length
    max := if ts.isEmpty then (Config.rectEmpty 0).toNat else ts.foldl max 0
    min := if ts.isEmpty then (Config.rectEmpty 1).toNat else ts.foldl min 65535
    mean := if ts.isEmpty then (Config.rectEmpty 2).toNat else mean ts
    eps := if es.isEmpty then 0 else mean es }

/-- The alarm of a rectangle: raised where its value crosses ALARM_T, cleared more than 64 back; with no value left, or
with the mode off, an alarm is as it was or off. -/
def Rect.alarmed (r : Rect) (x : RectResult) (was : Bool) : Bool :=
  if r.alarmMode = 0 then false
  else if x.n = 0 then was
  else if r.alarmMode = 1 then (if was then decide (r.alarmT ≤ x.max + 64) else decide (r.alarmT < x.max))
  else (if was then decide (x.min ≤ r.alarmT + 64) else decide (x.min < r.alarmT))

/-- RADIOMETRY and RADIO_ALARM of one rectangle. -/
def State.radiometryRect (s : State) (p : Pipe) (f : Frame) (b : Rad) (r : Rect) (i : Nat) : State :=
  let x := f.rectResult b r
  let was := (s.pl p).alarms.getD i false
  let is_ := r.alarmed x was
  let s := s.modPl p (fun y => { y with alarms := y.alarms.set i is_ })
  let s := s.postF p f 0x0070 [word (at_ i 29 + x.n), word (at_ x.max 16 + x.min), word (at_ x.eps 16 + x.mean), if is_ then 1#32 else 0#32]
  if was = is_ || r.alarmMode = 0 then s
  else s.postF p f 0x0071 [word i, if is_ then 1#32 else 0#32, word (if r.alarmMode = 1 then x.max else x.min)]

/-- RADIOMETRY at the pour of a frame. -/
def State.radiometry (s : State) (p : Pipe) (f : Frame) (b : Rad) : State :=
  f.st.rects.zipIdx.foldl (fun s r => s.radiometryRect p f b r.1 r.2) s

/-! ## OBSCURATION (R189, R190) -/

/-- A value in its place in an ascending list. -/
def insertNat (x : Nat) : List Nat → List Nat
  | [] => [x]
  | y :: ys => if x ≤ y then x :: y :: ys else y :: insertNat x ys

/-- The median of the 192 values of SHARP is at least OBS_MIN: half the sum of the two in the middle (DEDUCED,
notes/assumptions/26). -/
def learns (sharp : List Nat) (obsMin : Nat) : Bool :=
  let l := sharp.foldr insertNat []
  decide (2 * obsMin ≤ l.getD 95 0 + l.getD 96 0)

/-- One zone at the pour of a frame: `diff` is MEAN_B − MEAN_A. -/
def ZoneObs.next (z : ZoneObs) (o : ObsSet) (learn : Bool) (tLens sharp : Nat) (diff : Int) : ZoneObs :=
  let z := if learn && !z.obscured then
      if z.base = 0 then { z with base := sharp, diff := diff }
      else { z with base := ((z.base : Int) + rnd ((sharp : Int) - z.base) 6).toNat, diff := z.diff + rnd (diff - z.diff) 6 }
    else z
  let cand := decide (0 < z.base) && decide (sharp ≤ o.ratio * z.base / 256)
  let run := if cand == z.obscured then 0 else z.run + 1
  let flip := decide (o.frames ≤ run)
  let obscured := if flip then !z.obscured else z.obscured
  let d := diff - z.diff
  let cls := if tLens ≤ 17481 && decide (d ≤ -o.ice) then 0 else if o.wet ≤ d then 1 else 2
  { z with run := if flip then 0 else run, obscured := obscured, cls := cls }

/-- The map of a class over 32 zones from `z0` on. -/
def zoneMap (zs : List ZoneObs) (cls z0 : Nat) : Nat :=
  ((List.range 32).map (fun i =>
    let z := zs.getD (z0 + i) ZoneObs.reset
    flag (z.obscured && z.cls = cls) i)).sum

/-- What OBSCURATION shows of the zones. -/
def obscuredClasses (zs : List ZoneObs) : List (Option Nat) := zs.map (fun z => if z.obscured then some z.cls else none)

/-- The nine entries of an OBSCURATION group. -/
def State.postObscuration (s : State) (p : Pipe) (f : Frame) (zs : List ZoneObs) : State :=
  (List.range 9).foldl (fun s i =>
    s.postF p f 0x0072 [word (at_ (i / 3) 8 + i % 3), word (zoneMap zs (i / 3) (64 * (i % 3))),
      word (zoneMap zs (i / 3) (64 * (i % 3) + 32)), word (8 - i)]) s

/-- The washer (R190): a request at most every 30 s, or with WASH_AUTO the pulse itself, 30 s after the last at the earliest,
tried again at the next latch point where the rules refuse it. -/
def State.wash (s : State) (p : Pipe) (f : Frame) (zs : List ZoneObs) : State :=
  let o := f.st.obs
  let n := (zs.filter (fun z => z.obscured && decide (z.cls ≠ 0))).length
  let s := s.modPl p (fun x => { x with washDue := false })
  if n < o.zones then s
  else if o.auto_ = 1 then
    if s.washSpaced then s.washPulse p o.washMs else s
  else
    let due := match (s.pl p).lastWash with
      | some t => decide (t + 30 * sec ≤ s.now)
      | none => true
    if due then (s.modPl p (fun x => { x with lastWash := some s.now })).postF p f 0x0073 [word n] else s

/-- OBSCURATION at the pour of a frame. -/
def State.obscuration (s : State) (p : Pipe) (f : Frame) (x : Stats) : State :=
  let o := f.st.obs
  let old := (s.pl p).zones
  let learn := learns (x.zones.map (fun z => z.2.2.1)) o.obsMin
  let zs := old.zipIdx.map (fun z =>
    let v := x.zones.getD z.2 (0, 0, 0, 0, 0)
    z.1.next o learn f.lensT v.2.2.1 (v.2.1 - v.1))
  let s := s.modPl p (fun y => { y with zones := zs })
  let s := if obscuredClasses old = obscuredClasses zs then s else s.postObscuration p f zs
  s.wash p f zs

/-- OBSCURATION runs and drives the washer (R190). -/
def Settings.washes (st : Settings) : Bool := decide (st.services / 2 % 2 = 1) && decide (st.obs.auto_ = 1)

/-- A washer pulse refused before is tried again at the latch point, while the settings still ask for one. -/
def State.washLatch (s : State) (p : Pipe) : State :=
  let x := s.pl p
  if !x.washDue then s
  else if x.snap.washes && s.washSpaced then s.washPulse p x.snap.obs.washMs
  else s.modPl p (fun x => { x with washDue := false })

end Sys2Proof.Machine
end

