-- ==== Sys2Proof/Machine/Pour.lean ====
section
/-! DEFINITION. Stripes, pours and drops (01 R28 to R31, 06 R138 and R139, 07 R151 to R165, 14 R312): what the engines do
with the rows of a frame, its release to the host, and the end of a frame that does not pour. -/
namespace Sys2Proof.Machine

/-! ## Stripes -/

/-- The engines work on a frame: it was read and placed, it has its plate temperature, and it is neither held (R382, R61),
relayed, nor known to drop with reason LATE or RATE. -/
def Frame.alive (f : Frame) : Bool :=
  f.placed && f.ptemp.isSome && !f.hold && !f.rateDrop && !f.underrun && !f.incomplete && decide (f.st.mode ≠ .relay)

/-- The stripe and the two active rows below it are in the silo (R28). -/
def Frame.stripeIn (f : Frame) (k : Nat) : Bool := decide (0 < (SMap.get #[] f.silo (min (64 * k + 65) 1535)).size)

/-- Frames of a pipeline older than `n` that the engines still work on. -/
def Pl.olderBusy (x : Pl) (n : Nat) : Bool := x.frames.any (fun g => g.alive && newer 32 n g.n && decide (g.stripes < 24))

/-- The temporal filter and the window restart in a frame (R138, R139, R153). -/
def Pl.restarts (x : Pl) (f : Frame) : Bool :=
  match x.before f.n with
  | none => true
  | some q =>
    !x.histValid || x.histTaint || q.shutter || !q.whole || q.refFail || expDiffers q.st f.st || decide (q.st.bundle ≠ f.st.bundle) ||
      (decide (q.st.radio.tfEn = 0) && decide (f.st.radio.tfEn = 1))

/-- The start of stage 2 on a frame. -/
def Pl.beginFilter (x : Pl) (f : Frame) : Pl :=
  let r := x.restarts f
  ({ x with histValid := true, histTaint := false } : Pl).modFrame f.n (fun g => { g with restart := r })

/-- Stages 1 to 3, or stage COMPAT, on stripe k of a frame. -/
def Pl.runStripe (x : Pl) (b : Bundle) (f : Frame) (k : Nat) : Pl :=
  let (g, zA, zB) := if f.st.compat then
      let (g, z) := compatStripe b.rad k f x.zA
      (g, z, x.zB)
    else stripeStages b.rad k f x.zA x.zB
  ({ x with zA := zA, zB := zB } : Pl).modFrame f.n (fun _ => { g with stripes := k + 1 })

/-- TEMPMAP rows and the fallbacks of a frame (R144 to R148). -/
def Frame.tempMap (f : Frame) (b : Rad) (draw : Nat) : Frame :=
  let rows := (List.range 1536).map (fun r => (r, f.tempRow b draw r))
  { f with tm := rows.map (fun x => (x.1, x.2.1)), fallback := (rows.map (fun x => x.2.2)).sum }

/-- Statistics and window of a frame (R153, R159). -/
def Frame.windowed (f : Frame) (lo hi : Int) : Frame :=
  let x := f.statistics
  let n := f.dims.1 * f.dims.2
  let (wl, wh) := displayWindow f.st.disp f.st.compat f.restart x.histF n lo hi
  { f with stats := some x, winLo := wl, winHi := wh }

/-- The destination rings of a frame in ascending order, with the product and the camera of each (R163). -/
def Settings.rings (st : Settings) : List (Nat × Nat × Nat) :=
  ((List.range 23).drop 3).flatMap (fun r =>
    st.cams.flatMap (fun c => ((c.codes st.cool).filter (fun k => c.dest.getD k 0 = r)).map
      (fun k => (r, k, if c.secondary then 1 else 0))))

/-- A product descriptor completed by the module (R207). -/
def State.deliver (s : State) (d : Delivery) : State := { s with hif := { s.hif with deliveries := d :: s.hif.deliveries } }

/-- One buffer claimed for a frame; a descriptor whose address is not aligned is completed at once (R163, R207). -/
def State.claim (s : State) (p : Pipe) (f : Frame) (x : Nat × Nat × Nat) : State :=
  let (r, k, cam) := x
  match (s.ring r).posted with
  | (pos, d) :: rest =>
    if (s.ring r).enable then
      let s := s.modRing r (fun y => { y with posted := rest, head := (pos + 1) % y.len })
      if d.addr.toNat % 64 ≠ 0 then
        (s.deliver ⟨r, pos, d, f.n, 0, 1, (s.pl p).genOf f.st, k, [], 0, []⟩).signal r
      else s.modPl p (fun y => y.modFrame f.n (fun g => { g with claims := g.claims ++ [⟨r, pos, k, cam, d⟩] }))
    else s.postF p f 0x0011 [word r]
  | [] => s.postF p f 0x0011 [word r]

/-- Stages 4 on, and formatting: temperatures, statistics, window, claims, products. -/
def State.finishStripes (s : State) (p : Pipe) (b : Bundle) (f : Frame) : State :=
  let x := s.pl p
  let f := if f.st.needsTemp && !f.st.compat then f.tempMap b.rad s.sup.free else f
  let f := f.windowed x.winLo x.winHi
  let s := { s with sup := { s.sup with free := s.sup.free + 1 } }
  let s := s.modPl p (fun x => ({ x with winLo := f.winLo, winHi := f.winHi } : Pl).modFrame f.n (fun _ => f))
  if f.shutter then s.modPl p (fun x => x.modFrame f.n (fun g => { g with ready := true }))
  else
    let s := f.st.rings.foldl (fun s r => s.claim p f r) s
    let st := f.stats.getD ⟨[], [], [], [], 0⟩
    let ps := f.st.products.map (f.product b.rad st)
    s.modPl p (fun x => x.modFrame f.n (fun g => { g with products := ps, ready := true }))

/-- Stage work on stripe k, the partner checks that fall in it, and after the last stripe the rest. -/
def State.stripeWork (s : State) (p : Pipe) (f : Frame) (bad : List (Fin 16)) : State :=
  let b := (s.bundleOf f.st).getD Bundle.factory
  let k := f.stripes
  let s : State := { s with eng := { s.eng with worked := true } }
  let s := if k = 0 then s.modPl p (fun x => x.beginFilter f) else s
  match (s.pl p).frame? f.n with
  | none => s
  | some f =>
    let s := s.modPl p (fun x => x.runStripe b f k)
    let s := s.stripeChecks p f k bad
    match (s.pl p).frame? f.n with
    | none => s
    | some g => if g.stripes = 24 then s.finishStripes p b g else s

/-- STRIPE_START: a stripe whose rows are in the silo, the earlier frames of the pipeline being finished (DEDUCED,
notes/assumptions/27), with what its memory accesses found (R249, R250)
and the local-SRAM errors corrected meanwhile (R174). -/
def State.stripeStart (s : State) (p : Pipe) (n : Nat) (bad : List (Fin 16)) (o : MemObs) (ce : List (Fin 128)) : State :=
  match (s.pl p).frame? n with
  | none => s
  | some f =>
    if !f.alive || decide (24 ≤ f.stripes) || !f.stripeIn f.stripes || (s.pl p).olderBusy n then s
    else
      let (s, silos) := s.memRun o
      let s := s.sramCorrected ce
      let s := if failsFrame silos then s.modPl p (fun x => x.modFrame n (fun g => { g with memFail := true })) else s
      match (s.pl p).frame? n with
      | none => s
      | some f => s.stripeWork p f bad

/-! ## Pour -/

/-- The pour deadline of a frame has passed (R30): M(n+2), or with no frame read any more the instant at which it would
have fallen (DEDUCED, notes/assumptions/28). -/
def Pl.pastDeadline (x : Pl) (f : Frame) (now : Nat) : Bool :=
  decide (3 ≤ (x.frameNo + 2 ^ 32 - f.n) % 2 ^ 32) || (!x.reading && decide (f.marker + 2 * pNom f.st.exposure ≤ now))

/-- The frame had a check fail (R102, R139, R182, R183, R250). -/
def Frame.checkFail (f : Frame) : Bool := f.refFail || f.tileFail || f.memFail || f.tainted

/-- Every product is complete and every check passed, and no later frame has poured or dropped (R30, R31, R311). -/
def State.mayPour (s : State) (p : Pipe) (f : Frame) : Bool :=
  let x := s.pl p
  let ordered := match x.lastDone with
    | some q => newer 32 f.n q.n
    | none => true
  f.alive && f.ready && decide (f.stripes = 24) && decide (f.nextRow = 1548) && !f.shutter && !f.checkFail &&
    decide (s.mode ≠ .safe) && ordered && !x.pastDeadline f s.now

/-- FLAGS of the frame record (R162). -/
def Pl.pourFlags (x : Pl) (f : Frame) : Nat :=
  let expo := match x.lastPoured with
    | some l => decide (l.exposure ≠ f.st.exposure) || decide (l.fsync ≠ f.st.fsync)
    | none => false
  let gen := x.lastPoured.isSome && decide (x.genOf f.st ≠ x.gen)
  let so := match x.lastSeq with
    | some q => decide (q ≠ f.soSeq)
    | none => false
  flag expo 0 + flag gen 1 + flag f.restart 2 + flag f.lensSubst 3 + flag f.st.cool 4 + flag f.st.compat 5 +
    flag f.excess 6 + flag f.fsyncLocked 7 + flag so 8

/-- A bundle's identity, 0 where none is in force. -/
def State.bundleId (s : State) (st : Settings) : Nat :=
  match s.bundleOf st with
  | some b => b.id
  | none => 0

/-- One claimed buffer completed (R163, R164). -/
def State.deliverClaim (s : State) (p : Pipe) (f : Frame) (i : PourInfo) (c : Claim) : State :=
  let st := f.st
  let mode := st.disp.mode
  let ringStride := (s.ring c.ring).stride.toNat
  let l := lineBytes c.product mode st.compat
  let stride := if l = 0 then 0 else effStride ringStride l
  let small := decide (c.desc.size.toNat < bufferBytes c.product mode st.compat ringStride)
  let n := if small then 0 else payloadBytes c.product mode st.compat
  let rec_ := f.record p (s.bundleId st) i c.product c.camera c.ring stride n
  let lines := match f.products.find? (fun x => x.code = c.product) with
    | some x => x.lines
    | none => []
  s.deliver ⟨c.ring, c.pos, c.desc, f.n, 256 + n, if small then 1 else 0, i.gen, c.product, rec_, stride, if small then [] else lines⟩

/-- The camera whose product goes to the NL lanes: 0 primary, 1 secondary (R161). -/
def nlCamera (st : Settings) (k : Nat) : Nat :=
  match st.cams.find? (fun c => (c.codes st.cool).contains k && decide (c.dest.getD k 0 = 254)) with
  | some c => if c.secondary then 1 else 0
  | none => 0

/-- A poured product that waits for its NL stream replaces one that still waits, which is skipped (R292, R293). -/
def State.offerStream (s : State) (p : Pipe) (f : Frame) (info : PourInfo) (i : Nat) : State :=
  match s.nl.streams.getD i none with
  | some t =>
    if t.pipe = p && (dests f.st.cams f.st.cool t.product).contains 254 then
      match f.products.find? (fun x => x.code = t.product) with
      | some x =>
        let l := lineBytes t.product f.st.disp.mode f.st.compat
        let rec_ := f.record p (s.bundleId f.st) info t.product (nlCamera f.st t.product) 255 l
          (payloadBytes t.product f.st.disp.mode f.st.compat)
        let s := { s with nl := { s.nl with streams := s.nl.streams.set i (some { t with waiting := some (f.n, rec_, x) }) } }
        match t.waiting with
        | some w => s.post0 0x00b2 [word i, word w.1]
        | none => s
      | none => s
    else s
  | none => s

/-- What a frame that has left keeps for later ones. -/
def Pl.noteDone (x : Pl) (f : Frame) : Pl :=
  let old := match x.lastDone with
    | some q => !newer 32 f.n q.n
    | none => false
  { x with lastDone := if old then x.lastDone else some f.done, frames := x.frames.filter (fun g => g.n ≠ f.n),
           gone := if x.reading && f.n = x.lastNo then some f else x.gone }

/-- The services at the pour of a frame (R187). -/
def State.services (s : State) (p : Pipe) (f : Frame) : State :=
  let b := (s.bundleOf f.st).getD Bundle.factory
  let s := if f.st.services % 2 = 1 then s.radiometry p f b.rad else s
  match f.stats with
  | some x => if f.st.services / 2 % 2 = 1 then s.obscuration p f x else s
  | none => s

/-- The bookkeeping of a pour: generation, last poured settings and table, runs of R312, pour registers. -/
def State.notePour (s : State) (p : Pipe) (f : Frame) (gen : Nat) : State :=
  let s := s.modPl p (fun x =>
    { x with gen := gen, lastPoured := some f.st, lastSeq := some f.soSeq, noTemp := 0, lateRun := 0 })
  let saf := match p with
    | .A => { s.saf with pourA := f.n, pouredSinceStall := true }
    | .B => { s.saf with pourB := f.n }
  { s with saf := saf, hif := { s.hif with poursAbsent := s.hif.poursAbsent + (if s.absent then 1 else 0) } }

/-- Several rings signal new entries at once: those whose moderation interval has ended send one message for each vector
they name, since rings that share a vector share its messages (R225). -/
def State.signalShared (s : State) (xs : List Nat) : State :=
  let held := xs.filter (fun x => decide (s.now < (s.ring x).modUntil))
  let free := xs.filter (fun x => decide ((s.ring x).modUntil ≤ s.now))
  let vectors := dedup (free.map (fun x => (s.ring x).vector))
  let s := held.foldl (fun s x => s.modRing x (fun r => { r with modHeld := true })) s
  let s := free.foldl (fun s x => s.modRing x (fun r => { r with modUntil := s.now + r.mod_ * us, modHeld := false })) s
  vectors.foldl State.sendMessage s

/-- The release of a frame (R30, R164, R165, R216): buffers in ascending ring number, their messages, then the events, the
services, the commit of a scene-offset table and the glean. -/
def State.release (s : State) (p : Pipe) (f : Frame) : State :=
  let x := s.pl p
  let gen := x.genOf f.st
  let i : PourInfo := ⟨gen, s.now, x.pourFlags f⟩
  let claims := f.claims.filter (fun c => (s.ring c.ring).enable)
  let s := claims.foldl (fun s c => s.deliverClaim p f i c) s
  let s := s.signalShared (dedup (claims.map Claim.ring))
  let s := s.notePour p f gen
  let s := (s.offerStream p f i 0).offerStream p f i 1
  let s := s.services p f
  let s := (s.commitAtPour p).gleanFrame p f
  s.modPl p (fun x => x.noteDone f)

/-- POUR (R30). -/
def State.pour (s : State) (p : Pipe) (n : Nat) : State :=
  match (s.pl p).frame? n with
  | some f => if s.mayPour p f then s.release p f else s
  | none => s

/-! ## Frames that do not pour (R30, R122, R312) -/

/-- The reason of a drop: 1 LATE, 2 CHECK, 3 SHUTTER, 4 RATE, 5 NO_PLATE_TEMP; 0 for a frame that drops without an event
(R382, R61, RELAY). For a shutter frame NO_PLATE_TEMP and CHECK alone come before SHUTTER (R122); the order of the reasons of
other frames is the model's (DESIGN CHOICE, notes/assumptions/95). -/
def Frame.dropReason (f : Frame) : Nat :=
  if f.hold || f.st.mode = .relay then 0
  else if f.shutter then (if f.ptemp.isNone then 5 else if f.checkFail then 2 else 3)
  else if f.incomplete then 1
  else if f.ptemp.isNone then 5
  else if f.rateDrop then 4
  else if f.underrun then 1
  else if f.checkFail then 2
  else 1

/-- The frame faults among the 16 most recent frames up to frame `k`. -/
def countWindow (l : List Nat) (k : Nat) : List Nat := l.filter (fun n => decide ((k + 2 ^ 32 - n) % 2 ^ 32 < 16))

/-- A counted fault (R312). -/
def State.countFault (s : State) (p : Pipe) (n : Nat) : State :=
  let w := countWindow (n :: (s.pl p).checkWin) n
  let s := s.modPl p (fun x => { x with checkWin := w })
  if 3 ≤ w.length then s.fault 13 else s

/-- A failed reference check of pipeline B (R312). -/
def State.countRef (s : State) (n : Nat) : State :=
  let w := countWindow (n :: s.pb.refWin) n
  let s := s.modPl .B (fun x => { x with refWin := w })
  if 3 ≤ w.length then s.warnBit 7 else s

/-- The runs of R312 after a drop with a reason. -/
def State.countRuns (s : State) (p : Pipe) (f : Frame) (reason : Nat) : State :=
  let x := s.pl p
  let noTemp := if reason = 5 then x.noTemp + 1 else 0
  let late := if reason = 1 && f.st.mode = .imaging then x.lateRun + 1 else 0
  let s := s.modPl p (fun x => { x with noTemp := noTemp, lateRun := late })
  let s := if noTemp = 4 then s.fault 14 else s
  if p = .A && late = 60 then ({ s with saf := { s.saf with pouredSinceStall := false } }).warnBit 8 else s

/-- The counts of R312 for a dropped frame: the frame that TEST 5 sacrificed does not count. -/
def State.countDrop (s : State) (p : Pipe) (f : Frame) (reason : Nat) : State :=
  let refA := decide (p = .A) && f.refFail && !f.test5
  let s := if reason = 2 && (refA || f.tileFail || f.memFail || f.tainted) then s.countFault p f.n else s
  let s := if reason = 2 && p = .B && f.refFail then s.countRef f.n else s
  s.countRuns p f reason

/-- A frame ends without pouring: its buffers go back, FRAME_DROPPED, the counts. -/
def State.dropFrame (s : State) (p : Pipe) (f : Frame) : State :=
  let r := f.dropReason
  let s := s.returnClaims f
  let s := s.modPl p (fun x => x.noteDone f)
  if r = 0 then s else (s.postF p f 0x0010 [word r]).countDrop p f r

/-- POUR_DEADLINE (R30). -/
def State.pourDeadline (s : State) (p : Pipe) (n : Nat) : State :=
  match (s.pl p).frame? n with
  | some f => if (s.pl p).pastDeadline f s.now then s.dropFrame p f else s
  | none => s

/-! ## Commands -/

/-- STRIPE_START (R28). -/
def execStripeStart (dt : Nat) (pipe : Pipe) (frame : Word) (mismatch : List (Fin 16)) (obs : MemObs) (sramCe : List (Fin 128))
    (s : State) : Host.Outcome State Fault Refusal :=
  .next (s.run dt (fun s => s.stripeStart pipe frame.toNat mismatch obs sramCe))

/-- POUR (R30). -/
def execPour (dt : Nat) (pipe : Pipe) (frame : Word) (s : State) : Host.Outcome State Fault Refusal :=
  .next (s.run dt (fun s => s.pour pipe frame.toNat))

/-- POUR_DEADLINE (R30). -/
def execPourDeadline (dt : Nat) (pipe : Pipe) (frame : Word) (s : State) : Host.Outcome State Fault Refusal :=
  .next (s.run dt (fun s => s.pourDeadline pipe frame.toNat))

end Sys2Proof.Machine
end

