-- ==== Sys2Proof/Machine/Lanes.lean ====
section
/-! DEFINITION. What the NL lanes transmit (13): the frames of the egress streams, EGR_EN, the test features of R303 and
R304, and the relay stream of a module in RELAY. -/
namespace Sys2Proof.Machine

/-- The companion link changed. -/
def State.modComp (s : State) (f : Comp → Comp) : State := { s with nl := { s.nl with comp := f s.nl.comp } }

/-- The lanes of a two-bit mask, from lane `base` on. -/
def lanesOf (mask base : Nat) : List Nat := (if mask % 2 = 1 then [base] else []) ++ (if mask / 2 % 2 = 1 then [base + 1] else [])

/-! ## Egress (R292, R293) -/

/-- The packets of a product frame for an egress lane in their order (R292): RECORD on every lane in service, line L on lane L mod 2,
or every line on the only lane. -/
def State.framePackets (s : State) (i n : Nat) (rec_ : List Byte) (x : Product) (l : Nat) : List NlPacket :=
  let ls := lanesOf s.nl.egrEn 0
  let packet (k line : Nat) (b : List Byte) : NlPacket := ⟨k, i, l, line, n % 65536, b, false, 0, none⟩
  if !ls.contains l then []
  else packet 0 0 rec_ :: (x.lines.zipIdx.filter (fun y => ls.getD (y.2 % ls.length) 0 = l)).map (fun y => packet 1 y.2 y.1)

/-- NL_TRANSFER_START: the frame that waits for a stream goes into transfer once the one before it is over, and the lanes take up its
packets (R292, R293); then what the reads of a transfer meet (R239, R250, R294). -/
def State.transferStart (s : State) (i : Nat) (o : NlObs) : State :=
  match s.nl.streams.getD i none with
  | none => s
  | some t =>
    match t.transfer, t.waiting with
    | none, some (n, r, x) =>
      let todo := [s.framePackets i n r x 0, s.framePackets i n r x 1]
      let s := s.egress
      let s := { s with nl := { s.nl with streams := modAt s.nl.streams i (fun t =>
        t.map (fun (t : Stream) => { t with transfer := some (n, r, x), waiting := none, todo := todo })) } }
      ((s.egress.portSeen 1 o.port).memRun o.mem).1
    | _, _ => s

/-- NL_CONFIG with the offset of the register in the NL block. -/
def State.nlConfig (s : State) (off : Nat) : State := s.post0 0x00b5 [word off]

/-- The products bound to NL stay within the budget of a set of egress lanes (R172, R295). -/
def State.egrFits (s : State) (egr : Nat) : Bool :=
  let ls := s.pendingLoads
  let fits (cool : Bool) : Bool := within (weighted ls (fun l => s.nlTraffic l.st l.cams cool)) (nlBudget egr)
  fits false && fits true

/-- A write of NL_CTRL (R295). -/
def State.writeEgrEn (s : State) (v : Word) : State :=
  if s.egrFits (fld v 1 0) then { s with nl := { s.nl with egrReq := some (fld v 1 0) } } else s.nlConfig 0

/-- EGRESS_LANE_CHANGE: once neither egress lane has a packet in progress (R295). -/
def State.egressLaneChange (s : State) : State :=
  match s.nl.egrReq with
  | some v =>
    if (s.lane 0).cur.isSome || (s.lane 1).cur.isSome then s
    else
      let s := { s with nl := { s.nl with egrEn := v, egrReq := none } }
      if s.mode = .relay then s else s.serveLanes v
  | none => s

/-! ## What a line carries (R289, R296, R303) -/

/-- The lane index in the link: x of R296. -/
def linkIndex (l : Nat) : Nat := l % 2

/-- The TRN block that this module sends on a lane (R296): ACK where the partner's TRN is received on it. -/
def State.ownTrn (s : State) (l : Nat) : TrnBlock :=
  ⟨if s.mode = .relay then 2#2 else 1#2, BitVec.ofNat 2 l, decide (s.nl.comp.heard / 2 ^ linkIndex l % 2 = 1), s.nl.comp.ready,
    BitVec.ofNat 32 s.nv.serial.toNat⟩

/-- The lane is one of those that train: 2 and 3 of a host, 0 and 1 in RELAY (R296). -/
def State.trainLane (s : State) (l : Nat) : Bool := if s.mode = .relay then decide (l < 2) else decide (2 ≤ l)

/-- What a lane carries where no packet is: nothing (electrical idle), a raw pattern, or blocks of one control word. -/
inductive Fill where
  | dark
  | pattern (n : Nat)
  | words (w : BitVec 64)
  deriving DecidableEq, Repr

/-- What a lane carries where no packet is (R289, R297, R303): an enabled transmitter sends IDLE, in TRAIN its TRN; a pattern in
DIAGNOSTIC replaces both. -/
def State.fillOf (s : State) (l : Nat) : Fill :=
  let x := s.lane l
  if !s.live || !x.on then .dark
  else if x.prbs ≠ 0 then .pattern x.prbs
  else if s.trainLane l && decide (s.nl.comp.state = 2) && s.nl.comp.retryAt.isNone then .words (trnWord (s.ownTrn l))
  else .words idleWord

/-- Block `c` of a lane on its line: that of a packet of which it is block `k`, or of what fills the line (R283, R284, R304). -/
def State.lineBlock (s : State) (l c : Nat) (p : Option (NlPacket × Nat)) : Option RxBlock :=
  match s.fillOf l with
  | .words w =>
    let b := match p with
      | some (p, k) => p.blocks.getD k (ctrlBlock w)
      | none => ctrlBlock w
    some ((s.lane l).txBlock l c b)
  | _ => none

/-! ## Test features (R303, R304) -/

/-- A write of NL_LN_CFG: PRBS is stored as 0 outside DIAGNOSTIC (R303). -/
def State.writeLaneCfg (s : State) (l : Nat) (v : Word) : State :=
  let ok := s.mode = .diagnostic
  let n := if ok then fld v 26 24 else 0
  let w := word (fld v 3 0 + at_ (fld v 11 8) 8 + at_ (fld v 17 16) 16 + at_ n 24)
  let s := s.modLane l (fun x =>
    (if x.prbs = n then { x with cfg := w } else { x.plain with cfg := w }).strike s.now)
  if !ok && fld v 26 24 ≠ 0 then s.nlConfig (0x40 + 0x20 * l) else s

/-- A write of NL_LN_INJ (R304). -/
def State.writeInject (s : State) (l : Nat) (v : Word) : State :=
  if s.mode = .calibration || s.mode = .diagnostic then
    if 1 ≤ fld v 2 0 && fld v 2 0 ≤ 4 then s.modLane l (fun x => ({ x with inject := fld v 2 0 } : Lane).strike s.now) else s
  else s.nlConfig (0x48 + 0x20 * l)

/-- What the checker of a lane receives (R303). -/
def State.prbsLocked (s : State) (l : Nat) (bits : List Bool) : State :=
  if s.mode = .diagnostic && (s.lane l).prbs ≠ 0 then
    s.modLane l (fun x => bits.foldl (fun y b => y.checkBit x.prbs b) x)
  else s

/-! ## The relay stream (R298 to R300) -/

/-- The link lanes of a module in RELAY; before training has fixed them, lane 0. -/
def State.relayLanes (s : State) : List Nat := if s.nl.comp.lanes = 0 then [0] else lanesOf s.nl.comp.lanes 0

/-- Byte `a` of the bundle as it was staged; the bytes of a factory bundle are not stated (notes/assumptions/40). -/
def Bundle.byteAt (b : Bundle) (a : Nat) : Byte :=
  match b.staged with
  | some (_, m) => SMap.get 0#8 m a
  | none => Config.factoryByte a

/-- Length of the bundle as it was staged. -/
def Bundle.total (b : Bundle) : Nat :=
  match b.staged with
  | some (n, _) => n
  | none => Config.factoryTotal

/-- CHUNK `i` of the bundle in force, on link lane i mod N, the last padded to a whole block (R298). -/
def State.sendChunk (s : State) (i : Nat) : State :=
  match s.bundleOf s.pa.snap with
  | none => s
  | some b =>
    let n := min 4096 ((b.total - 4096 * i + 7) / 8 * 8)
    let ls := s.relayLanes
    s.sendPacket 2 0 (ls.getD (i % ls.length) 0) 0 i
      ((List.range n).map (fun k => if 4096 * i + k < b.total then b.byteAt (4096 * i + k) else 0#8))

/-- Every chunk of the bundle in force. -/
def State.sendBundle (s : State) : State :=
  match s.bundleOf s.pa.snap with
  | none => s
  | some b => (List.range ((b.total + 4095) / 4096)).foldl State.sendChunk s

/-- The latest valid temperature of BLADE_CH0. -/
def State.latestBlade (s : State) : Option Int :=
  ((s.pcv.ext.getD (s.ancOf s.pa.snap).bladeCh0 []).head?).map Prod.fst

/-- The payload of HEADER for a frame (R299). -/
def State.headerBytes (s : State) (f : Frame) : List Byte :=
  le 4 f.n ++ le 4 f.st.exposure.toNat ++ le 8 f.marker ++ le 2 (code (f.ptemp.getD Config.missingTemp) 16) ++
    le 1 (modeNum s.mode) ++ le 1 (s.position 0) ++ le 2 (code (s.latestBlade.getD 0) 16) ++
    le 1 (flag s.latestBlade.isSome 0 + flag s.pcv.bladeUrgent 1) ++ le 1 f.tempSubst ++ le 4 (s.bundleId f.st) ++
    le 1 f.permSubst ++ le 1 s.pcv.bladeSeq ++ List.replicate 34 0#8

/-- The payload of COEFF for a frame (R86, R299). -/
def State.coeffBytes (s : State) (f : Frame) : List Byte :=
  (List.range 2080).flatMap (fun q =>
    let c := s.coefficient .A f (f.ptemp.getD Config.missingTemp) q
    le 2 (code c.1 16) ++ le 2 (code c.2 16))

/-- HEADER and COEFF of a frame that begins, on the first link lane. -/
def State.relayFrame (s : State) (f : Frame) : State :=
  let l := s.relayLanes.getD 0 0
  (s.sendPacket 3 0 l 0 f.n (s.headerBytes f)).sendPacket 4 0 l 0 f.n (s.coeffBytes f)

/-- ROW_S and ROW_L of a physical row, on two lanes or one after the other (R300). -/
def State.relayRow (s : State) (n j : Nat) (a b : Array (BitVec 16)) : State :=
  let bytes (x : Array (BitVec 16)) : List Byte := x.toList.flatMap (fun v => le 2 v.toNat)
  let ls := s.relayLanes
  (s.sendPacket 5 0 (ls.getD 0 0) j n (bytes a)).sendPacket 6 0 (ls.getD (1 % ls.length) 0) j n (bytes b)

/-! ## Commands -/

/-- NL_TRANSFER_START (R292). -/
def execNlTransferStart (dt : Nat) (stream : Fin 2) (obs : NlObs) (s : State) : Host.Outcome State Fault Refusal :=
  .next (s.run dt (fun s => s.transferStart stream.val obs))

/-- EGR_EN (R295). -/
def execEgrEn (dt : Nat) (value : Word) (s : State) : Host.Outcome State Fault Refusal := .next (s.run dt (fun s => s.writeEgrEn value))

/-- EGRESS_LANE_CHANGE (R295). -/
def execEgressLaneChange (dt : Nat) (s : State) : Host.Outcome State Fault Refusal := .next (s.run dt (fun s => s.egressLaneChange))

/-- PRBS (R303). -/
def execPrbs (dt : Nat) (lane : Fin 4) (value : Word) (s : State) : Host.Outcome State Fault Refusal :=
  .next (s.run dt (fun s => s.writeLaneCfg lane.val value))

/-- PRBS_LOCK (R303). -/
def execPrbsLock (dt : Nat) (lane : Fin 4) (bits : List Bool) (s : State) : Host.Outcome State Fault Refusal :=
  .next (s.run dt (fun s => s.prbsLocked lane.val bits))

/-- INJECT (R304). -/
def execInject (dt : Nat) (lane : Fin 4) (value : Word) (s : State) : Host.Outcome State Fault Refusal :=
  .next (s.run dt (fun s => s.writeInject lane.val value))

end Sys2Proof.Machine
end

