-- ==== Sys2Proof/Machine/Plate.lean ====
section
/-! DEFINITION. Focal plane, row timing and exposure (02) with the fault rules of FSYNC_IN (12 R281): commits, row slots,
frame-start markers, latch points. -/
namespace Sys2Proof.Machine

/-! ## Commits (R48, R49, R54, R55) -/

/-- An exposure that R48 and R44 allow. -/
def validExposure (e : Word) : Bool :=
  let t := fld e 20 8
  let k := 2 ^ (fld e 5 4 + 1)
  decide (fld e 1 0 ≠ 3) && decide (32 ≤ t) && decide (80 ≤ (k - 1) * t) && decide (k * t + 125 ≤ nRow (fld e 1 0))

/-- RESULT of a commit. -/
def State.commitResult (s : State) (r : Nat) : State := { s with plt := { s.plt with result := r } }

/-- A write of PLT_COMMIT. -/
def State.commit (s : State) (v : Word) : State :=
  if !bit v 0 then s
  else if s.plt.busy then (s.commitResult 2).post0 0x0021 []
  else if !isRunning s.mode then s.commitResult 3
  else if !validExposure s.plt.exp then (s.commitResult 1).post0 0x0020 []
  else { s with plt := { s.plt with busy := true, result := 0, sent := (s.plt.exp, s.plt.fsync) } }

/-- The transfer to the plate completes: the setting is accepted. -/
def State.commitDone (s : State) : State :=
  if !s.plt.busy then s
  else
    let s := { s with plt := { s.plt with busy := false, pending := true, applyFrame := s.applyFrame .A, acceptAt := s.now } }
    s.accept .A (fun st => { st with exposure := s.plt.sent.1, fsync := s.plt.sent.2 })

/-! ## FSYNC_IN (R57, R58, R281) -/

/-- P_min and P_max of a frame rate (R57). -/
def pMin (e : Word) : Nat := 2041050 * 2 ^ fld e 1 0
def pMax (e : Word) : Nat := 2124358 * 2 ^ fld e 1 0

/-- SLAVE_EN of a snapshot. -/
def Settings.slaved (st : Settings) : Bool := bit st.fsync 0

/-- LOCKED returns to SEEKING with FSYNC_UNLOCK: 1 slip, 2 missed, 3 extra (R58). -/
def State.unlock (s : State) (cause : Nat) : State :=
  if s.plt.fsyncState = 2 then
    ({ s with plt := { s.plt with fsyncState := 1, exactRun := 0 } }).postP .A 0x0022 [word cause]
  else s

/-- An edge that sets the target of the next marker or counts as extra (R57). -/
def State.placeEdge (s : State) (f : Frame) : State :=
  let t := s.now + fld f.st.fsync 31 16
  let hi := f.marker + pMax f.st.exposure
  if s.plt.target.isSome || decide (t < f.marker + pMin f.st.exposure) then
    ({ s with plt := { s.plt with extra := satInc s.plt.extra 1 65535 } }).unlock 3
  else { s with plt := { s.plt with target := some (min t hi), targetExact := decide (t ≤ hi) } }

/-- An accepted rising edge of FSYNC_IN. The edge that shows the input to be noisy is ignored with those after it (DEDUCED,
notes/assumptions/29). -/
def State.fsyncEdge (s : State) : State :=
  let near := match s.plt.lastEdge with
    | some l => decide (s.now < l + 1000)
    | none => false
  let period := match s.plt.lastEdge with
    | some l => s.now - l
    | none => s.plt.period
  let s := { s with plt := { s.plt with period := period, lastEdge := some s.now } }
  match s.pa.cur with
  | none => s
  | some f =>
    if !f.st.slaved then s
    else
      let n := s.plt.edges + 1
      let s := { s with plt := { s.plt with edges := n, closeEdge := s.plt.closeEdge || near } }
      if s.plt.noisy then s
      else if near || decide (8 < n) then ({ s with plt := { s.plt with noisy := true, cleanRun := 0 } }).post0 0x00a6 [word n]
      else s.placeEdge f

/-- 16 clean frames in a row end the ignoring of edges. -/
def State.noisyEnd (s : State) : State :=
  if s.plt.noisy && decide (16 ≤ s.plt.cleanRun) then { s with plt := { s.plt with noisy := false } } else s

/-- No accepted edge for 4 frames, posted once. -/
def State.fsyncStuck (s : State) (level : Bool) : State :=
  if decide (4 ≤ s.plt.stuckRun) && !s.plt.stuckPosted then
    ({ s with plt := { s.plt with stuckPosted := true } }).post0 0x00a5 [if level then 1#32 else 0#32]
  else s

/-- The instant of the marker after a frame (R44, R57, R58). -/
def State.nextMarker (s : State) (f : Frame) : Nat :=
  if !f.st.slaved then f.marker + pNom f.st.exposure
  else match s.plt.target with
    | some t => t
    | none => f.marker + (if 4 ≤ s.plt.missed then pNom f.st.exposure else pMax f.st.exposure)

/-- What the placement of a marker says of the frame that ends (R57, R58). -/
def State.judgePlacement (s : State) (f : Frame) : State :=
  if !f.st.slaved then s
  else match s.plt.target with
    | none => ({ s with plt := { s.plt with missed := satInc s.plt.missed 1 255, exactRun := 0 } }).unlock 2
    | some _ =>
      if s.plt.targetExact then
        let n := s.plt.exactRun + 1
        { s with plt := { s.plt with missed := 0, exactRun := n, fsyncState := if 4 ≤ n then 2 else s.plt.fsyncState } }
      else ({ s with plt := { s.plt with exactRun := 0 } }).unlock 1

/-- The edges of the frame that ends, for R281. -/
def State.judgeEdges (s : State) (f : Frame) : State :=
  if !f.st.slaved then s
  else
    let p := s.plt
    let clean := decide (p.edges ≤ 2) && !p.closeEdge
    { s with plt := { p with stuckRun := if p.edges = 0 then p.stuckRun + 1 else 0,
                             stuckPosted := p.stuckPosted && decide (p.edges = 0),
                             cleanRun := if p.noisy && clean then p.cleanRun + 1 else 0 } }

/-- The FSYNC state for the frame that starts; SLAVE_EN taking or losing effect starts it anew, with MISSED and the runs of
R58 and R281 at 0 (DESIGN CHOICE, notes/assumptions/88). -/
def State.fsyncBegin (s : State) (was now_ : Bool) : State :=
  let p := { s.plt with target := none, targetExact := false, edges := 0, closeEdge := false }
  if was && now_ then { s with plt := p }
  else { s with plt := { p with fsyncState := if now_ then 1 else 0, exactRun := 0, missed := 0, stuckRun := 0,
                                stuckPosted := false, noisy := false, cleanRun := 0 } }

/-! ## Snapshots (R51, R52, R416) -/

/-- The secondary camera becomes primary once its primary has left (R166). -/
def promoteFirst : List Camera → List Camera
  | [] => []
  | c :: cs => if (c :: cs).all Camera.secondary then { c with secondary := false } :: cs else c :: cs

/-- The snapshot that the next frame of a pipeline uses: the settings accepted before the latch point at `l` (R51, R52). What was
accepted in or after that instant stays pending. -/
def Pl.snapshot (x : Pl) (l : Nat) : Pl :=
  let st := x.acceptedBefore l
  let st := { st with cams := promoteFirst st.cams }
  let pend := if x.acceptedBefore l = x.pend then { x.pend with cams := promoteFirst x.pend.cams } else x.pend
  { x with pend := pend, snap := st.heldIn st.mode, prior := none, soSeq := x.table.seq }

/-- A snapshot taken for the latch point at `l`, with what the plate's path shows of it: a commit accepted in or after that
instant stays PENDING (R54). -/
def State.takeSnapshot (s : State) (p : Pipe) (l : Nat) : State :=
  let s := s.modPl p (fun x => x.snapshot l)
  match p with
  | .A => { s with plt := { s.plt with pending := s.plt.pending && decide (l ≤ s.plt.acceptAt) } }
  | .B => s

/-! ## Latch points (R50, R52, R120) -/

/-- What a latch point does once the snapshot and the placement stand. -/
def State.latchWork (s : State) (p : Pipe) : State :=
  let s := match p, (s.pl p).cur with
    | .A, some f => s.columnsLatch f.st
    | _, _ => s
  match (s.pl p).cur with
  | none => s
  | some f =>
    let s := (s.estimate p f).eventLatch p f
    (s.shutterDecision p f).washLatch p

/-- LATCH_POINT. -/
def State.latchPoint (s : State) (p : Pipe) : State :=
  match (s.pl p).cur with
  | none => s
  | some f =>
    match f.lpTime, s.latchTime p f with
    | none, some t =>
      let s := s.modPl p (fun x => x.modFrame f.n (fun g => { g with lpTime := some t, lpTj := s.thm.sample }))
      ((s.takeSnapshot p t).latchPlacement p t).latchWork p
    | _, _ => s

/-! ## Frames begin and reading ends -/

/-- A frame at its marker. -/
def Frame.start (x : Pl) (n : Nat) (t : Nat) (ptemp : Option Int) (lens : Nat × Bool) : Frame :=
  { n := n, st := x.snap, marker := t, lpTime := none, received := none, ptemp := ptemp, soSeq := x.soSeq, set_a := 0, w := 0,
    place := x.place, placed := x.placed, sheaves := x.sheaves, pairN := x.pairN, fsyncLocked := false, nextRow := 0,
    buf := ⟨#[], 0, 0, #[], #[]⟩, bdSum := 0, bd := 0, raw := [], silo := [], refs := [], nStatic := 0, nDynamic := 0, nCluster := 0, excess := false,
    shutter := false, hold := false, underrun := false, rateDrop := false, incomplete := false, refFail := false,
    tileFail := false, memFail := false, tainted := false, test5 := false, stripes := 0, restart := false,
    lensT := lens.1, lensSubst := lens.2, yA := [], yB := [], lsA := [], lsB := [], tm := [], fallback := 0, claims := [],
    products := [], stats := none, winLo := 0, winHi := 0, ready := false, lpE := 0, lpAnchor := 0,
    lpSince := 0, lpTj := 0, tempSubst := 0, permSubst := 0, comp := none, coeff := none }

/-- The pipeline's mode leaves IMAGING or CALIBRATION with the frame that would come next (R113, R123). -/
def State.leaveImaging (s : State) (p : Pipe) : State :=
  let anch (m : Mode) : Bool := m = .imaging || m = .calibration
  let was := match (s.pl p).lastRead with
    | some l => anch l.mode
    | none => false
  if was && !anch (s.pl p).snap.mode then (s.abortEvent p).modPl p (fun x => { x.clearGlean with prepared := none }) else s

/-- A pipeline ends reading (R77, R383). -/
def State.stopReading (s : State) (p : Pipe) : State :=
  let s := ((s.leaveImaging p).modPl p (fun x => { x with reading := false, armed := false, prepared := none })).endIdleEvent p
  match p with
  | .A => { s.endCycles with plt := { s.plt with firstMarker := none } }
  | .B => s

/-- A frame that begins at time `t`: its settings reach the anchoring, an event goes on, ends or begins (R113, R115, R120 to
R122). The frame is a shutter frame while an event is in progress. -/
def State.beginFrame (s : State) (p : Pipe) (f : Frame) (slaved : Bool) : State :=
  let prev := (s.pl p).lastRead
  let s := s.leaveImaging p
  let s := s.modPl p (fun x => x.contextMarker f.st f.hold)
  let s := (s.eventMarker p f.n f.st prev).beginEvent p f.n slaved
  let shutter := match (s.pl p).event with
    | some e => e.ended.isNone
    | none => false
  s.modPl p (fun x =>
    { x with reading := true, armed := false, frameNo := (f.n + 1) % 2 ^ 32, frames := x.frames ++ [{ f with shutter := shutter }],
             gone := none, lastRead := some f.st, dead := (x.dead.2, f.marker + 2 * pNom f.st.exposure) })

/-! ## The marker of pipeline A (R24, R56, R63) -/

/-- The instant of the marker that is due; none where none is. -/
def State.markerTime (s : State) : Option Nat :=
  let t := match s.plt.firstMarker, s.pa.cur with
    | some t, _ => some t
    | none, some f => if f.lpTime.isSome then some (s.nextMarker f) else none
    | none, none => none
  t.filter (fun t => decide (t ≤ s.now))

/-- Groups whose spare stands in for a cycle, and groups with a permanent substitution. -/
def State.substitutions (s : State) : Nat × Nat :=
  let g := (List.range 65).map s.grp
  ((g.filter (fun x => x.perm.isNone && x.standsIn.isSome)).length, (g.filter (fun x => x.perm.isSome)).length)

/-- The substitution map of the frame that starts: each group whose spare stands in, and the channel it replaces (R63). -/
def State.substMap (s : State) : List (Nat × Nat) :=
  (List.range 65).filterMap (fun g => (s.grp g).standsIn.map (fun j => (g, j)))

/-- The levels of the test-current DAC under a snapshot (R43). -/
def State.testLevels (s : State) (st : Settings) : List Nat :=
  match st.hostLvl, s.bundleOf st with
  | some l, _ => l
  | none, some b => b.cch.lvl
  | none, none => List.replicate 8 0

/-- What the plate takes with a frame: exposure, bias codes, test levels, slot 0, FSYNC_OUT (R56). The first frame to which bias
codes with PERSIST = 1 apply makes the write of the bias record due (R59). -/
def State.plateFrameStart (s : State) (st : Settings) (t : Nat) : State :=
  let write := if st.biasKeep.isSome && decide (st.biasKeep ≠ s.plt.biasKept) then some st.bias else s.sup.biasWrite
  { s with plt := { s.plt with activeExp := st.exposure, bias := st.bias, biasKept := st.biasKeep.orElse (fun _ => s.plt.biasKept),
                               lvl := s.testLevels st, slot := 0,
                               marker := t, firstMarker := none,
                               fsyncOutUntil := if bit st.fsync 1 then t + 125 else s.plt.fsyncOutUntil },
           pcv := { s.pcv with trig2 := true }, sup := { s.sup with biasWrite := write } }

/-- A RELAY module at its marker: a close pulse that waits for it (R301), the stream that CMD RUN asked for, the packets
that begin the frame. -/
def State.relayMarker (s : State) (f : Frame) : State :=
  let c := s.nl.comp
  let s := { s with nl := { s.nl with comp := { c with running := c.running || decide (c.state = 4), pulseAtMarker := false } } }
  let s := if c.pulseAtMarker then
      ({ s with nl := { s.nl with comp := { s.nl.comp with leftClosed := true } } }).duePulse 0 .close s.shutterSteps
    else s
  if s.nl.comp.running then s.relayFrame f else s

/-- A frame read before the settling of the bias or of a wake is over does not pour (R61, R382). -/
def State.held (s : State) (t : Nat) : Bool := (!s.sup.settled && decide (t < s.sup.holdUntil)) || decide (t < s.sup.wakeHold)

/-- F(n) of pipeline A begins at `t`. -/
def State.startFrameA (s : State) (t : Nat) (prev : Option Frame) : State :=
  let x := s.pa
  let (ptemp, used) := ({ s with now := t }).plateTemp
  let lens := ({ s with now := t }).lensTemp x.snap.radio (ptemp.getD 0)
  let slaved := match prev with
    | some f => f.st.slaved
    | none => false
  let changed := match x.lastRead with
    | some l => expDiffers l x.snap
    | none => false
  let s := s.fsyncBegin slaved x.snap.slaved
  let s := if s.mode = x.snap.mode then s
    else let r := s.enterMode x.snap.mode; { r with sup := { r.sup with trans := decide (x.pend.mode ≠ x.snap.mode) } }
  let s := (s.plateFrameStart x.snap t).columnsMarker x.snap prev x.frameNo changed
  let s := { s with pcv := { s.pcv with diodeUsed := used } }
  let (nt, np) := s.substitutions
  let s := s.modPl .A (fun x => { x with snap := { x.snap with subst := s.substMap } })
  let f := Frame.start s.pa x.frameNo t ptemp lens
  let f := { f with hold := s.held t, fsyncLocked := decide (s.plt.fsyncState = 2), tempSubst := nt, permSubst := np,
                    test5 := s.saf.test5 }
  let s := { s with saf := { s.saf with test5 := false } }
  let s := (s.beginFrame .A f slaved).uncommandedMarker
  if x.snap.mode = .relay then s.relayMarker f else s.notePartners f

/-- FRAME_START_MARKER: the frame just read is closed, and the next begins unless a stop applies to it (R383). -/
def State.frameMarker (s : State) : State :=
  match s.markerTime with
  | none => s
  | some t =>
    let prev := s.pa.cur
    let s := match prev with
      | some f => (s.judgePlacement f).judgeEdges f
      | none => s
    if isRunning s.pa.snap.mode then s.startFrameA t prev else s.stopReading .A

/-! ## Row slots (R21, R45) -/

/-- The row on the plate link: the channel that serves each column gives its sample (R63). -/
def State.linkRow (s : State) (x : SlotSamples) : Array (BitVec 16) × Array (BitVec 16) :=
  ((Array.range 2080).map (s.columnSample x.s x.spareS), (Array.range 2080).map (s.columnSample x.l x.spareL))

/-- A row slot whose conversions are complete: a row to the link with the statistics of R72, or the spares' levels in
blanking slots 1548–1571 (R68). -/
def State.rowSlot (s : State) (x : SlotSamples) : State :=
  match s.pa.cur with
  | none => s
  | some f =>
    let j := s.plt.slot
    let e := f.st.exposure
    let done := f.marker + j * nRow (fld e 1 0) + 112 + 2 ^ (fld e 5 4 + 1) * fld e 20 8
    if s.now < done then s
    else
      let s := { s with plt := { s.plt with slot := j + 1 } }
      if j < 1548 then
        let row := s.linkRow x
        let s := if j < 1540 then s.collect x else s
        let s := if f.st.mode = .relay && s.nl.comp.running then s.relayRow f.n j row.1 row.2 else s
        s.modPl .A (fun y => { y with link := some (j, row) })
      else if j < 1572 then { s with plt := { s.plt with spareSeen := s.plt.spareSeen ++ [(j, x)] } }
      else s

/-! ## Commands -/

/-- COMMIT: a write of PLT_COMMIT (R54). -/
def execCommit (dt : Nat) (value : Word) (s : State) : Host.Outcome State Fault Refusal := .next (s.run dt (fun s => s.commit value))

/-- COMMIT_TRANSFER_DONE (R54). -/
def execCommitTransferDone (dt : Nat) (s : State) : Host.Outcome State Fault Refusal := .next (s.run dt (fun s => s.commitDone))

/-- FSYNC_IN_EDGE (R57). -/
def execFsyncInEdge (dt : Nat) (s : State) : Host.Outcome State Fault Refusal := .next (s.run dt (fun s => s.fsyncEdge))

/-- FSYNC_NOISY_END (R281). -/
def execFsyncNoisyEnd (dt : Nat) (s : State) : Host.Outcome State Fault Refusal := .next (s.run dt (fun s => s.noisyEnd))

/-- FSYNC_STUCK (R281). -/
def execFsyncStuck (dt : Nat) (level : Bool) (s : State) : Host.Outcome State Fault Refusal := .next (s.run dt (fun s => s.fsyncStuck level))

/-- LATCH_POINT (R52). -/
def execLatchPoint (dt : Nat) (pipe : Pipe) (s : State) : Host.Outcome State Fault Refusal := .next (s.run dt (fun s => s.latchPoint pipe))

/-- FRAME_START_MARKER (R24). -/
def execFrameStartMarker (dt : Nat) (s : State) : Host.Outcome State Fault Refusal := .next (s.run dt (fun s => s.frameMarker))

/-- ROW_SLOT (R45). -/
def execRowSlot (dt : Nat) (x : SlotSamples) (s : State) : Host.Outcome State Fault Refusal := .next (s.run dt (fun s => s.rowSlot x))

end Sys2Proof.Machine
end

