-- ==== Sys2Proof/Machine/Modes.lean ====
section
/-! DEFINITION. Reset, boot and modes (17): module reset, the BOOT steps, MODE_SET, stops to STANDBY and to OFF. -/
namespace Sys2Proof.Machine

/-! ## OFF and module reset (R372, R373) -/

/-- OFF: every block held at its reset values; the ledger stays as it has been programmed. -/
def State.enterOff (s : State) (pwrGood : Bool) : State :=
  let r := s.moduleReset s.sup.cause s.sup.clksel
  { r with now := s.now, sup := { r.sup with mode := .off, pwrGood := pwrGood } }

/-- A low level of RST_N of this many PLATE clocks is no pulse that the module ignores (R371; that the length is an operand is a
DESIGN CHOICE, notes/assumptions/101). -/
def rstCounts (low : Nat) : Bool := decide (us ≤ low)

/-- A module reset by its trigger. RST_N resets only while PWR_GOOD is high, and after a low level that counts (R371); SPI and the
host reach no module that is held in reset. -/
def State.resetBy (s : State) (cause : ResetCause) (clksel : Bool) : State :=
  match cause with
  | .power => s.moduleReset 1 clksel
  | .pin low => if s.sup.pwrGood && rstCounts low then s.moduleReset 2 clksel else s
  | .spi => if s.live then s.resetHold 3 else s
  | .host => if s.live then s.resetHold 4 else s

/-- The reset that a cause makes. -/
def State.resets (s : State) (cause : ResetCause) : Bool :=
  match cause with
  | .power => true
  | .pin low => s.sup.pwrGood && rstCounts low
  | .spi => s.live
  | .host => s.live

/-- MODULE_RESET, with the refresh-rate status that the controller reads of each channel (R241). -/
def State.resetNow (s : State) (cause : ResetCause) (clksel : Bool) (refresh : List (Fin 3)) : State :=
  if s.resets cause then (s.resetBy cause clksel).resetRates refresh else s.resetBy cause clksel

/-- PWR_GOOD has fallen, or RST_N has been low for some PLATE clocks (R371, R372). -/
def State.rails (s : State) (pwrGood : Bool) (low : Nat) (cut : Option LedgerCut) : State :=
  if pwrGood && !rstCounts low then s
  else
    match cut with
    | some c => (if s.live then { s with nv := s.cutWrite c } else s).enterOff pwrGood
    | none => s.enterOff pwrGood

/-! ## Boot (R374 to R377) -/

/-- A step completed. -/
def State.stepDone (s : State) (n : Nat) : State := { s with sup := { s.sup with step := n } }

/-- A step failed, with the fault it decides. -/
def State.stepFails (s : State) (n id : Nat) : State := ({ s with sup := { s.sup with failStep := n } }).fault id

/-- Step 1: the clocks; training of frame memory begins at its end. -/
def State.bootClocks (s : State) (ok : Bool) : State :=
  if ok then
    { s.stepDone 1 with sup := { (s.stepDone 1).sup with xtalOk := true, pllLock := true }, drm := { s.drm with init := 1 } }
  else s.stepFails 1 3

/-- Step 2: the link. -/
def State.bootLink (s : State) (speed width : Nat) : State :=
  { s with hif := { s.hif with speed := speed, width := width, link := (speed, width), linkDown := decide (speed = 0) } }

/-- The image slots to try, by falling sequence number (R375). -/
def Nv.imageOrder (n : Nv) : List Nat :=
  let usable (i : Nat) : Bool := let x := n.images.getD i ⟨false, 0, 0, 0, true, none⟩; x.present && !x.bad
  let seq (i : Nat) : Nat := (n.images.getD i ⟨false, 0, 0, 0, true, none⟩).seq
  (if seq 0 < seq 1 then [1, 0] else [0, 1]).filter usable

/-- Step 5: the first slot of the order that verifies runs; a slot that fails is marked bad. -/
def State.bootImage (s : State) (sig : List Bool) : List Nat → State
  | [] => s.stepFails 5 20
  | i :: rest =>
    let x := s.nv.images.getD i ⟨false, 0, 0, 0, true, none⟩
    let ok := sig.getD i false
    if ok && x.major = 1 then
      (({ s with sup := { s.sup with slot := i, major := x.major, minor := x.minor } }).stepDone 5)
    else
      let s := { s with nv := { s.nv with images := modAt s.nv.images i (fun y => { y with bad := true }) },
                        sup := { s.sup with fallback := true } }
      (s.post0 0x00f1 [word i, if ok then 2#32 else 1#32]).bootImage sig rest

/-- Step 7: the stage programs, and the start-up tests of the sheaves (R174). -/
def State.bootEngines (s : State) (fails : List (Fin 16)) : State :=
  let s := { s with eng := { s.eng with
    program := Config.stagePrograms s.sup.major s.sup.minor,
    sheaves := s.eng.sheaves.zipIdx.map (fun x =>
      ({ x.1 with st := .idle, result := if fails.any (fun f => f.val = x.2) then 2 else 1 } : Sheaf)) } }
  fails.foldl (fun s f => s.failSheaf f.val) s

/-- A bundle put in force for pipeline A: a setting accepted now (R105). -/
def State.installBundle (s : State) (b : Bundle) : State :=
  let (s, k) := s.holdBundle b
  (s.placeBundle .A k).accept .A (fun st => { st with bundle := k })

/-- BOOT_NO_BUNDLE, at once or when ring 2 is enabled (R377). -/
def State.noBundle (s : State) : State :=
  if (s.ring 2).enable then s.post0 0x00f2 [] else { s with sup := { s.sup with noBundleDue := true } }

/-- The bundle that BOOT loads (R377), with its code in SUP_BOOT.BUNDLE; `sig` holds the verdicts on the persisted and on
the factory bundle. -/
def State.bootBundle (s : State) (sig : List Bool) : State :=
  let take (s : State) (b : Bundle) (src : Nat) : State :=
    let s := s.installBundle b
    { s with sup := { s.sup with bundleSrc := src }, plt := { s.plt with lvl := b.cch.lvl } }
  let factory (s : State) : State :=
    match s.nv.factory, sig.getD 1 false with
    | some b, true => take s b 2
    | _, _ => { s with sup := { s.sup with bundleSrc := 0 } }.noBundle
  match s.nv.persisted, sig.getD 0 false with
  | some b, true => take s b 1
  | some _, false => factory (s.post0 0x0015 [0#32])
  | none, _ => factory s

/-- The trims of one group as its record gives them (R82). -/
def State.loadGroup (s : State) (g : Nat) (r : TrimGroup) : State :=
  let s := (List.range 32).foldl (fun s j => s.setChan g j { s.chan g j with trim := r.chans.getD j Trim.zero }) s
  s.setGrp g { s.grp g with spare := r.chans.getD 32 Trim.zero, perm := r.perm, failed := r.spareFailed,
                            ovr := if r.spareFailed then 9 else 0 }

/-- Trim records and bias record loaded (R59, R82). -/
def State.loadTrims (s : State) : State :=
  let s := s.nv.trim.foldl (fun s x => s.loadGroup x.1 (x.2.cur TrimGroup.zero)) s
  let b := s.nv.bias.cur s.nv.identBias
  let s := { s with cch := { s.cch with loaded := true }, plt := { s.plt with bias := b } }
  s.accept .A (fun st => { st with bias := b })

/-- Step 10: B, one millisecond before test 3 has run (R314, R374; DESIGN CHOICE, notes/assumptions/32). -/
def State.bootBias (s : State) : State :=
  { s with pcv := { s.pcv with biasOn := some (s.now - ms) }, sup := { s.sup with holdUntil := s.now - ms + 3500 * ms },
           saf := { s.saf with ran := s.saf.ran.set 3 s.now } }

/-- Step 11: the shutter read, and the boot logged (R348). -/
def State.bootShutter (s : State) : State :=
  let s := if s.position 0 = 2 then s.startOpening .startup else s
  s.logBoot

/-- The operation of a step completes. -/
def State.bootWork (s : State) (n : Nat) (o : BootObs) : State :=
  match n with
  | 1 => s.bootClocks o.ok
  | 2 => (s.bootLink o.speed.val o.width).stepDone 2
  | 3 => s.ledgerBoot.stepDone 3
  | 4 => if s.dramReady.drm.init = 3 then s.dramReady.stepDone 4 else s
  | 5 => s.bootImage o.imageSig s.nv.imageOrder
  | 6 =>
    let s := { s with pcv := { s.pcv with running := true } }
    if o.ok then { s.stepDone 6 with saf := { s.saf with safeN := true, ran := [0, s.now, s.now, 0, s.now] } } else s.stepFails 6 20
  | 7 => (s.bootEngines o.sheafFail).stepDone 7
  | 8 => (s.bootBundle o.bundleSig).loadTrims.stepDone 8
  | 9 => s.loadTable.stepDone 9
  | 10 => if o.ok then s.bootBias.stepDone 10 else s.stepFails 10 20
  | 11 => s.bootShutter.stepDone 11
  | 12 =>
    if s.act.opening.isSome then s
    else
      let s := (s.stepDone 12).enterMode .standby
      { s with sup := { s.sup with bootMs := s.now / ms }, thm := { s.thm with activity := s.now } }
  | _ => s

/-- BOOT_STEP: the next step, and in SAFE the link and the ledger where they have not completed (R376). -/
def State.bootStep (s : State) (o : BootObs) : State :=
  if s.mode = .boot then s.bootWork (s.sup.step + 1) o
  else if s.mode = .safe && decide (s.sup.step < 3) then s.bootWork (max (s.sup.step + 1) 2) o
  else s

/-- B + 3.5 s has passed (R382). -/
def State.settleEnd (s : State) : State :=
  if decide (0 < s.sup.holdUntil) && decide (s.sup.holdUntil ≤ s.now) then
    { s with sup := { s.sup with settled := true } }
  else s

/-! ## Stops (R364, R383, R385) -/

/-- A stop to STANDBY accepted; `so` is whether the write of R130 is waited for. -/
def State.stopPlate (s : State) (so : Bool) : State :=
  let go (st : Settings) : Settings := { st with mode := .standby }
  let s := (s.accept .A go).accept .B go
  { s with sup := { s.sup with trans := true, target := .standby, stopSo := so } }

/-- STANDBY at last. -/
def State.arriveStandby (s : State) : State :=
  let s := s.enterMode .standby
  { s with thm := { s.thm with activity := s.now } }

/-- STANDBY_REACHED: nothing is read, nothing in flight, and, but for a thermal stop, the table is written. -/
def State.standbyReached (s : State) : State :=
  let idle := !s.pa.reading && !s.pb.reading && s.pa.frames.isEmpty && s.pb.frames.isEmpty && s.plt.firstMarker.isNone
  if !(s.sup.trans && s.sup.target = .standby && idle) then s
  else if !s.sup.stopSo then
    let s := s.arriveStandby
    if s.sup.gleanDirty then s.persist else s
  else if s.sup.soWrite.isSome then s
  else if s.sup.gleanDirty then s.startPersist
  else s.arriveStandby

/-- A write of the scene-offset table or of the ledger is pending. -/
def State.writing (s : State) : Bool :=
  s.sup.soWrite.isSome || !s.sup.trimDue.isEmpty || s.sup.biasWrite.isSome || !s.sup.logDue.isEmpty

/-- OFF_REACHED: the next thing of R385 that can be done is done. -/
def State.offReached (s : State) : State :=
  if !(s.mode = .standby && s.sup.trans && s.sup.target = .off) || s.writing then s
  else
    let s := { s with pcv := { s.pcv with biasOn := none } }
    if s.act.opening.isSome then s
    else if s.position 0 = 2 then s.startOpening .startup
    else (s.enterMode .off).enterOff s.sup.pwrGood

/-! ## MODE_SET (R380 to R385) -/

/-- What MODE_SET leads to: the state, the status, APPLY_A and APPLY_B, and whether a module reset follows. -/
abbrev ModeAnswer := State × Nat × List Word × Bool

/-- APPLY where a command applies to no frame. -/
def noApply : List Word := [0xffffffff#32, 0xffffffff#32]

/-- APPLY of a setting of both pipelines (R206). -/
def State.applyBoth (s : State) : List Word :=
  [word (s.applyFrame .A), if s.sup.pipeB then word (s.applyFrame .B) else 0xffffffff#32]

/-- A product of some camera goes to the NL lanes (R172). -/
def State.nlBound (s : State) : Bool :=
  let go (st : Settings) : Bool := st.cams.any (fun c => c.dest.contains 254)
  go s.pa.pend || go s.pb.pend

/-- The snapshot and the placement of the first frame of a pipeline (R416): reading starts now, which is the latch point of that
frame; a placement that leads to SAFE arms nothing. -/
def State.armPipe (s : State) (p : Pipe) : State :=
  let s := (s.takeSnapshot p s.now).latchPlacement p s.now
  if s.mode = .safe then s else s.modPl p (fun x => { x with armed := true })

/-- A MODE_SET to a running mode takes RESTART_COOL up (R363). -/
def State.coolAgain (s : State) (m : Mode) : Bool := s.thm.restartCool && decide (m ≠ .diagnostic)

/-- RESTART_COOL clears, and the cool profile is left as though ENFORCED (R363). -/
def State.takeCool (s : State) (m : Mode) : State :=
  if s.coolAgain m then { s with thm := { s.thm with restartCool := false, state := .enforced } } else s

/-- A mode with a plate that is read, from STANDBY (R382, R363). -/
def State.startPlate (s : State) (m : Mode) : State :=
  let s := s.takeCool m
  let cool := decide (s.thm.state = .enforced)
  let go (st : Settings) : Settings := { st with mode := m, cool := cool }
  let s := (s.impose .A go).impose .B go
  let s := (s.modPl .A (fun x => { x with histValid := false })).modPl .B (fun x => { x with histValid := false })
  let s := (s.enterMode m).armPipe .A
  let s := if s.sup.pipeB && s.nl.comp.state = 4 then s.armPipe .B else s
  if s.mode = .safe then s else { s with plt := { s.plt with firstMarker := some (s.now + ms) } }

/-- A change among IMAGING, CALIBRATION and DIAGNOSTIC (R384), under the cool profile where RESTART_COOL is set (R363). -/
def State.changePlate (s : State) (m : Mode) : State :=
  let again := s.coolAgain m
  let go (st : Settings) : Settings := { st with mode := m, cool := st.cool || again }
  let s := ((s.takeCool m).accept .A go).accept .B go
  { s with sup := { s.sup with trans := true, target := m } }

/-- The role that a mode asks for is not held. -/
def roleLacks (r : Role) (m : Mode) : Bool :=
  (m = .calibration && decide (r ≠ .calibration)) || (m = .diagnostic && decide (r ≠ .maintenance))

/-- A running mode may be entered from STANDBY (R363, R377, R382). -/
def State.mayRun (s : State) (m : Mode) : Bool :=
  decide (s.thm.state ≠ .stopped) && (s.bundleOf s.pa.pend).isSome && (m ≠ .relay || (!s.sup.pipeB && !s.nlBound))

/-- MODE_SET. -/
def State.modeSet (s : State) (r : Role) (n : Nat) : ModeAnswer :=
  match modeOfNum n with
  | none => (s, 2, [], false)
  | some m =>
    let three (x : Mode) : Bool := x = .imaging || x = .calibration || x = .diagnostic
    if isRunning m && decide (s.thm.state = .stopped) then (s, 3, [], false)
    else if m = s.mode then (s, 0, noApply, false)
    else if roleLacks r m then (s, 3, [], false)
    else if m = .boot then (s, 0, noApply, true)
    else if m = .safe then (s.fault 19, 0, noApply, false)
    else if s.sup.trans then (s, 3, [], false)
    else if s.mode = .standby then
      if m = .off then ({ s with sup := { s.sup with trans := true, target := .off } }, 0, noApply, false)
      else if s.mayRun m then (s.startPlate m, 0, s.applyBoth, false)
      else (s, 3, [], false)
    else if isRunning s.mode && m = .standby then (s.stopPlate true, 0, s.applyBoth, false)
    else if three s.mode && three m then (s.changePlate m, 0, s.applyBoth, false)
    else (s, 3, [], false)

/-! ## Commands -/

/-- MODULE_RESET (R373). -/
def execModuleReset (dt : Nat) (cause : ResetCause) (clksel : Bool) (refresh : List (Fin 3)) (s : State) :
    Host.Outcome State Fault Refusal :=
  .next ((s.elapse dt).resetNow cause clksel refresh)

/-- PWR_GOOD_FALL (R372). -/
def execPwrGoodFall (dt : Nat) (pwrGood : Bool) (low : Nat) (cut : Option LedgerCut) (s : State) :
    Host.Outcome State Fault Refusal :=
  .next ((s.elapse dt).rails pwrGood low cut)

/-- BOOT_STEP (R374). -/
def execBootStep (dt : Nat) (obs : BootObs) (s : State) : Host.Outcome State Fault Refusal := .next (s.run dt (fun s => s.bootStep obs))

/-- SETTLE_HOLD_END (R382). -/
def execSettleHoldEnd (dt : Nat) (s : State) : Host.Outcome State Fault Refusal := .next (s.run dt (fun s => s.settleEnd))

/-- STANDBY_REACHED (R383). -/
def execStandbyReached (dt : Nat) (s : State) : Host.Outcome State Fault Refusal := .next (s.run dt (fun s => s.standbyReached))

/-- OFF_REACHED (R385). -/
def execOffReached (dt : Nat) (s : State) : Host.Outcome State Fault Refusal := .next (s.run dt (fun s => s.offReached))

end Sys2Proof.Machine
end

