-- ==== Sys2Proof/Machine/Companion.lean ====
section
/-! DEFINITION. What the NL lanes receive (13) and the companion link at both its ends: receivers, training, the
companion's bundle, its frames, its loss, and the back channel of a module in RELAY. -/
namespace Sys2Proof.Machine

/-! ## Receivers (R287, R288) -/

/-- The receiver of a lane is in use: lanes 0 and 1 in RELAY, lanes 2 and 3 while pipeline B is enabled. -/
def State.receives (s : State) (l : Nat) : Bool := if l < 2 then decide (s.mode = .relay) else s.sup.pipeB

/-- The lane is one of the link's. -/
def State.linkLane (s : State) (l : Nat) : Bool :=
  decide (3 ≤ s.nl.comp.state) && decide (s.nl.comp.lanes / 2 ^ linkIndex l % 2 = 1)

/-! ## Loss of the companion, and of the host (R35, R302) -/

/-- Pipeline B ends reading in the middle of a frame: a frame not fully received is incomplete and does not pour (R35); a
shutter event ends as for ABORT. -/
def State.cutPipeB (s : State) : State :=
  let s := match s.pb.cur with
    | some f =>
      if f.received.isNone then
        s.modPl .B (fun x => { x.modFrame f.n (fun g => { g with incomplete := true }) with link := none })
      else s
    | none => s
  let s := s.stopReading .B
  let s := (s.failEvent .B 5).modPl .B (fun x =>
    { x with event := x.event.map (fun e => { e with ended := some (e.ended.getD x.frameNo) }) })
  s.closeEvent .B

/-- The host module loses the companion. -/
def State.loseCompanion (s : State) (reason : Nat) : State :=
  let s := s.modComp (fun c => { c.detect with loss := reason })
  (s.post0 0x0051 []).cutPipeB

/-- A module in RELAY loses its host: it stops relaying, and opens a shutter that a PULSE left CLOSED. -/
def State.loseHost (s : State) : State :=
  let left := s.nl.comp.leftClosed
  let s := s.modComp Comp.detect
  if left && s.levelClosed then s.startOpening .reopen else s

/-- A receiver has left for HUNT (R287): NL_LOCK_LOST; a link lane loses the companion, or the host (R302), and in TRAIN the lane can
join no more (R291, R296). -/
def State.lockLost (s : State) (l : Nat) : State :=
  let k := 2 ^ linkIndex l
  let s := s.post0 0x00b0 [word l]
  let drop (m : Nat) : Nat := if m / k % 2 = 1 then m - k else m
  if s.linkLane l then (if l < 2 then s.loseHost else s.loseCompanion 1)
  else s.modComp (fun c => { c with heard := drop c.heard, acks := drop c.acks, lanes := drop c.lanes })

/-! ## Training (R296, R297) -/

/-- DETECT is left once a paired receive lane is SYNCED: lane 2 + x of the host with lane x of the companion. -/
def State.leaveDetect (s : State) (l : Nat) : State :=
  let c := s.nl.comp
  if c.state = 1 && c.retryAt.isNone && (s.lane l).state = 2 && (s.lane l).partner = (l + 2) % 4 then
    s.modComp (fun c => { c with state := 2, since := s.now, lanes := 0, heard := 0, acks := 0, ready := false, attempts := satInc c.attempts 1 255 })
  else s

/-- Training fails: back to DETECT after 100 ms. -/
def State.trainFail (s : State) (stage : Nat) : State :=
  (s.modComp (fun c => { c with fail := stage, retryAt := some (s.now + 100 * ms) })).post0 0x00b4 [word stage]

/-- The link lanes are fixed: BUNDLE begins, and a companion sends its bundle (R298). -/
def State.enterBundle (s : State) : State :=
  let s := s.modComp (fun c => { c with state := 3, since := s.now, chunks := [], got := [], retries := [] })
  if s.mode = .relay then s.sendBundle else s

/-- ROLE of this module (R296). -/
def State.ownRole (s : State) : Nat := if s.mode = .relay then 2 else 1

/-- The lanes on which the pairing holds: SYNCED to the right lane of the partner (R296). -/
def State.pairedLanes (s : State) : Nat :=
  let base := if s.mode = .relay then 0 else 2
  let one (x : Nat) : Nat :=
    let l := base + x
    if (s.lane l).state = 2 && (s.lane l).partner = (l + 2) % 4 then 2 ^ x else 0
  one 0 + one 1

/-- The bits of two masks of two lanes. -/
def bothLanes (a b : Nat) : Nat := (a % 2) * (b % 2) + 2 * ((a / 2 % 2) * (b / 2 % 2))

/-- A TRN block on a paired lane in TRAIN (R296, R297). The host sets READY, and with it the link lanes, once the ACK of every lane
on which the pairing holds stands both ways (DESIGN CHOICE, notes/assumptions/109); the companion takes READY for the lanes
whose ACK it holds both ways, echoes it and goes on; the host goes on with the echo. -/
def State.trainBlock (s : State) (l : Nat) (b : TrnBlock) : State :=
  let k := 2 ^ linkIndex l
  let put (m : Nat) (v : Bool) : Nat := if m / k % 2 = 1 then (if v then m else m - k) else (if v then m + k else m)
  let s := s.modComp (fun c => { c with heard := put c.heard true, acks := put c.acks b.ack })
  let held := bothLanes s.pairedLanes (bothLanes s.nl.comp.heard s.nl.comp.acks)
  if s.mode = .relay then
    if b.ready && held ≠ 0 then (s.modComp (fun c => { c with lanes := held, ready := true })).enterBundle else s
  else if s.nl.comp.ready then
    if b.ready && s.nl.comp.lanes / k % 2 = 1 then s.enterBundle else s
  else if held ≠ 0 && held = s.pairedLanes then s.modComp (fun c => { c with lanes := held, ready := true })
  else s

/-- TRN. -/
def State.trn (s : State) (l : Nat) (b : TrnBlock) : State :=
  let c := s.nl.comp
  if (s.lane l).state ≠ 2 || c.retryAt.isSome then s
  else if c.state = 4 && s.mode ≠ .relay then s.loseCompanion 4
  else if c.state ≠ 2 then s
  else if b.role.toNat = s.ownRole then s.trainFail 2
  else if b.role.toNat = 3 - s.ownRole && b.lane.toNat = (l + 2) % 4 && (s.lane l).partner = (l + 2) % 4 then s.trainBlock l b
  else s

/-- TRAIN_TIMEOUT. -/
def State.trainTimeout (s : State) : State :=
  let c := s.nl.comp
  if c.state = 2 && c.retryAt.isNone && decide (c.since + 10 * ms ≤ s.now) then s.trainFail 1 else s

/-- BUNDLE_TIMEOUT. -/
def State.bundleTimeout (s : State) : State :=
  let c := s.nl.comp
  if c.state = 3 && c.retryAt.isNone && decide (c.since + 2 * sec ≤ s.now) then s.trainFail 3 else s

/-- DETECT_RETRY. -/
def State.detectRetry (s : State) : State :=
  match s.nl.comp.retryAt with
  | some t => if t ≤ s.now then s.modComp Comp.detect else s
  | none => s

/-! ## The companion's bundle (R34, R298) -/

/-- A verified bundle of the companion: pipeline B alone uses it (R34); CMD RUN is sent, which is the latch point of the
first frame (R416). -/
def State.companionUp (s : State) (b : Bundle) : State :=
  let (s, k) := s.holdBundle b
  let s := ((s.placeBundle .B k).impose .B (fun st => { st with bundle := k })).sendCmd 1 0 0
  let s := s.armPipe .B
  let s := s.modComp (fun c => { c with state := 4, lastHeader := s.now, chunks := [], got := [], retries := [] })
  s.post0 0x00b3 [word s.nl.comp.lanes, word b.id]

/-- The bundle is complete: its signature, then R104 and the ranges of its sections (R34, R104). A bundle that fails leaves the
link in BUNDLE until its time limit (DEDUCED, notes/assumptions/37). -/
def State.judgeBundle (s : State) (total : Nat) (sig : Bool) : State :=
  if !sig then s.post0 0x0050 []
  else match parseBundle s.nl.comp.chunks total with
    | .ok b => s.companionUp b
    | .error e => (s.post0 0x0015 [word e]).post0 0x0050 []

/-- The bundle of a companion is awaited. -/
def State.awaitsBundle (s : State) : Bool := s.nl.comp.state = 3 && s.nl.comp.retryAt.isNone

/-- A discarded chunk is asked for again, at most 3 times. -/
def State.chunkLost (s : State) (i : Nat) : State :=
  let n := SMap.get 0 s.nl.comp.retries i
  if !s.awaitsBundle then s
  else if 3 ≤ n then s.trainFail 4
  else (s.modComp (fun c => { c with retries := SMap.put 0 c.retries i (n + 1) })).sendCmd 2 0 i

/-- A chunk received. -/
def State.chunkGot (s : State) (i : Nat) (bytes : List Byte) (sig : Bool) : State :=
  if !s.awaitsBundle then s
  else
  let s := s.modComp (fun c => { c with chunks := c.chunks.write (4096 * i) (bytes.take 4096),
                                        got := if c.got.contains i then c.got else i :: c.got })
  let c := s.nl.comp
  let total := headerTotal c.chunks
  if c.got.contains 0 && (List.range ((total + 4095) / 4096)).all c.got.contains then s.judgeBundle total sig else s

/-! ## The companion's frames (R33, R173, R299, R300) -/

/-- The host receives the relay stream. -/
def State.linked (s : State) : Bool := decide (s.nl.comp.state = 4) && s.sup.pipeB

/-- The frame being received lost a packet. -/
def State.spoilB (s : State) : State :=
  match s.pb.cur with
  | some f => if f.lpTime.isSome then s else s.modPl .B (fun x => x.modFrame f.n (fun g => { g with incomplete := true }))
  | none => s

/-- The frame before, when a frame begins: where its last row never came it is incomplete, and its latch point is now (DEDUCED,
notes/assumptions/41). -/
def State.closeFrameB (s : State) : State :=
  let s := match s.pb.cur with
    | some f => if f.received.isNone then s.spoilB.modPl .B (fun x => x.modFrame f.n (fun g => { g with received := some s.now })) else s
    | none => s
  let s := s.latchPoint .B
  (s.modComp (fun c => { c with rowS := none, rowL := none, lastS := false, lastL := false })).modPl .B (fun x => { x with link := none })

/-- The position and the blade that a HEADER reports (R128, R299, R301). -/
def State.headerReports (s : State) (h : CompHeader) : State :=
  let t : Option Int := if h.bladeValid then some h.blade else none
  let moved := decide (h.bladeSeq ≠ s.nl.comp.bladeSeq)
  let s := s.modComp (fun c =>
    { c with pos0 := h.pos0, bladeSeq := h.bladeSeq, blade := match t with
      | some x => some (x, s.now)
      | none => c.blade })
  let s := s.modPl .B (fun x => { x with event := x.event.map (fun e =>
    if moved && decide (e.blades.length < e.asked) then { e with blades := e.blades ++ [t] } else e) })
  (s.reportPosition .B h.pos0).endIdleEvent .B

/-- A frame faster than the admitted rate of its snapshot does not pour; COMPANION_RATE once for a run of them (R173). -/
def State.judgeRate (s : State) (h : CompHeader) : State × Bool :=
  let fast := decide (fld h.exposure 1 0 < s.pb.snap.rate)
  let s' := if fast && !s.pb.rateRun then s.postP .B 0x0052 [word (fld h.exposure 1 0)] else s
  (s'.modPl .B (fun x => { x with rateRun := fast }), fast)

/-- A frame of pipeline B begins, its marker at the receipt of the HEADER's SOP (R299); without its HEADER it is incomplete. -/
def State.startFrameB (s : State) (marker : Nat) (h : Option CompHeader) : State :=
  let x := s.pb
  if !(isRunning s.mode && isRunning x.snap.mode && x.snap.mode ≠ .relay) then
    (s.stopReading .B).modPl .B (fun x => { x with frameNo := (x.frameNo + 1) % 2 ^ 32 })
  else match h with
    | none =>
      let f := Frame.start x x.frameNo marker none (s.lensTemp x.snap.radio 0)
      s.beginFrame .B { f with incomplete := true, hold := s.held s.now } false
    | some h =>
      let (s, fast) := s.judgeRate h
      let s := (s.impose .B (fun st => { st with exposure := h.exposure })).modPl .B (fun x =>
        { x with snap := { x.snap with exposure := h.exposure } })
      let x := s.pb
      let f := Frame.start x x.frameNo marker (some h.ptemp) (s.lensTemp x.snap.radio h.ptemp)
      s.beginFrame .B { f with rateDrop := fast, hold := s.held s.now, comp := some h, tempSubst := h.tempSubst,
                               permSubst := h.permSubst } false

/-- A HEADER, received whole. -/
def State.headerGot (s : State) (marker : Nat) (h : CompHeader) : State :=
  let s := s.modComp (fun c => { c with lastHeader := s.now, frame := h.frame.toNat, tag := h.frame.toNat % 65536 })
  if h.mode ≠ 4 then s.loseCompanion 3
  else (s.closeFrameB.headerReports h).startFrameB marker (some h)

/-- A frame whose HEADER was discarded. -/
def State.headerLost (s : State) (marker tag : Nat) : State :=
  (s.modComp (fun c => { c with tag := tag })).closeFrameB.startFrameB marker none

/-- COEFF, received whole. -/
def State.coeffGot (s : State) (c : Array (Int × Int)) : State :=
  match s.pb.cur with
  | some f => s.modPl .B (fun x => x.modFrame f.n (fun g => { g with coeff := some c }))
  | none => s

/-- A packet of the last row has ended, well or not; with both of them the frame is received, which is LP(n) (R300; of a discarded
one DEDUCED, notes/assumptions/41). -/
def State.lastRow (s : State) (kind row : Nat) : State :=
  if row ≠ 1547 then s
  else
    let s := s.modComp (fun c => { c with lastS := c.lastS || kind = 5, lastL := c.lastL || kind = 6 })
    match s.pb.cur with
    | some f =>
      if s.nl.comp.lastS && s.nl.comp.lastL && f.received.isNone then
        s.modPl .B (fun x => x.modFrame f.n (fun g => { g with received := some s.now }))
      else s
    | none => s

/-- Both packets of a row have come: the row is on the link. A row before COEFF leaves the frame without it; a packet whose partner was
lost leaves it incomplete and makes way for the later row. -/
def State.pairRows (s : State) (f : Frame) : State :=
  match s.nl.comp.rowS, s.nl.comp.rowL with
  | some (i, a), some (j, b) =>
    if i = j then
      let s := if f.coeff.isNone then s.spoilB else s
      (s.modComp (fun c => { c with rowS := none, rowL := none })).modPl .B (fun x => { x with link := some (j, a, b) })
    else if i < j then s.spoilB.modComp (fun c => { c with rowS := none })
    else s.spoilB.modComp (fun c => { c with rowL := none })
  | _, _ => s

/-- ROW_S or ROW_L, received whole. -/
def State.rowGot (s : State) (kind row : Nat) (x : Array (BitVec 16)) : State :=
  match s.pb.cur with
  | some f =>
    let s := s.modComp (fun c => if kind = 5 then { c with rowS := some (row, x) } else { c with rowL := some (row, x) })
    (s.pairRows f).lastRow kind row
  | none => s

/-- A discarded packet of a frame. -/
def State.partLost (s : State) (kind row : Nat) : State := s.spoilB.lastRow kind row

/-! ## Packets received (R290, R291, R298 to R301) -/

/-- The fields of HEADER (R299). -/
def parseHeader (b : List Byte) : CompHeader :=
  { frame := word (fieldAt b 0 4), exposure := word (fieldAt b 4 4), marker := BitVec.ofNat 64 (fieldAt b 8 8), ptemp := fieldS b 16 2,
    mode := fieldAt b 18 1, pos0 := fieldAt b 19 1, blade := fieldS b 20 2, bladeValid := decide (fieldAt b 22 1 % 2 = 1),
    bladeUrgent := decide (fieldAt b 22 1 / 2 % 2 = 1), tempSubst := fieldAt b 23 1, bundleId := word (fieldAt b 24 4),
    permSubst := fieldAt b 28 1, bladeSeq := fieldAt b 29 1 }

/-- The fields of COEFF, o(T) and γ(T) of each column. -/
def parseCoeff (b : List Byte) : Array (Int × Int) :=
  ((List.range 2080).map (fun q => (fieldS b (4 * q) 2, fieldS b (4 * q + 2) 2))).toArray

/-- The samples of a row. -/
def parseRow (b : List Byte) : Array (BitVec 16) := ((List.range 2080).map (fun q => BitVec.ofNat 16 (fieldAt b (2 * q) 2))).toArray

/-- The data blocks of a packet of each kind (R299 to R301); another number discards it (DEDUCED, notes/assumptions/109). -/
def blocksOk (kind n : Nat) : Bool :=
  match kind with
  | 2 => decide (n ≤ 512)
  | 3 => n = 8
  | 4 => n = 1040
  | 5 => n = 520
  | 6 => n = 520
  | _ => n = 1

/-- The instant at which a packet's SOP came, from the blocks that have come since (R299). -/
def State.sopTime (s : State) (p : RxPacket) : Nat := s.now - 33 * p.age / 32

/-- The receipt of a packet of a frame with another TAG begins that frame, whose HEADER is lost (DEDUCED, notes/assumptions/109). -/
def State.frameOf (s : State) (p : RxPacket) : State :=
  if p.kind = 3 || p.tag = s.nl.comp.tag then s else s.headerLost (s.sopTime p) p.tag

/-- A discarded packet. -/
def State.packetLost (s : State) (p : RxPacket) : State :=
  if p.kind = 2 then s.chunkLost p.tag
  else if !s.linked then s
  else if p.kind = 3 then s.headerLost (s.sopTime p) p.tag
  else if 4 ≤ p.kind && p.kind ≤ 6 then (s.frameOf p).partLost p.kind p.line
  else s

/-- A packet of the relay stream. -/
def State.hostPacket (s : State) (p : RxPacket) (sig : Bool) : State :=
  if p.kind = 2 then s.chunkGot p.tag p.bytes sig
  else if !s.linked then s
  else match p.kind with
    | 3 => s.headerGot (s.sopTime p) (parseHeader p.bytes)
    | 4 => (s.frameOf p).coeffGot (parseCoeff p.bytes)
    | 5 => (s.frameOf p).rowGot 5 p.line (parseRow p.bytes)
    | 6 => (s.frameOf p).rowGot 6 p.line (parseRow p.bytes)
    | _ => s

/-- HEADER_TIMEOUT. -/
def State.headerTimeout (s : State) : State :=
  if s.linked && decide (s.nl.comp.lastHeader + 150 * ms ≤ s.now) then s.loseCompanion 2 else s

/-! ## Pipeline B enabled and disabled (R297, R302) -/

/-- The link of an enabled pipeline B trains on lanes 2 and 3. -/
def State.linkUp (s : State) : State :=
  (((s.modLane 2 (fun x => x.enable s.now)).modLane 3 (fun x => x.enable s.now))).modComp Comp.detect

/-- The link goes down without a loss: a shutter event is aborted, CMD STOP is sent. -/
def State.linkDown (s : State) : State :=
  let s := ((s.abortEvent .B).sendCmd 5 0 0).cutPipeB
  let s := s.modComp (fun c => { c.detect with state := 0 })
  let off (x : Lane) : Lane := x.idle.disable
  (s.modLane 2 off).modLane 3 off

/-! ## The back channel of a module in RELAY (R301) -/

/-- CMD RUN. -/
def State.cmdRun (s : State) : State := if s.nl.comp.state = 3 then s.modComp (fun c => { c with state := 4 }) else s

/-- CMD RETRY. -/
def State.cmdRetry (s : State) (i : Nat) : State := if s.nl.comp.state = 3 then s.sendChunk i else s

/-- CMD PULSE: the open pulse at once, the close pulse at the next marker. -/
def State.cmdPulse (s : State) (atMarker : Bool) : State :=
  if s.nl.comp.state < 3 then s
  else if atMarker then s.modComp (fun c => { c with pulseAtMarker := true })
  else (s.modComp (fun c => { c with leftClosed := false })).duePulse 0 .open_ s.shutterSteps

/-- CMD BLADE. -/
def State.cmdBlade (s : State) : State :=
  if 3 ≤ s.nl.comp.state then s.moduleUrgent (s.ancOf s.pa.snap).bladeCh0 else s

/-- CMD STOP: the link goes down without a loss. -/
def State.cmdStop (s : State) : State := if 2 ≤ s.nl.comp.state then s.modComp Comp.detect else s

/-- A CMD packet at a module in RELAY: byte 0 OP, byte 1 ARG8, bytes 2 and 3 ARG16. -/
def State.relayPacket (s : State) (p : RxPacket) : State :=
  let arg8 := fieldAt p.bytes 1 1
  if p.kind ≠ 7 then s
  else match fieldAt p.bytes 0 1 with
    | 1 => s.cmdRun
    | 2 => s.cmdRetry (fieldAt p.bytes 2 2)
    | 3 => if arg8 ≤ 1 then s.cmdPulse (arg8 = 1) else s
    | 4 => s.cmdBlade
    | 5 => s.cmdStop
    | _ => s

/-! ## Traffic -/

/-- Packets are taken from a link lane; CMD STOP may come before the link lanes are fixed. -/
def State.takesPackets (s : State) (l : Nat) : Bool := s.linkLane l || (decide (l < 2) && decide (s.nl.comp.lanes = 0))

/-- A packet of a lane, or one that its receiver discarded. -/
def State.packet (s : State) (l : Nat) (p : RxPacket) (sig whole : Bool) : State :=
  if !s.takesPackets l then s
  else if l < 2 then (if whole && blocksOk p.kind p.blocks then s.relayPacket p else s)
  else if whole && blocksOk p.kind p.blocks then s.hostPacket p sig
  else s.packetLost p

/-- What a receiver reports, in its order. -/
def State.rxEvent (s : State) (l : Nat) (sig : Bool) (e : RxEvent) : State :=
  match e with
  | .locked => s
  | .lsync => s.leaveDetect l
  | .missing => s
  | .lost => s.lockLost l
  | .trn b => s.trn l b
  | .packet p => s.packet l p sig true
  | .discarded p => s.packet l p sig false

/-- Some traffic taken by a receiver in use. -/
def State.rxItem (s : State) (l : Nat) (sig : Bool) (i : RxItem) : State :=
  if !s.receives l then s
  else
    let r := (s.lane l).takeItem i
    r.2.foldl (fun s e => s.rxEvent l sig e) (s.modLane l (fun _ => r.1))

/-- The traffic of a command. -/
def State.receive (s : State) (l : Nat) (rx : RxTraffic) : State := rx.items.foldl (fun s i => s.rxItem l rx.sig i) s

/-! ## Commands

Each names what completes with the traffic that has come; all of the traffic is taken. -/

/-- NL_LOCKED (R287). -/
def execNlLocked (dt : Nat) (lane : Fin 4) (rx : RxTraffic) (s : State) : Host.Outcome State Fault Refusal :=
  .next (s.run dt (fun s => s.receive lane.val rx))

/-- LSYNC (R287, R288). -/
def execLsync (dt : Nat) (lane : Fin 4) (rx : RxTraffic) (s : State) : Host.Outcome State Fault Refusal :=
  .next (s.run dt (fun s => s.receive lane.val rx))

/-- MISSING_LSYNC (R288). -/
def execMissingLsync (dt : Nat) (lane : Fin 4) (rx : RxTraffic) (s : State) : Host.Outcome State Fault Refusal :=
  .next (s.run dt (fun s => s.receive lane.val rx))

/-- NL_LOCK_LOST (R287). -/
def execNlLockLost (dt : Nat) (lane : Fin 4) (rx : RxTraffic) (s : State) : Host.Outcome State Fault Refusal :=
  .next (s.run dt (fun s => s.receive lane.val rx))

/-- TRN (R296). -/
def execTrn (dt : Nat) (lane : Fin 4) (rx : RxTraffic) (s : State) : Host.Outcome State Fault Refusal :=
  .next (s.run dt (fun s => s.receive lane.val rx))

/-- CHUNK (R298). -/
def execChunk (dt : Nat) (lane : Fin 4) (rx : RxTraffic) (s : State) : Host.Outcome State Fault Refusal :=
  .next (s.run dt (fun s => s.receive lane.val rx))

/-- HEADER (R299). -/
def execHeader (dt : Nat) (lane : Fin 4) (rx : RxTraffic) (s : State) : Host.Outcome State Fault Refusal :=
  .next (s.run dt (fun s => s.receive lane.val rx))

/-- COEFF (R299). -/
def execCoeff (dt : Nat) (lane : Fin 4) (rx : RxTraffic) (s : State) : Host.Outcome State Fault Refusal :=
  .next (s.run dt (fun s => s.receive lane.val rx))

/-- ROW_S (R300). -/
def execRowS (dt : Nat) (lane : Fin 4) (rx : RxTraffic) (s : State) : Host.Outcome State Fault Refusal :=
  .next (s.run dt (fun s => s.receive lane.val rx))

/-- ROW_L (R300). -/
def execRowL (dt : Nat) (lane : Fin 4) (rx : RxTraffic) (s : State) : Host.Outcome State Fault Refusal :=
  .next (s.run dt (fun s => s.receive lane.val rx))

/-- TRAIN_TIMEOUT (R297). -/
def execTrainTimeout (dt : Nat) (s : State) : Host.Outcome State Fault Refusal := .next (s.run dt (fun s => s.trainTimeout))

/-- BUNDLE_TIMEOUT (R297). -/
def execBundleTimeout (dt : Nat) (s : State) : Host.Outcome State Fault Refusal := .next (s.run dt (fun s => s.bundleTimeout))

/-- DETECT_RETRY (R297). -/
def execDetectRetry (dt : Nat) (s : State) : Host.Outcome State Fault Refusal := .next (s.run dt (fun s => s.detectRetry))

/-- HEADER_TIMEOUT (R302). -/
def execHeaderTimeout (dt : Nat) (s : State) : Host.Outcome State Fault Refusal := .next (s.run dt (fun s => s.headerTimeout))

/-- CMD_RUN (R301). -/
def execCmdRun (dt : Nat) (lane : Fin 4) (rx : RxTraffic) (s : State) : Host.Outcome State Fault Refusal :=
  .next (s.run dt (fun s => s.receive lane.val rx))

/-- CMD_RETRY (R301). -/
def execCmdRetry (dt : Nat) (lane : Fin 4) (rx : RxTraffic) (s : State) : Host.Outcome State Fault Refusal :=
  .next (s.run dt (fun s => s.receive lane.val rx))

/-- CMD_PULSE (R301). -/
def execCmdPulse (dt : Nat) (lane : Fin 4) (rx : RxTraffic) (s : State) : Host.Outcome State Fault Refusal :=
  .next (s.run dt (fun s => s.receive lane.val rx))

/-- CMD_BLADE (R301). -/
def execCmdBlade (dt : Nat) (lane : Fin 4) (rx : RxTraffic) (s : State) : Host.Outcome State Fault Refusal :=
  .next (s.run dt (fun s => s.receive lane.val rx))

/-- CMD_STOP (R301). -/
def execCmdStop (dt : Nat) (lane : Fin 4) (rx : RxTraffic) (s : State) : Host.Outcome State Fault Refusal :=
  .next (s.run dt (fun s => s.receive lane.val rx))

end Sys2Proof.Machine
end

