-- ==== Sys2Proof/Machine/Operands.lean ====
section
/-! DEFINITION. The operand forms of the host interface: command descriptors (R205, R210), parameter blocks (R211) and the
ranges of the settings they carry. -/
namespace Sys2Proof.Machine

/-! ## Commands of R210 -/

/-- A host command with its arguments, and with what comes with it from outside: the block its host-memory read returned
(none: the read failed), a handle and a nonce drawn, the named half of BAR 2, the verdict on the signature, and the reads of
the staging silo. -/
inductive HostCmd where
  | nop
  | identify
  | sessionOpen (role : Nat) (handle : Word) (nonce : BitVec 128)
  | sessionAuth (handle : Word) (mac : List Byte)
  | sessionClose
  | modeSet (mode : Nat)
  | latencySet (wakeUs : Nat)
  | cameraBind (pipe : Byte)
  | cameraUnbind (cam : Nat)
  | productSet (cam : Nat) (dest : List Nat) (cool : Nat)
  | pipeBSet (enable frate : Nat)
  | siloSet (pipe : Byte) (frames : Nat)
  | paramSet (pipe : Byte) (group length : Nat) (addr : BitVec 64) (block : Option (List Byte))
  | serviceEnable (pipe : Byte) (mask : Nat)
  | shutterGrant (pipe : Byte) (force start length : Nat)
  | shutterPolicy (pipe : Byte) (policy minInterval : Nat)
  | actPulse (channel parallel length : Nat)
  | stageBegin (kind total : Nat)
  | stageChunk (half length offset : Nat)
  | stageCommit (persist : Nat) (sig : Bool) (mem : MemObs)
  | stageAbort
  | compatSet (enable : Nat)
  | ledgerRead (offset length : Nat) (addr : BitVec 64) (block : Option (List Byte))
  | ledgerWrite (offset length : Nat) (addr : BitVec 64) (block : Option (List Byte))
  deriving DecidableEq, Repr

/-- The opcode of a command (R210). -/
def HostCmd.opcode : HostCmd → Nat
  | .nop => 0x0001 | .identify => 0x0002 | .sessionOpen .. => 0x0010 | .sessionAuth .. => 0x0011 | .sessionClose => 0x0012
  | .modeSet _ => 0x0020 | .latencySet _ => 0x0021 | .cameraBind _ => 0x0030 | .cameraUnbind _ => 0x0031
  | .productSet .. => 0x0032 | .pipeBSet .. => 0x0033 | .siloSet .. => 0x0034 | .paramSet .. => 0x0040
  | .serviceEnable .. => 0x0041 | .shutterGrant .. => 0x0050 | .shutterPolicy .. => 0x0051 | .actPulse .. => 0x0052
  | .stageBegin .. => 0x0060 | .stageChunk .. => 0x0061 | .stageCommit .. => 0x0062 | .stageAbort => 0x0063
  | .compatSet _ => 0x0070 | .ledgerRead .. => 0x0080 | .ledgerWrite .. => 0x0081

/-- NOP, IDENTIFY, SESSION_OPEN and SESSION_AUTH need no session (R210, R217). -/
def HostCmd.needsSession : HostCmd → Bool
  | .nop => false | .identify => false | .sessionOpen .. => false | .sessionAuth .. => false | _ => true

/-- The commands outside the NDG-1210 subset (R194, R210). -/
def HostCmd.outside1210 : HostCmd → Bool
  | .pipeBSet .. => true | .siloSet .. => true | .serviceEnable .. => true | .shutterPolicy .. => true | _ => false

/-- An opcode, and for MODE_SET the mode, that wakes the module (R368). -/
def opcodeWakes (op mode : Nat) : Bool :=
  !([0x0001, 0x0002, 0x0010, 0x0011, 0x0012, 0x0021, 0x0080, 0x0081].contains op || (op = 0x0020 && mode = 2))

/-- The command wakes the module. -/
def HostCmd.wakes (c : HostCmd) : Bool :=
  match c with
  | .modeSet m => opcodeWakes 0x0020 m
  | c => opcodeWakes c.opcode 0

/-- A command as it stands in ring 0: header and command; none where the opcode is not one of R210. -/
structure Fetched where
  tag : Word
  session : Word
  rsv : Bool
  opcode : Nat
  cmd : Option HostCmd
  deriving DecidableEq, Repr

/-- ARGS of an opcode (R210). -/
def parseArgs (op : Nat) (a : List Byte) (inp : HostInput) : Option HostCmd :=
  let u (o n : Nat) : Nat := fieldAt a o n
  let p : Byte := BitVec.ofNat 8 (u 0 1)
  match op with
  | 0x0001 => some .nop
  | 0x0002 => some .identify
  | 0x0010 => some (.sessionOpen (u 0 1) inp.handle inp.nonce)
  | 0x0011 => some (.sessionAuth (word (u 0 4)) ((a.drop 16).take 32))
  | 0x0012 => some .sessionClose
  | 0x0020 => some (.modeSet (u 0 1))
  | 0x0021 => some (.latencySet (u 0 4))
  | 0x0030 => some (.cameraBind p)
  | 0x0031 => some (.cameraUnbind (u 0 1))
  | 0x0032 => some (.productSet (u 0 1) ((List.range 10).map (fun i => u (4 + i) 1)) (u 16 2))
  | 0x0033 => some (.pipeBSet (u 0 1) (u 1 1))
  | 0x0034 => some (.siloSet p (u 1 1))
  | 0x0040 => some (.paramSet p (u 1 1) (u 2 2) (BitVec.ofNat 64 (u 8 8)) inp.block)
  | 0x0041 => some (.serviceEnable p (u 1 1))
  | 0x0050 => some (.shutterGrant p (u 1 1) (u 4 4) (u 8 4))
  | 0x0051 => some (.shutterPolicy p (u 1 1) (u 2 2))
  | 0x0052 => some (.actPulse (u 0 1) (u 1 1) (u 2 2))
  | 0x0060 => some (.stageBegin (u 0 1) (u 4 4))
  | 0x0061 => some (.stageChunk (u 0 1) (u 4 4) (u 8 4))
  | 0x0062 => some (.stageCommit (u 0 1) inp.sig inp.mem)
  | 0x0063 => some .stageAbort
  | 0x0070 => some (.compatSet (u 0 1))
  | 0x0080 => some (.ledgerRead (u 0 4) (u 4 4) (BitVec.ofNat 64 (u 8 8)) inp.block)
  | 0x0081 => some (.ledgerWrite (u 0 4) (u 4 4) (BitVec.ofNat 64 (u 8 8)) inp.block)
  | _ => none

/-- A 64-byte descriptor (R205). Bytes of ARGS that a command does not define are not looked at (DEDUCED,
notes/assumptions/42). -/
def parseDesc (d : List Byte) (inp : HostInput) : Fetched :=
  let op := fieldAt d 0 2
  { tag := word (fieldAt d 4 4), session := word (fieldAt d 8 4), rsv := decide (fieldAt d 2 2 ≠ 0) || decide (fieldAt d 12 4 ≠ 0),
    opcode := op, cmd := parseArgs op (d.drop 16) inp }

/-- A command given by its row: the header and the command. -/
def Fetched.of (h : Hdr) (c : HostCmd) : Fetched := ⟨h.tag, h.session, h.rsv, c.opcode, some c⟩

/-! ## Parameter blocks (R211) -/

/-- LENGTH of a group. -/
def groupLength : Nat → Option Nat
  | 0 => some 28 | 1 => some 28 | 2 => some 768 | 3 => some 100 | 4 => some 20 | 5 => some 12 | 6 => some 72 | 7 => some 8
  | 8 => some 16 | _ => none

/-- A value lies between two bounds. -/
def between (x lo hi : Int) : Bool := decide (lo ≤ x) && decide (x ≤ hi)

/-- Group 0 (R149). `converts` says which TEMP_EXT channels the sequencer converts. -/
def parseRadio (b : List Byte) (converts : Nat → Bool) : Option Radio :=
  let u (o n : Nat) : Nat := fieldAt b o n
  let unit (x : Nat) : Bool := between x 16384 32768
  let r : Radio := ⟨u 0 2, u 2 2, u 4 2, u 6 2, u 8 2, u 10 1, u 12 2, u 14 1, u 16 2, u 18 1, u 20 2, u 22 2, u 24 2⟩
  if unit r.tauA && unit r.tauB && unit r.epsA && unit r.epsB && between r.tRefl 12800 45568 && decide (r.lensSrc ≤ 7) &&
      between r.lensT 12800 45568 && decide (r.tmMethod ≤ 3) && decide (r.tfEn ≤ 1) && between r.tfAlpha 8 256 &&
      decide (r.tfLo < r.tfHi) && (decide (5 < r.lensSrc) || converts r.lensSrc) then some r
  else none

/-- Group 1 (R157), which keeps the palette. -/
def parseDisp (b : List Byte) (old : Disp) : Option Disp :=
  let u (o n : Nat) : Nat := fieldAt b o n
  let d : Disp := { old with mode := u 0 1, agc := u 1 1, manLo := fieldS b 4 4, manHi := fieldS b 8 4, pLo := u 12 2, pHi := u 14 2,
                             agcRate := u 16 2, histBase := fieldS b 20 4, histShift := u 24 1 }
  if decide (d.mode ≤ 1) && decide (d.agc ≤ 1) && decide (d.manLo + 256 ≤ d.manHi) && decide (d.pLo ≤ 1022) &&
      decide (d.pLo < d.pHi) && decide (d.pHi ≤ 1024) && between d.agcRate 1 256 && decide (d.histShift ≤ 15) then some d
  else none

/-- Group 2: the palette. -/
def parsePalette (b : List Byte) (old : Disp) : Disp :=
  { old with palY := b.take 256, palU := (b.drop 256).take 256, palV := (b.drop 512).take 256 }

/-- An entry of group 3 (R188); its reserved byte must be 0. -/
def parseRect (b : List Byte) (o : Nat) : Option Rect :=
  let u (i n : Nat) : Nat := fieldAt b (o + i) n
  let r : Rect := ⟨u 0 2, u 2 2, u 4 2, u 6 2, u 8 2, u 10 1⟩
  if decide (r.top ≤ r.bottom) && decide (r.bottom ≤ 1535) && decide (r.left ≤ r.right) && decide (r.right ≤ 2047) &&
      decide (r.alarmMode ≤ 2) && u 11 1 = 0 then some r
  else none

/-- Group 3: entries at and above COUNT are ignored. -/
def parseRects (b : List Byte) : Option (List Rect) :=
  let n := fieldAt b 0 1
  if 8 < n then none
  else
    let l := (List.range n).map (fun i => parseRect b (4 + 12 * i))
    if l.all Option.isSome then some (l.filterMap id) else none

/-- Group 4 (R190). -/
def parseObs (b : List Byte) : Option ObsSet :=
  let u (o n : Nat) : Nat := fieldAt b o n
  let x : ObsSet := ⟨u 0 4, u 4 1, u 6 2, fieldS b 8 4, fieldS b 12 4, u 16 1, u 17 1, u 18 2⟩
  if decide (1 ≤ x.ratio) && between x.frames 1 3600 && decide (1 ≤ x.wet) && decide (1 ≤ x.ice) && between x.zones 1 192 &&
      decide (x.auto_ ≤ 1) && between x.washMs 10 2000 then some x
  else none

/-- Group 5 (R192). -/
def parseCand (b : List Byte) : Option CandSet :=
  let u (o n : Nat) : Nat := fieldAt b o n
  let x : CandSet := ⟨u 0 2, u 2 2, u 4 4, u 8 2, u 10 2⟩
  if between x.tMin 12800 45568 && decide (x.tMin ≤ x.tMax) && between x.minPix 1 65536 && between x.maxH 1 1536 &&
      between x.maxW 1 2048 then some x
  else none

/-- Group 6 (R193): vertices at and above NV are ignored. -/
def parseSurf (b : List Byte) : Option SurfSet :=
  let u (o n : Nat) : Nat := fieldAt b o n
  let n := u 6 1
  let v := (List.range n).map (fun i => (u (8 + 4 * i) 2, u (10 + 4 * i) 2))
  let x : SurfSet := ⟨u 0 2, u 2 2, u 4 2, v⟩
  if between n 3 16 && between x.wet 4096 8191 && between x.snow x.wet 8191 && decide (x.margin ≤ 640) &&
      v.all (fun p => decide (p.1 ≤ 1535) && decide (p.2 ≤ 2047)) then some x
  else none

/-- Group 7 (R59): DET_BIAS, INT_REF and PERSIST. -/
def parseBias (b : List Byte) : Option (Nat × Nat × Bool) :=
  let u (o n : Nat) : Nat := fieldAt b o n
  if decide (u 0 2 ≤ 4000) && decide (u 2 2 ≤ 4000) && decide (u 4 1 ≤ 1) && u 5 3 = 0 then some (u 0 2, u 2 2, u 4 1 = 1)
  else none

/-- Group 8 (R43). -/
def parseLevels (b : List Byte) : Option (List Nat) :=
  let l := (List.range 8).map (fun i => fieldAt b (2 * i) 2)
  if l.all (fun x => between x 1 4095) then some l else none

/-- A parameter block read: the change it makes to the settings of its pipeline; none where a value is out of range. -/
def parseBlock (group : Nat) (b : List Byte) (converts : Nat → Bool) (old : Settings) : Option (Settings → Settings) :=
  match group with
  | 0 => (parseRadio b converts).map (fun r => fun st => { st with radio := r })
  | 1 => (parseDisp b old.disp).map (fun d => fun st => { st with disp := d })
  | 2 => some (fun st => { st with disp := parsePalette b old.disp })
  | 3 => (parseRects b).map (fun l => fun st => { st with rects := l })
  | 4 => (parseObs b).map (fun x => fun st => { st with obs := x })
  | 5 => (parseCand b).map (fun x => fun st => { st with cand := x })
  | 6 => (parseSurf b).map (fun x => fun st => { st with surf := x })
  | 7 => (parseBias b).map (fun x => fun st => { st with bias := (x.1, x.2.1) })
  | 8 => (parseLevels b).map (fun l => fun st => { st with hostLvl := some l })
  | _ => none

end Sys2Proof.Machine
end

