-- ==== Sys2Proof/Machine/Thermal.lean ====
section
/-! DEFINITION. Thermal management and idle depths (16): conversions, samples and the thermal states, idle depths and
wakes. -/
namespace Sys2Proof.Machine

/-- A temperature of whole degrees in 1/256 °C. -/
def deg (t : Int) : Int := 256 * t

/-- An s32 argument. -/
def s32 (x : Int) : Word := word (code x 32)

/-! ## Conversions (R356 to R358) -/

/-- The median of the other processor-die sensors that are not broken (R357). -/
def medianOf (l : List Int) : Int :=
  let l := sortInts l
  let k := l.length
  if k % 2 = 1 then l.getD (k / 2) 0 else rnd (l.getD (k / 2 - 1) 0 + l.getD (k / 2) 0) 1

/-- The latest conversions of the processor-die sensors other than `n` that are not broken. -/
def State.othersOf (s : State) (n : Nat) : List Int :=
  (List.range 8).filterMap (fun i =>
    if i = n || s.thm.broken.getD i false then none else s.thm.conv.getD i none)

/-- A conversion shows its sensor to be broken; at least three sensors must remain for the median (DEDUCED,
notes/assumptions/33). -/
def State.breaks (s : State) (n : Nat) (v : Int) : Bool :=
  let l := s.othersOf n
  decide (v < deg (-55)) || decide (deg 175 < v) ||
    (decide (n < 8) && decide (3 ≤ l.length) && decide (deg 25 < (v - medianOf l).natAbs))

/-- A conversion of a sensor. -/
def State.thermalConversion (s : State) (n : Nat) (v : Int) : State :=
  let bad := !s.thm.broken.getD n false && s.breaks n v
  let s := if bad then
      ({ s with thm := { s.thm with broken := s.thm.broken.set n true } }).post0 0x0096 [word n, s32 v]
    else s
  let t := if s.thm.broken.getD n false then deg 150 else v
  let s := { s with thm := { s.thm with conv := s.thm.conv.set n (some t) } }
  if deg 130 ≤ t then s.fault 7 else s

/-! ## Samples (R359, R360) -/

/-- The highest of the latest conversions with its sensor, the lowest number first. -/
def State.hottest (s : State) : Option (Int × Nat) :=
  s.thm.conv.zipIdx.foldl (fun m c =>
    match c.1, m with
    | none, m => m
    | some v, none => some (v, c.2)
    | some v, some (w, i) => if w < v then some (v, c.2) else some (w, i)) none

/-- Since when samples have met a condition without a break. -/
def runSince (now : Nat) (holds : Bool) (since : Option Nat) : Option Nat :=
  if holds then some (since.getD now) else none

/-- Samples have met a condition for a time. -/
def lasted (now : Nat) (since : Option Nat) (t : Nat) : Bool :=
  match since with
  | some a => decide (a + t ≤ now)
  | none => false

/-- The values of a sample taken into the registers and the runs. -/
def Thm.sampleTaken (t : Thm) (now : Nat) (v : Int) (n : Nat) : Thm :=
  let peak := !t.sampled || decide (t.peak < v)
  { t with sample := v, sensor := n, sampled := true, peak := if peak then v else t.peak,
           peakSensor := if peak then n else t.peakSensor, low112 := runSince now (decide (v ≤ deg 112)) t.low112,
           low110 := runSince now (decide (v ≤ deg 110)) t.low110, slowSince := runSince now (decide (v < deg 110)) t.slowSince,
           fast := t.fast || decide (deg 112 ≤ v) }

/-- Sampling every 1 ms again (R359). -/
def State.slowSampling (s : State) : State :=
  if s.thm.fast && lasted s.now s.thm.slowSince (100 * ms) then { s with thm := { s.thm with fast := false } } else s

/-- The warning condition (R360). -/
def State.thermalWarn (s : State) : State :=
  let t := s.thm
  if !t.warn && decide (deg 115 ≤ t.sample) then
    (({ s with thm := { t with warn := true } }).post0 0x0090 [s32 t.sample, word t.sensor, 1#32]).warnBit 12
  else if t.warn && decide (t.sample ≤ deg 112) then
    ({ s with thm := { t with warn := false } }).post0 0x0090 [s32 t.sample, word t.sensor, 0#32]
  else s

/-- The cool profile taken up or left: a setting accepted now (R361). -/
def State.acceptCool (s : State) (on : Bool) : State :=
  let go (st : Settings) : Settings := { st with cool := on }
  (s.accept .A go).accept .B go

/-- Row 1: STOPPED, with the orderly stop of a running mode (R364). -/
def State.thermalStop (s : State) : State :=
  let s := ({ s with thm := { s.thm with state := .stopped } }).post0 0x0094 [s32 s.thm.sample, word s.thm.sensor]
  if isRunning s.mode then s.stopPlate false else s

/-- Row 2: rearmed. -/
def State.thermalRearm (s : State) : State :=
  if s.thm.state = .stopped && lasted s.now s.thm.low110 (10 * sec) then
    ({ s with thm := { s.thm with state := .normal, restartCool := true } }).post0 0x0095 [s32 s.thm.sample]
  else s

/-- Row 3: the grace time begins. -/
def State.thermalGrace (s : State) : State :=
  let g := max 50 (min 5000 (fld s.thm.ctrl 12 0))
  ({ s with thm := { s.thm with state := .grace, graceEnd := s.now + g * ms, graceMs := g } }).post0 0x0091
    [s32 s.thm.sample, word s.thm.sensor, word g]

/-- Row 5: the grace timer has expired. -/
def State.thermalEnforce (s : State) : State :=
  if s.thm.state = .grace && decide (s.thm.graceEnd ≤ s.now) then
    (({ s with thm := { s.thm with state := .enforced } }).post0 0x0092 [s32 s.thm.sample, word s.thm.sensor]).acceptCool true
  else s

/-- Row 6: the cool profile is left. -/
def State.thermalRelease (s : State) : State :=
  if s.thm.state = .enforced && lasted s.now s.thm.low112 (5 * sec) then
    (({ s with thm := { s.thm with state := .normal } }).post0 0x0093 [s32 s.thm.sample, 2#32]).acceptCool false
  else s

/-- The rows of R360 in their order on the last sample. -/
def State.thermalMove (s : State) : State :=
  let v := s.thm.sample
  match s.thm.state with
  | .stopped => s.thermalRearm
  | .normal => if deg 125 ≤ v then s.thermalStop else if deg 120 ≤ v then s.thermalGrace else s
  | .grace =>
    if deg 125 ≤ v then s.thermalStop
    else if v ≤ deg 117 then ({ s with thm := { s.thm with state := .normal } }).post0 0x0093 [s32 v, 1#32]
    else s.thermalEnforce
  | .enforced => if deg 125 ≤ v then s.thermalStop else s.thermalRelease

/-- A sample (R359, R360); before any conversion there is none. -/
def State.thermalSample (s : State) : State :=
  match s.hottest with
  | none => s
  | some (v, n) =>
    let s := ({ s with thm := s.thm.sampleTaken s.now v n }).slowSampling
    s.thermalWarn.thermalMove

/-! ## Idle depths (R365 to R368) -/

/-- The depth code chosen for a wake latency (R366). -/
def chosenDepth (wakeUs : Nat) : Nat :=
  if wakeUs < 20 then 0 else if wakeUs < 400 then 1 else if wakeUs < 5000 then 2 else if wakeUs < 4000000 then 3 else 4

/-- The depth to be taken: at least I1 while STOPPED. -/
def State.depthTaken (s : State) : Nat :=
  let d := chosenDepth s.thm.wakeUs
  if s.thm.state = .stopped then max d 2 else d

/-- Wake time of a depth in PLATE clocks (R365). -/
def wakeTime (d : Nat) : Nat :=
  if d = 0 then 0 else if d = 1 then 20 * us else if d = 2 then 400 * us else if d = 3 then 5 * ms else 4 * sec

/-- A depth entered (R365): what it turns off. -/
def State.enterDepth (s : State) (d : Nat) : State :=
  let s := if 2 ≤ d then s.drainRefresh else s
  let s := if 3 ≤ d then s.endCycles else s
  let s := if d = 4 then { s with pcv := { s.pcv with biasOn := none } } else s
  ({ s with thm := { s.thm with depth := d } }).post0 0x0097 [word d, word s.thm.wakeUs]

/-- IDLE_DEPTH: 10 ms after the latest activity in STANDBY, and for I1 and deeper with no write of R130 and no
STAGE_COMMIT in progress. -/
def State.idleDepth (s : State) : State :=
  let d := s.depthTaken
  let busy := s.sup.soWrite.isSome || s.hif.waiting.isSome
  if s.mode = .standby && s.thm.waking.isNone && !s.thm.wakePin && decide (s.thm.activity + 10 * ms ≤ s.now) &&
      decide (s.thm.depth < d) && !(decide (2 ≤ d) && busy) then s.enterDepth d
  else s

/-- A wake begins towards a depth; one in progress continues (R368). The bias is applied at the start of a wake from I3
(R61). -/
def State.startWake (s : State) (dest : Nat) : State :=
  match s.thm.waking with
  | some (t, d) => { s with thm := { s.thm with waking := some (t, min d dest) } }
  | none =>
    if s.thm.depth ≤ dest then s
    else
      let t := s.now + wakeTime s.thm.depth
      let s' := { s with thm := { s.thm with waking := some (t, dest) } }
      if s.thm.depth = 4 && decide (dest < 4) then
        { s' with pcv := { s'.pcv with biasOn := some s.now }, sup := { s'.sup with wakeHold := t } }
      else s'

/-- WAKE_COMPLETE (R113, R115, R368). -/
def State.wakeComplete (s : State) : State :=
  match s.thm.waking with
  | none => s
  | some (t, d) =>
    if s.now < t then s
    else
      let old := s.thm.depth
      let s := { s with thm := { s.thm with depth := d, waking := none, activity := s.now } }
      let s := if d < 2 then { s with drm := s.drm.awake s.now } else s
      let s := if 3 ≤ old then (s.modPl .A Pl.contextChange).modPl .B Pl.contextChange else s
      if 0 < d then s.post0 0x0097 [word d, word s.thm.wakeUs] else s

/-- WAKE_IN rises: wakes, and holds the module at no depth. -/
def State.wakeIn (s : State) : State :=
  let s := { s with thm := { s.thm with wakePin := true } }
  if s.mode = .standby then s.startWake 0 else s

/-- WAKE_IN falls: the 10 ms count again. -/
def State.wakeInFall (s : State) : State := { s with thm := { s.thm with wakePin := false, activity := s.now } }

/-- LATENCY_SET: accepted at its completion; a shallower depth is woken to. -/
def State.latencySet (s : State) (wakeUs : Nat) : State :=
  let s := { s with thm := { s.thm with wakeUs := wakeUs } }
  if s.mode = .standby && decide (s.depthTaken < s.thm.depth) then s.startWake s.depthTaken else s

/-! ## Commands -/

/-- THERMAL_CONVERSION (R357). -/
def execThermalConversion (dt : Nat) (sensor : Fin 10) (value : Int) (s : State) : Host.Outcome State Fault Refusal :=
  .next (s.run dt (fun s => s.thermalConversion sensor.val value))

/-- THERMAL_SAMPLE (R360). -/
def execThermalSample (dt : Nat) (s : State) : Host.Outcome State Fault Refusal := .next (s.run dt (fun s => s.thermalSample))

/-- THM_ENFORCED (R361). -/
def execThmEnforced (dt : Nat) (s : State) : Host.Outcome State Fault Refusal := .next (s.run dt (fun s => s.thermalEnforce))

/-- THM_RELEASED (R360). -/
def execThmReleased (dt : Nat) (s : State) : Host.Outcome State Fault Refusal := .next (s.run dt (fun s => s.thermalRelease))

/-- THM_REARMED (R360). -/
def execThmRearmed (dt : Nat) (s : State) : Host.Outcome State Fault Refusal := .next (s.run dt (fun s => s.thermalRearm))

/-- SLOW_SAMPLING (R359). -/
def execSlowSampling (dt : Nat) (s : State) : Host.Outcome State Fault Refusal := .next (s.run dt (fun s => s.slowSampling))

/-- IDLE_DEPTH (R367). -/
def execIdleDepth (dt : Nat) (s : State) : Host.Outcome State Fault Refusal := .next (s.run dt (fun s => s.idleDepth))

/-- WAKE_IN (R368): the level of the pin is what it is in OFF too. -/
def execWakeIn (dt : Nat) (s : State) : Host.Outcome State Fault Refusal := .next ((s.elapse dt).wakeIn)

/-- WAKE_IN_FALL (R367). -/
def execWakeInFall (dt : Nat) (s : State) : Host.Outcome State Fault Refusal := .next ((s.elapse dt).wakeInFall)

/-- WAKE_COMPLETE (R368). -/
def execWakeComplete (dt : Nat) (s : State) : Host.Outcome State Fault Refusal := .next (s.run dt (fun s => s.wakeComplete))

end Sys2Proof.Machine
end

