-- ==== Sys2Proof/Machine/HostCmds.lean ====
section
/-! DEFINITION. The host commands of R210: sessions (R217 to R220), cameras, product sets and budgets (R166 to R173, R26),
settings, grants, staging (R221 to R224, R233), 1210 mode (R194) and the rest. -/
namespace Sys2Proof.Machine

/-- What a command answers: the state, STATUS and RESULT, the address of a host-memory read that failed (R228), whether
the completion waits (R233), whether a module reset follows it (R373). -/
structure HostAnswer where
  s : State
  status : Nat
  result : List Word
  dma : Option (BitVec 64)
  waits : Bool
  reset : Bool

/-- A status and nothing else. -/
def answer (s : State) (status : Nat) : HostAnswer := ⟨s, status, [], none, false, false⟩

/-- OK with a RESULT. -/
def answerOk (s : State) (result : List Word) : HostAnswer := ⟨s, 0, result, none, false, false⟩

/-- DMA_ERROR for a read at an address. -/
def answerDma (s : State) (addr : BitVec 64) : HostAnswer := ⟨s, 12, [], some addr, false, false⟩

/-- APPLY of a setting of one pipeline (R206, R416). -/
def State.applyOf (s : State) (p : Pipe) : List Word :=
  match p with
  | .A => [word (s.applyFrame .A), 0xffffffff#32]
  | .B => [0xffffffff#32, word (s.applyFrame .B)]

/-! ## Sessions -/

/-- A handle is free: it is not 0 and not in use. -/
def State.handleFree (s : State) (h : Word) : Bool := h ≠ 0#32 && !(s.hif.sessions.filterMap id).any (fun x => x.handle = h)

/-- The handle drawn, or the next one that is free. -/
def State.pickHandle (s : State) : Nat → Word → Word
  | 0, h => h
  | n + 1, h => if s.handleFree h then h else s.pickHandle n (h + 1#32)

/-- The role of SESSION_OPEN. -/
def roleOfNum : Nat → Option Role
  | 0 => some .operator | 1 => some .calibration | 2 => some .maintenance | _ => none

/-- A slot to open a session of a role in; none where the limits of R217 are reached. -/
def State.freeSlot (s : State) (r : Role) : Option Nat :=
  let taken := r ≠ .operator && (s.hif.sessions.filterMap id).any (fun x => x.role = r)
  if taken then none else (List.range 4).find? (fun i => (s.hif.sessions.getD i none).isNone)

/-- SESSION_OPEN (R217, R218, R219). -/
def State.cmdSessionOpen (s : State) (role : Nat) (handle : Word) (nonce : BitVec 128) : HostAnswer :=
  match roleOfNum role with
  | none => answer s 2
  | some r =>
    let s := s.readKey role
    if s.lockedOut role then answer s 14
    else if (s.keyOf role).isEmpty then answer s 5
    else match s.freeSlot r with
      | none => answer s 15
      | some i =>
        let h := s.pickHandle 5 handle
        let x : Session := ⟨h, r, nonce, s.keyOf role, false, s.now⟩
        let s := { s with hif := { s.hif with sessions := s.hif.sessions.set i (some x), expired := s.hif.expired.filter (· ≠ h) } }
        answerOk s (h :: (List.range 4).map (fun k => word (nonce.toNat / 2 ^ (32 * k))))

/-- The MAC of a session (R218). -/
def State.sessionMac (s : State) (x : Session) : List Byte :=
  hmac x.key (le 16 x.nonce.toNat ++ le 4 x.handle.toNat ++ le 1 (roleNum x.role) ++ le 8 s.nv.serial.toNat)

/-- SESSION_AUTH (R218, R219). -/
def State.cmdSessionAuth (s : State) (handle : Word) (mac : List Byte) : HostAnswer :=
  match s.hif.sessions.findIdx? (fun x => match x with | some y => y.handle = handle && !y.auth | none => false) with
  | none => answer s (if s.hif.expired.contains handle then 13 else 2)
  | some i =>
    match s.hif.sessions.getD i none with
    | none => answer s 2
    | some x =>
      if x.opened + sec ≤ s.now then answer s 13
      else if mac = s.sessionMac x then
        let s := { s with hif := { s.hif with sessions := s.hif.sessions.set i (some { x with auth := true }) } }
        answer (s.authSuccess (roleNum x.role)) 0
      else
        let s := { s with hif := { s.hif with sessions := s.hif.sessions.set i none } }
        answer (s.authFailure (roleNum x.role)) 13

/-- SESSION_CLOSE (R220). -/
def State.cmdSessionClose (s : State) (h : Word) : HostAnswer :=
  match s.hif.sessions.findIdx? (fun x => match x with | some y => y.handle = h | none => false) with
  | some i => answer (s.closeSession i) 0
  | none => answer s 4

/-- NONCE_EXPIRY (R218, R219). -/
def State.nonceExpiry (s : State) (i : Nat) : State :=
  match s.hif.sessions.getD i none with
  | some x =>
    if !x.auth && decide (x.opened + sec ≤ s.now) then
      { s with hif := { s.hif with sessions := s.hif.sessions.set i none, expired := x.handle :: s.hif.expired } }
    else s
  | none => s

/-! ## Identity, modes, pulses -/

/-- IDENTIFY. The bundle is that accepted for pipeline A. -/
def State.cmdIdentify (s : State) : HostAnswer :=
  answerOk s [word (at_ s.sup.minor 16 + s.sup.major), word s.nv.serial.toNat, word (s.nv.serial.toNat / 2 ^ 32),
    word (s.bundleId s.pa.pend), 0x2415#32]

/-- MODE_SET (R380 to R385). -/
def State.cmdModeSet (s : State) (r : Role) (m : Nat) : HostAnswer :=
  let (s', status, result, reset) := s.modeSet r m
  ⟨s', status, result, none, false, reset⟩

/-- ACT_PULSE (R270). -/
def State.cmdActPulse (s : State) (ch parallel steps : Nat) : HostAnswer :=
  let status := s.actPulseStatus ch parallel steps
  answer (if status = 0 then s.queuePulse ch steps (parallel = 1) else s) status

/-! ## Cameras (R166 to R168) -/

/-- The cameras of a pipeline as accepted. -/
def State.cams (s : State) (p : Pipe) : List Camera := (s.pl p).pend.cams

/-- A session may not set the pipeline settings of a pipeline (R167). -/
def State.notPrimary (s : State) (p : Pipe) (h : Word) : Bool :=
  !(s.cams p).isEmpty && !(s.cams p).any (fun c => !c.secondary && c.session = h)

/-- CAMERA_BIND (R166). -/
def State.cmdCameraBind (s : State) (h : Word) (pipe : Byte) : HostAnswer :=
  match pipeOfByte pipe with
  | none => answer s 2
  | some p =>
    if 2 ≤ (s.cams p).length then answer s 10
    else
      let used := (s.cams .A ++ s.cams .B).map Camera.id
      let id := ((List.range 4).find? (fun i => !used.contains i)).getD 0
      let second := !(s.cams p).isEmpty
      let c : Camera := ⟨id, h, second, List.replicate 10 0, [], []⟩
      answerOk (s.accept p (fun st => { st with cams := st.cams ++ [c] })) [word (id + flag second 8)]

/-- The pipeline and the camera of an id, where the session bound it (R166). -/
def State.cameraOf (s : State) (id : Nat) (h : Word) : Option (Pipe × Camera) :=
  let find (p : Pipe) : Option (Pipe × Camera) := ((s.cams p).find? (fun c => c.id = id && c.session = h)).map (fun c => (p, c))
  (find .A).orElse (fun _ => find .B)

/-- CAMERA_UNBIND. -/
def State.cmdCameraUnbind (s : State) (h : Word) (id : Nat) : HostAnswer :=
  match s.cameraOf id h with
  | none => answer s 2
  | some (p, _) => let s := s.unbind p id; answerOk s (s.applyOf p)

/-- The declaration of a camera: destinations, normal and cool sets. -/
def Camera.declare (c : Camera) (dest : List Nat) (cool : Nat) : Camera :=
  { c with dest := dest, normal := (List.range 10).filter (fun k => dest.getD k 0 ≠ 0),
           cool := (List.range 10).filter (fun k => cool / 2 ^ k % 2 = 1) }

/-- A declaration in range: destinations of R210, the cool set within the normal set. -/
def declOk (dest : List Nat) (cool : Nat) : Bool :=
  dest.all (fun x => x = 0 || x = 254 || (3 ≤ x && x ≤ 22)) && decide (cool < 1024) &&
    (List.range 10).all (fun k => cool / 2 ^ k % 2 = 0 || decide (dest.getD k 0 ≠ 0))

/-- The rings that other cameras have bound. -/
def State.boundRings (s : State) (id : Nat) : List Nat :=
  ((s.cams .A ++ s.cams .B).filter (fun c => c.id ≠ id)).flatMap Camera.dest

/-- A destination of a product that can be bound (R151, R172, R212). -/
def State.destOk (s : State) (st : Settings) (id : Nat) (dest : List Nat) (k : Nat) : Bool :=
  let x := dest.getD k 0
  let l := lineBytes k st.disp.mode st.compat
  let stride := (s.ring x).stride.toNat
  if x = 0 then true
  else if x = 254 then s.mode ≠ .relay && (k = 0 || k = 1 || k = 9)
  else (s.ring x).enable && !(s.boundRings id).contains x && decide ((dest.filter (· = x)).length = 1) &&
    (l = 0 || stride = 0 || (stride % 64 = 0 && decide (l ≤ stride)))

/-- The budgets with the cameras of one pipeline replaced (R26, R168). -/
def State.budgetWith (s : State) (p : Pipe) (cams : List Camera) : Nat :=
  (s.accept p (fun st => { st with cams := cams })).budgetCode (s.accept p (fun st => { st with cams := cams })).pendingLoads

/-- The memory cost of a product of the secondary under the union of the normal sets: S · (1 + d) (R170; DEDUCED,
notes/assumptions/43). -/
def State.dramCost (s : State) (st : Settings) (cams : List Camera) (k : Nat) : Nat :=
  let ds := dests cams false k
  (ds.map (s.sizeAt st k)).foldl max 0 * (1 + ds.length)

/-- The entry of the secondary's sets to remove next: largest memory cost, then higher product code. -/
def State.costliest (s : State) (st : Settings) (cams : List Camera) : List Nat → Option Nat
  | [] => none
  | k :: ks =>
    match s.costliest st cams ks with
    | none => some k
    | some j => if s.dramCost st cams j < s.dramCost st cams k then some k else some j

/-- A product removed from both sets of a camera. -/
def Camera.remove (c : Camera) (k : Nat) : Camera :=
  { c with dest := c.dest.set k 0, normal := c.normal.filter (· ≠ k), cool := c.cool.filter (· ≠ k) }

/-- The secondary's sets reduced until both unions fit, and the entries removed: product and set (R168). -/
def State.preempt (s : State) (p : Pipe) (prim : Camera) : Nat → Camera → List (Nat × Nat) → Camera × List (Nat × Nat)
  | 0, sec_, out => (sec_, out)
  | n + 1, sec_, out =>
    if s.budgetWith p [prim, sec_] = 0 then (sec_, out)
    else match s.costliest (s.pl p).pend [prim, sec_] sec_.normal with
      | none => (sec_, out)
      | some k => s.preempt p prim n (sec_.remove k) (out ++ (k, 0) :: (if sec_.cool.contains k then [(k, 1)] else []))

/-- The NL streams follow the bindings accepted: a stream that no camera binds ends, a product bound anew takes the first
stream that is free (R292, R294). -/
def State.bindStreams (s : State) : State :=
  let want (p : Pipe) : List (Pipe × Nat) :=
    ((List.range 10).filter (fun k => (s.cams p).any (fun c => decide (c.dest.getD k 0 = 254)))).map (fun k => (p, k))
  let all := want .A ++ want .B
  let s := [Pipe.A, Pipe.B].foldl (fun s p =>
    s.endStreams p ((List.range 10).filter (fun k => !all.contains (p, k)))) s
  all.foldl (fun s x =>
    if s.nl.streams.any (fun t => match t with | some y => y.pipe = x.1 && y.product = x.2 | none => false) then s
    else match s.nl.streams.findIdx? Option.isNone with
      | some i => { s with nl := { s.nl with streams := s.nl.streams.set i (some ⟨x.1, x.2, none, none, [[], []]⟩) } }
      | none => s) s

/-- A product set accepted. -/
def State.setCams (s : State) (p : Pipe) (cams : List Camera) : State :=
  (s.accept p (fun st => { st with cams := cams })).bindStreams

/-- The cameras of a pipeline with one replaced. -/
def replaceCam (cams : List Camera) (c : Camera) : List Camera := cams.map (fun x => if x.id = c.id then c else x)

/-- CAMERA_PREEMPTED for each entry removed. -/
def State.postPreempted (s : State) (p : Pipe) (id : Nat) (out : List (Nat × Nat)) : State :=
  out.foldl (fun s x => s.postP p 0x0012 [word id, word x.1, word x.2]) s

/-- A change of product sets by the primary that breaks a budget with the code given (R168): rejected where the primary's own sets
break one, else the secondary's sets give way. -/
def State.overrule (s : State) (p : Pipe) (all : List Camera) (code : Nat) : Except Nat State :=
  match all.find? (fun c => !c.secondary), all.find? Camera.secondary with
  | some prim, some sec_ =>
    let own := s.budgetWith p [prim]
    if own ≠ 0 then .error own
    else
      let (sec', out) := s.preempt p prim 10 sec_ []
      .ok ((s.setCams p (replaceCam all sec')).postPreempted p sec_.id out)
  | _, _ => .error code

/-- A declaration that may be bound, against the budgets (R168). -/
def State.declareSets (s : State) (p : Pipe) (c : Camera) : HostAnswer :=
  let all := replaceCam (s.cams p) c
  let code := s.budgetWith p all
  if code = 0 then let s := s.setCams p all; answerOk s (s.applyOf p)
  else if c.secondary then answer s code
  else match s.overrule p all code with
    | .ok s' => answerOk s' (s'.applyOf p)
    | .error e => answer s e

/-- PRODUCT_SET (R151, R166 to R172, R194). -/
def State.cmdProductSet (s : State) (h : Word) (id : Nat) (dest : List Nat) (cool : Nat) : HostAnswer :=
  match s.cameraOf id h with
  | none => answer s 2
  | some (p, c) =>
    let st := (s.pl p).pend
    if !declOk dest cool then answer s 2
    else if s.pa.pend.compat && (dest.drop 3).any (· ≠ 0) then answer s 9
    else if s.notPrimary p h && dest.contains 254 then answer s 6
    else if !(List.range 10).all (s.destOk st id dest) then answer s 11
    else s.declareSets p (c.declare dest cool)

/-! ## Pipeline settings -/

/-- Pipeline B enabled or disabled, with its admitted rate as a setting (R173, R51). -/
def State.setPipeB (s : State) (on : Bool) (frate : Nat) : State :=
  ({ s with sup := { s.sup with pipeB := on } }).accept .B (fun st => { st with rate := frate })

/-- PIPE_B_SET (R173, R176, R297). -/
def State.cmdPipeBSet (s : State) (h : Word) (enable frate : Nat) : HostAnswer :=
  let on := decide (enable = 1)
  let s' := s.setPipeB on frate
  let code := if on then s'.budgetCode s'.pendingLoads else 0
  if 1 < enable || 2 < frate then answer s 2
  else if s.notPrimary .B h then answer s 6
  else if on && s.mode = .relay then answer s 3
  else if code ≠ 0 then answer s code
  else
    let r := if on && !s.sup.pipeB then s'.linkUp else if !on && s.sup.pipeB then s.linkDown.setPipeB on frate else s'
    answerOk r (r.applyOf .B)

/-- SILO_SET (R32, R233). -/
def State.cmdSiloSet (s : State) (pipe : Byte) (frames : Nat) : HostAnswer :=
  match pipeOfByte pipe with
  | none => answer s 2
  | some p =>
    if frames < 3 || 6 < frames then answer s 2
    else if s.mode ≠ .standby then answer s 3
    else answer (s.modPl p (fun x => { x with capSlots := frames })) 0

/-- The converter sequencer converts TEMP_EXT channel `k` (R149). -/
def State.converts (s : State) (k : Nat) : Bool :=
  ((s.entryRegs.zipIdx).any (fun e => decide (7 ≤ e.2) && cfgEn e.1 && cfgChan e.1 = 6 + k))

/-- The mode, the role and the pipeline that groups 7 and 8 ask for (R211); 0 where they hold. -/
def State.groupStatus (s : State) (p : Pipe) (r : Role) (group : Nat) : Nat :=
  let need := if group = 7 then (Mode.calibration, Role.calibration) else (Mode.diagnostic, Role.maintenance)
  if p = .B then 2 else if s.mode ≠ need.1 then 3 else if r ≠ need.2 then 5 else 0

/-- Whether a parameter block's bias codes are to be kept in the bias record (R59): PERSIST of group 7, with the instant. -/
def keepBias (group : Nat) (b : List Byte) (now : Nat) (old : Option Nat) : Option Nat :=
  if group = 7 then
    match parseBias b with
    | some (_, _, true) => some now
    | _ => none
  else old

/-- A parameter block applied, with the budgets that a new temperature method or display mode asks for (R26, R177). A block that
leaves a combination over a budget which is over it already is accepted (DESIGN CHOICE, notes/assumptions/94). -/
def State.applyBlock (s : State) (p : Pipe) (group : Nat) (b : List Byte) : HostAnswer :=
  match parseBlock group b s.converts (s.pl p).pend with
  | none => answer s 2
  | some f =>
    let s' := s.accept p (fun st => { f st with biasKeep := keepBias group b s.now st.biasKeep })
    let code := if group ≤ 1 then s'.budgetCode s'.pendingLoads else 0
    let old := if group ≤ 1 then s.budgetCode s.pendingLoads else 0
    if code ≠ 0 && old = 0 then answer s code
    else answerOk s' (s'.applyOf p)

/-- PARAM_SET (R211). -/
def State.cmdParamSet (s : State) (h : Word) (r : Role) (pipe : Byte) (group length : Nat) (addr : BitVec 64)
    (block : Option (List Byte)) : HostAnswer :=
  match pipeOfByte pipe, groupLength group with
  | some p, some n =>
    if n ≠ length then answer s 2
    else if s.pa.pend.compat && 2 < group then answer s 9
    else
      let status := if 7 ≤ group then s.groupStatus p r group else if s.notPrimary p h then 6 else 0
      if status ≠ 0 then answer s status
      else match block with
        | none => answerDma s addr
        | some b => s.applyBlock p group (takeBytes n b)
  | none, _ => answer s 2
  | _, none => answer s 2

/-- SERVICE_ENABLE (R187): a product-set change under R168 and R177. -/
def State.cmdServiceEnable (s : State) (h : Word) (pipe : Byte) (mask : Nat) : HostAnswer :=
  match pipeOfByte pipe with
  | none => answer s 2
  | some p =>
    let s' := s.accept p (fun st => { st with services := mask })
    let code := s'.budgetCode s'.pendingLoads
    if 3 < mask then answer s 2
    else if s.notPrimary p h then answer s 6
    else if code = 0 then answerOk s' (s'.applyOf p)
    else match s'.overrule p (s'.cams p) code with
      | .ok s'' => answerOk s'' (s''.applyOf p)
      | .error e => answer s e

/-- SHUTTER_GRANT (R117). -/
def State.cmdShutterGrant (s : State) (h : Word) (pipe : Byte) (force start length : Nat) : HostAnswer :=
  match pipeOfByte pipe with
  | none => answer s 2
  | some p =>
    if 1 < force || 60000 < start || length < 100 || 10000 < length then answer s 2
    else if s.notPrimary p h then answer s 6
    else if force = 1 && s.mode ≠ .calibration then answer s 3
    else
      let g : Grant := ⟨s.now + start * ms, s.now + (start + length) * ms, force = 1⟩
      let s := s.modPl p (fun x => { x with grant := some g })
      answerOk s (s.applyOf p)

/-- SHUTTER_POLICY (R118). -/
def State.cmdShutterPolicy (s : State) (h : Word) (pipe : Byte) (policy minInterval : Nat) : HostAnswer :=
  match pipeOfByte pipe with
  | none => answer s 2
  | some p =>
    if 2 < policy || minInterval < 20 || 240 < minInterval then answer s 2
    else if s.notPrimary p h then answer s 6
    else
      let s := s.accept p (fun st => { st with policy := policy, minInterval := minInterval })
      answerOk s (s.applyOf p)

/-- 1210 mode may be entered (R194). -/
def State.compatFits (s : State) : Bool :=
  !s.sup.pipeB && (s.cams .A).all (fun c => (c.normal ++ c.cool).all (fun k => decide (k ≤ 2))) &&
    s.pa.pend.services = 0 && s.pb.pend.services = 0

/-- COMPAT_SET (R194). -/
def State.cmdCompatSet (s : State) (enable : Nat) : HostAnswer :=
  if 1 < enable then answer s 2
  else if s.mode ≠ .standby then answer s 3
  else if enable = 1 && !s.compatFits then answer s 9
  else answer (s.accept .A (fun st => { st with compat := enable = 1 })) 0

/-! ## Staging (R221 to R224, R233) -/

/-- The role of a staging (R210). -/
def stageRole (kind : Nat) : Role := if kind = 0 then .calibration else .maintenance

/-- STAGE_BEGIN. -/
def State.cmdStageBegin (s : State) (h : Word) (r : Role) (kind total : Nat) : HostAnswer :=
  if 1 < kind || (if kind = 0 then 224 else 12) * 2 ^ 20 < total then answer s 2
  else if r ≠ stageRole kind then answer s 5
  else if s.hif.staging.isSome then answer s 16
  else answer { s with hif := { s.hif with staging := some ⟨kind, total, 0, [], h⟩ } } 0

/-- A staging command is refused: none begun, another session's, the role (R210, R221). -/
def State.stageStatus (s : State) (h : Word) (r : Role) : Nat :=
  match s.hif.staging with
  | none => 16
  | some g => if g.session ≠ h then 16 else if r ≠ stageRole g.kind then 5 else 0

/-- A byte of BAR 2: the byte last written; undefined since module reset where there is none (R198). -/
def State.bar2Byte (s : State) (a : Nat) : Byte := (SMap.get none s.hif.bar2 a).getD (Config.bar2Byte s.hif.bar2Seed a)

/-- Bytes of BAR 2 from an offset on. -/
def State.bar2Bytes (s : State) (a n : Nat) : List Byte := (List.range n).map (fun k => s.bar2Byte (a + k))

/-- An access to BAR 2. -/
def State.bar2Op (s : State) (x : Bar2Op) : State :=
  match x with
  | .write a data =>
    let m := data.zipIdx.foldl (fun m b => SMap.put none m (a.toNat + b.2) (some b.1)) s.hif.bar2
    { s with hif := { s.hif with bar2 := m } }
  | .read a n => { s with hif := { s.hif with bar2Rdata := s.bar2Bytes a.toNat n } }

/-- Accesses to BAR 2 in their order. -/
def State.bar2Run (s : State) (l : List Bar2Op) : State := l.foldl State.bar2Op s

/-- STAGE_CHUNK. -/
def State.cmdStageChunk (s : State) (h : Word) (r : Role) (half length offset : Nat) : HostAnswer :=
  let e := s.stageStatus h r
  match s.hif.staging with
  | none => answer s e
  | some g =>
    if e ≠ 0 then answer s e
    else if 1 < half || 4194304 < length then answer s 2
    else if offset ≠ g.staged || g.total < offset + length then answer s 16
    else
      let g := { g with staged := g.staged + length, data := g.data.write offset (s.bar2Bytes (half * 0x400000) length) }
      answer { s with hif := { s.hif with staging := some g } } 0

/-- The bundle that pipeline A's frames will use. -/
def State.bundleInForce (s : State) : Nat := s.pa.inForce.bundle

/-- The BND half that is not in force is still held by frames in flight (R233). -/
def State.halfHeld (s : State) : Bool := s.pa.frames.any (fun f => f.st.bundle ≠ s.bundleInForce)

/-- Bundles that nothing uses any more leave. -/
def State.dropBundles (s : State) : State :=
  let keep := s.pa.bundles ++ s.pb.bundles
  { s with sup := { s.sup with bundles := s.sup.bundles.filter (fun b => keep.contains b.1) } }.freeHalves

/-- A verified bundle accepted (R105, R223): the write to the boot store is logged (DESIGN CHOICE, notes/assumptions/45). -/
def State.acceptBundle (s : State) (b : Bundle) (persist : Bool) : State :=
  let s := (s.installBundle b).dropBundles
  if persist then ({ s with nv := { s.nv with persisted := some b } }).logCause 3 0 [0, b.id, 0] else s

/-- RESULT of STAGE_COMMIT for a bundle. -/
def State.bundleResult (s : State) (b : Bundle) : List Word := word b.id :: s.applyOf .A

/-- BUNDLE_INVALID with the section that breaks a rule. -/
def State.badBundle (s : State) (status section_ : Nat) : HostAnswer := answer (s.post0 0x0015 [word section_]) status

/-- STAGE_COMMIT of a bundle. -/
def State.commitBundle (s : State) (g : Staging) (persist sig ue : Bool) : HostAnswer :=
  if ue then s.badBundle 18 0
  else if !sig then s.badBundle 17 0
  else match parseBundle g.data g.total with
    | .error e => s.badBundle 18 e
    | .ok b =>
      if persist && 51 * 2 ^ 20 < storedBytes g.data g.total then answer s 2
      else
        if s.halfHeld then
          ⟨{ s with hif := { s.hif with waiting := some ⟨0#32, 0, persist, b⟩ } }, 0, [], none, true, false⟩
        else
          let s := ({ s with hif := { s.hif with staging := none } }).acceptBundle b persist
          answerOk s (s.bundleResult b)

/-- STAGE_COMMIT of a firmware image: to the inactive slot (R223, R375). -/
def State.commitFirmware (s : State) (g : Staging) (sig ue : Bool) : HostAnswer :=
  if ue then s.badBundle 18 0
  else if !sig then answer s 17
  else
    let (major, minor) := Config.imageVersion (g.data.bytes 0 (min g.total 4096))
    let q (i : Nat) : Nat := (s.nv.images.getD i ⟨false, 0, 0, 0, true, none⟩).seq
    let x : Image := ⟨true, major, minor, max (q 0) (q 1) + 1, false, some (g.total, g.data)⟩
    let v := word (at_ major 16 + minor)
    let s := { s with nv := { s.nv with images := s.nv.images.set (1 - s.sup.slot) x }, hif := { s.hif with staging := none } }
    answerOk (s.logCause 3 0 [1, v.toNat, 0]) [v]

/-- STAGE_COMMIT (R221, R223). -/
def State.cmdStageCommit (s : State) (h : Word) (r : Role) (persist : Nat) (sig : Bool) (mem : MemObs) : HostAnswer :=
  let e := s.stageStatus h r
  match s.hif.staging with
  | none => answer s e
  | some g =>
    if e ≠ 0 then answer s e
    else if 1 < persist then answer s 2
    else if g.staged ≠ g.total then answer s 16
    else
      let (s, silos) := s.memRun mem
      let ue := silos.contains 1
      if g.kind = 0 then s.commitBundle g (persist = 1) sig ue else s.commitFirmware g sig ue

/-- STAGE_ABORT. -/
def State.cmdStageAbort (s : State) (h : Word) (r : Role) : HostAnswer :=
  let e := s.stageStatus h r
  if e = 0 then answer { s with hif := { s.hif with staging := none } } 0 else answer s e

/-- BUNDLE_HALF_FREED: the commit that waited is carried out and completed (R233). -/
def State.halfFreed (s : State) : State :=
  match s.hif.waiting with
  | none => s
  | some w =>
    if s.halfHeld then s
    else
      let s := ({ s with hif := { s.hif with waiting := none, staging := none } }).acceptBundle w.bundle w.persist
      s.complete w.tag 0x0062 0 w.index (s.bundleResult w.bundle)

/-! ## Ledger access -/

/-- The status of a ledger command, with the address of a failed read. -/
def ledgerAnswer (r : State × Nat) (addr : BitVec 64) : HostAnswer := if r.2 = 12 then answerDma r.1 addr else answer r.1 r.2

/-! ## One command (R210, R212, R386) -/

/-- A command is served in SAFE (R386). -/
def State.safeServes (s : State) (c : HostCmd) : Bool :=
  let firmware := decide (s.drm.init = 3)
  match c with
  | .nop | .identify | .sessionOpen .. | .sessionAuth .. | .sessionClose | .ledgerRead .. | .ledgerWrite .. => true
  | .modeSet m => m = 1 || m = 7
  | .stageBegin k _ => firmware && decide (k ≠ 0)
  | .stageChunk .. | .stageCommit .. | .stageAbort => firmware && (match s.hif.staging with
      | some g => decide (g.kind ≠ 0)
      | none => true)
  | _ => false

/-- A command whose header, session and mode have been checked. -/
def State.runCmd (s : State) (h : Word) (r : Role) (c : HostCmd) : HostAnswer :=
  match c with
  | .nop => answer s 0
  | .identify => s.cmdIdentify
  | .sessionOpen role handle nonce => s.cmdSessionOpen role handle nonce
  | .sessionAuth handle mac => s.cmdSessionAuth handle mac
  | .sessionClose => s.cmdSessionClose h
  | .modeSet m => s.cmdModeSet r m
  | .latencySet us => answer (s.latencySet us) 0
  | .cameraBind p => s.cmdCameraBind h p
  | .cameraUnbind id => s.cmdCameraUnbind h id
  | .productSet id dest cool => s.cmdProductSet h id dest cool
  | .pipeBSet en fr => s.cmdPipeBSet h en fr
  | .siloSet p n => s.cmdSiloSet p n
  | .paramSet p g n a b => s.cmdParamSet h r p g n a b
  | .serviceEnable p m => s.cmdServiceEnable h p m
  | .shutterGrant p f st n => s.cmdShutterGrant h p f st n
  | .shutterPolicy p x m => s.cmdShutterPolicy h p x m
  | .actPulse ch par n => s.cmdActPulse ch par n
  | .stageBegin k n => s.cmdStageBegin h r k n
  | .stageChunk half n o => s.cmdStageChunk h r half n o
  | .stageCommit p sig mem => s.cmdStageCommit h r p sig mem
  | .stageAbort => s.cmdStageAbort h r
  | .compatSet e => s.cmdCompatSet e
  | .ledgerRead o n a b => ledgerAnswer (s.ledgerRead o n a b) a
  | .ledgerWrite o n a b => ledgerAnswer (s.ledgerWrite (r = .maintenance) o n a b) a

/-- The checks that come before a command's own, in this order (DEDUCED, notes/assumptions/46): opcode, reserved fields,
session, SAFE, 1210 mode. -/
def State.serve (s : State) (f : Fetched) : HostAnswer :=
  match f.cmd with
  | none => answer s 1
  | some c =>
    if f.rsv then answer s 2
    else
      let x := s.sessionOf f.session
      if c.needsSession && x.isNone then answer s 4
      else if s.mode = .safe && !s.safeServes c then answer s 3
      else if s.pa.pend.compat && c.outside1210 then answer s 9
      else s.runCmd f.session ((x.map Session.role).getD .operator) c

/-! ## Fetching (R203, R213, R228, R368, R378) -/

/-- The module may fetch: a mode and a boot that serve commands, a host, a command in ring 0, a free entry in ring 1, no
commit that waits. -/
def State.mayFetch (s : State) : Bool :=
  s.live && decide (s.mode ≠ .boot) && (decide (s.mode ≠ .safe) || decide (3 ≤ s.sup.step)) && !s.absent &&
    s.hif.waiting.isNone && (s.ring 0).enable && decide ((s.ring 0).head ≠ (s.ring 0).tail) && (s.ring 1).enable &&
    decide (1 ≤ (s.ring 1).free)

/-- A failed read reported through AER, and DMA_ERROR on ring 0 (R209, R228). -/
def State.dmaError (s : State) (pos : Nat) (addr : BitVec 64) : State :=
  (({ s with hif := { s.hif with aer := addr :: s.hif.aer } }).modRing 0 (fun r => { r with dmaErr := true })).post0 0x0005
    [0#32, word pos, word addr.toNat, word (addr.toNat / 2 ^ 32)]

/-- The next position of ring 0 is taken. -/
def State.takeCmd (s : State) : State := s.modRing 0 (fun r => { r with head := (r.head + 1) % r.len })

/-- The completion of a command, after its events (R213, R216). -/
def State.finish (a : HostAnswer) (f : Fetched) (pos : Nat) : State :=
  if a.waits then
    { a.s with hif := { a.s.hif with waiting := a.s.hif.waiting.map (fun w => { w with tag := f.tag, index := pos }) } }
  else
    let s := match a.dma with
      | some addr => a.s.dmaError pos addr
      | none => a.s
    let s := s.complete f.tag f.opcode a.status pos a.result
    if a.reset then s.resetBy .host s.sup.clksel else s

/-- A command that needs the module awake is held until the wake is over (R368). -/
def State.asleep (s : State) : Bool := decide (0 < s.thm.depth) || s.thm.waking.isSome

/-- The next command of ring 0. -/
def State.fetch (s : State) (f : Fetched) : State :=
  let wakes := match f.cmd with
    | some c => c.wakes
    | none => opcodeWakes f.opcode 0
  if !s.mayFetch then s
  else if wakes && s.asleep then s.startWake 0
  else
    let pos := (s.ring 0).head
    let s := s.takeCmd
    State.finish (s.serve f) f pos

/-- The descriptor could not be read. -/
def State.fetchFailed (s : State) : State :=
  if !s.mayFetch then s
  else
    let r := s.ring 0
    let pos := r.head
    let addr := (r.baseHi ++ r.baseLo) + BitVec.ofNat 64 (64 * pos)
    (s.takeCmd.dmaError pos addr).complete 0#32 0 12 pos []

/-! ## Commands -/

/-- COMMAND_FETCH (R203). -/
def execCommandFetch (dt : Nat) (desc : Option (List Byte)) (inp : HostInput) (s : State) : Host.Outcome State Fault Refusal :=
  .next (s.run dt (fun s => match desc with
    | some d => (s.bar2Run inp.bar2).fetch (parseDesc d inp)
    | none => (s.bar2Run inp.bar2).fetchFailed))

/-- NOP (R210), fetched from ring 0. -/
def execNop (dt : Nat) (h : Hdr) (s : State) : Host.Outcome State Fault Refusal :=
  .next (s.run dt (fun s => s.fetch (Fetched.of h .nop)))

/-- IDENTIFY (R210), fetched from ring 0. -/
def execIdentify (dt : Nat) (h : Hdr) (s : State) : Host.Outcome State Fault Refusal :=
  .next (s.run dt (fun s => s.fetch (Fetched.of h .identify)))

/-- SESSION_OPEN (R218), fetched from ring 0. -/
def execSessionOpen (dt : Nat) (h : Hdr) (role : Byte) (handle : Word) (nonce : BitVec 128)
    (s : State) : Host.Outcome State Fault Refusal :=
  .next (s.run dt (fun s => s.fetch (Fetched.of h (.sessionOpen role.toNat handle nonce))))

/-- SESSION_AUTH (R218), fetched from ring 0. -/
def execSessionAuth (dt : Nat) (h : Hdr) (handle : Word) (mac : List Byte) (s : State) : Host.Outcome State Fault Refusal :=
  .next (s.run dt (fun s => s.fetch (Fetched.of h (.sessionAuth handle mac))))

/-- SESSION_CLOSE (R220), fetched from ring 0. -/
def execSessionClose (dt : Nat) (h : Hdr) (s : State) : Host.Outcome State Fault Refusal :=
  .next (s.run dt (fun s => s.fetch (Fetched.of h .sessionClose)))

/-- MODE_SET (R381), fetched from ring 0. -/
def execModeSet (dt : Nat) (h : Hdr) (mode : Byte) (s : State) : Host.Outcome State Fault Refusal :=
  .next (s.run dt (fun s => s.fetch (Fetched.of h (.modeSet mode.toNat))))

/-- LATENCY_SET (R366), fetched from ring 0. -/
def execLatencySet (dt : Nat) (h : Hdr) (wakeUs : Word) (s : State) : Host.Outcome State Fault Refusal :=
  .next (s.run dt (fun s => s.fetch (Fetched.of h (.latencySet wakeUs.toNat))))

/-- CAMERA_BIND (R166), fetched from ring 0. -/
def execCameraBind (dt : Nat) (h : Hdr) (pipe : Byte) (s : State) : Host.Outcome State Fault Refusal :=
  .next (s.run dt (fun s => s.fetch (Fetched.of h (.cameraBind pipe))))

/-- CAMERA_UNBIND (R166), fetched from ring 0. -/
def execCameraUnbind (dt : Nat) (h : Hdr) (cam : Byte) (s : State) : Host.Outcome State Fault Refusal :=
  .next (s.run dt (fun s => s.fetch (Fetched.of h (.cameraUnbind cam.toNat))))

/-- PRODUCT_SET (R168), fetched from ring 0. -/
def execProductSet (dt : Nat) (h : Hdr) (cam : Byte) (dest : List Byte) (cool : BitVec 16)
    (s : State) : Host.Outcome State Fault Refusal :=
  .next (s.run dt (fun s => s.fetch (Fetched.of h (.productSet cam.toNat ((List.range 10).map (fun i => (dest.getD i 0#8).toNat)) cool.toNat))))

/-- PIPE_B_SET (R173), fetched from ring 0. -/
def execPipeBSet (dt : Nat) (h : Hdr) (enable frate : Byte) (s : State) : Host.Outcome State Fault Refusal :=
  .next (s.run dt (fun s => s.fetch (Fetched.of h (.pipeBSet enable.toNat frate.toNat))))

/-- SILO_SET (R233), fetched from ring 0. -/
def execSiloSet (dt : Nat) (h : Hdr) (pipe frames : Byte) (s : State) : Host.Outcome State Fault Refusal :=
  .next (s.run dt (fun s => s.fetch (Fetched.of h (.siloSet pipe frames.toNat))))

/-- PARAM_SET (R211), fetched from ring 0. -/
def execParamSet (dt : Nat) (h : Hdr) (pipe group : Byte) (length : BitVec 16) (addr : BitVec 64) (block : Option (List Byte))
    (s : State) : Host.Outcome State Fault Refusal :=
  .next (s.run dt (fun s => s.fetch (Fetched.of h (.paramSet pipe group.toNat length.toNat addr block))))

/-- SERVICE_ENABLE (R187), fetched from ring 0. -/
def execServiceEnable (dt : Nat) (h : Hdr) (pipe mask : Byte) (s : State) : Host.Outcome State Fault Refusal :=
  .next (s.run dt (fun s => s.fetch (Fetched.of h (.serviceEnable pipe mask.toNat))))

/-- SHUTTER_GRANT (R117), fetched from ring 0. -/
def execShutterGrant (dt : Nat) (h : Hdr) (pipe force : Byte) (start length : Word)
    (s : State) : Host.Outcome State Fault Refusal :=
  .next (s.run dt (fun s => s.fetch (Fetched.of h (.shutterGrant pipe force.toNat start.toNat length.toNat))))

/-- SHUTTER_POLICY (R118), fetched from ring 0. -/
def execShutterPolicy (dt : Nat) (h : Hdr) (pipe policy : Byte) (minInterval : BitVec 16)
    (s : State) : Host.Outcome State Fault Refusal :=
  .next (s.run dt (fun s => s.fetch (Fetched.of h (.shutterPolicy pipe policy.toNat minInterval.toNat))))

/-- ACT_PULSE (R270), fetched from ring 0. -/
def execActPulse (dt : Nat) (h : Hdr) (channel parallel : Byte) (length : BitVec 16)
    (s : State) : Host.Outcome State Fault Refusal :=
  .next (s.run dt (fun s => s.fetch (Fetched.of h (.actPulse channel.toNat parallel.toNat length.toNat))))

/-- STAGE_BEGIN (R221), fetched from ring 0. -/
def execStageBegin (dt : Nat) (h : Hdr) (kind : Byte) (total : Word) (s : State) : Host.Outcome State Fault Refusal :=
  .next (s.run dt (fun s => s.fetch (Fetched.of h (.stageBegin kind.toNat total.toNat))))

/-- STAGE_CHUNK (R221), fetched from ring 0. -/
def execStageChunk (dt : Nat) (h : Hdr) (half : Byte) (length offset : Word) (bar2 : List Bar2Op)
    (s : State) : Host.Outcome State Fault Refusal :=
  .next (s.run dt (fun s => (s.bar2Run bar2).fetch (Fetched.of h (.stageChunk half.toNat length.toNat offset.toNat))))

/-- STAGE_COMMIT (R223), fetched from ring 0. -/
def execStageCommit (dt : Nat) (h : Hdr) (persist : Byte) (sig : Bool) (mem : MemObs) (s : State) : Host.Outcome State Fault Refusal :=
  .next (s.run dt (fun s => s.fetch (Fetched.of h (.stageCommit persist.toNat sig mem))))

/-- STAGE_ABORT (R221), fetched from ring 0. -/
def execStageAbort (dt : Nat) (h : Hdr) (s : State) : Host.Outcome State Fault Refusal :=
  .next (s.run dt (fun s => s.fetch (Fetched.of h .stageAbort)))

/-- COMPAT_SET (R194), fetched from ring 0. -/
def execCompatSet (dt : Nat) (h : Hdr) (enable : Byte) (s : State) : Host.Outcome State Fault Refusal :=
  .next (s.run dt (fun s => s.fetch (Fetched.of h (.compatSet enable.toNat))))

/-- LEDGER_READ (R350), fetched from ring 0. -/
def execLedgerRead (dt : Nat) (h : Hdr) (offset length : Word) (addr : BitVec 64) (block : Option (List Byte))
    (s : State) : Host.Outcome State Fault Refusal :=
  .next (s.run dt (fun s => s.fetch (Fetched.of h (.ledgerRead offset.toNat length.toNat addr block))))

/-- LEDGER_WRITE (R350), fetched from ring 0. -/
def execLedgerWrite (dt : Nat) (h : Hdr) (offset length : Word) (addr : BitVec 64) (block : Option (List Byte))
    (s : State) : Host.Outcome State Fault Refusal :=
  .next (s.run dt (fun s => s.fetch (Fetched.of h (.ledgerWrite offset.toNat length.toNat addr block))))

/-- NONCE_EXPIRY (R218). -/
def execNonceExpiry (dt : Nat) (slot : Fin 4) (s : State) : Host.Outcome State Fault Refusal :=
  .next (s.run dt (fun s => s.nonceExpiry slot.val))

/-- BUNDLE_HALF_FREED (R233). -/
def execBundleHalfFreed (dt : Nat) (s : State) : Host.Outcome State Fault Refusal := .next (s.run dt (fun s => s.halfFreed))

end Sys2Proof.Machine
end

