-- ==== Sys2Proof/Machine/Saf.lean ====
section
/-! DEFINITION. Functional safety and the SPI safety channel (14): the SAF mirror, the monitors, the injection tests, the
frames of the channel, the safety session and its watchdog. -/
namespace Sys2Proof.Machine

/-! ## Status and warnings (R309, R311, R316) -/

/-- The pulse of 10 µs of test 6 or 7 (R320). -/
def State.testPulse (s : State) (n : Nat) : Bool :=
  s.saf.testResult = 3 && decide (s.saf.test = n) && decide (s.now < s.saf.testAt + 10 * us)

/-- SAFE_N is released. -/
def State.safeHigh (s : State) : Bool := s.saf.safeN && !s.testPulse 6

/-- ERR_N is driven low: while SAFE_N is low, which takes in the pulse of test 6, or a warning bit is set (R316). -/
def State.errLow (s : State) : Bool := !s.safeHigh || decide (s.saf.warn ≠ 0) || s.testPulse 7

/-- The watchdog reads ARMED (R332). -/
def State.armed (s : State) : Bool := decide (s.saf.wdState = 1)

/-- BYPASS of a front pipe (R106). -/
def Settings.bypass (st : Settings) : Nat := fld st.fp 7 4

/-- CLAIM (R309). -/
def State.claim_ (s : State) : Bool :=
  s.mode = .imaging && s.saf.sessOpen && s.armed && decide (s.pa.pend.bypass = 0) && decide (s.pb.pend.bypass = 0)

/-- The latest frame of a pipeline whose pour deadline has passed: the marker after the next one passes it, or with no frame read any
more the instant at which that would have fallen (R30; notes/assumptions/28). -/
def Pl.pastFrame (x : Pl) (now : Nat) : Nat :=
  let k := if x.reading then 0xfffffffd else if x.dead.2 ≤ now then 0xffffffff else if x.dead.1 ≤ now then 0xfffffffe else 0xfffffffd
  (x.frameNo + k) % 2 ^ 32

/-- The counted faults among the 16 most recent frames of a pipeline whose deadline has passed (R312). -/
def Pl.recentCount (x : Pl) (now : Nat) (l : List Nat) : Nat := (countWindow l (x.pastFrame now)).length

/-- Anomalous frames of the last second (R326). -/
def State.anomalous (s : State) : Nat := (s.saf.anomalies.filter (fun t => decide (s.now < t + sec))).length

/-- The condition of a warning bit still holds (R311). -/
def State.warnHolds (s : State) (b : Nat) : Bool :=
  match b with
  | 0 => decide (3 ≤ s.pa.fails) || decide (3 ≤ s.pb.fails)
  | 2 => s.eng.sheaves.any (fun x => x.st = .failed)
  | 5 => (List.range 2).any (fun i => bit s.act.sense (2 * i) && (s.act.inputs.getD i ⟨none, [], none⟩).faultAt.isSome)
  | 6 => s.act.chans.any (fun c => c.hot)
  | 7 => decide (3 ≤ s.pb.recentCount s.now s.pb.refWin)
  | 8 => !s.saf.pouredSinceStall
  | 9 => !s.saf.testFail.isEmpty
  | 10 => s.saf.mismatch
  | 11 => decide (8 ≤ s.anomalous)
  | 12 => s.thm.warn
  | _ => false

/-- CLEAR_WARN: the bits of a mask whose condition no longer holds are cleared. -/
def State.clearWarn (s : State) (mask : Word) : State :=
  let keep (b : Nat) : Bool := decide (s.saf.warn / 2 ^ b % 2 = 1) && !(bit mask b && !s.warnHolds b)
  { s with saf := { s.saf with warn := ((List.range 14).map (fun b => flag (keep b) b)).sum } }

/-! ## The SAF mirror (R336) -/

/-- The safety supervisor has started (R376). -/
def State.supervised (s : State) : Bool := s.mode ≠ .boot || decide (1 ≤ s.sup.step)

/-- A SAF register. Before the supervisor has started, ERR reads its reset value (DEDUCED, notes/assumptions/110). -/
def State.safReg (s : State) (off : Nat) : Word :=
  let f := s.saf
  let sat32 (v : Nat) : Word := word (min v 0xffffffff)
  match off with
  | 0x000 => word (flag f.safeNPin 8 + flag s.claim_ 7 + flag f.sessOpen 6 + flag s.armed 5 + flag (s.supervised && s.errLow) 4 +
      flag (decide (s.mode = .safe)) 3 + modeNum s.mode)
  | 0x004 => word (at_ f.count 16 + at_ f.second 8 + f.first)
  | 0x008 => f.time
  | 0x00c => word f.warn
  | 0x010 => word (at_ (s.pb.recentCount s.now s.pb.checkWin) 8 + s.pa.recentCount s.now s.pa.checkWin)
  | 0x014 => word f.pourA
  | 0x018 => word f.pourB
  | 0x01c => word (at_ f.wdN 16 + at_ f.wdState 14 + (if f.wdState = 0 then 0 else min 16383 ((s.now - f.wdTime) / 1250)))
  | 0x020 => word (at_ f.crcErr 24 + at_ f.frameErr 16 + at_ f.seqErr 8 + f.discard)
  | 0x024 => word (at_ f.test 8 + f.testResult)
  | 0x028 => word (min 65535 (s.lockLeft 3))
  | 0x02c => s.nv.serial.truncate 32
  | 0x030 => (s.nv.serial >>> 32).truncate 32
  | 0x040 => if s.sup.ledgerReady then sat32 (s.tally 0).value else 0#32
  | 0x044 => if s.sup.ledgerReady then sat32 (s.tally 1).value else 0#32
  | 0x048 => if s.sup.ledgerReady then sat32 (s.tally 2).value else 0#32
  | 0x04c => if s.sup.ledgerReady then sat32 (s.tally 3).value else 0#32
  | _ => 0#32

/-! ## Monitors and tests (R36, R310, R314, R316, R320) -/

/-- A monitor of the safety supervisor flags its fault; with an injection armed it answers that, and nothing follows (R320). -/
def State.monitor (s : State) (bad : Bool) (id test : Nat) : State :=
  if s.injecting test then s.injected test bad else if bad && s.supervised then s.fault id else s

/-- The pins read back: bit 10 where a level differs from the driven one; in the pulse of test 6 or 7 the level is its answer. -/
def State.readback (s : State) (safeN errN : Bool) : State :=
  let bad := decide (safeN ≠ s.safeHigh) || decide (errN = s.errLow)
  let s := if s.testPulse 6 then s.injected 6 (!safeN) else if s.testPulse 7 then s.injected 7 (!errN) else s
  let s := { s with saf := { s.saf with safeNPin := safeN, errNPin := errN, mismatch := bad } }
  if bad then s.warnBit 10 else s

/-- How long a test may take (R320): 1 ms, or for the next conversion 4.5 ms. -/
def testTime (n : Nat) : Nat := if n = 3 || n = 4 then 4500 * us else ms

/-- How often the supervisor repeats a test by itself (R314). -/
def testPeriod (n : Nat) : Nat := if n ≤ 2 then sec else 60 * sec

/-- LATENT_TEST: a test 1 to 4 that is due begins, test 3 only with the bias on for 1 ms; one that has run for its time with nothing
flagged has failed (R314). -/
def State.latentTest (s : State) (n : Nat) : State :=
  let bias := match s.pcv.biasOn with
    | some t => decide (t + ms ≤ s.now)
    | none => false
  let at_ := s.saf.ran.getD n 0
  if s.mode = .boot || n = 0 then s
  else if s.saf.sched.contains n then
    if at_ + testTime n ≤ s.now then s.injected n false else s
  else if decide (s.now < at_ + testPeriod n) || (n = 3 && !bias) then s
  else { s with saf := { s.saf with sched := n :: s.saf.sched, ran := s.saf.ran.set n s.now } }

/-- Pipeline A pours: it reads, in a mode with products, and no hold is on (R320). -/
def State.poursA (s : State) : Bool := s.pa.reading && decide (s.mode ≠ .relay) && !s.held s.now

/-- The status of a TEST request (R320): 0 OK, 3 BAD_ARG, 11 MODE. -/
def State.testStatus (s : State) (n : Nat) : Nat :=
  if !(s.mode = .standby || isRunning s.mode) then 11
  else if n = 0 || decide (7 < n) || s.saf.testResult = 3 then 3
  else if (n = 3 && s.pcv.biasOn.isNone) || (n = 5 && !s.poursA) then 11
  else 0

/-- A test starts: its injection is armed. -/
def State.startInjection (s : State) (n : Nat) : State :=
  { s with saf := { s.saf with test := n, testResult := 3, testAt := s.now, flagged := none, test5 := s.saf.test5 || decide (n = 5) } }

/-- The running test is over: its target has answered the injection, or its time has run out; for test 5 the frame that was to fail has
left, or none comes. -/
def State.testOver (s : State) : Bool :=
  s.saf.flagged.isSome ||
    (if s.saf.test = 5 then
      if s.saf.test5 then !s.pa.reading && !s.pa.armed else !s.pa.frames.any (fun f => f.test5)
    else decide (s.saf.testAt + testTime s.saf.test ≤ s.now))

/-- SAFETY_TEST: the test that runs is over, and has passed where its target flagged the injection. -/
def State.safetyTest (s : State) : State :=
  if s.saf.testResult ≠ 3 || !s.testOver then s
  else
    let n := s.saf.test
    let pass := decide (s.saf.flagged = some true)
    let r := if pass then 1 else 2
    let s := { s with saf := { s.saf with testResult := r, test5 := if n = 5 then false else s.saf.test5 } }
    (s.post0 0x00c3 [word n, word r]).testRan n pass

/-! ## Frames of the channel (R321 to R327) -/

/-- The number of a select. -/
def selNum : Sel → Nat
  | .safe => 0
  | .maint => 1

/-- A select. -/
def State.port (s : State) (i : Nat) : SpiPort := s.saf.ports.getD i SpiPort.reset

/-- A select changed. -/
def State.modPort (s : State) (i : Nat) (f : SpiPort → SpiPort) : State :=
  { s with saf := { s.saf with ports := modAt s.saf.ports i f } }

/-- The channel is ready (R321). -/
def State.spiReady (s : State) : Bool := decide (20 * ms ≤ s.now)

/-- The bytes of bits [63:8] of a frame, the most significant first. -/
def frameBytes (op : Nat) (arg : Nat) (mid : Nat) (data : Word) : List Byte :=
  [BitVec.ofNat 8 op, BitVec.ofNat 8 arg, BitVec.ofNat 8 mid] ++ (le 4 data.toNat).reverse

/-- The response word of an answer with its flags (R323). -/
def State.response (s : State) (a : Ans) : BitVec 64 :=
  let mid := a.seq % 16 * 16 + flag (decide (s.mode = .safe)) 3 + flag s.errLow 2 + flag s.armed 1 + flag s.saf.sessOpen 0
  let b := frameBytes a.op a.stat mid a.data
  BitVec.ofNat 64 (unle ((crc8 b) :: b.reverse))

/-- The answer that the next frame gives: FRAME_ERR after a frame in error (R326), else that of the previous valid frame. -/
def SpiPort.given (p : SpiPort) : Ans :=
  match p.err with
  | some bits => ⟨0, 5, 0, word bits⟩
  | none => p.ans

/-- The answer shifted out, with the flags at the falling edge of the select. -/
def State.shiftOut (s : State) (i : Nat) : State :=
  s.modPort i (fun p => { p with err := none, miso := s.response p.given })

/-- The answer of the next frame. -/
def State.answer (s : State) (i op stat seq : Nat) (data : Word) : State :=
  s.modPort i (fun p => { p with ans := ⟨op, stat, seq, data⟩ })

/-- An anomalous frame counts towards warning bit 11 (R311, R326). -/
def State.anomaly (s : State) : State :=
  let l := s.now :: s.saf.anomalies.filter (fun t => decide (s.now < t + sec))
  let s := { s with saf := { s.saf with anomalies := l } }
  if 8 ≤ l.length then s.warnBit 11 else s

/-- A frame error: the next answer is FRAME_ERR with the bits received (R326). -/
def State.frameBad (s : State) (i bits : Nat) : State := s.modPort i (fun p => { p with err := some (min bits 255) })

/-- A frame error counted. -/
def State.countFrameErr (s : State) : State :=
  ({ s with saf := { s.saf with frameErr := satInc s.saf.frameErr 1 255 } }).anomaly

/-- A frame with a number of bits other than 64. -/
def State.frameLength (s : State) (x : Sel) (bits : Nat) : State :=
  if !s.spiReady || bits = 64 then s else ((s.shiftOut (selNum x)).frameBad (selNum x) bits).countFrameErr

/-- A select low for more than 1 ms: the frame ends with the bits received by then. -/
def State.selectLow (s : State) (x : Sel) (bits : Nat) : State :=
  if !s.spiReady then s else ((s.shiftOut (selNum x)).frameBad (selNum x) bits).countFrameErr

/-- Both selects low at once: neither frame is accepted, nothing is shifted out, and one error is counted. -/
def State.bothLow (s : State) (b0 b1 : Nat) : State :=
  if !s.spiReady then s else ((s.frameBad 0 b0).frameBad 1 b1).countFrameErr

/-- The commands of the channel (R328). -/
def knownOps : List Nat := [0x00, 0x01, 0x10, 0x11, 0x12, 0x20, 0x21, 0x30, 0x31, 0x32, 0x40]

/-- The commands that need the open safety session. -/
def needsSession (op : Nat) : Bool := decide (0x20 ≤ op)

/-- What a command of the channel does: the state, and its answer unless it resets the module. -/
abbrev SpiBody := State → State × Option (Nat × Word)

/-- An accepted request: BAD_OP, DENIED on CS_MAINT_N (R329), BAD_ARG for reserved bits, NO_SESSION, or the command. -/
def State.spiServe (s : State) (q : SpiReq) (op : Nat) (body : SpiBody) : State :=
  let i := selNum q.sel
  let ans (s : State) (stat : Nat) (d : Word) : State := s.answer i op stat q.seq.toNat d
  if !knownOps.contains op then ans s 2 0#32
  else if i = 1 && decide (1 < op) then ans s 8 0#32
  else if q.rsv ≠ 0#4 then ans s 3 0#32
  else if needsSession op && !s.saf.sessOpen then ans s 7 0#32
  else match body s with
    | (s, some (stat, d)) => ans s stat d
    | (s, none) => s

/-- A frame of 64 bits (R323 to R327): the answer before is shifted out, CRC and SEQ are checked, the request is served. While
SESS_AUTH compares, CS_SAFE_N keeps its answer NOT_READY, and a request other than NOP is discarded (R325). -/
def State.spiFrame (s : State) (q : SpiReq) (op : Nat) (body : SpiBody) : State :=
  if !s.spiReady then s
  else
    let i := selNum q.sel
    let busy := i = 0 && s.saf.comparing.isSome
    let s := s.shiftOut i
    let ans (s : State) (stat : Nat) : State := if busy then s else s.answer i op stat q.seq.toNat 0#32
    let mid := q.seq.toNat * 16 + q.rsv.toNat
    if crc8 (frameBytes op q.arg.toNat mid q.data) ≠ q.crc then
      (ans { s with saf := { s.saf with crcErr := satInc s.saf.crcErr 1 255 } } 4).anomaly
    else if busy && op ≠ 0 then { s with saf := { s.saf with discard := satInc s.saf.discard 1 255 } }
    else
      let ok := match (s.port i).seq with
        | none => true
        | some r => decide (q.seq.toNat = (r + 1) % 16)
      let s := s.modPort i (fun p => { p with seq := some q.seq.toNat })
      if !ok then ans { s with saf := { s.saf with seqErr := satInc s.saf.seqErr 1 255 } } 6
      else if busy then s
      else s.spiServe q op body

/-! ## Session and watchdog (R330 to R334) -/

/-- The bytes of a 128-bit nonce. -/
def nonceBytes (n : BitVec 128) : List Byte := le 16 n.toNat

/-- SESS_OPEN. The SAFETY slot of a ledger not yet resolved counts as empty (DEDUCED, notes/assumptions/34). -/
def State.sessOpen (s : State) (nonce : BitVec 128) : State × Option (Nat × Word) :=
  let s := if s.sup.ledgerReady then s.readKey 3 else s
  let key := if s.sup.ledgerReady then s.keyOf 3 else []
  if key.isEmpty || s.saf.sessOpen then (s, some (8, 0#32))
  else if s.lockedOut 3 then (s, some (10, 0#32))
  else ({ s with saf := { s.saf with nonce := some ⟨nonce, s.now, key, []⟩, nonceBytes := nonce } }, some (0, 0#32))

/-- SESS_NONCE. -/
def State.sessNonce (s : State) (i : Nat) : State × Option (Nat × Word) :=
  if 3 < i then (s, some (3, 0#32)) else (s, some (0, (s.saf.nonceBytes >>> (32 * i)).truncate 32))

/-- The MAC of the safety session. -/
def State.safetyMac (s : State) (n : SafeNonce) : List Byte := hmac n.key (nonceBytes n.nonce ++ le 8 s.nv.serial.toNat)

/-- The session opens, and with it the watchdog. -/
def State.openSafety (s : State) (n : SafeNonce) (challenge : Word) : State :=
  let s := { s with saf := { s.saf with sessOpen := true, key := n.key, sessNonce := n.nonce, wdState := 1, wdN := 0,
                                        wdChal := challenge, wdTime := s.now, nonce := none } }
  (s.authSuccess 3).post0 0x00c2 [1#32, 0#32]

/-- The comparison of SESS_AUTH ends (R330): the session opens, or the failure counts; the answer replaces NOT_READY. -/
def State.sessCompare (s : State) (challenge : Word) : State :=
  match s.saf.comparing, s.saf.nonce with
  | some seq, some n =>
    let s := { s with saf := { s.saf with comparing := none } }
    if n.words.flatMap (fun w => le 4 w.toNat) = s.safetyMac n then (s.openSafety n challenge).answer 0 0x12 0 seq 0#32
    else
      let s := ({ s with saf := { s.saf with nonce := none } }).post0 0x00c2 [2#32, 0#32]
      (s.authFailure 3).answer 0 0x12 9 seq 0#32
  | _, _ => s

/-- SESS_AUTH: word 7 starts the comparison, which runs on (R325; notes/assumptions/35). -/
def State.sessAuth (s : State) (i seq : Nat) (d : Word) : State × Option (Nat × Word) :=
  if s.saf.sessOpen then (s, some (8, 0#32))
  else match s.saf.nonce with
    | none => (s, some (9, 0#32))
    | some n =>
      if n.at_ + sec < s.now then ({ s with saf := { s.saf with nonce := none } }, some (9, 0#32))
      else if 7 < i then (s, some (3, 0#32))
      else if i ≠ n.words.length then ({ s with saf := { s.saf with nonce := some { n with words := [] } } }, some (3, 0#32))
      else
        let s := { s with saf := { s.saf with nonce := some { n with words := n.words ++ [d] } } }
        if i < 7 then (s, some (0, 0#32)) else ({ s with saf := { s.saf with comparing := some seq } }, some (1, 0#32))

/-- WD_GET. -/
def State.wdGet (s : State) : State × Option (Nat × Word) :=
  if s.saf.wdState = 2 then (s, some (12, 0#32)) else (s, some (0, s.saf.wdChal))

/-- The answer to the current challenge (R333). -/
def State.wdExpected (s : State) : Word :=
  word (unle ((hmac s.saf.key (nonceBytes s.saf.sessNonce ++ le 4 s.saf.wdChal.toNat ++ le 2 s.saf.wdN)).take 4))

/-- A watchdog fault: FAILED until reset. -/
def State.wdFails (s : State) (id : Nat) : State := ({ s with saf := { s.saf with wdState := 2 } }).fault id

/-- WD_ANSWER: in the window of 10 to 20 ms after its challenge (R332, R334). -/
def State.wdAnswer (s : State) (d challenge : Word) : State × Option (Nat × Word) :=
  let t := s.saf.wdTime
  if s.saf.wdState = 2 then (s, some (12, 0#32))
  else if t + 20 * ms < s.now then (s.wdFails 16, some (12, 0#32))
  else if t + 10 * ms ≤ s.now && d = s.wdExpected then
    ({ s with saf := { s.saf with wdN := (s.saf.wdN + 1) % 65536, wdChal := challenge, wdTime := s.now } }, some (0, 0#32))
  else (s.wdFails 17, some (12, 0#32))

/-- WD_TIMEOUT: 20 ms after the challenge. -/
def State.wdTimeout (s : State) : State :=
  if s.armed && decide (s.saf.wdTime + 20 * ms ≤ s.now) then s.wdFails 16 else s

/-! ## The other commands of the channel -/

/-- REQ_SAFE. -/
def State.reqSafe (s : State) (d : Word) : State × Option (Nat × Word) :=
  if d = 0x00005a5a#32 then (s.fault 18, some (0, 0#32)) else (s, some (3, 0#32))

/-- REQ_RESET: the reset leaves no answer. -/
def State.reqReset (s : State) (d : Word) : State × Option (Nat × Word) :=
  if d = 0x0000a5a5#32 then (s.resetHold 3, none) else (s, some (3, 0#32))

/-- TEST. -/
def State.testRequest (s : State) (n : Nat) : State × Option (Nat × Word) :=
  match s.testStatus n with
  | 0 => (s.startInjection n, some (0, 3#32))
  | k => (s, some (k, 0#32))

/-! ## Commands -/

/-- CLOCK_CHECK (R36). -/
def execClockCheck (dt : Nat) (ok : Bool) (s : State) : Host.Outcome State Fault Refusal :=
  .next (s.run dt (fun s => s.monitor (!ok) 3 1))

/-- LOCKSTEP (R310). -/
def execLockstep (dt : Nat) (s : State) : Host.Outcome State Fault Refusal := .next (s.run dt (fun s => s.monitor true 5 2))

/-- HEARTBEAT (R310). -/
def execHeartbeat (dt : Nat) (s : State) : Host.Outcome State Fault Refusal := .next (s.run dt (fun s => s.monitor true 6 0))

/-- SAFE_N_READBACK (R316). -/
def execSafeNReadback (dt : Nat) (safeN errN : Bool) (s : State) : Host.Outcome State Fault Refusal :=
  .next (s.run dt (fun s => s.readback safeN errN))

/-- LATENT_TEST (R314). -/
def execLatentTest (dt : Nat) (test : Fin 5) (s : State) : Host.Outcome State Fault Refusal :=
  .next (s.run dt (fun s => s.latentTest test.val))

/-- SAFETY_TEST (R320). -/
def execSafetyTest (dt : Nat) (s : State) : Host.Outcome State Fault Refusal :=
  .next (s.run dt (fun s => s.safetyTest))

/-- SPI_NOP (R328). -/
def execSpiNop (dt : Nat) (q : SpiReq) (s : State) : Host.Outcome State Fault Refusal :=
  .next (s.run dt (fun s => s.spiFrame q 0x00 (fun s => (s, some (0, 0#32)))))

/-- READ (R328). -/
def execRead (dt : Nat) (q : SpiReq) (s : State) : Host.Outcome State Fault Refusal :=
  .next (s.run dt (fun s => s.spiFrame q 0x01 (fun s => (s, some (0, s.safReg (4 * q.arg.toNat))))))

/-- BAD_OP (R328): a request with no known OP. -/
def execBadOp (dt : Nat) (op : Byte) (q : SpiReq) (s : State) : Host.Outcome State Fault Refusal :=
  .next (s.run dt (fun s => if knownOps.contains op.toNat then s else s.spiFrame q op.toNat (fun s => (s, some (2, 0#32)))))

/-- SESS_OPEN (R330). -/
def execSessOpen (dt : Nat) (q : SpiReq) (nonce : BitVec 128) (s : State) : Host.Outcome State Fault Refusal :=
  .next (s.run dt (fun s => s.spiFrame q 0x10 (fun s => s.sessOpen nonce)))

/-- SESS_NONCE (R330). -/
def execSessNonce (dt : Nat) (q : SpiReq) (s : State) : Host.Outcome State Fault Refusal :=
  .next (s.run dt (fun s => s.spiFrame q 0x11 (fun s => s.sessNonce q.arg.toNat)))

/-- SESS_AUTH (R330). -/
def execSessAuth (dt : Nat) (step : AuthStep) (s : State) : Host.Outcome State Fault Refusal :=
  .next (s.run dt (fun s => match step with
    | .word q => s.spiFrame q 0x12 (fun s => s.sessAuth q.arg.toNat q.seq.toNat q.data)
    | .compared challenge => s.sessCompare challenge))

/-- WD_GET (R332). -/
def execWdGet (dt : Nat) (q : SpiReq) (s : State) : Host.Outcome State Fault Refusal :=
  .next (s.run dt (fun s => s.spiFrame q 0x20 (fun s => s.wdGet)))

/-- WD_ANSWER (R334). -/
def execWdAnswer (dt : Nat) (q : SpiReq) (challenge : Word) (s : State) : Host.Outcome State Fault Refusal :=
  .next (s.run dt (fun s => s.spiFrame q 0x21 (fun s => s.wdAnswer q.data challenge)))

/-- WD_TIMEOUT (R334). -/
def execWdTimeout (dt : Nat) (s : State) : Host.Outcome State Fault Refusal := .next (s.run dt (fun s => s.wdTimeout))

/-- CLEAR_WARN (R328). -/
def execClearWarn (dt : Nat) (q : SpiReq) (s : State) : Host.Outcome State Fault Refusal :=
  .next (s.run dt (fun s => s.spiFrame q 0x30 (fun s => (s.clearWarn q.data, some (0, word (s.clearWarn q.data).saf.warn)))))

/-- REQ_SAFE (R328). -/
def execReqSafe (dt : Nat) (q : SpiReq) (s : State) : Host.Outcome State Fault Refusal :=
  .next (s.run dt (fun s => s.spiFrame q 0x31 (fun s => s.reqSafe q.data)))

/-- REQ_RESET (R328). -/
def execReqReset (dt : Nat) (q : SpiReq) (s : State) : Host.Outcome State Fault Refusal :=
  .next (s.run dt (fun s => s.spiFrame q 0x32 (fun s => s.reqReset q.data)))

/-- TEST (R320). -/
def execTest (dt : Nat) (q : SpiReq) (s : State) : Host.Outcome State Fault Refusal :=
  .next (s.run dt (fun s => s.spiFrame q 0x40 (fun s => s.testRequest q.arg.toNat)))

/-- FRAME_ERR (R326). -/
def execFrameErr (dt : Nat) (sel : Sel) (bits : Nat) (s : State) : Host.Outcome State Fault Refusal :=
  .next (s.run dt (fun s => s.frameLength sel bits))

/-- SELECT_TIMEOUT (R326). -/
def execSelectTimeout (dt : Nat) (sel : Sel) (bits : Nat) (s : State) : Host.Outcome State Fault Refusal :=
  .next (s.run dt (fun s => s.selectLow sel bits))

/-- BOTH_SELECTS_LOW (R326). -/
def execBothSelectsLow (dt : Nat) (bitsSafe bitsMaint : Nat) (s : State) : Host.Outcome State Fault Refusal :=
  .next (s.run dt (fun s => s.bothLow bitsSafe bitsMaint))

end Sys2Proof.Machine
end

