-- ==== Sys2Proof/Machine/Flags.lean ====
section
/-! DEFINITION. What a read of BAR 0 returns (R197): the register tables of every block, each field computed from the state
it shows. Reserved bits and registers read 0 (R12), WO fields read 0 (R11). -/
namespace Sys2Proof.Machine

/-- The low `w` bits of a value placed at bit `lo`. -/
def put (v w lo : Nat) : Nat := v % 2 ^ w * 2 ^ lo

/-- Milliseconds left until an instant, rounded up. -/
def State.msLeft (s : State) (t : Nat) : Nat := (t - s.now + (ms - 1)) / ms

/-! ## SUP, CLK/PWR and THM (16, 17) -/

/-- A SUP register. -/
def State.supReg (s : State) (off : Nat) : Word :=
  let x := s.sup
  match off with
  | 0x000 => 0x2415#32
  | 0x004 => word (put x.major 16 16 + put x.minor 16 0)
  | 0x008 => word ((if x.trans then put (modeNum x.target) 3 8 + 2 ^ 7 else 0) + modeNum x.mode)
  | 0x00c => word (put x.slot 1 4 + put x.cause 4 0)
  | 0x010 => word (put (if x.settled then 0 else min 65535 (s.msLeft x.holdUntil)) 16 16 + put x.bundleSrc 2 12 +
      flag x.soLoaded 11 + flag x.fallback 10 + put x.failStep 4 4 + put x.step 4 0)
  | 0x014 => word x.bootMs
  | _ => 0#32

/-- The clock of the endpoint (R37). -/
def State.endpointClock (s : State) : EpClock := if s.sup.clksel then .refclkIn else .rootDiv40

/-- PCIE_REFCLK_OUT is driven, and not held low (R37); a module in OFF is held in reset and drives nothing (R379). -/
def State.refclkOut (s : State) : Bool := decide (s.mode ≠ .off) && !s.sup.clksel

/-- A CLK/PWR register. -/
def State.clkReg (s : State) (off : Nat) : Word :=
  match off with
  | 0x000 => word (flag s.sup.clksel 8 + flag s.sup.pwrGood 2 + flag s.sup.xtalOk 1 + flag s.sup.pllLock 0)
  | _ => 0#32

/-- The STATE code of a thermal state (THM_STATE). -/
def thStateNum : ThState → Nat
  | .normal => 0 | .grace => 1 | .enforced => 2 | .stopped => 3

/-- THM_SENSOR of sensor `i`. -/
def State.sensorReg (s : State) (i : Nat) : Word :=
  if s.thm.broken.getD i false then word (2 ^ 31 + 38400)
  else match s.thm.conv.getD i none with
    | some t => word (code t 24)
    | none => 0#32

/-- A THM register. -/
def State.thmReg (s : State) (off : Nat) : Word :=
  let x := s.thm
  match off with
  | 0x000 => x.ctrl
  | 0x004 => word (put (if x.state = .grace then s.msLeft x.graceEnd else 0) 16 16 +
      ((List.range 10).map (fun i => flag (x.broken.getD i false) i)).sum)
  | 0x008 => word (flag x.restartCool 7 + flag x.fast 6 + flag x.warn 5 + thStateNum x.state)
  | 0x00c => word (put x.sensor 4 28 + code x.sample 24)
  | 0x010 => word (put x.peakSensor 4 28 + code x.peak 24)
  | 0x014 => word (flag x.waking.isSome 7 + put (chosenDepth x.wakeUs) 3 4 + put x.depth 3 0)
  | 0x018 => word x.wakeUs
  | o => if 0x020 ≤ o && o < 0x048 then s.sensorReg ((o - 0x020) / 4) else 0#32

/-! ## HIF (R204) -/

/-- RING_CFG. -/
def Ring.cfgReg (r : Ring) : Word := word (flag r.enable 31 + put r.mod_ 10 16 + put r.vector 5 8 + put r.size 4 0)

/-- RING_ERR. -/
def Ring.errReg (r : Ring) : Word := word (flag r.cfgErr 3 + flag r.overflow 2 + flag r.dmaErr 1 + flag r.dbInvalid 0)

/-- A register of ring `x`. -/
def State.ringReg (s : State) (x o : Nat) : Word :=
  let r := s.ring x
  match o with
  | 0x00 => r.baseLo
  | 0x04 => r.baseHi
  | 0x08 => r.cfgReg
  | 0x0c => if x < 3 then 0#32 else r.stride
  | 0x10 => word (put r.head 16 0)
  | 0x14 => word (put r.tail 16 0)
  | 0x18 => r.errReg
  | _ => 0#32

/-- A word of the MSI-X table. -/
def State.msixReg (s : State) (v o : Nat) : Word :=
  match s.hif.vectors[v]?, o with
  | some x, 0 => x.addrLo
  | some x, 4 => x.addrHi
  | some x, 8 => x.data
  | some x, 12 => word (flag x.masked 0)
  | _, _ => 0#32

/-- The pending-bit array. -/
def State.pbaReg (s : State) : Word := word (s.hif.vectors.zipIdx.map (fun x => flag x.1.pending x.2)).sum

/-- A HIF register. -/
def State.hifReg (s : State) (off : Nat) : Word :=
  let h := s.hif
  if off = 0x000 then
    word ((if h.linkDown then 0 else put h.speed 4 16 + put h.width 4 8) +
      (h.sessions.zipIdx.map (fun x => match x.1 with | some y => flag y.auth x.2 | none => 0)).sum)
  else if off = 0x004 then
    word (put (min 65535 (max (s.lockLeft 0) (max (s.lockLeft 1) (s.lockLeft 2)))) 16 16 + flag (s.lockedOut 0) 0 +
      flag (s.lockedOut 1) 1 + flag (s.lockedOut 2) 2)
  else if off = 0x008 then word s.now
  else if off = 0x00c then word (s.now / 2 ^ 32)
  else if off = 0x010 then word h.evtLost
  else if 0x100 ≤ off && off < 0x3e0 then s.ringReg ((off - 0x100) / 32) (off % 32)
  else if 0x2000 ≤ off && off < 0x2200 then s.msixReg ((off - 0x2000) / 16) (off % 16)
  else if off = 0x3000 then s.pbaReg
  else 0#32

/-! ## PLT and CCH (02, 03) -/

/-- A PLT_TESTLVL register: levels `i` and `i + 1`. -/
def State.lvlReg (s : State) (i : Nat) : Word := word (put (s.plt.lvl.getD (i + 1) 0) 12 16 + put (s.plt.lvl.getD i 0) 12 0)

/-- A PLT register. -/
def State.pltReg (s : State) (off : Nat) : Word :=
  let x := s.plt
  match off with
  | 0x000 => x.exp
  | 0x004 => x.fsync
  | 0x00c => word (put x.result 4 4 + flag x.pending 1 + flag x.busy 0)
  | 0x010 => word x.applyFrame
  | 0x014 => x.activeExp
  | 0x018 => if s.pa.lastRead.isSome then word (s.pa.frameNo + 0xffffffff) else 0#32
  | 0x01c => word (put x.extra 16 16 + put (min x.missed 255) 8 8 + put x.fsyncState 2 0)
  | 0x020 => word x.period
  | 0x024 => word (put x.bias.2 12 16 + put x.bias.1 12 0)
  | 0x028 => s.lvlReg 0
  | 0x02c => s.lvlReg 2
  | 0x030 => s.lvlReg 4
  | 0x034 => s.lvlReg 6
  | _ => 0#32

/-- A value shown in an s16 field; one that the field cannot hold is shown as no rule says (Config.wide16). -/
def show16 (x : Int) : Nat := if x < -32768 || 32767 < x then (Config.wide16 x).toNat else code x 16

/-- The PHASE of a cycle (CCH_CH_STATE). -/
def phaseNum : CycPhase → Nat
  | .measure => 1 | .evaluate => 2 | .steep => 3 | .verify => 4 | .restore => 5 | .evaluate2 => 2

/-- The channel in the window: group, channel, whether it is the spare; none outside the groups or before the load. -/
def State.cchWindow (s : State) : Option (Nat × Nat × Bool) :=
  if s.cch.loaded && decide (fld s.cch.sel 22 16 ≤ 64) then some (fld s.cch.sel 22 16, fld s.cch.sel 4 0, bit s.cch.sel 5) else none

/-- PHASE of a primary channel (DEDUCED, notes/assumptions/48). -/
def State.chanPhase (s : State) (g j : Nat) : Nat :=
  let y := s.grp g
  if y.perm = some j then 6
  else if y.failed then 7
  else match y.cycle with
    | some c => if c.chan = j then phaseNum c.phase else 0
    | none => 0

/-- CCH_CH_STATE, CCH_CH_ERR and CCH_CH_TRIM. -/
def State.windowRegs (s : State) : Word × Word × Word :=
  match s.cchWindow with
  | none => (0#32, 0#32, 0#32)
  | some (g, _, true) =>
    let y := s.grp g
    (word (put (if y.failed then 7 else 0) 4 28), word (put (show16 y.lastErr.1) 16 16 + put (show16 y.lastErr.2) 16 0),
      word (put (code y.spare.ofs 9) 9 16 + put (code y.spare.gain 8) 8 0))
  | some (g, j, false) =>
    let c := s.chan g j
    (word (put (s.chanPhase g j) 4 28 + put c.trim.fails 4 24 + put (min c.rejects 255) 8 16 +
        put (if c.quality < 65536 then c.quality else (Config.wide16 c.quality).toNat) 16 0),
      word (put (show16 c.ofsErr) 16 16 + put (show16 c.gainErr) 16 0),
      word (put (code c.trim.ofs 9) 9 16 + put (code c.trim.gain 8) 8 0))

/-- T_i of CCH_TSET: that of the bundle in force, 0 until the load and while no bundle is in force (DESIGN CHOICE,
notes/assumptions/93). -/
def State.setPoint (s : State) (i : Nat) : Nat :=
  match s.bundleOf s.pa.inForce with
  | some b => if s.cch.loaded then code (b.cch.tSet.getD i 0) 16 else 0
  | none => 0

/-- Word `i` of CCH_PERM. -/
def State.permReg (s : State) (i : Nat) : Word :=
  word ((List.range 32).map (fun b => flag (decide (32 * i + b < 65) && (s.grp (32 * i + b)).perm.isSome) b)).sum

/-- A CCH register. -/
def State.cchReg (s : State) (off : Nat) : Word :=
  match off with
  | 0x000 => s.pa.pend.cchCtrl
  | 0x004 => s.pa.pend.cchLimits
  | 0x008 =>
    let gs := (List.range 65).map s.grp
    word (put (gs.filter (fun x => x.cycle.isSome)).length 8 24 + put s.substitutions.1 8 16 + put s.substitutions.2 8 8 +
      put (gs.filter Group.failed).length 8 0)
  | 0x010 => s.cch.sel
  | 0x014 => s.windowRegs.1
  | 0x018 => s.windowRegs.2.1
  | 0x01c => s.windowRegs.2.2
  | 0x020 => s.permReg 0
  | 0x024 => s.permReg 1
  | 0x028 => s.permReg 2
  | 0x02c => word s.cch.commits
  | 0x030 => word (put (min s.cch.failures 65535) 16 16 + put (min s.cch.rejections 65535) 16 0)
  | 0x034 => word (put (s.setPoint 1) 16 16 + put (s.setPoint 0) 16 0)
  | 0x038 => word (put (s.setPoint 2) 16 0)
  | _ => 0#32

/-! ## FPA, FPB, PCV (04, 11) -/

/-- A front-pipe register. -/
def Pl.fpReg (x : Pl) (off : Nat) : Word :=
  let r := x.regs
  match off with
  | 0x000 => x.pend.fp
  | 0x004 => word (put r.setA 3 20 + put r.w 17 0)
  | 0x008 => word (code r.ptemp 16)
  | 0x00c => word r.frame
  | 0x010 => r.refchk
  | 0x014 => word r.refFrame
  | 0x018 => word r.refCnt
  | 0x01c => r.winnow
  | 0x020 => word (code r.blind 32)
  | 0x024 => word (put r.soGen 16 0)
  | 0x028 => word (put r.limit 16 0)
  | _ => 0#32

/-- An urgent slot holds a request. -/
def Modulator.holds (x : Modulator) : Bool := x.urg.isSome || x.wait.isSome

/-- A register of a sequencer entry. -/
def State.entryReg (s : State) (i o : Nat) : Word :=
  let e := s.entry i
  match o with
  | 0x0 => e.reg
  | 0x4 => e.result
  | 0x8 => e.temp
  | 0xc => word e.time
  | _ => 0#32

/-- A PCV register. -/
def State.pcvReg (s : State) (off : Nat) : Word :=
  let x := s.pcv
  match off with
  | 0x000 => x.newCtrl.getD x.ctrl
  | 0x004 => word (put x.passes 16 16 + put (min x.skips 255) 8 8 + flag (s.modu 1).holds 2 + flag (s.modu 0).holds 1 + flag x.cfgErr 0)
  | 0x00c => word (put x.urgEntry 4 4 + put x.urgStatus 2 0)
  | 0x014 => word (put x.diodeUsed 4 0)
  | o => if 0x040 ≤ o && o < 0x140 then s.entryReg ((o - 0x040) / 16) (o % 16) else 0#32

/-! ## ACT and NL (12, 13) -/

/-- A register of a low-side channel. -/
def ActCh.reg (c : ActCh) (o : Nat) : Word :=
  match o with
  | 0x0 => word (put c.pulse 16 16 + put c.kick 8 8)
  | 0x4 => word (put c.thetaMax 12 20 + put c.tauS 10 10 + put c.heat 10 0)
  | 0x8 => word (put c.theta 24 0)
  | 0xc => word (flag c.hot 2 + flag c.ol 1 + flag c.oc 0)
  | _ => 0#32

/-- An ACT register; the heating of a pulse in progress counts up to the read. -/
def State.actReg (s : State) (off : Nat) : Word :=
  let x := s.act
  match off with
  | 0x000 => x.ctrl
  | 0x004 => word (put x.vact 8 24 + put x.vboost 8 16 + ((List.range 4).map (fun c => flag (s.carrier c).isSome (12 + c))).sum +
      put (s.position 1) 2 10 + put (s.position 0) 2 8 + flag s.boostOk 1 + flag (vactOk x.vact) 0)
  | 0x008 => x.sense
  | o => if 0x040 ≤ o && o < 0x080 then (s.ch ((o - 0x040) / 16)).reg (o % 16) else 0#32

/-- A register of a lane. -/
def Lane.reg (l : Lane) (o : Nat) : Word :=
  match o with
  | 0x00 => l.cfg
  | 0x04 => word (put l.partner 2 10 + flag l.prbsLock 3 + put l.state 2 0)
  | 0x0c => word l.hdrErr
  | 0x10 => word l.ctrlErr
  | 0x14 => word l.crcErr
  | 0x18 => word (put (min l.losses 65535) 16 16 + put (min l.missing 65535) 16 0)
  | 0x1c => word l.prbsErr
  | _ => 0#32

/-- A NL register. -/
def State.nlReg (s : State) (off : Nat) : Word :=
  let x := s.nl
  let c := x.comp
  match off with
  | 0x000 => word (put (x.egrReq.getD x.egrEn) 2 0)
  | 0x004 => word (put c.loss 4 20 + put c.fail 4 16 + put (min c.attempts 255) 8 8 + put (if 3 ≤ c.state then c.lanes else 0) 2 4 +
      put c.state 3 0)
  | 0x008 => word c.frame
  | o => if 0x040 ≤ o && o < 0x0c0 then (s.lane ((o - 0x040) / 32)).reg (o % 32) else 0#32

/-! ## DRM and ENG (08, 10) -/

/-- A register of a frame-memory channel. -/
def DramCh.reg (c : DramCh) (o : Nat) : Word :=
  match o with
  | 0x0 => word c.ce
  | 0x4 => word c.ue
  | 0x8 => c.errAddr
  | _ => 0#32

/-- A register of silo `i` (R232). -/
def siloReg (i o : Nat) : Word :=
  match siloTable[i]?, o with
  | some (base, _, _), 0 => word base
  | some (_, size, grain), 4 => word (put grain 4 28 + put size 12 16 + put i 8 0)
  | _, _ => 0#32

/-- A DRM register. -/
def State.drmReg (s : State) (off : Nat) : Word :=
  let x := s.drm
  match off with
  | 0x000 => word ((x.chans.zipIdx.map (fun c => flag c.1.trained (16 + c.2) + put c.1.rate 2 (2 * c.2 + 8))).sum + put x.init 2 0)
  | 0x004 => word 3584
  | 0x008 => word (put (min x.forced 65535) 16 16 + put x.maxBatch 4 0)
  | 0x00c => word (put (min (x.under.getD 2 0) 255) 8 16 + put (min (x.under.getD 1 0) 255) 8 8 + put (min (x.under.getD 0 0) 255) 8 0)
  | 0x010 => word x.panics
  | 0x014 => word (put (min x.hits 65535) 16 16 + put x.lastCh 2 3 + put x.lastBank 3 0)
  | 0x018 => word (put x.lastRow 16 0)
  | 0x01c => word (x.chans.zipIdx.map (fun c => put (code c.1.drift 8) 8 (8 * c.2))).sum
  | o =>
    if 0x040 ≤ o && o < 0x080 then (s.dram ((o - 0x040) / 16)).reg (o % 16)
    else if 0x100 ≤ o && o < 0x178 then siloReg ((o - 0x100) / 8) (o % 8) else 0#32

/-- The engines at or below a unit: unit 0 is the array, 1–4 the stooks, 5–20 the sheaves, 21–148 the engines. -/
def unitEngines (u : Nat) : List Nat :=
  if u = 0 then List.range 128
  else if u < 5 then (List.range 32).map (fun e => 32 * (u - 1) + e)
  else if u < 21 then (List.range 8).map (fun e => 8 * (u - 5) + e)
  else [u - 21]

/-- UNIT_ID (R38, R174). -/
def unitId (u : Nat) : Nat :=
  if u = 0 then 0x00ffffff
  else if u < 5 then put 1 8 24 + put (u - 1) 8 16 + 0xffff
  else if u < 21 then put 2 8 24 + put ((u - 5) / 4) 8 16 + put ((u - 5) % 4) 8 8 + 0xff
  else put 3 8 24 + put ((u - 21) / 32) 8 16 + put ((u - 21) / 8 % 4) 8 8 + put ((u - 21) % 8) 8 0

/-- The stages of a pipeline placed on an engine of a list, as bits of their codes. -/
def stageBits (place : List Placed) (pipe : Nat) (es : List Nat) : Nat :=
  ((List.range 16).map (fun b => flag (place.any (fun x => x.pipe = pipe && x.stage = b && x.engines.any es.contains)) b)).sum

/-- The placement in force of both pipelines; none of a pipeline that is not read. -/
def State.placeNow (s : State) : List Placed :=
  (if s.pa.reading then s.pa.place.filter (fun x => x.pipe = 0) else []) ++
    (if s.pb.reading then s.pb.place.filter (fun x => x.pipe = 1) else [])

/-- The state of an engine as UNIT_STATE shows it. -/
def State.engineState (s : State) (e : Nat) : Nat :=
  match (s.sheaf (e / 8)).st with
  | .offline => 0
  | .idle => if s.placeNow.any (fun x => x.engines.contains e) then 2 else 1
  | .draining => 3
  | .test => 4
  | .failed => 5

/-- STATE of a unit: what its engines share, else ACTIVE where any is, else IDLE. -/
def State.unitState (s : State) (u : Nat) : Nat :=
  let xs := (unitEngines u).map s.engineState
  if xs.all (fun x => x = xs.headD 0) then xs.headD 0 else if xs.contains 2 then 2 else 1

/-- A register of a unit record (R174). -/
def State.unitReg (s : State) (u o : Nat) : Word :=
  let c := SMap.get UnitCnt.zero s.eng.units u
  let es := unitEngines u
  let sheafOf := if 21 ≤ u then some ((u - 21) / 8) else if 5 ≤ u then some (u - 5) else none
  match o with
  | 0x00 => word (unitId u)
  | 0x04 =>
    let res := match sheafOf with | some i => (s.sheaf i).result | none => 0
    word (put (es.filter (fun e => (s.sheaf (e / 8)).online)).length 8 8 + put res 4 4 + put (s.unitState u) 3 0)
  | 0x08 => if 5 ≤ u && u < 21 then word (flag (s.sheaf (u - 5)).offReq 0) else 0#32
  | 0x0c => word (put (stageBits s.placeNow 1 es) 16 16 + put (stageBits s.placeNow 0 es) 16 0)
  | 0x10 => if s.eng.worked then word (Config.unitBusy u s.now).toNat else 0#32
  | 0x14 => word c.checks
  | 0x18 => word c.mismatch
  | 0x1c => word c.frame
  | 0x20 => if 5 ≤ u && u < 21 then
      (match (s.sheaf (u - 5)).partner with | some (n, k) => word (put n 8 8 + put k 8 0) | none => 0#32) else 0#32
  | 0x24 => word c.ce
  | 0x28 => word c.ue
  | 0x2c => s.eng.program
  | _ => 0#32

/-- An ENG register (R38). -/
def State.engReg (s : State) (off : Nat) : Word := if off < 0x2540 then s.unitReg (off / 64) (off % 64) else 0#32

/-! ## LDG (R355) -/

/-- An LDG register; all read 0 until every record is resolved. -/
def State.ldgReg (s : State) (off : Nat) : Word :=
  if !s.sup.ledgerReady then 0#32
  else match off with
    | 0x000 => word (put (min s.sup.ledgerLost 255) 8 24 + put (min s.sup.ledgerRec 255) 8 16 +
        ((List.range 4).map (fun k => flag (!(s.keyOf k).isEmpty) (4 + k))).sum + 1)
    | 0x004 => word (put (min 65535 ((List.range 4).map (fun p => s.lockLeft (4 + p))).max?.toList.sum) 16 16 +
        ((List.range 4).map (fun p => flag (s.lockedOut (4 + p)) p)).sum)
    | 0x008 => word ((newestLog s.nv.log).getD 0)
    | o => if 0x010 ≤ o && o < 0x028 then word (min (s.tally ((o - 0x010) / 4)).value 0xffffffff) else 0#32

/-! ## The map (R197) -/

/-- What an aligned 32-bit read of BAR 0 returns, shadows apart. -/
def State.readReg (s : State) (off : Nat) : Word :=
  if off < 0x01000 then s.supReg off
  else if off < 0x02000 then s.clkReg (off - 0x01000)
  else if off < 0x04000 then s.thmReg (off - 0x02000)
  else if off < 0x08000 then s.hifReg (off - 0x04000)
  else if off < 0x09000 then s.pltReg (off - 0x08000)
  else if off < 0x0a000 then s.cchReg (off - 0x09000)
  else if off < 0x0b000 then s.pa.fpReg (off - 0x0a000)
  else if off < 0x0c000 then s.pb.fpReg (off - 0x0b000)
  else if off < 0x0d000 then s.pcvReg (off - 0x0c000)
  else if off < 0x0e000 then s.actReg (off - 0x0d000)
  else if off < 0x10000 then s.nlReg (off - 0x0e000)
  else if off < 0x14000 then s.drmReg (off - 0x10000)
  else if off < 0x20000 then s.engReg (off - 0x14000)
  else if off < 0x21000 then s.ldgReg (off - 0x20000)
  else if off < 0x22000 then s.safReg (off - 0x21000)
  else 0#32

end Sys2Proof.Machine
end

