-- ==== Sys2Proof/Machine/Regs.lean ====
section
/-! DEFINITION. Writes to BAR 0 and the commands of the register and ring interface (R10 to R14, R197 to R204, R225 to R229):
doorbells, ring set-up, plain register writes and reads, interrupts, host absence. A register command stands for an access
that has reached BAR 0. -/
namespace Sys2Proof.Machine

/-! ## Rings (R200, R201) -/

/-- LOCKED_WRITE (R14). -/
def State.lockedWrite (s : State) (off : Nat) : State := s.post0 0x0003 [word off]

/-- What the module owes a host that enables ring 2: lost events and HOST_RESUMED (R229), BOOT_NO_BUNDLE (R377),
SAFE_ENTERED (R315). -/
def State.ringTwoEnabled (s : State) : State :=
  let s := s.flushLost
  let s := if s.hif.resumeDue then
      ({ s with hif := { s.hif with resumeDue := false, poursAbsent := 0 } }).post0 0x0009 [word s.hif.poursAbsent]
    else s
  let s := if s.sup.noBundleDue then ({ s with sup := { s.sup with noBundleDue := false } }).post0 0x00f2 [] else s
  if s.sup.safeEvDue then ({ s with sup := { s.sup with safeEvDue := false } }).postSafe else s

/-- SIZE and STRIDE allow a ring to be enabled. -/
def ringSound (x : Nat) (r : Ring) : Bool :=
  decide (3 ≤ r.size) && decide (r.size ≤ 12) && (decide (x < 3) || decide (r.stride.toNat % 64 = 0))

/-- A ring put in service: HEAD and TAIL 0, phase 1. -/
def Ring.enabled (r : Ring) : Ring := { r with enable := true, head := 0, tail := 0, phase := true, posted := [] }

/-- ENABLE of ring `x` goes from 0 to 1, or the attempt is refused. -/
def State.enableRing (s : State) (x : Nat) : State :=
  if !ringSound x (s.ring x) then (s.modRing x (fun r => { r with cfgErr := true })).post0 0x0006 [word x]
  else
    let s := s.modRing x Ring.enabled
    if x = 2 then s.ringTwoEnabled else s

/-- ENABLE of ring `x` goes from 1 to 0. -/
def State.disableRing (s : State) (x : Nat) : State :=
  (s.modRing x (fun r => { r with enable := false })).dropClaims (fun y => decide (y = x))

/-- A write of RING_CFG of ring `x`: MOD and VECTOR are RW, SIZE and ENABLE RWL. -/
def State.writeRingCfg (s : State) (x : Nat) (v : Word) : State :=
  let r := s.ring x
  let bad := s.locked && (decide (bit v 31 ≠ r.enable) || decide (fld v 3 0 ≠ r.size))
  let s := s.modRing x (fun r => { r with mod_ := fld v 25 16, vector := fld v 12 8, size := if s.locked then r.size else fld v 3 0 })
  if bad then s.lockedWrite (0x4108 + 32 * x)
  else if bit v 31 && !r.enable then s.enableRing x
  else if !bit v 31 && r.enable then s.disableRing x
  else s

/-- A write of an RWL word: `cur` and `new` are its values, `f` stores the new one. -/
def State.writeRwl (s : State) (off : Nat) (cur new : Word) (f : State → State) : State :=
  if cur = new then s else if s.locked then s.lockedWrite off else f s

/-- A write of a register of ring `x`. -/
def State.writeRing (s : State) (x o : Nat) (v : Word) : State :=
  let r := s.ring x
  let off := 0x4100 + 32 * x + o
  match o with
  | 0x00 => s.writeRwl off r.baseLo (v &&& 0xffffffc0#32) (fun s => s.modRing x (fun r => { r with baseLo := v &&& 0xffffffc0#32 }))
  | 0x04 => s.writeRwl off r.baseHi v (fun s => s.modRing x (fun r => { r with baseHi := v }))
  | 0x08 => s.writeRingCfg x v
  | 0x0c => if x < 3 then s else s.writeRwl off r.stride v (fun s => s.modRing x (fun r => { r with stride := v }))
  | 0x10 => s.lockedWrite off
  | 0x14 => s.lockedWrite off
  | 0x18 => s.modRing x (fun r => { r with cfgErr := r.cfgErr && !bit v 3, overflow := r.overflow && !bit v 2,
                                           dmaErr := r.dmaErr && !bit v 1, dbInvalid := r.dbInvalid && !bit v 0 })
  | _ => s

/-- A doorbell INDEX that R201 calls an error. -/
def Ring.refuses (r : Ring) (x i : Nat) : Bool :=
  let d (a b : Nat) : Nat := (a + r.len - b % r.len) % r.len
  !r.enable || decide (r.len ≤ i) ||
    (if x = 1 || x = 2 then decide (d r.head r.tail < d i r.tail) else decide (d i r.head < d r.tail r.head))

/-- The ring positions from the old TAIL to INDEX − 1. -/
def Ring.passed (r : Ring) (i : Nat) : List Nat :=
  (List.range ((i + r.len - r.tail % r.len) % r.len)).map (fun k => (r.tail + k) % r.len)

/-- A doorbell write to ring `x` (R201). `ops` are the opcodes of the passed commands with their first argument byte,
`bufs` the passed product descriptors. -/
def State.doorbell (s : State) (x i : Nat) (ops : List (BitVec 16 × Byte)) (bufs : List BufDesc) : State :=
  let r := s.ring x
  if 22 < x then s
  else if r.refuses x i then (s.modRing x (fun r => { r with dbInvalid := true })).post0 0x0004 [word x, word i]
  else
    let ps := r.passed i
    let s := s.modRing x (fun r => { r with tail := i })
    if x = 0 then
      if decide (s.mode = .standby) && (ops.take ps.length).any (fun c => opcodeWakes c.1.toNat c.2.toNat) then s.startWake 0 else s
    else if x = 1 then s
    else if x = 2 then s.flushLost
    else s.modRing x (fun r => { r with posted := r.posted ++ ps.zip (bufs ++ List.replicate ps.length ⟨0#64, 0#32, 0#32⟩) })

/-! ## Interrupts (R225, R226) -/

/-- A vector of MSI-X unmasked: a message held for it goes out. -/
def State.unmaskX (s : State) (v : Nat) : State :=
  match s.hif.vectors[v]? with
  | some x =>
    let s := { s with hif := { s.hif with vectors := modAt s.hif.vectors v (fun x => { x with masked := false, pending := false }) } }
    if x.pending then s.sendMessage v else s
  | none => s

/-- The mask bits of MSI written: messages held for those unmasked go out (R196, R225). -/
def State.maskMsi (s : State) (mask : Word) : State :=
  let p := s.hif.msiPending
  let s := { s with hif := { s.hif with msiMask := mask, msiPending := p &&& mask } }
  ((List.range 32).filter (fun m => bit p m && !bit mask m)).foldl State.sendMessage s

/-- A vector unmasked, of MSI-X or of MSI. -/
def State.unmask (s : State) (v : Nat) : State :=
  if s.hif.msi = 0 then s.unmaskX v else s.maskMsi (s.hif.msiMask &&& ~~~word (2 ^ v))

/-- Messages that could not go out while the host was absent go out where they are not masked. -/
def State.flushMessages (s : State) : State :=
  let s := (List.range 32).foldl (fun s v =>
    if (s.hif.vectors[v]?).any (fun x => x.pending && !x.masked) then s.unmaskX v else s) s
  s.maskMsi s.hif.msiMask

/-- The end of a ring's moderation interval: one message for what was written during it. -/
def State.moderationEnd (s : State) (x : Nat) : State :=
  let r := s.ring x
  if r.modHeld && decide (r.modUntil ≤ s.now) then
    (s.modRing x (fun r => { r with modHeld := false, modUntil := s.now + r.mod_ * us })).sendMessage r.vector
  else s

/-- A write of the MSI-X table. -/
def State.writeMsix (s : State) (v o : Nat) (w : Word) : State :=
  let set (f : Vector_ → Vector_) : State := { s with hif := { s.hif with vectors := modAt s.hif.vectors v f } }
  match o with
  | 0 => set (fun x => { x with addrLo := w &&& 0xfffffffc#32 })
  | 4 => set (fun x => { x with addrHi := w })
  | 8 => set (fun x => { x with data := w })
  | 12 => if bit w 0 then set (fun x => { x with masked := true }) else s.unmaskX v
  | _ => s

/-! ## Writes block by block -/

/-- A write of a HIF register. R204 gives the pending-bit array no access type of R11; it is taken as RO, so that a write is kept out and
posts LOCKED_WRITE (DESIGN CHOICE, notes/assumptions/112). -/
def State.writeHif (s : State) (off : Nat) (v : Word) : State :=
  if off < 0x014 then s.lockedWrite (0x4000 + off)
  else if 0x100 ≤ off && off < 0x3e0 then s.writeRing ((off - 0x100) / 32) (off % 32) v
  else if 0x800 ≤ off && off < 0x8c0 then
    if off % 8 = 0 then s.doorbell ((off - 0x800) / 8) (fld v 15 0) [] [] else s
  else if 0x2000 ≤ off && off < 0x2200 then s.writeMsix ((off - 0x2000) / 16) (off % 16) v
  else if off = 0x3000 || off = 0x3004 then s.lockedWrite (0x4000 + off)
  else s

/-- A write of a PLT register. -/
def State.writePlt (s : State) (off : Nat) (v : Word) : State :=
  match off with
  | 0x000 => { s with plt := { s.plt with exp := v &&& 0x001fff33#32 } }
  | 0x004 => { s with plt := { s.plt with fsync := v &&& 0xffff0003#32 } }
  | 0x008 => s.commit v
  | o => if o < 0x038 then s.lockedWrite (0x8000 + o) else s

/-- A write of a CCH register. -/
def State.writeCch (s : State) (off : Nat) (v : Word) : State :=
  match off with
  | 0x000 => s.writeCchCtrl v
  | 0x004 => s.accept .A (fun st => { st with cchLimits := v &&& 0x0000ffff#32 })
  | 0x00c => s.writeCchReq v
  | 0x010 => { s with cch := { s.cch with sel := v &&& 0x007f003f#32 } }
  | o => if o < 0x03c then s.lockedWrite (0x9000 + o) else s

/-- A write of a front-pipe register. -/
def State.writeFp (s : State) (p : Pipe) (off : Nat) (v : Word) : State :=
  match off with
  | 0x000 => s.writeFpCtrl p v
  | 0x028 => s.modPl p (fun x => { x with regs := { x.regs with limit := fld v 15 0 } })
  | o => if o < 0x028 then s.lockedWrite (0xa000 + 0x1000 * pipeNum p + o) else s

/-- A write of a PCV register. -/
def State.writePcv (s : State) (off : Nat) (v : Word) : State :=
  match off with
  | 0x000 => s.writePcvCtrl v
  | 0x004 => if bit v 0 then { s with pcv := { s.pcv with cfgErr := false } } else s
  | 0x008 => s.writePcvUrg v
  | 0x00c => s.lockedWrite 0xc00c
  | 0x010 => s.writeSwtrig v
  | 0x014 => s.lockedWrite 0xc014
  | o =>
    if 0x040 ≤ o && o < 0x140 then
      if o % 16 = 0 then s.writeEntryCfg ((o - 0x040) / 16) v else s.lockedWrite (0xc000 + o)
    else s

/-- A write of ACT_CTRL; a changed PAR bit takes effect once its pair is quiet (R269). -/
def State.writeActCtrl (s : State) (v : Word) : State :=
  (({ s with act := { s.act with ctrl := v &&& 0x000003bf#32 } }).parChange 0).parChange 1

/-- A write of a register of low-side channel `c`. -/
def State.writeActCh (s : State) (c o : Nat) (v : Word) : State :=
  match o with
  | 0x0 => s.modCh c (fun x => { x with pulse := fld v 31 16, kick := fld v 15 8 })
  | 0x4 => (s.modCh c (fun x => { x with thetaMax := fld v 31 20, tauS := fld v 19 10, heat := fld v 9 0 })).checkHot c
  | 0x8 => s.lockedWrite (0xd048 + 16 * c)
  | 0xc => s.modCh c (fun x => { x with ol := x.ol && !bit v 1, oc := x.oc && !bit v 0 })
  | _ => s

/-- A write of an ACT register. -/
def State.writeAct (s : State) (off : Nat) (v : Word) : State :=
  match off with
  | 0x000 => s.writeActCtrl v
  | 0x004 => s.lockedWrite 0xd004
  | 0x008 => s.writeActSense v
  | o => if 0x040 ≤ o && o < 0x080 then s.writeActCh ((o - 0x040) / 16) (o % 16) v else s

/-- A write of a NL register. -/
def State.writeNl (s : State) (off : Nat) (v : Word) : State :=
  match off with
  | 0x000 => s.writeEgrEn v
  | 0x004 => s.lockedWrite 0xe004
  | 0x008 => s.lockedWrite 0xe008
  | o =>
    if 0x040 ≤ o && o < 0x0c0 then
      match o % 32 with
      | 0x00 => s.writeLaneCfg ((o - 0x040) / 32) v
      | 0x08 => s.writeInject ((o - 0x040) / 32) v
      | _ => s.lockedWrite (0xe000 + o)
    else s

/-- A write of UNIT_CTRL of sheaf `i`: OFFLINE_REQ, then TEST_REQ (R185, R186). -/
def State.writeUnitCtrl (s : State) (i : Nat) (v : Word) : State :=
  let s := if bit v 0 then s.offlineReq i else s.returnReq i
  if bit v 1 then s.testReq i else s

/-- A write of an ENG register. -/
def State.writeEng (s : State) (off : Nat) (v : Word) : State :=
  let u := off / 64
  if 0x2540 ≤ off || 0x30 ≤ off % 64 then s
  else if off % 64 = 0x08 && 5 ≤ u && u < 21 then s.writeUnitCtrl (u - 5) v
  else s.lockedWrite (0x14000 + off)

/-- The offsets of the registers of a block whose every register is RO, as ranges. -/
def inAny (rs : List (Nat × Nat)) (o : Nat) : Bool := rs.any (fun r => decide (r.1 ≤ o) && decide (o < r.2))

/-- A write of a block without writable registers: SUP, CLK/PWR, DRM, LDG and the SAF mirror. -/
def State.writeRo (s : State) (base : Nat) (rs : List (Nat × Nat)) (off : Nat) : State :=
  if inAny rs off then s.lockedWrite (base + off) else s

/-- A write of a DRM register; offset 0xc of a channel is reserved. -/
def State.writeDrm (s : State) (off : Nat) : State :=
  if 0x040 ≤ off && off < 0x080 && off % 16 = 12 then s
  else s.writeRo 0x10000 [(0x000, 0x020), (0x040, 0x080), (0x100, 0x178)] off

/-- A write of a THM register. -/
def State.writeThm (s : State) (off : Nat) (v : Word) : State :=
  if off = 0 then { s with thm := { s.thm with ctrl := v &&& 0x00001fff#32 } }
  else s.writeRo 0x02000 [(0x004, 0x01c), (0x020, 0x048)] off

/-- An aligned 32-bit write of BAR 0. -/
def State.writeReg (s : State) (off : Nat) (v : Word) : State :=
  if off < 0x01000 then s.writeRo 0 [(0x000, 0x018)] off
  else if off < 0x02000 then s.writeRo 0x01000 [(0x000, 0x004)] (off - 0x01000)
  else if off < 0x04000 then s.writeThm (off - 0x02000) v
  else if off < 0x08000 then s.writeHif (off - 0x04000) v
  else if off < 0x09000 then s.writePlt (off - 0x08000) v
  else if off < 0x0a000 then s.writeCch (off - 0x09000) v
  else if off < 0x0b000 then s.writeFp .A (off - 0x0a000) v
  else if off < 0x0c000 then s.writeFp .B (off - 0x0b000) v
  else if off < 0x0d000 then s.writePcv (off - 0x0c000) v
  else if off < 0x0e000 then s.writeAct (off - 0x0d000) v
  else if off < 0x10000 then s.writeNl (off - 0x0e000) v
  else if off < 0x14000 then s.writeDrm (off - 0x10000)
  else if off < 0x20000 then s.writeEng (off - 0x14000) v
  else if off < 0x21000 then s.writeRo 0x20000 [(0x000, 0x00c), (0x010, 0x028)] (off - 0x20000)
  else if off < 0x22000 then s.writeRo 0x21000 [(0x000, 0x034), (0x040, 0x050)] (off - 0x21000)
  else s

/-! ## Reads and wrong accesses (R13, R227) -/

/-- An access of another size or alignment. -/
def State.badAccess (s : State) (off : Nat) (write : Bool) : State :=
  (if write then s else { s with hif := { s.hif with rdata := 0xffffffff#32 } }).post0 0x0002 [word off]

/-- A _LO register and its _HI partner (R227): HIF_TIME, RING_BASE, SAF_SERIAL. -/
def isLo (off : Nat) : Bool :=
  off = 0x4008 || off = 0x2102c || (decide (0x4100 ≤ off) && decide (off < 0x43e0) && off % 32 = 0)

/-- An aligned 32-bit read of BAR 0, with the shadows of R227. -/
def State.read (s : State) (off : Nat) : State :=
  let live := s.readReg off
  let value := (SMap.get none s.hif.shadows off).getD live
  let sh := SMap.put none s.hif.shadows off none
  let sh := if isLo off then SMap.put none sh (off + 4) (some (s.readReg (off + 4))) else sh
  { s with hif := { s.hif with rdata := value, shadows := sh } }

/-! ## Host presence (R171, R229) -/

/-- The host becomes absent. -/
def State.hostAbsent (s : State) (c : AbsentCause) : State :=
  let s := s.hostLeaves
  match c with
  | .linkDown => { s with hif := { s.hif with linkDown := true } }
  | .d3hot => { s with hif := { s.hif with d3 := true } }
  | .busMaster => { s with hif := { s.hif with noMaster := true } }

/-! ### Configuration space (R196); its layout is that of PCI Express (PRESUMED, notes/assumptions/113) -/

/-- What a register of configuration space reads as: the identity and the features of R196, every other capability bit 0. -/
def State.cfgReg (s : State) (r : CfgReg) : Word :=
  let c := s.hif.cfg
  match r with
  | .id => 0x24156a7b#32
  | .command => word (2 ^ 20 + c.command + flag (!s.hif.noMaster) 2)
  | .classRev => 0x04800010#32
  | .bar i => match i.val with
    | 0 => (c.bar0.truncate 32 : Word) ||| 0x4#32
    | 1 => (c.bar0 >>> 32).truncate 32
    | 2 => (c.bar2.truncate 32 : Word) ||| 0xc#32
    | 3 => (c.bar2 >>> 32).truncate 32
    | _ => 0#32
  | .rom => 0#32
  | .interrupt => word c.line
  | .pmCap => word (at_ 3 16)
  | .pmCtl => word (if s.hif.d3 then 3 else 0)
  | .msiCtl => word (at_ (flag c.msiOn 0 + at_ 5 1 + at_ c.msiGranted 4 + 2 ^ 7 + 2 ^ 8) 16)
  | .msiAddr => c.msiAddr.truncate 32
  | .msiAddrHi => (c.msiAddr >>> 32).truncate 32
  | .msiData => word c.msiData
  | .msiMask => s.hif.msiMask
  | .msiPending => s.hif.msiPending
  | .msixCtl => word (at_ (31 + c.msix) 16)
  | .msixTable => 0x6000#32
  | .msixPba => 0x7000#32
  | .devCap => word (2 + 2 ^ 5 + 2 ^ 28)
  | .devCtl => word c.devCtl
  | .linkCap => word (3 + at_ 4 4 + at_ 2 10 + at_ 3 15)
  | .linkCtl => word (c.linkCtl + at_ (s.hif.link.1 + at_ s.hif.link.2 4) 16)
  | .devCap2 => word 3

/-- Configuration space changed. -/
def State.modCfg (s : State) (f : PciCfg → PciCfg) : State := { s with hif := { s.hif with cfg := f s.hif.cfg } }

/-- The low or the high half of a base or an address. -/
def lowHalf (b : BitVec 64) (v : Word) : BitVec 64 := (b.extractLsb' 32 32) ++ v
def highHalf (b : BitVec 64) (v : Word) : BitVec 64 := v ++ (b.truncate 32 : Word)

/-- A write of configuration space: the bits the host may set. A write of Bus Master Enable or of the power state counts as the row it
stands for. -/
def State.writeCfg (s : State) (r : CfgReg) (v : Word) : State :=
  match r with
  | .command => s.modCfg (fun c => { c with command := (v &&& 0x542#32).toNat })
  | .bar i => match i.val with
    | 0 => s.modCfg (fun c => { c with bar0 := lowHalf c.bar0 (v &&& 0xfff00000#32) })
    | 1 => s.modCfg (fun c => { c with bar0 := highHalf c.bar0 v })
    | 2 => s.modCfg (fun c => { c with bar2 := lowHalf c.bar2 (v &&& 0xff800000#32) })
    | 3 => s.modCfg (fun c => { c with bar2 := highHalf c.bar2 v })
    | _ => s
  | .interrupt => s.modCfg (fun c => { c with line := fld v 7 0 })
  | .msiCtl => s.modCfg (fun c => { c with msiOn := bit v 16, msiGranted := min 5 (fld v 22 20) })
  | .msiAddr => s.modCfg (fun c => { c with msiAddr := lowHalf c.msiAddr (v &&& 0xfffffffc#32) })
  | .msiAddrHi => s.modCfg (fun c => { c with msiAddr := highHalf c.msiAddr v })
  | .msiData => s.modCfg (fun c => { c with msiData := fld v 15 0 })
  | .msiMask => s.maskMsi v
  | .msixCtl => s.modCfg (fun c => { c with msix := at_ (fld v 31 30) 14 })
  | .devCtl => s.modCfg (fun c => { c with devCtl := fld v 14 0 })
  | .linkCtl => s.modCfg (fun c => { c with linkCtl := fld v 1 1 * 2 })
  | _ => s

/-- An access to configuration space. -/
def State.cfgOp (s : State) (x : CfgAccess) : State :=
  match x with
  | .read r => { s with hif := { s.hif with cfgRdata := s.cfgReg r } }
  | .write r v => s.writeCfg r v

/-- The link is up as trained, the function in D0 and Bus Master Enable 1; the host's accesses to configuration space. Messages held
while it was absent go out. -/
def State.hostPresent (s : State) (cfg : List CfgAccess) : State :=
  let k := s.hif.link
  let s := { s with hif := { s.hif with speed := k.1, width := k.2, linkDown := decide (k.1 = 0), d3 := false, noMaster := false } }
  (cfg.foldl State.cfgOp s).flushMessages

/-- Function Level Reset: host absence, and the HIF block and configuration space to their reset values. The link stays trained; Bus
Master Enable is 0 (PRESUMED, notes/assumptions/49). HIF_TIME shows what R204 says it means, the clocks since module reset. -/
def State.functionReset (s : State) : State :=
  let s := s.hostLeaves
  let h := s.hif
  { s with hif := { Hif.reset with
      link := h.link, linkDown := h.linkDown, messages := h.messages, expired := h.expired,
      bar2 := h.bar2, bar2Seed := h.bar2Seed, bar2Rdata := h.bar2Rdata, cfgRdata := h.cfgRdata,
      rdata := h.rdata, lostSince := h.lostSince, poursAbsent := h.poursAbsent, resumeDue := h.resumeDue,
      completions := h.completions, events := h.events, deliveries := h.deliveries, hostWrites := h.hostWrites } }

/-- The product sets in force exceed the budget of the link (R171). -/
def State.overLink (s : State) : Bool :=
  !within (weighted (s.loads s.pa.inForce s.pb.inForce) (fun l => s.ringTraffic l.st l.cams l.st.cool))
    (linkBudget s.hif.link.1 s.hif.link.2)

/-- The link retrains (R171). -/
def State.linkRetrains (s : State) (speed width : Nat) : State :=
  if linkBudget speed width = 0 then s
  else
    let lower := decide (linkBudget speed width < linkBudget s.hif.link.1 s.hif.link.2)
    let s := { s with hif := { s.hif with speed := speed, width := width, link := (speed, width) } }
    if lower && s.overLink then s.post0 0x0008 [word speed, word width] else s

/-! ## Commands -/

/-- DOORBELL (R201). -/
def execDoorbell (dt : Nat) (ring : Fin 24) (index : BitVec 16) (ops : List (BitVec 16 × Byte)) (bufs : List BufDesc) (s : State) :
    Host.Outcome State Fault Refusal :=
  .next (s.run dt (fun s => s.doorbell ring.val index.toNat ops bufs))

/-- RING_ENABLE: a write of RING_CFG (R200). -/
def execRingEnable (dt : Nat) (ring : Fin 23) (value : Word) (s : State) : Host.Outcome State Fault Refusal :=
  .next (s.run dt (fun s => s.writeRingCfg ring.val value))

/-- REGISTER_WRITE (R11 to R14); one that carries poisoned data is discarded (R228). -/
def execRegisterWrite (dt : Nat) (off : BitVec 20) (value : Word) (poisoned : Bool) (s : State) : Host.Outcome State Fault Refusal :=
  .next (s.run dt (fun s => if poisoned then s else if off.toNat % 4 = 0 then s.writeReg off.toNat value else s.badAccess off.toNat true))

/-- ACCESS_SIZE (R13). -/
def execAccessSize (dt : Nat) (off : BitVec 20) (write : Bool) (s : State) : Host.Outcome State Fault Refusal :=
  .next (s.run dt (fun s => s.badAccess off.toNat write))

/-- LO_READ: a read of a register (R227). -/
def execLoRead (dt : Nat) (off : BitVec 20) (s : State) : Host.Outcome State Fault Refusal :=
  .next (s.run dt (fun s => if off.toNat % 4 = 0 then s.read off.toNat else s.badAccess off.toNat false))

/-- VECTOR_UNMASK (R225). -/
def execVectorUnmask (dt : Nat) (vector : Fin 32) (s : State) : Host.Outcome State Fault Refusal :=
  .next (s.run dt (fun s => s.unmask vector.val))

/-- MODERATION_END (R225). -/
def execModerationEnd (dt : Nat) (ring : Fin 23) (s : State) : Host.Outcome State Fault Refusal :=
  .next (s.run dt (fun s => s.moderationEnd ring.val))

/-- HOST_ABSENT (R229). -/
def execHostAbsent (dt : Nat) (cause : AbsentCause) (s : State) : Host.Outcome State Fault Refusal :=
  .next (s.run dt (fun s => s.hostAbsent cause))

/-- FUNCTION_LEVEL_RESET (R229). -/
def execFunctionLevelReset (dt : Nat) (s : State) : Host.Outcome State Fault Refusal := .next (s.run dt (fun s => s.functionReset))

/-- LINK_BUDGET (R171). -/
def execLinkBudget (dt : Nat) (speed : Fin 4) (width : Nat) (s : State) : Host.Outcome State Fault Refusal :=
  .next (s.run dt (fun s => s.linkRetrains speed.val width))

/-- HOST_PRESENT (R229). -/
def execHostPresent (dt : Nat) (cfg : List CfgAccess) (s : State) : Host.Outcome State Fault Refusal :=
  .next (s.run dt (fun s => s.hostPresent cfg))

end Sys2Proof.Machine
end

