-- ==== Sys2Proof/Machine/Dispatch.lean ====
section
/-! DEFINITION. The meaning of each command, one arm per constructor. -/
namespace Sys2Proof.Machine

def exec (i : Instr) (s : State) : Host.Outcome State Fault Refusal :=
  match i with
  | .commandFetch dt desc inp => Sys2Proof.Machine.execCommandFetch dt desc inp s
  | .nop dt h => Sys2Proof.Machine.execNop dt h s
  | .identify dt h => Sys2Proof.Machine.execIdentify dt h s
  | .sessionOpen dt h role handle nonce => Sys2Proof.Machine.execSessionOpen dt h role handle nonce s
  | .sessionAuth dt h handle mac => Sys2Proof.Machine.execSessionAuth dt h handle mac s
  | .sessionClose dt h => Sys2Proof.Machine.execSessionClose dt h s
  | .modeSet dt h mode => Sys2Proof.Machine.execModeSet dt h mode s
  | .latencySet dt h wakeUs => Sys2Proof.Machine.execLatencySet dt h wakeUs s
  | .cameraBind dt h pipe => Sys2Proof.Machine.execCameraBind dt h pipe s
  | .cameraUnbind dt h cam => Sys2Proof.Machine.execCameraUnbind dt h cam s
  | .productSet dt h cam dest cool => Sys2Proof.Machine.execProductSet dt h cam dest cool s
  | .pipeBSet dt h enable frate => Sys2Proof.Machine.execPipeBSet dt h enable frate s
  | .siloSet dt h pipe frames => Sys2Proof.Machine.execSiloSet dt h pipe frames s
  | .paramSet dt h pipe group length addr block => Sys2Proof.Machine.execParamSet dt h pipe group length addr block s
  | .serviceEnable dt h pipe mask => Sys2Proof.Machine.execServiceEnable dt h pipe mask s
  | .shutterGrant dt h pipe force start length => Sys2Proof.Machine.execShutterGrant dt h pipe force start length s
  | .shutterPolicy dt h pipe policy minInterval => Sys2Proof.Machine.execShutterPolicy dt h pipe policy minInterval s
  | .actPulse dt h channel parallel length => Sys2Proof.Machine.execActPulse dt h channel parallel length s
  | .stageBegin dt h kind total => Sys2Proof.Machine.execStageBegin dt h kind total s
  | .stageChunk dt h half length offset bar2 => Sys2Proof.Machine.execStageChunk dt h half length offset bar2 s
  | .stageCommit dt h persist sig mem => Sys2Proof.Machine.execStageCommit dt h persist sig mem s
  | .bundleHalfFreed dt => Sys2Proof.Machine.execBundleHalfFreed dt s
  | .stageAbort dt h => Sys2Proof.Machine.execStageAbort dt h s
  | .compatSet dt h enable => Sys2Proof.Machine.execCompatSet dt h enable s
  | .ledgerRead dt h offset length addr block => Sys2Proof.Machine.execLedgerRead dt h offset length addr block s
  | .ledgerWrite dt h offset length addr block => Sys2Proof.Machine.execLedgerWrite dt h offset length addr block s
  | .nonceExpiry dt slot => Sys2Proof.Machine.execNonceExpiry dt slot s
  | .lockoutEnd dt who => Sys2Proof.Machine.execLockoutEnd dt who s
  | .doorbell dt ring index ops bufs => Sys2Proof.Machine.execDoorbell dt ring index ops bufs s
  | .ringEnable dt ring value => Sys2Proof.Machine.execRingEnable dt ring value s
  | .registerWrite dt off value poisoned => Sys2Proof.Machine.execRegisterWrite dt off value poisoned s
  | .accessSize dt off write => Sys2Proof.Machine.execAccessSize dt off write s
  | .loRead dt off => Sys2Proof.Machine.execLoRead dt off s
  | .vectorUnmask dt vector => Sys2Proof.Machine.execVectorUnmask dt vector s
  | .moderationEnd dt ring => Sys2Proof.Machine.execModerationEnd dt ring s
  | .commit dt value => Sys2Proof.Machine.execCommit dt value s
  | .commitTransferDone dt => Sys2Proof.Machine.execCommitTransferDone dt s
  | .cchCtrl dt value => Sys2Proof.Machine.execCchCtrl dt value s
  | .cchReq dt value => Sys2Proof.Machine.execCchReq dt value s
  | .fpCtrl dt pipe value => Sys2Proof.Machine.execFpCtrl dt pipe value s
  | .offlineReq dt sheaf => Sys2Proof.Machine.execOfflineReq dt sheaf s
  | .returnRequest dt sheaf => Sys2Proof.Machine.execReturnRequest dt sheaf s
  | .sheafDrained dt sheaf => Sys2Proof.Machine.execSheafDrained dt sheaf s
  | .testReq dt sheaf => Sys2Proof.Machine.execTestReq dt sheaf s
  | .sheafTest dt sheaf pass => Sys2Proof.Machine.execSheafTest dt sheaf pass s
  | .sheafRetest dt sheaf => Sys2Proof.Machine.execSheafRetest dt sheaf s
  | .pcvCtrl dt value => Sys2Proof.Machine.execPcvCtrl dt value s
  | .pcvEntryCfg dt entry value => Sys2Proof.Machine.execPcvEntryCfg dt entry value s
  | .pcvUrg dt value => Sys2Proof.Machine.execPcvUrg dt value s
  | .pcvSwtrig dt value => Sys2Proof.Machine.execPcvSwtrig dt value s
  | .actSense dt value => Sys2Proof.Machine.execActSense dt value s
  | .parChange dt pair => Sys2Proof.Machine.execParChange dt pair s
  | .egrEn dt value => Sys2Proof.Machine.execEgrEn dt value s
  | .egressLaneChange dt => Sys2Proof.Machine.execEgressLaneChange dt s
  | .prbs dt lane value => Sys2Proof.Machine.execPrbs dt lane value s
  | .inject dt lane value => Sys2Proof.Machine.execInject dt lane value s
  | .moduleReset dt cause clksel refresh => Sys2Proof.Machine.execModuleReset dt cause clksel refresh s
  | .pwrGoodFall dt pwrGood low cut => Sys2Proof.Machine.execPwrGoodFall dt pwrGood low cut s
  | .bootStep dt obs => Sys2Proof.Machine.execBootStep dt obs s
  | .dramTraining dt failed => Sys2Proof.Machine.execDramTraining dt failed s
  | .settleHoldEnd dt => Sys2Proof.Machine.execSettleHoldEnd dt s
  | .standbyReached dt => Sys2Proof.Machine.execStandbyReached dt s
  | .offReached dt => Sys2Proof.Machine.execOffReached dt s
  | .frameStartMarker dt => Sys2Proof.Machine.execFrameStartMarker dt s
  | .fsyncInEdge dt => Sys2Proof.Machine.execFsyncInEdge dt s
  | .fsyncNoisyEnd dt => Sys2Proof.Machine.execFsyncNoisyEnd dt s
  | .fsyncStuck dt level => Sys2Proof.Machine.execFsyncStuck dt level s
  | .rowSlot dt x => Sys2Proof.Machine.execRowSlot dt x s
  | .frontPipeRow dt pipe obs => Sys2Proof.Machine.execFrontPipeRow dt pipe obs s
  | .latchPoint dt pipe => Sys2Proof.Machine.execLatchPoint dt pipe s
  | .stripeStart dt pipe frame mismatch obs sramCe => Sys2Proof.Machine.execStripeStart dt pipe frame mismatch obs sramCe s
  | .engineSramUe dt engine heldA heldB => Sys2Proof.Machine.execEngineSramUe dt engine heldA heldB s
  | .pour dt pipe frame => Sys2Proof.Machine.execPour dt pipe frame s
  | .pourDeadline dt pipe frame => Sys2Proof.Machine.execPourDeadline dt pipe frame s
  | .gleanUpdate dt pipe => Sys2Proof.Machine.execGleanUpdate dt pipe s
  | .anchorFormed dt pipe => Sys2Proof.Machine.execAnchorFormed dt pipe s
  | .noClose dt pipe => Sys2Proof.Machine.execNoClose dt pipe s
  | .openRepeat dt pipe => Sys2Proof.Machine.execOpenRepeat dt pipe s
  | .shutterRequestRepost dt pipe => Sys2Proof.Machine.execShutterRequestRepost dt pipe s
  | .shutterGrantLapsed dt pipe => Sys2Proof.Machine.execShutterGrantLapsed dt pipe s
  | .soPersisted dt => Sys2Proof.Machine.execSoPersisted dt s
  | .positionReport dt input level => Sys2Proof.Machine.execPositionReport dt input level s
  | .senseFaultEnd dt input => Sys2Proof.Machine.execSenseFaultEnd dt input s
  | .pulseStart dt channel => Sys2Proof.Machine.execPulseStart dt channel s
  | .kickEnd dt channel => Sys2Proof.Machine.execKickEnd dt channel s
  | .actPulseDone dt channel => Sys2Proof.Machine.execActPulseDone dt channel s
  | .overcurrent dt channel => Sys2Proof.Machine.execOvercurrent dt channel s
  | .openLoad dt channel => Sys2Proof.Machine.execOpenLoad dt channel s
  | .hostPulseDrop dt switch => Sys2Proof.Machine.execHostPulseDrop dt switch s
  | .coolingTick dt => Sys2Proof.Machine.execCoolingTick dt s
  | .actSupply dt vact vboost => Sys2Proof.Machine.execActSupply dt vact vboost s
  | .passStart dt => Sys2Proof.Machine.execPassStart dt s
  | .conversionComplete dt modulator result => Sys2Proof.Machine.execConversionComplete dt modulator result s
  | .clockCheck dt ok => Sys2Proof.Machine.execClockCheck dt ok s
  | .lockstep dt => Sys2Proof.Machine.execLockstep dt s
  | .heartbeat dt => Sys2Proof.Machine.execHeartbeat dt s
  | .safeNReadback dt safeN errN => Sys2Proof.Machine.execSafeNReadback dt safeN errN s
  | .latentTest dt test => Sys2Proof.Machine.execLatentTest dt test s
  | .safetyTest dt => Sys2Proof.Machine.execSafetyTest dt s
  | .spiNop dt q => Sys2Proof.Machine.execSpiNop dt q s
  | .read dt q => Sys2Proof.Machine.execRead dt q s
  | .badOp dt op q => Sys2Proof.Machine.execBadOp dt op q s
  | .sessOpen dt q nonce => Sys2Proof.Machine.execSessOpen dt q nonce s
  | .sessNonce dt q => Sys2Proof.Machine.execSessNonce dt q s
  | .sessAuth dt step => Sys2Proof.Machine.execSessAuth dt step s
  | .wdGet dt q => Sys2Proof.Machine.execWdGet dt q s
  | .wdAnswer dt q challenge => Sys2Proof.Machine.execWdAnswer dt q challenge s
  | .wdTimeout dt => Sys2Proof.Machine.execWdTimeout dt s
  | .clearWarn dt q => Sys2Proof.Machine.execClearWarn dt q s
  | .reqSafe dt q => Sys2Proof.Machine.execReqSafe dt q s
  | .reqReset dt q => Sys2Proof.Machine.execReqReset dt q s
  | .test dt q => Sys2Proof.Machine.execTest dt q s
  | .frameErr dt sel bits => Sys2Proof.Machine.execFrameErr dt sel bits s
  | .selectTimeout dt sel bits => Sys2Proof.Machine.execSelectTimeout dt sel bits s
  | .bothSelectsLow dt bitsSafe bitsMaint => Sys2Proof.Machine.execBothSelectsLow dt bitsSafe bitsMaint s
  | .thermalConversion dt sensor value => Sys2Proof.Machine.execThermalConversion dt sensor value s
  | .thermalSample dt => Sys2Proof.Machine.execThermalSample dt s
  | .thmEnforced dt => Sys2Proof.Machine.execThmEnforced dt s
  | .thmReleased dt => Sys2Proof.Machine.execThmReleased dt s
  | .thmRearmed dt => Sys2Proof.Machine.execThmRearmed dt s
  | .slowSampling dt => Sys2Proof.Machine.execSlowSampling dt s
  | .idleDepth dt => Sys2Proof.Machine.execIdleDepth dt s
  | .wakeIn dt => Sys2Proof.Machine.execWakeIn dt s
  | .wakeComplete dt => Sys2Proof.Machine.execWakeComplete dt s
  | .hostAbsent dt cause => Sys2Proof.Machine.execHostAbsent dt cause s
  | .functionLevelReset dt => Sys2Proof.Machine.execFunctionLevelReset dt s
  | .linkBudget dt speed width => Sys2Proof.Machine.execLinkBudget dt speed width s
  | .refreshInterval dt channel ports => Sys2Proof.Machine.execRefreshInterval dt channel ports s
  | .refreshStatusPoll dt channel status drift => Sys2Proof.Machine.execRefreshStatusPoll dt channel status drift s
  | .guardAction dt channel bank row realTime => Sys2Proof.Machine.execGuardAction dt channel bank row realTime s
  | .activationWindow dt => Sys2Proof.Machine.execActivationWindow dt s
  | .scrubberPass dt obs => Sys2Proof.Machine.execScrubberPass dt obs s
  | .trimRecordWrite dt => Sys2Proof.Machine.execTrimRecordWrite dt s
  | .biasRecordWrite dt => Sys2Proof.Machine.execBiasRecordWrite dt s
  | .logEntryWrite dt => Sys2Proof.Machine.execLogEntryWrite dt s
  | .guardRecordRewrite dt => Sys2Proof.Machine.execGuardRecordRewrite dt s
  | .residRewrite dt => Sys2Proof.Machine.execResidRewrite dt s
  | .operatingTime dt => Sys2Proof.Machine.execOperatingTime dt s
  | .nlTransferStart dt stream obs => Sys2Proof.Machine.execNlTransferStart dt stream obs s
  | .nlLocked dt lane rx => Sys2Proof.Machine.execNlLocked dt lane rx s
  | .lsync dt lane rx => Sys2Proof.Machine.execLsync dt lane rx s
  | .missingLsync dt lane rx => Sys2Proof.Machine.execMissingLsync dt lane rx s
  | .nlLockLost dt lane rx => Sys2Proof.Machine.execNlLockLost dt lane rx s
  | .trn dt lane rx => Sys2Proof.Machine.execTrn dt lane rx s
  | .chunk dt lane rx => Sys2Proof.Machine.execChunk dt lane rx s
  | .header dt lane rx => Sys2Proof.Machine.execHeader dt lane rx s
  | .coeff dt lane rx => Sys2Proof.Machine.execCoeff dt lane rx s
  | .rowS dt lane rx => Sys2Proof.Machine.execRowS dt lane rx s
  | .rowL dt lane rx => Sys2Proof.Machine.execRowL dt lane rx s
  | .trainTimeout dt => Sys2Proof.Machine.execTrainTimeout dt s
  | .bundleTimeout dt => Sys2Proof.Machine.execBundleTimeout dt s
  | .detectRetry dt => Sys2Proof.Machine.execDetectRetry dt s
  | .headerTimeout dt => Sys2Proof.Machine.execHeaderTimeout dt s
  | .cmdRun dt lane rx => Sys2Proof.Machine.execCmdRun dt lane rx s
  | .cmdRetry dt lane rx => Sys2Proof.Machine.execCmdRetry dt lane rx s
  | .cmdPulse dt lane rx => Sys2Proof.Machine.execCmdPulse dt lane rx s
  | .cmdBlade dt lane rx => Sys2Proof.Machine.execCmdBlade dt lane rx s
  | .cmdStop dt lane rx => Sys2Proof.Machine.execCmdStop dt lane rx s
  | .allBankRefresh dt channel ports => Sys2Proof.Machine.execAllBankRefresh dt channel ports s
  | .hostPresent dt cfg => Sys2Proof.Machine.execHostPresent dt cfg s
  | .wakeInFall dt => Sys2Proof.Machine.execWakeInFall dt s
  | .prbsLock dt lane bits => Sys2Proof.Machine.execPrbsLock dt lane bits s

end Sys2Proof.Machine
end

