-- ==== Sys2Proof/WellFormed.lean ====
section
/-! DEFINITION. Which commands are well formed: those whose operands have the sizes and ranges that the spec's formats give
them. The machine answers the others too; they spell nothing the world can send. -/
namespace Sys2Proof

/-- A value of `b` signed bits. -/
def fitsS (x : Int) (b : Nat) : Bool := decide (-(2 ^ (b - 1) : Nat) ≤ x) && decide (x < (2 ^ (b - 1) : Nat))

/-- A block that a host-memory read of `n` bytes returned, or a failed read (R228). -/
def blockOk (n : Nat) (b : Option (List Byte)) : Bool :=
  match b with
  | none => true
  | some l => decide (l.length = n)

/-- An access inside the data address space (R230) and inside one block (R231). -/
def MemOp.wf (x : MemOp) : Bool :=
  match x with
  | .flip a bits => decide (a.toNat < 0xe0000000) && bits.all (fun b => decide (b < 576))
  | .read _ a => decide (a.toNat < 0xe0000000)
  | .write _ a data => decide (a.toNat < 0xe0000000) && decide (a.toNat % 64 + data.length ≤ 64) && decide (data ≠ [])
  | .serve _ | .drain | .activate .. => true

/-- Accesses to frame memory. -/
def MemObs.wf (x : MemObs) : Bool := x.ops.all MemOp.wf

/-- An access inside BAR 2 (R198). -/
def Bar2Op.wf (x : Bar2Op) : Bool :=
  match x with
  | .write a data => decide (a.toNat + data.length ≤ 0x800000)
  | .read a n => decide (a.toNat + n ≤ 0x800000)

/-- The inputs of a fetched command. -/
def HostInput.wf (x : HostInput) : Bool := x.bar2.all Bar2Op.wf && x.mem.wf

/-- A width the link may train to (R196); 0 while it is down. -/
def widthOk (speed width : Nat) : Bool := if speed = 0 then width = 0 else width = 1 || width = 2 || width = 4

/-- What a BOOT step found: a verdict on each image slot (R375) and on each stored bundle (R377), a link as R196 trains it. -/
def BootObs.wf (x : BootObs) : Bool :=
  decide (x.imageSig.length = 2) && decide (x.bundleSig.length = 2) && widthOk x.speed.val x.width

/-- The samples of a row slot: 2080 primary and 65 spare channels (R45, R62). -/
def SlotSamples.wf (x : SlotSamples) : Bool :=
  decide (x.s.size = 2080) && decide (x.l.size = 2080) && decide (x.spareS.size = 65) && decide (x.spareL.size = 65)

/-- An input from −0.3 V to VANA33 + 0.3 V and a reference of at most that, VANA33 at most 3.465 V (R389, R390). -/
def ConvResult.wf (x : ConvResult) : Bool :=
  match x with
  | .input v vref => decide (-300000000000 ≤ v) && decide (v ≤ 3765000000000) && decide (vref ≤ 3765000000000)
  | .overPos | .overNeg => true

/-- Line bits begin after a run that a stuff bit has not ended (R285). -/
def RxItem.wf (x : RxItem) : Bool :=
  match x with
  | .bits _ run _ => decide (run ≤ 24)
  | .idle _ | .block _ => true

/-- What comes on a lane. -/
def RxTraffic.wf (x : RxTraffic) : Bool := x.items.all RxItem.wf

/-- A command is well formed. -/
def Instr.wf (i : Instr) : Bool :=
  match i with
  | .commandFetch _ desc inp => blockOk 64 desc && inp.wf
  | .sessionAuth _ _ _ mac => decide (mac.length = 32)
  | .productSet _ _ _ dest _ => decide (dest.length = 10)
  | .paramSet _ _ _ _ length _ block => blockOk length.toNat block
  | .stageChunk _ _ _ _ _ bar2 => bar2.all Bar2Op.wf
  | .stageCommit _ _ _ _ mem => mem.wf
  | .moduleReset _ _ _ refresh => decide (refresh.length = 4)
  | .ledgerRead _ _ _ length _ block => blockOk length.toNat block
  | .ledgerWrite _ _ _ length _ block => blockOk length.toNat block
  | .bootStep _ obs => obs.wf
  | .rowSlot _ x => x.wf
  | .stripeStart _ _ _ _ obs _ => obs.wf
  | .conversionComplete _ _ result => result.wf
  | .thermalConversion _ _ value => fitsS value 24
  | .linkBudget _ speed width => widthOk speed.val width
  | .refreshStatusPoll _ _ _ drift => fitsS drift 8
  | .scrubberPass _ obs => obs.wf
  | .nlTransferStart _ _ obs => obs.mem.wf
  | .nlLocked _ _ rx => rx.wf
  | .lsync _ _ rx => rx.wf
  | .missingLsync _ _ rx => rx.wf
  | .nlLockLost _ _ rx => rx.wf
  | .trn _ _ rx => rx.wf
  | .chunk _ _ rx => rx.wf
  | .header _ _ rx => rx.wf
  | .coeff _ _ rx => rx.wf
  | .rowS _ _ rx => rx.wf
  | .rowL _ _ rx => rx.wf
  | .cmdRun _ _ rx => rx.wf
  | .cmdRetry _ _ rx => rx.wf
  | .cmdPulse _ _ rx => rx.wf
  | .cmdBlade _ _ rx => rx.wf
  | .cmdStop _ _ rx => rx.wf
  | .nop .. | .identify .. | .sessionOpen .. | .sessionClose .. | .modeSet .. | .latencySet .. | .cameraBind ..
  | .cameraUnbind .. | .pipeBSet .. | .siloSet .. | .serviceEnable .. | .shutterGrant .. | .shutterPolicy .. | .actPulse ..
  | .stageBegin .. | .bundleHalfFreed .. | .stageAbort .. | .compatSet .. | .nonceExpiry ..
  | .lockoutEnd .. | .doorbell .. | .ringEnable .. | .registerWrite .. | .accessSize .. | .loRead .. | .vectorUnmask ..
  | .moderationEnd .. | .commit .. | .commitTransferDone .. | .cchCtrl .. | .cchReq .. | .fpCtrl .. | .offlineReq ..
  | .returnRequest .. | .sheafDrained .. | .testReq .. | .sheafTest .. | .sheafRetest .. | .pcvCtrl .. | .pcvEntryCfg ..
  | .pcvUrg .. | .pcvSwtrig .. | .actSense .. | .parChange .. | .egrEn .. | .egressLaneChange .. | .prbs .. | .inject ..
  | .pwrGoodFall .. | .dramTraining .. | .settleHoldEnd .. | .standbyReached .. | .offReached ..
  | .frameStartMarker .. | .fsyncInEdge .. | .fsyncNoisyEnd .. | .fsyncStuck .. | .frontPipeRow .. | .latchPoint ..
  | .engineSramUe .. | .pour .. | .pourDeadline .. | .gleanUpdate .. | .anchorFormed .. | .noClose .. | .openRepeat ..
  | .shutterRequestRepost .. | .shutterGrantLapsed .. | .soPersisted .. | .positionReport .. | .senseFaultEnd ..
  | .pulseStart .. | .kickEnd .. | .actPulseDone .. | .overcurrent .. | .openLoad .. | .hostPulseDrop .. | .coolingTick ..
  | .actSupply .. | .passStart .. | .clockCheck .. | .lockstep .. | .heartbeat .. | .safeNReadback .. | .latentTest ..
  | .safetyTest .. | .spiNop .. | .read .. | .badOp .. | .sessOpen .. | .sessNonce .. | .sessAuth .. | .wdGet ..
  | .wdAnswer .. | .wdTimeout .. | .clearWarn .. | .reqSafe .. | .reqReset .. | .test .. | .frameErr .. | .selectTimeout ..
  | .bothSelectsLow .. | .thermalSample .. | .thmEnforced .. | .thmReleased .. | .thmRearmed .. | .slowSampling ..
  | .idleDepth .. | .wakeIn .. | .wakeComplete .. | .hostAbsent .. | .functionLevelReset .. | .refreshInterval ..
  | .guardAction .. | .activationWindow .. | .trimRecordWrite .. | .biasRecordWrite .. | .logEntryWrite ..
  | .guardRecordRewrite .. | .residRewrite .. | .operatingTime ..
  | .trainTimeout .. | .bundleTimeout .. | .detectRetry .. | .headerTimeout ..
  | .allBankRefresh .. | .hostPresent ..
  | .wakeInFall .. | .prbsLock .. => true

end Sys2Proof
end

