-- ==== Sys2Proof/Safety.lean ====
section
/-! DEFINITION. What counts as a safe run of the module, in the terms that the statements use. -/
namespace Sys2Proof.Machine

/-- The state a command leads to; `s` itself where it stops. -/
def after (c : Instr) (s : State) : State :=
  match exec c s with
  | .next t => t
  | _ => s

/-- A command of the table that acts on a module in OFF: the triggers of a module reset, the supplies, the level of the
WAKE_IN pin (R372, R373, R379). -/
def Instr.reachesOff (c : Instr) : Bool :=
  match c with
  | .moduleReset .. | .pwrGoodFall .. | .wakeIn .. | .wakeInFall .. => true
  | _ => false

/-- The state is no step ahead of a module in SAFE: nothing is read, no transition runs, no first frame is due, SAFE_N is
low (R315). -/
def State.rests (s : State) : Prop :=
  s.pa.reading = false ∧ s.pb.reading = false ∧ s.plt.firstMarker = none ∧ s.sup.trans = false ∧ s.saf.safeN = false

/-- A module in SAFE rests. -/
def State.SafeInv (s : State) : Prop := s.mode = .safe → s.rests

/-- The first dangerous fault is latched: no fault is decided before the first, and SAFE follows the decision (R313,
R315). -/
def State.FaultInv (s : State) : Prop := s.saf.first = 0 → s.saf.decided = []

/-- A host command of a session is served: it can be fetched, the module is awake, in neither SAFE nor 1210 mode, and the
header names an authenticated session of the role (R203, R205, R210, R217). -/
def State.takes (s : State) (h : Hdr) (r : Role) : Prop :=
  s.mayFetch = true ∧ s.mode ≠ .safe ∧ s.asleep = false ∧ s.pa.pend.compat = false ∧ h.rsv = false ∧
    ∃ x, s.sessionOf h.session = some x ∧ x.role = r

/-- From `s` to `t` the module took one command of ring 0 and wrote its completion, and no other, to ring 1 (R203, R206). -/
def State.answered (s t : State) (tag : Word) (op status : Nat) (result : List Word) : Prop :=
  t.hif.completions = ⟨(s.ring 1).head, (s.ring 1).phase, tag, op, status, (s.ring 0).head,
      (result ++ List.replicate 5 0#32).take 5⟩ :: s.hif.completions ∧
    (t.ring 0).head = ((s.ring 0).head + 1) % 2 ^ (s.ring 0).size

/-- A frame of the safety channel is admitted: the channel is ready, the CRC is right, no comparison runs on its select, SEQ
follows the reference (R321, R324, R325, R327). -/
def State.admits (s : State) (q : SpiReq) (op : Nat) : Prop :=
  2500000 ≤ s.now ∧ s.saf.ports.length = 2 ∧ crc8 (frameBytes op q.arg.toNat (q.seq.toNat * 16 + q.rsv.toNat) q.data) = q.crc ∧
    (q.sel = .safe → s.saf.comparing = none) ∧ ∀ r, (s.port (selNum q.sel)).seq = some r → q.seq.toNat = (r + 1) % 16

/-- What an admitted frame leaves in its select: the answer before it shifted out, its SEQ as the reference, its own answer
(R323). -/
def State.spiDone (s : State) (q : SpiReq) (op stat : Nat) (data : Word) : State :=
  s.modPort (selNum q.sel) (fun p => ⟨some q.seq.toNat, ⟨op, stat, q.seq.toNat, data⟩, none, s.response p.given⟩)

/-- From `s` to `t` the module entered SAFE for one more dangerous fault (R313, R315). -/
def State.tripped (s t : State) (id : Nat) : Prop :=
  t.mode = .safe ∧ t.saf.decided = s.saf.decided ++ [id] ∧ t.saf.safeN = false ∧ t.pa.reading = false ∧ t.pb.reading = false ∧
    t.pcv.biasOn = none ∧ t.nv = s.nv

end Sys2Proof.Machine
end

