-- ==== Sys2Proof/Certificates/Slice0/Obligations.lean ====
section
/-! DEFINITION. The statements about the model: what each command does, in the terms of the spec's rules, what it leaves
alone, and what holds of the module over every command. -/
open Sys2Proof
open Sys2Proof.Machine

/-! ## The queue, OFF, reset -/

/-- A step takes the command that has waited longest and runs it with the rest of the queue behind it; on an empty queue
the block idles (the model's choice, notes/assumptions/2). -/
def Obligations.StepTakesFront : Prop :=
  (∀ (c : Instr) (rest : List Instr) (s : State), s.pending = c :: rest → step s = exec c { s with pending := rest }) ∧
    ∀ s : State, s.pending = [] → step s = .next s

/-- 17 R372, R379: in OFF the module is held in reset, so every command but the triggers of a reset, the supplies and the WAKE_IN
pin only lets time pass (notes/assumptions/9). -/
def Obligations.OffHoldsTheModule : Prop :=
  ∀ (c : Instr) (s : State), s.mode = .off → Instr.reachesOff c = false → ∃ dt, exec c s = .next (s.elapse dt)

/-! ## Host interface (09) -/

/-- 09 R201: a doorbell of ring x carries INDEX. Where it is below 2^SIZE, the ring is enabled, and it neither takes back posted
entries nor frees entries not written, TAIL becomes INDEX and, on a product ring, the entries from the old TAIL to INDEX − 1
pass to the module; those of ring 0 are fetched from there (CommandFetched), and a doorbell may also wake the module (R368). Any
other doorbell is ignored, sets DB_INVALID and posts DOORBELL_INVALID. -/
def Obligations.Doorbells : Prop :=
  ∀ (dt : Nat) (x : Fin 24) (index : BitVec 16) (ops : List (BitVec 16 × Byte)) (bufs : List BufDesc) (r : Ring) (d : Nat → Nat → Nat)
    (ok : Prop) (s u : State), u = s.elapse dt → u.live = true → x.val ≤ 22 → r = u.ring x.val →
    d = (fun a b => (a + 2 ^ r.size - b % 2 ^ r.size) % 2 ^ r.size) →
    (ok ↔ r.enable = true ∧ index.toNat < 2 ^ r.size ∧ (x.val ≠ 1 → x.val ≠ 2 → d r.tail r.head ≤ d index.toNat r.head) ∧
      (x.val = 1 ∨ x.val = 2 → d index.toNat r.tail ≤ d r.head r.tail)) →
    (ok → 3 ≤ x.val → exec (.doorbell dt x index ops bufs) s = .next (u.modRing x.val (fun y =>
      { y with tail := index.toNat,
               posted := y.posted ++ ((List.range (d index.toNat r.tail)).map (fun k => (r.tail + k) % 2 ^ r.size)).zip
                 (bufs ++ List.replicate (d index.toNat r.tail) ⟨0#64, 0#32, 0#32⟩) }))) ∧
    (ok → x.val = 1 ∨ x.val = 2 ∧ u.hif.lostSince = 0 → exec (.doorbell dt x index ops bufs) s =
      .next (u.modRing x.val (fun y => { y with tail := index.toNat }))) ∧
    (ok → x.val = 0 ∨ x.val = 2 → ∃ t, exec (.doorbell dt x index ops bufs) s = .next t ∧ (t.ring x.val).tail = index.toNat ∧
      (x.val = 0 → t.hif = (u.modRing 0 (fun y => { y with tail := index.toNat })).hif) ∧ t.mode = u.mode ∧ t.nv = u.nv ∧ t.pa = u.pa ∧
      t.pb = u.pb ∧ t.plt = u.plt ∧ t.act = u.act ∧ t.saf = u.saf) ∧
    (¬ok → exec (.doorbell dt x index ops bufs) s =
      .next ((u.modRing x.val (fun y => { y with dbInvalid := true })).post0 0x0004 [word x.val, word index.toNat]))

/-- 09 R200: ENABLE goes from 0 to 1 with SIZE 3–12 and, on a product ring, STRIDE a multiple of 64 (0 among them); HEAD and TAIL
become 0, the phase 1. Otherwise the ring stays out of service, CFG is set and RING_CONFIG posted. -/
def Obligations.RingEnable : Prop :=
  ∀ (dt : Nat) (x : Fin 23) (v : Word) (s u : State), u = s.elapse dt → u.live = true → u.locked = false → (u.ring x.val).enable = false →
    bit v 31 = true →
    ((3 ≤ fld v 3 0 ∧ fld v 3 0 ≤ 12 ∧ (x.val < 3 ∨ (u.ring x.val).stride.toNat % 64 = 0)) → x.val ≠ 2 →
      exec (.ringEnable dt x v) s = .next (u.modRing x.val (fun r =>
        { r with mod_ := fld v 25 16, vector := fld v 12 8, size := fld v 3 0, enable := true, head := 0, tail := 0,
                 phase := true, posted := [] }))) ∧
    ((3 ≤ fld v 3 0 ∧ fld v 3 0 ≤ 12) → x.val = 2 → u.hif.lostSince = 0 → u.hif.resumeDue = false → u.sup.noBundleDue = false →
      u.sup.safeEvDue = false → exec (.ringEnable dt x v) s = .next (u.modRing x.val (fun r =>
        { r with mod_ := fld v 25 16, vector := fld v 12 8, size := fld v 3 0, enable := true, head := 0, tail := 0,
                 phase := true, posted := [] }))) ∧
    (¬(3 ≤ fld v 3 0 ∧ fld v 3 0 ≤ 12 ∧ (x.val < 3 ∨ (u.ring x.val).stride.toNat % 64 = 0)) →
      exec (.ringEnable dt x v) s = .next ((u.modRing x.val (fun r =>
        { r with mod_ := fld v 25 16, vector := fld v 12 8, size := fld v 3 0, cfgErr := true })).post0 0x0006 [word x.val]))

/-- 00 R11, R12, R14, 09 R228: a register write. RW fields take the value (PLT_EXP, PLT_FSYNC, THM_CTRL, CCH_SEL are shown, and each is
read back), reserved bits are ignored; a bit of a W1C field that is written 1 clears, one written 0 stays (RING_ERR, PCV_STAT, the
fault bits of an actuator channel); a register whose fields are RWL (RING_BASE) takes the value while no session is open, and else
stays, with LOCKED_WRITE where the value differs; one whose fields are all RO stays and LOCKED_WRITE names it; a reserved one is
ignored, and so is a write whose data are poisoned. -/
def Obligations.RegisterWrite : Prop :=
  ∀ (dt : Nat) (off : BitVec 20) (v : Word) (s u : State), u = s.elapse dt → u.live = true → off.toNat % 4 = 0 →
    exec (.registerWrite dt off v true) s = .next u ∧
    (off = 0x08000#20 → ∃ t, exec (.registerWrite dt off v false) s = .next t ∧ t.readReg 0x08000 = v &&& 0x001fff33#32 ∧
      t = { u with plt := { u.plt with exp := v &&& 0x001fff33#32 } }) ∧
    (off = 0x08004#20 → ∃ t, exec (.registerWrite dt off v false) s = .next t ∧ t.readReg 0x08004 = v &&& 0xffff0003#32 ∧
      t = { u with plt := { u.plt with fsync := v &&& 0xffff0003#32 } }) ∧
    (off = 0x02000#20 → ∃ t, exec (.registerWrite dt off v false) s = .next t ∧ t.readReg 0x02000 = v &&& 0x00001fff#32 ∧
      t = { u with thm := { u.thm with ctrl := v &&& 0x00001fff#32 } }) ∧
    (off = 0x09010#20 → ∃ t, exec (.registerWrite dt off v false) s = .next t ∧ t.readReg 0x09010 = v &&& 0x007f003f#32 ∧
      t = { u with cch := { u.cch with sel := v &&& 0x007f003f#32 } }) ∧
    (∀ x, x < 23 → off.toNat = 0x4118 + 32 * x → exec (.registerWrite dt off v false) s = .next (u.modRing x (fun r =>
      { r with cfgErr := r.cfgErr && !bit v 3, overflow := r.overflow && !bit v 2, dmaErr := r.dmaErr && !bit v 1,
               dbInvalid := r.dbInvalid && !bit v 0 }))) ∧
    (off = 0x0c004#20 → exec (.registerWrite dt off v false) s =
      .next { u with pcv := { u.pcv with cfgErr := u.pcv.cfgErr && !bit v 0 } }) ∧
    (∀ c, c < 4 → off.toNat = 0xd04c + 16 * c → exec (.registerWrite dt off v false) s =
      .next (u.modCh c (fun y => { y with ol := y.ol && !bit v 1, oc := y.oc && !bit v 0 }))) ∧
    (∀ x, x < 23 → off.toNat = 0x4100 + 32 * x →
      (u.locked = false → x < u.hif.rings.length → ∃ t, exec (.registerWrite dt off v false) s = .next t ∧
        (t.ring x) = { u.ring x with baseLo := v &&& 0xffffffc0#32 } ∧ (∀ y, y ≠ x → t.ring y = u.ring y) ∧
        { t with hif := u.hif } = u) ∧
      (u.locked = true → exec (.registerWrite dt off v false) s = .next
        (if (u.ring x).baseLo = v &&& 0xffffffc0#32 then u else u.post0 0x0003 [word off.toNat]))) ∧
    ((off.toNat < 0x18 ∨ (0x0800c ≤ off.toNat ∧ off.toNat < 0x08038) ∨ (0x10000 ≤ off.toNat ∧ off.toNat < 0x10020) ∨
        (0x21000 ≤ off.toNat ∧ off.toNat < 0x21034)) →
      exec (.registerWrite dt off v false) s = .next (u.post0 0x0003 [word off.toNat])) ∧
    (0x22000 ≤ off.toNat ∨ (0x08038 ≤ off.toNat ∧ off.toNat < 0x09000) ∨ (0x16540 ≤ off.toNat ∧ off.toNat < 0x20000) →
      exec (.registerWrite dt off v false) s = .next u)

/-- 00 R13: an access of another size or alignment discards a write, returns 0xffffffff to a read and posts ACCESS_SIZE. -/
def Obligations.AccessSize : Prop :=
  ∀ (dt : Nat) (off : BitVec 20) (v : Word) (s u : State), u = s.elapse dt → u.live = true →
    exec (.accessSize dt off true) s = .next (u.post0 0x0002 [word off.toNat]) ∧
    exec (.accessSize dt off false) s =
      .next ({ u with hif := { u.hif with rdata := 0xffffffff#32 } }.post0 0x0002 [word off.toNat]) ∧
    (off.toNat % 4 ≠ 0 → exec (.registerWrite dt off v false) s = .next (u.post0 0x0002 [word off.toNat]) ∧
      exec (.loRead dt off) s =
        .next ({ u with hif := { u.hif with rdata := 0xffffffff#32 } }.post0 0x0002 [word off.toNat]))

/-- 09 R227: a read returns the register, or what the read of its _LO partner kept for it; one of HIF_TIME_LO returns the low word of
the time and keeps the high word of that instant for the next read of HIF_TIME_HI, however late it comes; a further read returns the
live value. 09 R225, R226: unmasking a vector sends the message that its pending bit holds, a ring's moderation interval ends with
one message for what was written during it; a masked vector sets its pending bit in place of the message. Under MSI with N vectors
message v mod N is masked, held and sent. What an absent host cannot take stays pending (the model's reading of R229,
notes/assumptions/113). -/
def Obligations.ReadsAndMessages : Prop :=
  (∀ (dt : Nat) (off : BitVec 20) (s u : State), u = s.elapse dt → u.live = true → off.toNat % 4 = 0 →
      ∃ t, exec (.loRead dt off) s = .next t ∧
        t.hif.rdata = (SMap.get none u.hif.shadows off.toNat).getD (u.readReg off.toNat) ∧
        t = { u with hif := { u.hif with rdata := t.hif.rdata, shadows := t.hif.shadows } }) ∧
  (∀ (dt d2 d3 : Nat) (s u : State), u = s.elapse dt → u.live = true → SMap.ok none u.hif.shadows = true →
      SMap.get none u.hif.shadows 0x4008 = none →
      ∃ t v w : State, exec (.loRead dt 0x04008#20) s = .next t ∧ exec (.loRead d2 0x0400c#20) t = .next v ∧
        exec (.loRead d3 0x0400c#20) v = .next w ∧
        t.hif.rdata = word u.now ∧ v.hif.rdata = word (u.now / 2 ^ 32) ∧
        w.hif.rdata = word ((u.now + d2 + d3) / 2 ^ 32) ∧ w.sup = u.sup ∧ w.plt = u.plt ∧ w.pa = u.pa ∧ w.nv = u.nv) ∧
  (∀ (dt : Nat) (v : Fin 32) (s u : State), u = s.elapse dt → u.live = true →
      (∃ t, exec (.vectorUnmask dt v) s = .next t ∧ { t with hif := u.hif } = u ∧ t.hif.rings = u.hif.rings ∧ t.hif.events = u.hif.events ∧
        t.hif.cfg = u.hif.cfg ∧ t.hif.sessions = u.hif.sessions) ∧
      (∀ x : Vector_, u.hif.msi = 0 → u.hif.vectors[v.val]? = some x →
        exec (.vectorUnmask dt v) s = .next { u with hif := { u.hif with
          vectors := modAt u.hif.vectors v.val (fun y => { y with masked := false, pending := x.pending && u.absent })
          messages := if x.pending && !u.absent then v.val :: u.hif.messages else u.hif.messages } }) ∧
      (v.val < u.hif.msi → u.absent = false →
        (∀ m, m < 32 → m ≠ v.val → bit u.hif.msiPending m = true → bit u.hif.msiMask m = true) →
        exec (.vectorUnmask dt v) s = .next { u with hif := { u.hif with
          msiMask := u.hif.msiMask &&& ~~~word (2 ^ v.val)
          msiPending := u.hif.msiPending &&& (u.hif.msiMask &&& ~~~word (2 ^ v.val))
          messages := if bit u.hif.msiPending v.val then v.val :: u.hif.messages else u.hif.messages } })) ∧
  (∀ (dt : Nat) (x : Fin 23) (r : Ring) (s u w : State), u = s.elapse dt → u.live = true → r = u.ring x.val →
      w = u.modRing x.val (fun y => { y with modHeld := false, modUntil := u.now + r.mod_ * 125 }) →
      (r.modHeld = false ∨ u.now < r.modUntil → exec (.moderationEnd dt x) s = .next u) ∧
      (r.modHeld = true → r.modUntil ≤ u.now → exec (.moderationEnd dt x) s = .next (w.sendMessage r.vector)) ∧
      (∀ y : Vector_, r.modHeld = true → r.modUntil ≤ u.now → u.hif.msi = 0 → u.hif.vectors[r.vector]? = some y →
        exec (.moderationEnd dt x) s = .next (if y.masked = false ∧ u.absent = false
          then { w with hif := { w.hif with messages := r.vector :: u.hif.messages } }
          else { w with hif := { w.hif with vectors := modAt u.hif.vectors r.vector (fun z => { z with pending := true }) } })) ∧
      (∀ m, r.modHeld = true → r.modUntil ≤ u.now → u.hif.msi ≠ 0 → m = r.vector % u.hif.msi →
        exec (.moderationEnd dt x) s = .next (if bit u.hif.msiMask m = false ∧ u.absent = false
          then { w with hif := { w.hif with messages := m :: u.hif.messages } }
          else { w with hif := { w.hif with msiPending := u.hif.msiPending ||| word (2 ^ m) } })))

/-- 09 R229: a lost host finds every ring disabled and every session closed; the mode, the frame numbers and the safety monitoring
of the module stay. Function Level Reset also returns the HIF registers and configuration space to their reset values. 07 R171: a
link that retrains to a lower speed and width whose budget the product sets in force exceed keeps the sets and posts LINK_BUDGET. A
host that is back ends the absence where the link has trained, and reads and writes configuration space (09 R196; its layout is the
model's, notes/assumptions/113). NONCE_EXPIRY frees the slot of a session whose nonce is 1 s old (R218). -/
def Obligations.HostPresence : Prop :=
  (∀ (dt : Nat) (s u : State), u = s.elapse dt → u.live = true → u.hif.sessions.length = 4 →
      (∀ c : AbsentCause, ∃ t, exec (.hostAbsent dt c) s = .next t ∧ (∀ r ∈ t.hif.rings, r.enable = false) ∧
        (∀ x ∈ t.hif.sessions, x = none) ∧ t.absent = true ∧ t.sup = u.sup ∧ t.saf = u.saf ∧ t.act = u.act ∧ t.nv = u.nv ∧
        t.pa.frameNo = u.pa.frameNo ∧ t.pb.frameNo = u.pb.frameNo ∧ t.hif.events = u.hif.events) ∧
      (∃ t, exec (.functionLevelReset dt) s = .next t ∧ t.hif.rings = Hif.reset.rings ∧ t.hif.evtLost = 0 ∧ t.hif.speed = 0 ∧
        t.hif.width = 0 ∧ t.hif.vectors = Hif.reset.vectors ∧ t.hif.cfg = PciCfg.reset ∧ (∀ x ∈ t.hif.sessions, x = none) ∧
        t.absent = true ∧ t.now = u.now ∧ t.sup = u.sup ∧ t.saf = u.saf ∧ t.nv = u.nv)) ∧
  (∀ (dt : Nat) (speed : Fin 4) (width : Nat) (s u v : State), u = s.elapse dt → u.live = true →
      v = { u with hif := { u.hif with speed := speed.val, width := width, link := (speed.val, width) } } →
      (linkBudget speed.val width = 0 → exec (.linkBudget dt speed width) s = .next u) ∧
      (0 < linkBudget speed.val width →
        linkBudget u.hif.link.1 u.hif.link.2 ≤ linkBudget speed.val width ∨ v.overLink = false →
        exec (.linkBudget dt speed width) s = .next v) ∧
      (0 < linkBudget speed.val width → linkBudget speed.val width < linkBudget u.hif.link.1 u.hif.link.2 → v.overLink = true →
        exec (.linkBudget dt speed width) s = .next (v.post0 0x0008 [word speed.val, word width]))) ∧
  (∀ (dt : Nat) (v : Word) (cfg : List CfgAccess) (s u : State), u = s.elapse dt → u.live = true →
      (∃ t, exec (.hostPresent dt cfg) s = .next t ∧ (u.hif.link.1 ≠ 0 → t.absent = false) ∧ t.hif.speed = u.hif.link.1 ∧
        t.hif.width = u.hif.link.2 ∧ t.hif.rings = u.hif.rings ∧ t.hif.sessions = u.hif.sessions ∧ { t with hif := u.hif } = u) ∧
      (∃ t, exec (.hostPresent dt [.read .id]) s = .next t ∧ t.hif.cfgRdata = 0x24156a7b#32) ∧
      (∃ t, exec (.hostPresent dt [.read .classRev]) s = .next t ∧ t.hif.cfgRdata = 0x04800010#32) ∧
      (∃ t, exec (.hostPresent dt [.write .msiCtl v]) s = .next t ∧
        t.hif.msi = if bit v 16 then 2 ^ min 5 (fld v 22 20) else 0)) ∧
  (∀ (dt : Nat) (i : Fin 4) (x : Session) (s u : State), u = s.elapse dt → u.live = true → u.hif.sessions.getD i.val none = some x →
      x.auth = false → x.opened + 125000000 ≤ u.now →
      exec (.nonceExpiry dt i) s = .next { u with hif := { u.hif with
        sessions := u.hif.sessions.set i.val none, expired := x.handle :: u.hif.expired } })

/-! ## Shutter and valve drive (12) -/

/-- 12 R268, R270, R274: at KICK steps the coil feed goes over to VACT; a pulse that has run its L steps ends then, its channels and
its switch note the instant, and a channel that drives a pulse of its own has been heated by HEAT for each step. -/
def Obligations.PulseRunsItsLength : Prop :=
  (∀ (dt : Nat) (x : Fin 4) (r : Pulse) (s u : State), u = s.elapse dt → u.live = true → u.act.chans.length = 4 →
    (u.ch x.val).run = some r →
    (r.kicking = true → r.start + r.kick * 12500 ≤ u.now →
      exec (.kickEnd dt x) s = .next (u.modCh x.val (fun c => { c with run := some { r with kicking := false } }))) ∧
    (r.kicking = false ∨ u.now < r.start + r.kick * 12500 → exec (.kickEnd dt x) s = .next u) ∧
    (u.now < r.start + r.steps * 12500 → exec (.actPulseDone dt x) s = .next u) ∧
    (r.start + r.steps * 12500 ≤ u.now → ∃ t, exec (.actPulseDone dt x) s = .next t ∧ (t.ch x.val).run = none ∧
      (∀ j ∈ u.switched x.val r.both, j < 4 → (t.ch j).lastPulse = some (r.start + r.steps * 12500)) ∧
      t.act.lastEnd = u.act.lastEnd.set (x.val / 2) (some (r.start + r.steps * 12500)) ∧
      (∀ j, (t.ch j).theta = (u.ch j).theta) ∧
      t.act.waits = u.act.waits ∧ t.act.inputs = u.act.inputs ∧ t.act.sense = u.act.sense ∧ t.nv = u.nv ∧ t.sup = u.sup ∧
      t.plt = u.plt ∧ t.pa = u.pa ∧ t.pb = u.pb)) ∧
  (∀ (dt : Nat) (x : Fin 4) (r : Pulse) (s : State), s.live = true → s.act.chans.length = 4 → (s.ch x.val).run = some r →
    (∀ j, j ≠ x.val → (s.ch j).run = none) → s.judged x.val r.both = [x.val] → r.counted < r.steps →
    r.start + r.steps * 12500 ≤ s.now + dt →
    ∃ t, exec (.actPulseDone dt x) s = .next t ∧
      (t.ch x.val).theta = min ((s.ch x.val).theta + (r.steps - r.counted) * (s.ch x.val).heat) 0xffffff ∧
      (∀ j, j ≠ x.val → (t.ch j).theta = (s.ch j).theta))

/-- 12 R272, R273, 15 R345: on a stage with no pulse running, an open pulse of a shutter event that is due starts in every mode, at once
or, where an LS0 pulse ran when it fell due, 2.0 ms after that, from BOOST_CAP where this is charged and from VACT otherwise; a
waiting host pulse starts where supply, faults, the coil model, the 2.0 ms and the boost permit it and no event reserves the switch.
Each start counts its tallies. -/
def Obligations.PulseStarts : Prop :=
  ∀ (dt : Nat) (x : Fin 4) (s u : State), u = s.elapse dt → u.live = true → u.act.chans.length = 4 → (∀ c ∈ u.act.chans, c.run = none) →
    (∀ n since, (u.ch 0).due = some ⟨.open_, n, since⟩ → (∀ e, (u.ch 0).lastPulse = some e → e ≤ since ∨ e + 250000 ≤ u.now) →
      ∃ t, exec (.pulseStart dt 0) s = .next t ∧ (t.ch 0).due = none ∧
        (t.ch 0).run = some ⟨.open_, n, if u.boostOk then (u.ch 0).kick else 0, false, u.now, 0,
          u.boostOk && decide (0 < (u.ch 0).kick)⟩ ∧
        t.pa.event = u.pa.event.map (fun e => { e with lastOpen := u.now }) ∧
        t.nv.tally = (u.switched 0 false).foldl (fun l j => modAt l j Tally.count) u.nv.tally ∧ t.act.waits = u.act.waits) ∧
    (∀ n since e, (u.ch 0).due = some ⟨.open_, n, since⟩ → (u.ch 0).lastPulse = some e → since < e → u.now < e + 250000 →
      exec (.pulseStart dt 0) s = .next u) ∧
    (∀ h : HostPulse, u.act.waits.getD (x.val / 2) none = some h → h.channel = x.val → (u.ch x.val).due = none →
      (u.ch (x.val / 2 * 2)).due = none → u.hostPulseStop h = none → u.switchFree (x.val / 2) = true → u.kickOk (u.ch x.val).kick = true →
      u.reserved h = false →
      ∃ t, exec (.pulseStart dt x) s = .next t ∧ t.act.waits = u.act.waits.set (x.val / 2) none ∧
        (t.ch x.val).run = some ⟨.host, h.steps, (u.ch x.val).kick, h.both, u.now, 0, decide (0 < (u.ch x.val).kick)⟩ ∧
        t.nv.tally = (u.switched x.val h.both).foldl (fun l j => modAt l j Tally.count) u.nv.tally)

/-- 12 R277: an overcurrent, or an open load at 1.0 ms or later, on a channel that a pulse drives latches OC or OL on it
(on the lower one of a pair driven as one load), posts ACT_FAULT and ends the pulse with the steps driven. 12 R273, R276: a host
pulse that has waited 1000 ms is dropped with reason BUSY; VACT that leaves 8.7–16.5 V posts ACT_SUPPLY and drops the waiting
host pulses with reason SUPPLY, and its return posts ACT_SUPPLY. -/
def Obligations.PulsesCutShort : Prop :=
  (∀ (dt : Nat) (x : Fin 4) (r : Pulse) (c : Nat) (s u : State), u = s.elapse dt → u.live = true →
      u.carrier x.val = some c → (u.ch c).run = some r →
      exec (.overcurrent dt x) s = .next (((u.modCh (if u.paired x.val then x.val / 2 * 2 else x.val) (fun c => { c with oc := true })).post0
          0x00a2 [word (if u.paired x.val then x.val / 2 * 2 else x.val), 1#32]).endPulse c u.now (min r.steps ((u.now - r.start) / 12500))) ∧
      (r.start + 125000 ≤ u.now →
        exec (.openLoad dt x) s = .next (((u.modCh (if u.paired x.val then x.val / 2 * 2 else x.val) (fun c => { c with ol := true })).post0
          0x00a2 [word (if u.paired x.val then x.val / 2 * 2 else x.val), 2#32]).endPulse c u.now (min r.steps ((u.now - r.start) / 12500)))) ∧
      (u.now < r.start + 125000 → exec (.openLoad dt x) s = .next u)) ∧
  ((∀ (dt : Nat) (x : Fin 4) (s u : State), u = s.elapse dt → u.live = true → u.carrier x.val = none →
      exec (.overcurrent dt x) s = .next u ∧ exec (.openLoad dt x) s = .next u) ∧
    (∀ (dt : Nat) (w : Fin 2) (h : HostPulse) (s u : State), u = s.elapse dt → u.live = true → u.act.waits.getD w.val none = some h →
      h.since + 125000000 ≤ u.now →
      exec (.hostPulseDrop dt w) s = .next (({ u with act := { u.act with waits := u.act.waits.set w.val none } }).post0 0x00a1
        [word h.channel, 1#32])) ∧
    (∀ (dt : Nat) (v b : Byte) (s u : State), u = s.elapse dt → u.live = true → u.act.waits.length = 2 →
      (vactOk v.toNat = false → vactOk u.act.vact = true → ∃ t, exec (.actSupply dt v b) s = .next t ∧
        t.act = { u.act with vact := v.toNat, vboost := b.toNat, waits := [none, none] } ∧ t.nv = u.nv ∧ t.sup = u.sup ∧ t.saf = u.saf) ∧
      (vactOk v.toNat = false → vactOk u.act.vact = false → exec (.actSupply dt v b) s =
        .next { u with act := { u.act with vact := v.toNat, vboost := b.toNat } }) ∧
      (vactOk v.toNat = true → exec (.actSupply dt v b) s = .next
        (if vactOk u.act.vact then { u with act := { u.act with vact := v.toNat, vboost := b.toNat } }
         else ({ u with act := { u.act with vact := v.toNat, vboost := b.toNat } }).post0 0x00a7 [1#32]))))

/-- 12 R269, R278, R279: ACT_SENSE takes EN and POL in STANDBY only, elsewhere it stays and LOCKED_WRITE names it; a PAR bit takes
effect on a quiet pair; an input faulty for 1 s is no longer faulty; the first report makes a level known and a further one, of
an input not in use, only stores it. 12 R274: at a cooling tick each coil's rise θ loses rnd(θ · (6554
div TAU_S), 16). -/
def Obligations.SenseAndCooling : Prop :=
  ((∀ (dt : Nat) (v : Word) (s u : State), u = s.elapse dt → u.live = true →
      exec (.actSense dt v) s = .next (if s.mode = .standby then { u with act := { u.act with sense := word (v.toNat % 16) } }
        else u.post0 0x0003 [0xd008#32])) ∧
    (∀ (dt : Nat) (p : Fin 2) (s u : State), u = s.elapse dt → u.live = true → (u.ch (2 * p.val)).run = none → (u.ch (2 * p.val + 1)).run = none →
      (u.ch (2 * p.val)).due = none → (u.ch (2 * p.val + 1)).due = none → u.act.waits.getD p.val none = none →
      exec (.parChange dt p) s = .next { u with act :=
        { u.act with par01 := if p.val = 0 then bit u.act.ctrl 8 else u.act.par01
                     par23 := if p.val = 0 then u.act.par23 else bit u.act.ctrl 9 } }) ∧
    (∀ (dt : Nat) (i : Fin 2) (x : Sense) (e : Nat) (s u : State), u = s.elapse dt → u.live = true → u.act.inputs[i.val]? = some x →
      x.faultAt = some e → e + 125000000 ≤ u.now →
      exec (.senseFaultEnd dt i) s = .next { u with act := { u.act with
        inputs := modAt u.act.inputs i.val (fun y => { y with faultAt := none }) } }) ∧
    (∀ (dt : Nat) (i : Fin 2) (l : Bool) (x : Sense) (s u : State), u = s.elapse dt → u.live = true → u.act.inputs[i.val]? = some x →
      (x.level = none ∨ (bit u.act.sense (2 * i.val) = false ∧ i.val = 1 ∧ x.level = some (!l))) →
      exec (.positionReport dt i l) s = .next { u with act := { u.act with
        inputs := modAt u.act.inputs i.val (fun y => { y with level := some l }) } })) ∧
  (∀ (dt : Nat) (s u : State), u = s.elapse dt → u.live = true → (u.act.coolTicks + 1) * 12500000 ≤ u.now →
      ∃ t, exec (.coolingTick dt) s = .next t ∧ t.act.coolTicks = u.act.coolTicks + 1 ∧
        (∀ i, i < u.act.chans.length → ((t.ch i).theta : Int) =
          max 0 ((u.ch i).theta - rnd ((u.ch i).theta * (6554 / max (u.ch i).tauS 1 : Nat)) 16)) ∧
        t.act.waits = u.act.waits ∧ t.nv = u.nv ∧ t.sup = u.sup ∧ t.pa = u.pa ∧ t.pb = u.pb ∧ t.plt = u.plt)

/-! ## Host commands (09 R203 to R222, 17 R381) -/

/-- 09 R203, R206, R228: a descriptor fetched from ring 0 takes one position; a NOP completes with OK, an opcode outside R210 with
BAD_OPCODE, a descriptor that could not be read with DMA_ERROR, which ring 0, an event and AER report too. The accesses to BAR 2 came before. -/
def Obligations.CommandFetched : Prop :=
  ∀ (dt : Nat) (d : List Byte) (inp : HostInput) (s u : State), u = (s.elapse dt).bar2Run inp.bar2 →
    u.mayFetch = true →
    (fieldAt d 0 2 = 1 → fieldAt d 2 2 = 0 → fieldAt d 12 4 = 0 →
      exec (.commandFetch dt (some d) inp) s = .next (u.takeCmd.complete (word (fieldAt d 4 4)) 1 0 (u.ring 0).head [])) ∧
    (parseArgs (fieldAt d 0 2) (d.drop 16) inp = none → u.asleep = false →
      exec (.commandFetch dt (some d) inp) s = .next (u.takeCmd.complete (word (fieldAt d 4 4)) (fieldAt d 0 2) 1 (u.ring 0).head [])) ∧
    exec (.commandFetch dt none inp) s = .next
      ((u.takeCmd.dmaError (u.ring 0).head (((u.ring 0).baseHi ++ (u.ring 0).baseLo) + BitVec.ofNat 64 (64 * (u.ring 0).head))).complete
        0#32 0 12 (u.ring 0).head [])

/-- 09 R205, R210, R217, 08 R194, 17 R386: the checks before a command's own. A reserved field that is not 0 answers BAD_ARG, a
missing session NO_SESSION, SAFE answers MODE and 1210 mode COMPAT to what they do not serve (the order is the model's,
notes/assumptions/46); a command that needs the module awake wakes it and stays in the ring (R368). -/
def Obligations.CommandRefused : Prop :=
  ∀ (dt : Nat) (d : List Byte) (inp : HostInput) (f : Fetched) (c : HostCmd) (s u : State),
    u = (s.elapse dt).bar2Run inp.bar2 → u.mayFetch = true →
    f = parseDesc d inp → f.cmd = some c →
    (c.wakes = true → u.asleep = true → exec (.commandFetch dt (some d) inp) s = .next (u.startWake 0)) ∧
    (u.asleep = false → f.rsv = true →
      exec (.commandFetch dt (some d) inp) s = .next (u.takeCmd.complete f.tag f.opcode 2 (u.ring 0).head [])) ∧
    (u.asleep = false → f.rsv = false → c.needsSession = true → u.sessionOf f.session = none →
      exec (.commandFetch dt (some d) inp) s = .next (u.takeCmd.complete f.tag f.opcode 4 (u.ring 0).head [])) ∧
    (u.asleep = false → f.rsv = false → (c.needsSession = true → u.sessionOf f.session ≠ none) → u.mode = .safe → u.safeServes c = false →
      exec (.commandFetch dt (some d) inp) s = .next (u.takeCmd.complete f.tag f.opcode 3 (u.ring 0).head [])) ∧
    (u.asleep = false → f.rsv = false → (c.needsSession = true → u.sessionOf f.session ≠ none) → u.mode ≠ .safe →
      u.pa.pend.compat = true → c.outside1210 = true →
      exec (.commandFetch dt (some d) inp) s = .next (u.takeCmd.complete f.tag f.opcode 9 (u.ring 0).head []))

/-- 09 R210: NOP does nothing but complete; IDENTIFY answers with version, serial number, bundle and 0x2415; neither needs a
session. 16 R366, 09 R210, 12 R270, R273: LATENCY_SET of an awake module sets the wake latency; ACT_PULSE in range for the mode
queues a host pulse on its switch; out of range it answers BAD_ARG or MODE and queues none. -/
def Obligations.PlainCommands : Prop :=
  (∀ (dt : Nat) (h : Hdr) (s u : State), u = s.elapse dt → u.mayFetch = true → h.rsv = false →
      exec (.nop dt h) s = .next (u.takeCmd.complete h.tag 0x0001 0 (u.ring 0).head []) ∧
      exec (.identify dt h) s = .next (u.takeCmd.complete h.tag 0x0002 0 (u.ring 0).head
        [word (u.sup.minor * 65536 + u.sup.major), word u.nv.serial.toNat, word (u.nv.serial.toNat / 2 ^ 32),
          word (u.bundleId u.pa.pend), 0x2415#32])) ∧
  ((∀ (dt : Nat) (h : Hdr) (w : Word) (r : Role) (s u : State), u = s.elapse dt → u.takes h r →
      exec (.latencySet dt h w) s = .next
        ({ u.takeCmd with thm := { u.thm with wakeUs := w.toNat } }.complete h.tag 0x0021 0 (u.ring 0).head [])) ∧
    (∀ (dt : Nat) (h : Hdr) (ch par : Byte) (len : BitVec 16) (r : Role) (s u : State), u = s.elapse dt → u.takes h r →
      (∀ c ∈ u.act.chans, c.run = none) →
      (u.actPulseStatus ch.toNat par.toNat len.toNat ≠ 0 → exec (.actPulse dt h ch par len) s = .next
        (u.takeCmd.complete h.tag 0x0052 (u.actPulseStatus ch.toNat par.toNat len.toNat) (u.ring 0).head [])) ∧
      (u.actPulseStatus ch.toNat par.toNat len.toNat = 0 → u.act.waits.getD (ch.toNat / 2) none = none →
        u.hostPulseStop ⟨ch.toNat, len.toNat, decide (par.toNat = 1) && !u.paired ch.toNat, u.now⟩ = none →
        exec (.actPulse dt h ch par len) s = .next
          ({ u.takeCmd with act := { u.act with waits := u.act.waits.set (ch.toNat / 2) (some ⟨ch.toNat, len.toNat, decide (par.toNat = 1) && !u.paired ch.toNat, u.now⟩) } }.complete h.tag 0x0052 0 (u.ring 0).head []))))

/-- 09 R217, R218, 15 R341: SESSION_OPEN for a role with a key, no lockout and a free slot opens an unauthenticated session and answers
with its handle and nonce; the other statuses of R217 to R219 leave the sessions alone. The key slot is read back first, and a copy
of a wrong CRC is rewritten from the other one before the key is used. -/
def Obligations.SessionOpens : Prop :=
  (∀ (dt : Nat) (h : Hdr) (role : Byte) (handle : Word) (nonce : BitVec 128) (r : Role) (s u v : State), u = s.elapse dt →
    v = u.takeCmd.readKey role.toNat → u.mayFetch = true → h.rsv = false → roleOfNum role.toNat = some r →
    (v.lockedOut role.toNat = true →
      exec (.sessionOpen dt h role handle nonce) s = .next (v.complete h.tag 0x0010 14 (u.ring 0).head [])) ∧
    (v.lockedOut role.toNat = false → v.keyOf role.toNat = [] →
      exec (.sessionOpen dt h role handle nonce) s = .next (v.complete h.tag 0x0010 5 (u.ring 0).head [])) ∧
    (v.lockedOut role.toNat = false → v.keyOf role.toNat ≠ [] → v.freeSlot r = none →
      exec (.sessionOpen dt h role handle nonce) s = .next (v.complete h.tag 0x0010 15 (u.ring 0).head [])) ∧
    (∀ i, v.lockedOut role.toNat = false → v.keyOf role.toNat ≠ [] → v.freeSlot r = some i → v.handleFree handle = true →
      exec (.sessionOpen dt h role handle nonce) s = .next
        ({ v with hif := { v.hif with
            sessions := v.hif.sessions.set i (some ⟨handle, r, nonce, v.keyOf role.toNat, false, v.now⟩)
            expired := v.hif.expired.filter (· ≠ handle) } }.complete h.tag 0x0010 0 (u.ring 0).head
          (handle :: (List.range 4).map (fun k => word (nonce.toNat / 2 ^ (32 * k))))))) ∧
  (∀ (k q : Nat) (x : List Byte) (r : Rec (List Byte)) (u : State), u.nv.keys[k]? = some r →
    (r.a.isSome = true → r.b.isSome = true → u.readKey k = u) ∧
    (r = ⟨none, some (q, x)⟩ ∨ r = ⟨some (q, x), none⟩ → (u.readKey k).nv = { u.nv with keys := u.nv.keys.set k (Rec.both q x) } ∧
      (u.readKey k).keyOf k = x ∧ (u.readKey k).saf.warn / 2 ^ 13 % 2 = 1 ∧ (u.readKey k).sup = u.sup))

/-- 09 R218, R219, R220: the right MAC within 1 s of SESSION_OPEN authenticates; a wrong one frees the slot, counts, writes the
guard record and from the third consecutive failure on starts a lockout of 30 s doubled with each, at most 480 s; SESSION_CLOSE
frees the slot. -/
def Obligations.SessionAuthenticates : Prop :=
  ∀ (dt : Nat) (h : Hdr) (mac : List Byte) (i : Nat) (x : Session) (s u : State), u = s.elapse dt → u.mayFetch = true → h.rsv = false →
    u.hif.sessions.getD i none = some x → (∀ j y, u.hif.sessions.getD j none = some y → y.handle = x.handle → j = i) →
    u.sup.lockFails.length = 8 → u.sup.lockEnd.length = 8 → u.nv.guard.a.isSome = true → u.nv.guard.b.isSome = true →
    (x.auth = false → u.now < x.opened + 125000000 →
      mac = hmac x.key (le 16 x.nonce.toNat ++ le 4 x.handle.toNat ++ le 1 (roleNum x.role) ++ le 8 u.nv.serial.toNat) →
      ∃ t, exec (.sessionAuth dt h x.handle mac) s = .next t ∧ t.hif.sessions = u.hif.sessions.set i (some { x with auth := true }) ∧
        t.sup.lockFails = u.sup.lockFails.set (roleNum x.role) 0 ∧ t.sup.lockEnd = u.sup.lockEnd ∧
        u.answered t h.tag 0x0011 0 [] ∧ t.pa = u.pa ∧ t.pb = u.pb ∧ t.plt = u.plt ∧ t.saf = u.saf) ∧
    (x.auth = false → u.now < x.opened + 125000000 →
      mac ≠ hmac x.key (le 16 x.nonce.toNat ++ le 4 x.handle.toNat ++ le 1 (roleNum x.role) ++ le 8 u.nv.serial.toNat) →
      ∃ t n, exec (.sessionAuth dt h x.handle mac) s = .next t ∧ t.hif.sessions = u.hif.sessions.set i none ∧
        n = (if u.sup.lockFails.getD (roleNum x.role) 0 + 1 < 255 then u.sup.lockFails.getD (roleNum x.role) 0 + 1 else 255) ∧
        t.sup.lockFails = u.sup.lockFails.set (roleNum x.role) n ∧
        t.sup.lockEnd = (if n < 3 then u.sup.lockEnd
          else u.sup.lockEnd.set (roleNum x.role) (some (u.now + min 480 (30 * 2 ^ (n - 3)) * 125000000))) ∧
        t.nv.guard = u.nv.guard.write ⟨t.sup.lockFails, (List.range 8).map t.lockLeft⟩ ∧
        u.answered t h.tag 0x0011 13 [] ∧ t.pa = u.pa ∧ t.pb = u.pb ∧ t.plt = u.plt) ∧
    (x.auth = true → h.session = x.handle → u.asleep = false → u.mode ≠ .safe →
      ∃ t, exec (.sessionClose dt h) s = .next t ∧ t.hif.sessions = u.hif.sessions.set i none ∧ u.answered t h.tag 0x0012 0 [] ∧
        t.sup = u.sup ∧ t.nv = u.nv ∧ t.saf = u.saf)

/-- 17 R381 to R385: MODE_SET. To the mode in force it does nothing; STANDBY to a mode with a plate that is read reaches it, arms
pipeline A and sets the first marker 1 ms ahead; a stop and a change among IMAGING, CALIBRATION and DIAGNOSTIC become settings
of both pipelines; OFF is awaited; SAFE is entered with fault 19; BOOT resets the module after the completion, which holds itself in
reset for 1 ms. 16 R363: STOPPED answers MODE to every mode with a plate that is read; RESTART_COOL clears and puts the cool profile
to the first frame. -/
def Obligations.ModeSets : Prop :=
  ∀ (dt : Nat) (h : Hdr) (b : Byte) (m : Mode) (r : Role) (s u : State), u = s.elapse dt → u.takes h r → modeOfNum b.toNat = some m →
    (isRunning m = true → u.thm.state = .stopped → exec (.modeSet dt h b) s = .next (u.takeCmd.complete h.tag 0x0020 3 (u.ring 0).head [])) ∧
    (isRunning m = false ∨ u.thm.state ≠ .stopped → m = u.mode →
      exec (.modeSet dt h b) s = .next (u.takeCmd.complete h.tag 0x0020 0 (u.ring 0).head [0xffffffff#32, 0xffffffff#32])) ∧
    (m ≠ u.mode → roleLacks r m = true → exec (.modeSet dt h b) s = .next (u.takeCmd.complete h.tag 0x0020 3 (u.ring 0).head [])) ∧
    (u.mode = .standby → u.sup.trans = false → isRunning m = true → roleLacks r m = false → u.mayRun m = true →
      (∃ i j, i < j ∧ j < 16 ∧ ∀ k ∈ [i, j], (u.sheaf k).st = .idle ∧ ((u.sheaf k).requests u.now).1 = false ∧
        twoPartners (u.sheaf k).history = false ∧ twoErrors (u.sheaf k).ues = false) →
      ∃ t, exec (.modeSet dt h b) s = .next t ∧ t.mode = m ∧ t.sup.trans = false ∧ t.plt.firstMarker = some (u.now + 125000) ∧
        t.pa.armed = true ∧ t.pa.pend.mode = m ∧ t.pb.pend.mode = m ∧ t.pa.snap.mode = m ∧
        t.pa.snap.cool = (decide (u.thm.state = .enforced) || u.coolAgain m) ∧
        t.thm.restartCool = (u.thm.restartCool && decide (m = .diagnostic)) ∧ u.answered t h.tag 0x0020 0 u.applyBoth ∧
        t.nv = u.nv ∧ t.act = u.act ∧ t.pcv = u.pcv) ∧
    (isRunning u.mode = true → u.sup.trans = false → m = .standby →
      ∃ t, exec (.modeSet dt h b) s = .next t ∧ t.mode = u.mode ∧ t.sup.trans = true ∧ t.sup.target = .standby ∧
        t.pa.pend = { u.pa.pend with mode := .standby } ∧ t.pb.pend = { u.pb.pend with mode := .standby } ∧
        t.pa.snap = u.pa.snap ∧ t.pa.frames = u.pa.frames ∧ u.answered t h.tag 0x0020 0 u.applyBoth ∧ t.nv = u.nv ∧ t.plt = u.plt) ∧
    (u.mode ∈ [Mode.imaging, .calibration, .diagnostic] → m ∈ [Mode.imaging, .calibration, .diagnostic] → m ≠ u.mode → u.sup.trans = false →
      u.thm.state ≠ .stopped → roleLacks r m = false →
      ∃ t, exec (.modeSet dt h b) s = .next t ∧ t.mode = u.mode ∧ t.sup.trans = true ∧ t.sup.target = m ∧
        t.pa.pend = { u.pa.pend with mode := m, cool := u.pa.pend.cool || u.coolAgain m } ∧
        t.pb.pend = { u.pb.pend with mode := m, cool := u.pb.pend.cool || u.coolAgain m } ∧
        t.thm.restartCool = (u.thm.restartCool && decide (m = .diagnostic)) ∧ u.answered t h.tag 0x0020 0 u.applyBoth ∧
        t.nv = u.nv ∧ t.plt = u.plt) ∧
    (u.mode = .standby → u.sup.trans = false → m = .off →
      ∃ t, exec (.modeSet dt h b) s = .next t ∧ t.mode = .standby ∧ t.sup.trans = true ∧ t.sup.target = .off ∧
        u.answered t h.tag 0x0020 0 [0xffffffff#32, 0xffffffff#32] ∧ t.pa = u.pa ∧ t.nv = u.nv) ∧
    (m = .safe → u.saf.decided = [] → u.saf.first = 0 → (∀ f ∈ u.pa.frames ++ u.pb.frames, ∀ c ∈ f.claims, 3 ≤ c.ring) →
      ∃ t, exec (.modeSet dt h b) s = .next t ∧ t.mode = .safe ∧ t.saf.first = 19 ∧ t.saf.decided = [19] ∧ t.saf.safeN = false ∧
        u.answered t h.tag 0x0020 0 [0xffffffff#32, 0xffffffff#32]) ∧
    (m = .boot → ∃ t, exec (.modeSet dt h b) s = .next t ∧ t.mode = .boot ∧ t.now = 0 ∧ t.sup.cause = 4 ∧ t.sup.resetLeft = 125000 ∧
      t.nv = u.nv ∧ t.pa = State.reset.pa ∧ t.pb = State.reset.pb ∧ t.plt = State.reset.plt ∧ t.act = State.reset.act ∧
      t.saf = State.reset.saf ∧ t.pending = u.pending)

/-- 07 R166: CAMERA_BIND gives the lowest free id, the second camera of a pipeline being its secondary; CAMERA_UNBIND by the session
that bound it removes the camera, in force from the next latch point on (LatchPointTakesSnapshot). -/
def Obligations.CamerasBind : Prop :=
  (∀ (dt : Nat) (h : Hdr) (b : Byte) (p : Pipe) (id : Nat) (r : Role) (s u : State), u = s.elapse dt → u.takes h r → pipeOfByte b = some p →
    (2 ≤ (u.cams p).length → exec (.cameraBind dt h b) s = .next (u.takeCmd.complete h.tag 0x0030 10 (u.ring 0).head [])) ∧
    ((u.cams p).length < 2 → id < 4 → (∀ c ∈ u.cams .A ++ u.cams .B, c.id ≠ id) →
      (∀ j, j < id → ∃ c ∈ u.cams .A ++ u.cams .B, c.id = j) →
      exec (.cameraBind dt h b) s = .next
        ((u.takeCmd.accept p (fun st => { st with cams := st.cams ++ [⟨id, h.session, !(u.cams p).isEmpty, List.replicate 10 0, [], []⟩] })).complete
          h.tag 0x0030 0 (u.ring 0).head [word (id + flag (!(u.cams p).isEmpty) 8)]))) ∧
  (∀ (dt : Nat) (h : Hdr) (id : Byte) (p : Pipe) (c : Camera) (r : Role) (s u : State), u = s.elapse dt → u.takes h r →
    u.cameraOf id.toNat h.session = some (p, c) → (u.cams p).find? (fun x => x.id = id.toNat) = some c →
    ∃ t, exec (.cameraUnbind dt h id) s = .next t ∧ (t.pl p).pend.cams = (u.cams p).filter (fun x => x.id ≠ id.toNat) ∧
      (t.pl p).snap = (u.pl p).snap ∧
      u.answered t h.tag 0x0031 0 (u.applyOf p) ∧ t.sup = u.sup ∧ t.nv = u.nv ∧ t.plt = u.plt ∧ t.act = u.act)

/-- 07 R151, R167, R168, R172: PRODUCT_SET of a bound camera whose destinations can be bound and whose sets keep the budgets replaces the
camera's sets and the NL streams follow; the first failing check decides the status (the order is the model's,
notes/assumptions/46). A product to the NL lanes is bound by the session of the primary. A secondary that breaks a budget is refused,
a primary takes what it needs from the secondary's sets, with CAMERA_PREEMPTED, and is refused where its own sets break a budget. -/
def Obligations.ProductSets : Prop :=
  ∀ (dt : Nat) (h : Hdr) (cam : Byte) (dest : List Byte) (cool : BitVec 16) (d : List Nat) (p : Pipe) (c : Camera) (r : Role)
    (all : List Camera) (s u v : State),
    u = s.elapse dt → v = u.takeCmd → u.takes h r → d = (List.range 10).map (fun i => (dest.getD i 0#8).toNat) →
    u.cameraOf cam.toNat h.session = some (p, c) → all = replaceCam (u.cams p) (c.declare d cool.toNat) →
    (declOk d cool.toNat = false → exec (.productSet dt h cam dest cool) s = .next (v.complete h.tag 0x0032 2 (u.ring 0).head [])) ∧
    (declOk d cool.toNat = true → u.notPrimary p h.session = true → 254 ∈ d →
      exec (.productSet dt h cam dest cool) s = .next (v.complete h.tag 0x0032 6 (u.ring 0).head [])) ∧
    (declOk d cool.toNat = true → (u.notPrimary p h.session = false ∨ 254 ∉ d) →
      (∀ k, k < 10 → v.destOk (u.pl p).pend cam.toNat d k = true) →
      (v.budgetWith p all = 0 → exec (.productSet dt h cam dest cool) s = .next
        ((v.setCams p all).complete h.tag 0x0032 0 (u.ring 0).head ((v.setCams p all).applyOf p))) ∧
      (v.budgetWith p all ≠ 0 → c.secondary = true → exec (.productSet dt h cam dest cool) s =
        .next (v.complete h.tag 0x0032 (v.budgetWith p all) (u.ring 0).head [])) ∧
      (∀ a, v.budgetWith p all ≠ 0 → c.secondary = false → all.find? (fun x => !x.secondary) = some a →
        all.find? Camera.secondary = none → exec (.productSet dt h cam dest cool) s =
        .next (v.complete h.tag 0x0032 (v.budgetWith p all) (u.ring 0).head [])) ∧
      (∀ a e, v.budgetWith p all ≠ 0 → c.secondary = false → all.find? (fun x => !x.secondary) = some a →
        all.find? Camera.secondary = some e → exec (.productSet dt h cam dest cool) s = .next (if v.budgetWith p [a] = 0
          then let w := (v.setCams p (replaceCam all (v.preempt p a 10 e []).1)).postPreempted p e.id (v.preempt p a 10 e []).2
            w.complete h.tag 0x0032 0 (u.ring 0).head (w.applyOf p)
          else v.complete h.tag 0x0032 (v.budgetWith p [a]) (u.ring 0).head [])))

/-- 07 R173, 10 R233, 08 R187, R194: PIPE_B_SET within the budgets sets the enable and, as a setting, the admitted rate, trains the link
of a pipeline B enabled anew and takes it down when B is disabled; SILO_SET and COMPAT_SET act in STANDBY only; SERVICE_ENABLE within
the budgets, or where the secondary's sets can make room, becomes a setting of its pipeline. -/
def Obligations.PipelineCommands : Prop :=
  (∀ (dt : Nat) (h : Hdr) (en fr : Byte) (r : Role) (s u v : State), u = s.elapse dt → u.takes h r →
    v = { u.takeCmd with sup := { u.sup with pipeB := decide (en.toNat = 1) } }.accept .B (fun st => { st with rate := fr.toNat }) →
    en.toNat ≤ 1 → fr.toNat ≤ 2 → u.notPrimary .B h.session = false →
    (en.toNat = 1 → u.mode = .relay → exec (.pipeBSet dt h en fr) s = .next (u.takeCmd.complete h.tag 0x0033 3 (u.ring 0).head [])) ∧
    (en.toNat = 1 → u.mode ≠ .relay → v.budgetCode v.pendingLoads ≠ 0 →
      exec (.pipeBSet dt h en fr) s = .next (u.takeCmd.complete h.tag 0x0033 (v.budgetCode v.pendingLoads) (u.ring 0).head [])) ∧
    ((en.toNat = 1 → u.mode ≠ .relay ∧ v.budgetCode v.pendingLoads = 0) →
      (u.sup.pipeB = decide (en.toNat = 1) →
        exec (.pipeBSet dt h en fr) s = .next (v.complete h.tag 0x0033 0 (u.ring 0).head (v.applyOf .B))) ∧
      (en.toNat = 1 → u.sup.pipeB = false → ∃ t, exec (.pipeBSet dt h en fr) s = .next t ∧ t.nl.comp = u.nl.comp.detect ∧
        (u.nl.lanes.length = 4 → (t.lane 2).on = true ∧ (t.lane 3).on = true) ∧ t.sup = v.sup ∧ t.pb = v.pb ∧ t.pa = u.pa ∧ t.nv = u.nv ∧
        u.answered t h.tag 0x0033 0 (v.applyOf .B)) ∧
      (en.toNat = 0 → u.sup.pipeB = true → ∃ t, exec (.pipeBSet dt h en fr) s = .next t ∧ t.sup = v.sup ∧ t.nl.comp.state = 0 ∧
        (u.nl.lanes.length = 4 → (t.lane 2).on = false ∧ (t.lane 3).on = false) ∧ t.pb.reading = false ∧ t.pb.pend.rate = fr.toNat ∧
        t.pa = u.pa ∧ t.nv = u.nv ∧ u.answered t h.tag 0x0033 0 [0xffffffff#32, word u.pb.frameNo]))) ∧
  (∀ (dt : Nat) (h : Hdr) (b n : Byte) (p : Pipe) (r : Role) (s u : State), u = s.elapse dt → u.takes h r → pipeOfByte b = some p →
    3 ≤ n.toNat → n.toNat ≤ 6 →
    exec (.siloSet dt h b n) s = .next (if u.mode = .standby
      then (u.takeCmd.modPl p (fun x => { x with capSlots := n.toNat })).complete h.tag 0x0034 0 (u.ring 0).head []
      else u.takeCmd.complete h.tag 0x0034 3 (u.ring 0).head [])) ∧
  (∀ (dt : Nat) (h : Hdr) (b m : Byte) (p : Pipe) (r : Role) (s u v : State), u = s.elapse dt → u.takes h r → pipeOfByte b = some p →
    v = u.takeCmd.accept p (fun st => { st with services := m.toNat }) → m.toNat ≤ 3 → u.notPrimary p h.session = false →
    (v.budgetCode v.pendingLoads = 0 →
      exec (.serviceEnable dt h b m) s = .next (v.complete h.tag 0x0041 0 (u.ring 0).head (v.applyOf p))) ∧
    (v.budgetCode v.pendingLoads ≠ 0 → ((v.cams p).find? (fun c => !c.secondary) = none ∨ (v.cams p).find? Camera.secondary = none) →
      exec (.serviceEnable dt h b m) s = .next (u.takeCmd.complete h.tag 0x0041 (v.budgetCode v.pendingLoads) (u.ring 0).head [])) ∧
    (∀ a e, v.budgetCode v.pendingLoads ≠ 0 → (v.cams p).find? (fun c => !c.secondary) = some a → (v.cams p).find? Camera.secondary = some e →
      exec (.serviceEnable dt h b m) s = .next (if v.budgetWith p [a] = 0
        then let w := (v.setCams p (replaceCam (v.cams p) (v.preempt p a 10 e []).1)).postPreempted p e.id (v.preempt p a 10 e []).2
          w.complete h.tag 0x0041 0 (u.ring 0).head (w.applyOf p)
        else u.takeCmd.complete h.tag 0x0041 (v.budgetWith p [a]) (u.ring 0).head []))) ∧
  (∀ (dt : Nat) (h : Hdr) (b : Byte) (x : Session) (s u : State), u = s.elapse dt → u.mayFetch = true → u.asleep = false →
    u.mode = .standby → h.rsv = false → u.sessionOf h.session = some x → b.toNat ≤ 1 →
    exec (.compatSet dt h b) s = .next (if b.toNat = 1 ∧ u.compatFits = false
      then u.takeCmd.complete h.tag 0x0070 9 (u.ring 0).head []
      else (u.takeCmd.accept .A (fun st => { st with compat := decide (b.toNat = 1) })).complete h.tag 0x0070 0 (u.ring 0).head []))

/-- 06 R149, 09 R211, R228, 02 R43, R59: PARAM_SET of the right length by the primary's session reads its block; a block in range becomes
a setting of its pipeline, of groups 0 and 1 where the budgets then hold (or did not hold before, the model's choice,
notes/assumptions/94); group 7, by a CALIBRATION session in CALIBRATION, sets the two bias codes, each at most 4000, and notes
PERSIST; group 8, by a MAINTENANCE session in DIAGNOSTIC, sets the test levels of R43. A block out of range answers BAD_ARG, one that
cannot be read DMA_ERROR; a group beyond 8, another length and a pipeline that does not exist answer BAD_ARG, another session than
the primary's NOT_PRIMARY, groups 7 and 8 on pipeline B BAD_ARG, in another mode MODE and for another role ROLE. -/
def Obligations.ParamSets : Prop :=
  (∀ (dt : Nat) (h : Hdr) (b g : Byte) (len : BitVec 16) (addr : BitVec 64) (block : Option (List Byte)) (n : Nat) (p : Pipe) (r : Role)
    (s u : State), u = s.elapse dt → u.takes h r → pipeOfByte b = some p → groupLength g.toNat = some n → len.toNat = n →
    ((g.toNat < 7 ∧ u.notPrimary p h.session = false) ∨ (g.toNat = 7 ∧ p = .A ∧ u.mode = .calibration ∧ r = .calibration) ∨
      (g.toNat = 8 ∧ p = .A ∧ u.mode = .diagnostic ∧ r = .maintenance)) →
    (block = none → exec (.paramSet dt h b g len addr block) s =
      .next ((u.takeCmd.dmaError (u.ring 0).head addr).complete h.tag 0x0040 12 (u.ring 0).head [])) ∧
    (∀ l, block = some l → parseBlock g.toNat (takeBytes n l) u.converts (u.pl p).pend = none →
      exec (.paramSet dt h b g len addr block) s = .next (u.takeCmd.complete h.tag 0x0040 2 (u.ring 0).head [])) ∧
    (∀ l f v, block = some l → parseBlock g.toNat (takeBytes n l) u.converts (u.pl p).pend = some f → g.toNat ≠ 7 →
      v = u.takeCmd.accept p f →
      (2 ≤ g.toNat ∨ v.budgetCode v.pendingLoads = 0 ∨ u.takeCmd.budgetCode u.takeCmd.pendingLoads ≠ 0 →
        exec (.paramSet dt h b g len addr block) s = .next (v.complete h.tag 0x0040 0 (u.ring 0).head (v.applyOf p))) ∧
      (g.toNat ≤ 1 → v.budgetCode v.pendingLoads ≠ 0 → u.takeCmd.budgetCode u.takeCmd.pendingLoads = 0 →
        exec (.paramSet dt h b g len addr block) s =
          .next (u.takeCmd.complete h.tag 0x0040 (v.budgetCode v.pendingLoads) (u.ring 0).head []))) ∧
    (∀ l a c e, block = some l → g.toNat = 7 → a = fieldAt (takeBytes n l) 0 2 → c = fieldAt (takeBytes n l) 2 2 →
      e = fieldAt (takeBytes n l) 4 1 →
      (a ≤ 4000 → c ≤ 4000 → e ≤ 1 → fieldAt (takeBytes n l) 5 3 = 0 → ∃ t, exec (.paramSet dt h b g len addr block) s = .next t ∧
        t.pa.pend = { u.pa.pend with bias := (a, c), biasKeep := if e = 1 then some u.now else none } ∧ t.pa.snap = u.pa.snap ∧
        t.pa.frames = u.pa.frames ∧ t.pb = u.pb ∧ t.plt = u.plt ∧ t.sup = u.sup ∧ t.nv = u.nv ∧
        u.answered t h.tag 0x0040 0 (u.applyOf .A)) ∧
      (4000 < a ∨ 4000 < c ∨ 1 < e ∨ fieldAt (takeBytes n l) 5 3 ≠ 0 →
        exec (.paramSet dt h b g len addr block) s = .next (u.takeCmd.complete h.tag 0x0040 2 (u.ring 0).head [])))) ∧
  (∀ (dt : Nat) (h : Hdr) (b g : Byte) (len : BitVec 16) (addr : BitVec 64) (block : Option (List Byte)) (r : Role) (s u : State),
    u = s.elapse dt → u.takes h r →
    (pipeOfByte b = none ∨ 8 < g.toNat ∨ (∃ n, groupLength g.toNat = some n ∧ len.toNat ≠ n) →
      exec (.paramSet dt h b g len addr block) s = .next (u.takeCmd.complete h.tag 0x0040 2 (u.ring 0).head [])) ∧
    (∀ p, pipeOfByte b = some p → groupLength g.toNat = some len.toNat → g.toNat < 7 → u.notPrimary p h.session = true →
      exec (.paramSet dt h b g len addr block) s = .next (u.takeCmd.complete h.tag 0x0040 6 (u.ring 0).head [])) ∧
    (∀ p m q k, pipeOfByte b = some p → groupLength g.toNat = some len.toNat →
      (g.toNat, m, q) ∈ [(7, Mode.calibration, Role.calibration), (8, Mode.diagnostic, Role.maintenance)] →
      (p = .B ∧ k = 2 ∨ p = .A ∧ u.mode ≠ m ∧ k = 3 ∨ p = .A ∧ u.mode = m ∧ r ≠ q ∧ k = 5) →
      exec (.paramSet dt h b g len addr block) s = .next (u.takeCmd.complete h.tag 0x0040 k (u.ring 0).head [])))

/-- 05 R117, R118: SHUTTER_GRANT in range by the primary's session replaces the grant of its pipeline by one that begins START ms
and ends START + LENGTH ms from now (FORCE in CALIBRATION only); SHUTTER_POLICY in range becomes a setting. -/
def Obligations.ShutterCommands : Prop :=
  (∀ (dt : Nat) (h : Hdr) (b f : Byte) (st len : Word) (p : Pipe) (r : Role) (s u : State), u = s.elapse dt → u.takes h r →
    pipeOfByte b = some p → f.toNat ≤ 1 → st.toNat ≤ 60000 → 100 ≤ len.toNat → len.toNat ≤ 10000 →
    (u.notPrimary p h.session = true →
      exec (.shutterGrant dt h b f st len) s = .next (u.takeCmd.complete h.tag 0x0050 6 (u.ring 0).head [])) ∧
    (u.notPrimary p h.session = false →
      exec (.shutterGrant dt h b f st len) s = .next (if f.toNat = 1 ∧ u.mode ≠ .calibration
        then u.takeCmd.complete h.tag 0x0050 3 (u.ring 0).head []
        else (u.takeCmd.modPl p (fun x => { x with grant := some ⟨u.now + st.toNat * 125000,
          u.now + (st.toNat + len.toNat) * 125000, decide (f.toNat = 1)⟩ })).complete h.tag 0x0050 0 (u.ring 0).head (u.applyOf p)))) ∧
  (∀ (dt : Nat) (h : Hdr) (b x : Byte) (m : BitVec 16) (p : Pipe) (r : Role) (s u : State), u = s.elapse dt → u.takes h r →
    pipeOfByte b = some p → u.notPrimary p h.session = false →
    exec (.shutterPolicy dt h b x m) s = .next (if x.toNat ≤ 2 ∧ 20 ≤ m.toNat ∧ m.toNat ≤ 240
      then (u.takeCmd.accept p (fun st => { st with policy := x.toNat, minInterval := m.toNat })).complete h.tag 0x0051 0
        (u.ring 0).head (u.applyOf p)
      else u.takeCmd.complete h.tag 0x0051 2 (u.ring 0).head []))

/-- 09 R198, R221, R222, R223, R224, 10 R233, R250: STAGE_BEGIN starts a staging for the role of its kind while none runs; a chunk that
follows on is written from its half of BAR 2 at its offset; STAGE_COMMIT of a whole bundle that verifies accepts it, at once or,
while frames still hold the other half, once BUNDLE_HALF_FREED finds it free, and with PERSIST = 1 it is the bundle that the boot
store keeps; a persisted one that the boot store cannot hold answers BAD_ARG; an image that verifies goes to the inactive slot, one
whose signature is bad answers SIG_FAIL and one whose staged bytes cannot be read BUNDLE_INVALID, and both leave the slots as they
are; STAGE_ABORT ends the staging. A staging command without a staging, of another session than the one that began it, out of order
or too soon answers STAGE_SEQ, one for another role ROLE. -/
def Obligations.StagingCommands : Prop :=
  (∀ (dt : Nat) (h : Hdr) (k : Byte) (n : Word) (r : Role) (s u : State), u = s.elapse dt → u.takes h r → k.toNat ≤ 1 →
    n.toNat ≤ (if k.toNat = 0 then 224 else 12) * 1048576 →
    exec (.stageBegin dt h k n) s = .next (if r ≠ stageRole k.toNat
      then u.takeCmd.complete h.tag 0x0060 5 (u.ring 0).head []
      else if u.hif.staging.isSome
      then u.takeCmd.complete h.tag 0x0060 16 (u.ring 0).head []
      else { u.takeCmd with hif := { u.takeCmd.hif with staging := some ⟨k.toNat, n.toNat, 0, [], h.session⟩ } }.complete h.tag 0x0060 0
        (u.ring 0).head [])) ∧
  (∀ (dt : Nat) (h : Hdr) (half : Byte) (len off : Word) (ops : List Bar2Op) (g : Staging) (r : Role) (s u : State),
    u = (s.elapse dt).bar2Run ops → u.takes h r → u.hif.staging = some g →
    (g.session ≠ h.session →
      exec (.stageChunk dt h half len off ops) s = .next (u.takeCmd.complete h.tag 0x0061 16 (u.ring 0).head [])) ∧
    (g.session = h.session → r ≠ stageRole g.kind →
      exec (.stageChunk dt h half len off ops) s = .next (u.takeCmd.complete h.tag 0x0061 5 (u.ring 0).head [])) ∧
    (g.session = h.session → r = stageRole g.kind → 1 < half.toNat ∨ 4194304 < len.toNat →
      exec (.stageChunk dt h half len off ops) s = .next (u.takeCmd.complete h.tag 0x0061 2 (u.ring 0).head [])) ∧
    (g.session = h.session → r = stageRole g.kind → half.toNat ≤ 1 → len.toNat ≤ 4194304 →
      exec (.stageChunk dt h half len off ops) s = .next (if off.toNat = g.staged ∧ off.toNat + len.toNat ≤ g.total
        then { u.takeCmd with hif := { u.takeCmd.hif with staging := some { g with
          staged := g.staged + len.toNat,
          data := g.data.write off.toNat (u.bar2Bytes (half.toNat * 4194304) len.toNat) } } }.complete h.tag 0x0061 0
            (u.ring 0).head []
        else u.takeCmd.complete h.tag 0x0061 16 (u.ring 0).head []))) ∧
  (∀ (dt : Nat) (h : Hdr) (half : Byte) (len off : Word) (p : Byte) (sig : Bool) (mem : MemObs) (r : Role) (s u : State), u = s.elapse dt →
    u.takes h r → u.hif.staging = none →
    exec (.stageChunk dt h half len off []) s = .next (u.takeCmd.complete h.tag 0x0061 16 (u.ring 0).head []) ∧
    exec (.stageCommit dt h p sig mem) s = .next (u.takeCmd.complete h.tag 0x0062 16 (u.ring 0).head []) ∧
    exec (.stageAbort dt h) s = .next (u.takeCmd.complete h.tag 0x0063 16 (u.ring 0).head [])) ∧
  (∀ (dt : Nat) (h : Hdr) (p : Byte) (sig : Bool) (mem : MemObs) (g : Staging) (r : Role) (s u : State), u = s.elapse dt →
    u.takes h r → u.hif.staging = some g →
    (g.session ≠ h.session → exec (.stageCommit dt h p sig mem) s = .next (u.takeCmd.complete h.tag 0x0062 16 (u.ring 0).head [])) ∧
    (g.session = h.session → r ≠ stageRole g.kind →
      exec (.stageCommit dt h p sig mem) s = .next (u.takeCmd.complete h.tag 0x0062 5 (u.ring 0).head [])) ∧
    (g.session = h.session → r = stageRole g.kind → 1 < p.toNat →
      exec (.stageCommit dt h p sig mem) s = .next (u.takeCmd.complete h.tag 0x0062 2 (u.ring 0).head [])) ∧
    (g.session = h.session → r = stageRole g.kind → p.toNat ≤ 1 → g.staged ≠ g.total →
      exec (.stageCommit dt h p sig mem) s = .next (u.takeCmd.complete h.tag 0x0062 16 (u.ring 0).head []))) ∧
  (∀ (dt : Nat) (h : Hdr) (p : Byte) (sig : Bool) (mem : MemObs) (g : Staging) (r : Role) (s u v : State), u = s.elapse dt →
    u.takes h r → u.hif.staging = some g → r = stageRole g.kind → g.session = h.session → p.toNat ≤ 1 → g.staged = g.total → g.kind = 0 →
    v = (u.takeCmd.memRun mem).1 →
    (1 ∈ (u.takeCmd.memRun mem).2 → exec (.stageCommit dt h p sig mem) s =
      .next ((v.post0 0x0015 [0#32]).complete h.tag 0x0062 18 (u.ring 0).head [])) ∧
    (1 ∉ (u.takeCmd.memRun mem).2 → sig = false → exec (.stageCommit dt h p sig mem) s =
      .next ((v.post0 0x0015 [0#32]).complete h.tag 0x0062 17 (u.ring 0).head [])) ∧
    (∀ e, 1 ∉ (u.takeCmd.memRun mem).2 → sig = true → parseBundle g.data g.total = .error e → exec (.stageCommit dt h p sig mem) s =
      .next ((v.post0 0x0015 [word e]).complete h.tag 0x0062 18 (u.ring 0).head [])) ∧
    (∀ b, 1 ∉ (u.takeCmd.memRun mem).2 → sig = true → parseBundle g.data g.total = .ok b →
      (p.toNat = 1 → 53477376 < storedBytes g.data g.total →
        exec (.stageCommit dt h p sig mem) s = .next (v.complete h.tag 0x0062 2 (u.ring 0).head [])) ∧
      (p.toNat = 0 ∨ storedBytes g.data g.total ≤ 53477376 → v.halfHeld = false → ∃ t, exec (.stageCommit dt h p sig mem) s = .next t ∧
        t = (let w := { v with hif := { v.hif with staging := none } }.acceptBundle b (decide (p.toNat = 1))
          w.complete h.tag 0x0062 0 (u.ring 0).head (word b.id :: w.applyOf .A)) ∧
        t.nv = (if p.toNat = 1 then { v.nv with persisted := some b } else v.nv) ∧ (t.pa.pend.bundle, b) ∈ t.sup.bundles) ∧
      (p.toNat = 0 ∨ storedBytes g.data g.total ≤ 53477376 → v.halfHeld = true → exec (.stageCommit dt h p sig mem) s = .next
        { v with hif := { v.hif with waiting := some ⟨h.tag, (u.ring 0).head, decide (p.toNat = 1), b⟩ } }))) ∧
  (∀ (dt : Nat) (h : Hdr) (p : Byte) (sig : Bool) (mem : MemObs) (g : Staging) (r : Role) (s u v : State), u = s.elapse dt →
    u.takes h r → u.hif.staging = some g → r = stageRole g.kind → g.session = h.session → p.toNat ≤ 1 → g.staged = g.total → g.kind = 1 →
    v = (u.takeCmd.memRun mem).1 →
    (1 ∈ (u.takeCmd.memRun mem).2 → exec (.stageCommit dt h p sig mem) s =
      .next ((v.post0 0x0015 [0#32]).complete h.tag 0x0062 18 (u.ring 0).head [])) ∧
    (1 ∉ (u.takeCmd.memRun mem).2 → sig = false → exec (.stageCommit dt h p sig mem) s =
      .next (v.complete h.tag 0x0062 17 (u.ring 0).head [])) ∧
    (∀ major minor, sig = true → mem = ⟨[]⟩ → Config.imageVersion (g.data.bytes 0 (min g.total 4096)) = (major, minor) →
      u.nv.images.length = 2 → u.sup.slot < 2 →
      ∃ t x, exec (.stageCommit dt h p sig mem) s = .next t ∧ t.nv = { u.nv with images := u.nv.images.set (1 - u.sup.slot) x } ∧
        x.present = true ∧ x.major = major ∧ x.minor = minor ∧ x.bad = false ∧ (∀ y ∈ u.nv.images, y.seq < x.seq) ∧
        x.data = some (g.total, g.data) ∧ t.hif.staging = none ∧ u.answered t h.tag 0x0062 0 [word (major * 65536 + minor)] ∧ t.pa = u.pa)) ∧
  (∀ (dt : Nat) (h : Hdr) (g : Staging) (r : Role) (s u : State), u = s.elapse dt → u.takes h r → u.hif.staging = some g →
    exec (.stageAbort dt h) s = .next (if g.session ≠ h.session then u.takeCmd.complete h.tag 0x0063 16 (u.ring 0).head []
      else if r ≠ stageRole g.kind then u.takeCmd.complete h.tag 0x0063 5 (u.ring 0).head []
      else { u.takeCmd with hif := { u.takeCmd.hif with staging := none } }.complete h.tag 0x0063 0 (u.ring 0).head [])) ∧
  (∀ (dt : Nat) (w : WaitCommit) (s u : State), u = s.elapse dt → u.live = true → u.hif.waiting = some w →
    (u.halfHeld = true → exec (.bundleHalfFreed dt) s = .next u) ∧
    (u.halfHeld = false → ∃ t, exec (.bundleHalfFreed dt) s = .next t ∧
      t = (let v := { u with hif := { u.hif with waiting := none, staging := none } }.acceptBundle w.bundle w.persist
        v.complete w.tag 0x0062 0 w.index (word w.bundle.id :: v.applyOf .A)) ∧
      t.nv = (if w.persist = true then { u.nv with persisted := some w.bundle } else u.nv) ∧ (t.pa.pend.bundle, w.bundle) ∈ t.sup.bundles))

/-- 15 R341, R350, R351: what LEDGER_WRITE stores in a CUSTOMER partition without passwords, LEDGER_READ of the same range gives back to
the host, 16 bytes behind the password at ADDR; every byte outside the range stays. The passwords are read back first, and a copy
of a wrong CRC is rewritten before they are used. -/
def Obligations.CustomerReadsBack : Prop :=
  (∀ (dt d2 : Nat) (h : Hdr) (off len : Word) (addr : BitVec 64) (w q : List Byte) (p : Nat) (r : Role) (s u x : State), u = s.elapse dt →
    u.takes h r → x = u.takeCmd.readPw p → addr.toNat % 4 = 0 → p < 4 → p * 65536 ≤ off.toNat → off.toNat + len.toNat ≤ (p + 1) * 65536 →
    0 < len.toNat → len.toNat ≤ 4096 → SMap.ok 0#8 u.nv.customer = true → x.lockedOut (4 + p) = false →
    x.passwords p = (noPassword, noPassword) →
    ∃ t, exec (.ledgerWrite dt h off len addr (some w)) s = .next t ∧
      t.nv = { x.nv with customer := u.nv.customer.write off.toNat (takeBytes len.toNat (w.drop 16)) } ∧
      (∀ a, (a < off.toNat ∨ off.toNat + len.toNat ≤ a) → SMap.get 0#8 t.nv.customer a = SMap.get 0#8 u.nv.customer a) ∧
      u.answered t h.tag 0x0081 0 [] ∧ t.sup = x.sup ∧ t.pa = u.pa ∧
      ((t.elapse d2).takes h r → (t.elapse d2).lockedOut (4 + p) = false →
        ∃ v, exec (.ledgerRead d2 h off len addr (some q)) t = .next v ∧ v.nv = t.nv ∧
          v.hif.hostWrites = (addr + 16#64, takeBytes len.toNat (w.drop 16)) :: t.hif.hostWrites ∧
          (t.elapse d2).answered v h.tag 0x0080 0 [])) ∧
  (∀ (p n : Nat) (c : List Byte × List Byte) (r : Rec (List Byte × List Byte)) (u : State), u.nv.pw[p]? = some r →
    (r.a.isSome = true → r.b.isSome = true → u.readPw p = u) ∧
    (r = ⟨none, some (n, c)⟩ ∨ r = ⟨some (n, c), none⟩ → (u.readPw p).nv = { u.nv with pw := u.nv.pw.set p (Rec.both n c) } ∧
      (u.readPw p).passwords p = c ∧ (u.readPw p).saf.warn / 2 ^ 13 % 2 = 1 ∧ (u.readPw p).sup = u.sup))

/-! ## Focal plane, column channels, front pipes (02 to 04) -/

/-- 02 R48, R54, R55: PLT_COMMIT with GO while a transfer runs answers 2 with COMMIT_BUSY, outside a mode that reads 3, with an
exposure that R48 rejects 1 with EXPOSURE_REJECTED; otherwise the settings go to the plate and, when the transfer is done, are
accepted for pipeline A. 02 R50, R51: APPLY names the frame from which
they apply: the next one, or the one after it where the completion lies in or after the latch point of the frame being read. -/
def Obligations.ExposureCommits : Prop :=
  (∀ (dt : Nat) (v : Word) (s u : State), u = s.elapse dt → u.live = true → bit v 0 = true →
    (u.plt.busy = true → exec (.commit dt v) s = .next ({ u with plt := { u.plt with result := 2 } }.post0 0x0021 [])) ∧
    (u.plt.busy = false → isRunning u.mode = false → exec (.commit dt v) s = .next { u with plt := { u.plt with result := 3 } }) ∧
    (u.plt.busy = false → isRunning u.mode = true →
      ¬(fld u.plt.exp 1 0 ≠ 3 ∧ 32 ≤ fld u.plt.exp 20 8 ∧ 80 ≤ (2 ^ (fld u.plt.exp 5 4 + 1) - 1) * fld u.plt.exp 20 8 ∧
        2 ^ (fld u.plt.exp 5 4 + 1) * fld u.plt.exp 20 8 + 125 ≤ nRow (fld u.plt.exp 1 0)) →
      exec (.commit dt v) s = .next ({ u with plt := { u.plt with result := 1 } }.post0 0x0020 [])) ∧
    (u.plt.busy = false → isRunning u.mode = true → fld u.plt.exp 1 0 ≠ 3 → 32 ≤ fld u.plt.exp 20 8 →
      80 ≤ (2 ^ (fld u.plt.exp 5 4 + 1) - 1) * fld u.plt.exp 20 8 →
      2 ^ (fld u.plt.exp 5 4 + 1) * fld u.plt.exp 20 8 + 125 ≤ nRow (fld u.plt.exp 1 0) →
      exec (.commit dt v) s = .next { u with plt := { u.plt with busy := true, result := 0, sent := (u.plt.exp, u.plt.fsync) } })) ∧
  (∀ (dt : Nat) (s u : State), u = s.elapse dt → u.live = true → u.plt.busy = true →
    (∃ t n q, exec (.commitTransferDone dt) s = .next t ∧ t = { u with
      plt := { u.plt with busy := false, pending := true, applyFrame := n, acceptAt := u.now }
      pa := { u.pa with pend := { u.pa.pend with exposure := u.plt.sent.1, fsync := u.plt.sent.2 }, prior := some q } } ∧
      (u.pa.prior = none → q = (u.now, u.pa.pend)) ∧
      (∀ f, u.pa.cur = some f → f.lpTime = none → u.now < f.marker + 1548 * nRow (fld f.st.exposure 1 0) → n = u.pa.frameNo) ∧
      (∀ f, u.pa.cur = some f → f.lpTime = none → f.marker + 1548 * nRow (fld f.st.exposure 1 0) ≤ u.now →
        n = (u.pa.frameNo + 1) % 2 ^ 32) ∧
      (∀ f, u.pa.cur = some f → f.lpTime ≠ none → isRunning u.pa.snap.mode = true → n = (u.pa.frameNo + 1) % 2 ^ 32)))

/-- 02 R57, 12 R281: an edge of FSYNC_IN in a slaved frame sets the target of the next marker DELAY later, at most P_max after the
last one; one too early or a second one counts as extra. The ninth edge of a frame, or one within 8 µs of another, makes the
input noisy, and FSYNC_NOISY gives the edges of the frame (the edge itself is ignored, the model's reading, notes/assumptions/29); 16 clean frames end that; 4 frames without an edge are reported once, with the level. -/
def Obligations.FrameSync : Prop :=
  (∀ (dt : Nat) (f : Frame) (s u : State), u = s.elapse dt → u.live = true → u.pa.cur = some f → bit f.st.fsync 0 = true → u.plt.noisy = false →
    (∀ l, u.plt.lastEdge = some l → l + 1000 ≤ u.now) → u.plt.edges < 8 →
    ∃ t, exec (.fsyncInEdge dt) s = .next t ∧ t.plt.edges = u.plt.edges + 1 ∧ t.plt.lastEdge = some u.now ∧ t.plt.noisy = false ∧
      (u.plt.target = none → f.marker + pMin f.st.exposure ≤ u.now + fld f.st.fsync 31 16 →
        t.plt.target = some (min (u.now + fld f.st.fsync 31 16) (f.marker + pMax f.st.exposure)) ∧ t.plt.extra = u.plt.extra ∧
        t.plt.fsyncState = u.plt.fsyncState) ∧
      ((u.plt.target ≠ none ∨ u.now + fld f.st.fsync 31 16 < f.marker + pMin f.st.exposure) →
        t.plt.target = u.plt.target ∧ t.plt.extra = satInc u.plt.extra 1 65535 ∧
        t.plt.fsyncState = if u.plt.fsyncState = 2 then 1 else u.plt.fsyncState) ∧
      t.sup = u.sup ∧ t.pa = u.pa ∧ t.pb = u.pb ∧ t.act = u.act ∧ t.saf = u.saf ∧ t.nv = u.nv) ∧
  (∀ (dt : Nat) (f : Frame) (s u : State), u = s.elapse dt → u.live = true → u.pa.cur = some f → bit f.st.fsync 0 = true → u.plt.noisy = false →
    (8 ≤ u.plt.edges ∨ ∃ l, u.plt.lastEdge = some l ∧ u.now < l + 1000) →
    ∃ p b, exec (.fsyncInEdge dt) s = .next (({ u with plt := { u.plt with
      period := p, lastEdge := some u.now, edges := u.plt.edges + 1, closeEdge := b, noisy := true, cleanRun := 0 } } : State).post0
        0x00a6 [word (u.plt.edges + 1)])) ∧
  (∀ (dt : Nat) (s u : State), u = s.elapse dt → u.live = true → u.plt.noisy = true → 16 ≤ u.plt.cleanRun →
    exec (.fsyncNoisyEnd dt) s = .next { u with plt := { u.plt with noisy := false } }) ∧
  (∀ (dt : Nat) (b : Bool) (s u : State), u = s.elapse dt → u.live = true → 4 ≤ u.plt.stuckRun → u.plt.stuckPosted = false →
    exec (.fsyncStuck dt b) s = .next ({ u with plt := { u.plt with stuckPosted := true } }.post0 0x00a5 [if b then 1#32 else 0#32]))

/-- 02 R44, R45, 03 R63: the row slot j of the frame being read, once its conversions are complete, puts rows 0 to 1547 on the link,
each column from the channel that serves it, and keeps the spares' levels of slots 1548 to 1571. 04 R83, R90, 10 R237, R239: the row on the
link enters the front pipe of the frame that began last and leaves the link; a row out of turn leaves the frame incomplete (the
model's reading, notes/assumptions/21), an underrun of the real-time port beside the row marks it. Other frames stay. -/
def Obligations.RowsAreTaken : Prop :=
  (∀ (dt : Nat) (x : SlotSamples) (f : Frame) (s u : State), u = s.elapse dt → u.live = true → u.pa.cur = some f →
      f.marker + u.plt.slot * nRow (fld f.st.exposure 1 0) + 112 + 2 ^ (fld f.st.exposure 5 4 + 1) * fld f.st.exposure 20 8 ≤ u.now →
      ∃ t, exec (.rowSlot dt x) s = .next t ∧ t.plt.slot = u.plt.slot + 1 ∧
        (u.plt.slot < 1548 → t.pa = { u.pa with link := some (u.plt.slot, u.linkRow x) } ∧ t.plt.spareSeen = u.plt.spareSeen) ∧
        (1548 ≤ u.plt.slot → u.plt.slot < 1572 → t.pa = u.pa ∧ t.plt.spareSeen = u.plt.spareSeen ++ [(u.plt.slot, x)]) ∧
        (1572 ≤ u.plt.slot → t.pa = u.pa ∧ t.plt.spareSeen = u.plt.spareSeen) ∧
        (∀ q, q < 2080 → (u.grp (q / 32)).standsIn ≠ some (q % 32) → q < x.s.size → (u.linkRow x).1[q]? = x.s[q]?) ∧
        t.pb = u.pb ∧ t.sup = u.sup ∧ t.act = u.act ∧ t.saf = u.saf ∧ t.nv = u.nv) ∧
  (∀ (dt : Nat) (p : Pipe) (o : PortObs) (row : Nat) (a b : Array (BitVec 16)) (f : Frame) (s u : State), u = s.elapse dt → u.live = true →
      (u.pl p).link = some (row, a, b) → (u.pl p).frame? (u.pl p).lastNo = some f → f.st.mode ≠ .relay →
      ∃ t g, exec (.frontPipeRow dt p o) s = .next t ∧ (t.pl p).link = none ∧ (t.pl p).frame? f.n = some g ∧ g.nextRow = row + 1 ∧
        g.incomplete = (f.incomplete || decide (row ≠ f.nextRow)) ∧ ((∀ x ∈ o.fills, 0 < x.1 ∧ x.2 ≤ 32768) → 0 < (u.fill (2 * pipeNum p)).1 → (u.fill (2 * pipeNum p)).2 ≤ 32768 →
          g.underrun = f.underrun) ∧ ((∃ x ∈ o.fills, x.1 = 0 ∨ 32768 < x.2) → g.underrun = true) ∧ g.st = f.st ∧
        SMap.get (#[], #[]) g.raw row = (a, b) ∧ (∀ k, k ≠ f.n → (t.pl p).frame? k = (u.pl p).frame? k) ∧
        t.sup = u.sup ∧ t.nv = u.nv ∧ t.plt = u.plt ∧ t.act = u.act)

/-- 03 R70, R77, 04 R106: CCH_REQ in CALIBRATION asks for a cycle on a channel of group 0 to 64 and is refused elsewhere; CCH_CTRL
and FP_CTRL are accepted at the write, the bypass bits in CALIBRATION and DIAGNOSTIC only. -/
def Obligations.ColumnAndPipeControl : Prop :=
  (∀ (dt : Nat) (v : Word) (s u : State), u = s.elapse dt → u.live = true → bit v 31 = true →
    exec (.cchReq dt v) s = .next (if u.mode = .calibration ∧ fld v 22 16 ≤ 64
      then u.setGrp (fld v 22 16) { u.grp (fld v 22 16) with request := some (fld v 4 0) } else u.post0 0x0036 [])) ∧
  (∀ (dt : Nat) (v : Word) (s u : State), u = s.elapse dt → u.live = true →
    ∃ t w, exec (.cchCtrl dt v) s = .next t ∧ t = u.accept .A (fun st => { st with cchCtrl := w }) ∧
      bit w 0 = bit v 0 ∧ fld w 11 8 = fld v 11 8 ∧ fld w 19 16 = fld v 19 16 ∧ fld w 27 24 = fld v 27 24) ∧
  (∀ (dt : Nat) (p : Pipe) (v : Word) (s u : State), u = s.elapse dt → u.live = true →
    (u.mode = .calibration ∨ u.mode = .diagnostic → exec (.fpCtrl dt p v) s =
      .next (u.accept p (fun st => { st with fp := word (v.toNat % 2 + fld v 7 4 * 16) }))) ∧
    (u.mode ≠ .calibration → u.mode ≠ .diagnostic → exec (.fpCtrl dt p v) s = .next (if fld v 7 4 = 0
      then u.accept p (fun st => { st with fp := word (v.toNat % 2) })
      else (u.accept p (fun st => { st with fp := word (v.toNat % 2) })).postP p 0x0014 [])))

/-! ## Frames, pours, anchoring (01, 02, 05) -/

/-- 01 R24, 02 R52, R56, R416, 17 R383: at a marker that is due the next frame of pipeline A begins with its snapshot, on the plate
and in the pipeline, with the substitutions of its columns as the marker finds them (03 R63); where the snapshot's mode does not read, the pipeline ends reading instead. -/
def Obligations.MarkerStartsFrame : Prop :=
  ∀ (dt m : Nat) (s u : State), u = s.elapse dt → u.live = true → u.markerTime = some m →
    (isRunning u.pa.snap.mode = true → ∃ t f, exec (.frameStartMarker dt) s = .next t ∧ t.pa.reading = true ∧ t.pa.armed = false ∧
      t.pa.frameNo = (u.pa.frameNo + 1) % 2 ^ 32 ∧ t.pa.frames = u.pa.frames ++ [f] ∧ f.n = u.pa.frameNo ∧ f.st = { u.pa.snap with subst := f.st.subst } ∧
      t.pa.snap = f.st ∧
      f.marker = m ∧ f.nextRow = 0 ∧ f.stripes = 0 ∧ t.plt.marker = m ∧ t.plt.slot = 0 ∧ t.plt.firstMarker = none ∧
      t.plt.activeExp = u.pa.snap.exposure ∧ t.plt.bias = u.pa.snap.bias ∧ t.mode = u.pa.snap.mode ∧ t.pb.snap = u.pb.snap ∧
      t.pb.frames = u.pb.frames ∧ t.pb.frameNo = u.pb.frameNo ∧ t.nv = u.nv) ∧
    (isRunning u.pa.snap.mode = false → ∃ t, exec (.frameStartMarker dt) s = .next t ∧ t.pa.reading = false ∧ t.pa.frames = u.pa.frames ∧
      t.pa.frameNo = u.pa.frameNo ∧ t.plt.firstMarker = none ∧ t.mode = u.mode ∧ t.pb = u.pb ∧ t.nv = u.nv)

/-- 02 R50, R51, R52, R54: at the latch point of the frame being read of pipeline A the settings accepted before it become the snapshot of
the next frame: hostLvl and bypass only in their modes (R43, R106), the secondary camera promoted where the primary left (R166). What
was accepted in or after that instant waits, and a commit among it stays PENDING. -/
def Obligations.LatchPointTakesSnapshot : Prop :=
  ∀ (dt l : Nat) (f : Frame) (st : Settings) (s u : State), u = s.elapse dt → u.live = true → u.pa.cur = some f → f.lpTime = none →
    l = f.marker + 1548 * nRow (fld f.st.exposure 1 0) → l ≤ u.now →
    st = (match u.pa.prior with
      | some (t, q) => if l ≤ t then q else u.pa.pend
      | none => u.pa.pend) →
    ∃ t, exec (.latchPoint dt .A) s = .next t ∧ t.pa.snap = { st with
        cams := promoteFirst st.cams
        hostLvl := if st.mode = .diagnostic then st.hostLvl else none
        fp := if st.mode = .diagnostic ∨ st.mode = .calibration then st.fp else word (st.fp.toNat % 16) } ∧
      t.pa.prior = none ∧ (t.mode = u.mode → t.pa.pend = (if st = u.pa.pend then { u.pa.pend with cams := promoteFirst u.pa.pend.cams } else u.pa.pend)) ∧
      t.pa.frameNo = u.pa.frameNo ∧ t.pa.tables = u.pa.tables ∧ t.pb.snap = u.pb.snap ∧ t.nv = u.nv ∧
      t.plt.pending = (u.plt.pending && decide (l ≤ u.plt.acceptAt))

/-- 01 R28, 08 R181: a stripe of a live frame whose rows are in the silo, the older frames being finished, is worked on with no
error found: the frame has one stripe more, and after the last its products are made; no other frame changes its stripes. -/
def Obligations.StripeAdvances : Prop :=
  ∀ (dt : Nat) (p : Pipe) (n : Word) (f : Frame) (s u : State), u = s.elapse dt → u.live = true → (u.pl p).frame? n.toNat = some f →
    f.alive = true → f.stripes < 24 → f.stripeIn f.stripes = true → (u.pl p).olderBusy n.toNat = false →
    ∃ t g, exec (.stripeStart dt p n [] ⟨[]⟩ []) s = .next t ∧ (t.pl p).frame? n.toNat = some g ∧ g.stripes = f.stripes + 1 ∧
      g.st = f.st ∧ g.silo = f.silo ∧ (f.stripes = 23 → g.ready = true) ∧
      (∀ k, k ≠ n.toNat → ((t.pl p).frame? k).map Frame.stripes = ((u.pl p).frame? k).map Frame.stripes) ∧
      t.mode = u.mode ∧ t.nv = u.nv ∧ t.plt = u.plt ∧ t.act = u.act ∧ t.saf = u.saf

/-- 00 R16, 01 R30, R31, 05 R107: a frame whose products are complete and whose checks passed pours: it leaves the pipeline, its
generation is that of R16, and it is the last that poured. A frame that is not ready, failed a check or is late does not. 01
R30, 14 R312: a frame past its pour deadline leaves the pipeline without pouring: the generation and the table stay. -/
def Obligations.FramesPourOrDrop : Prop :=
  (∀ (dt : Nat) (p : Pipe) (n : Word) (f : Frame) (s u : State), u = s.elapse dt → u.live = true → (u.pl p).frame? n.toNat = some f →
      (u.mayPour p f = true → ∃ t, exec (.pour dt p n) s = .next t ∧ (t.pl p).frame? n.toNat = none ∧ (t.pl p).gen = (u.pl p).genOf f.st ∧
        (t.pl p).lastPoured = some f.st ∧ (t.pl p).lastSeq = some f.soSeq ∧ (t.pl p).noTemp = 0 ∧ (t.pl p).lateRun = 0 ∧
        (p = .A → t.saf.pourA = f.n ∧ t.pb = u.pb) ∧ (p = .B → t.saf.pourB = f.n ∧ t.pa = u.pa) ∧ t.mode = u.mode ∧ t.plt = u.plt) ∧
      ((f.ready = false ∨ f.shutter = true ∨ f.refFail = true ∨ f.tileFail = true ∨ f.memFail = true ∨ f.tainted = true ∨
          (u.pl p).pastDeadline f u.now = true) → exec (.pour dt p n) s = .next u)) ∧
  (∀ (dt : Nat) (p : Pipe) (n : Word) (f : Frame) (s u : State), u = s.elapse dt → u.live = true → (u.pl p).frame? n.toNat = some f →
      ((u.pl p).pastDeadline f u.now = true → ∃ t, exec (.pourDeadline dt p n) s = .next t ∧ (t.pl p).frame? n.toNat = none ∧
        (t.pl p).gen = (u.pl p).gen ∧ (t.pl p).lastPoured = (u.pl p).lastPoured ∧ (t.pl p).tables = (u.pl p).tables ∧
        t.hif.deliveries = u.hif.deliveries ∧ t.nv = u.nv) ∧
      ((u.pl p).pastDeadline f u.now = false → exec (.pourDeadline dt p n) s = .next u))

/-- 05 R112, R116, R117, R130: the glean update of a copy awaits its commit over the table it was formed from; an open request is
posted again after 60 s with the urgency and E as they are then; a grant whose window has ended lapses; a persist write that completes makes its slot
valid and posts SO_PERSISTED. 05 R123, R124: an event whose CLOSED has not come 80 ms after its marker fails with reason 1 and
its open pulse falls due. 05 R124: an open pulse with no OPEN 80 ms later is repeated at a marker of the pipeline that falls after those
80 ms, or else 82 ms after it began, of pipeline B by the companion (R301); 80 ms after the third pulse SHUTTER_STUCK, dangerous fault
15, is decided. The same holds of an opening outside an event, while the shutter shows CLOSED. -/
def Obligations.AnchoringAndShutterTimers : Prop :=
  ((∀ (dt base : Nat) (acc : SMap (Array (Nat × Int))) (p : Pipe) (s u : State), u = s.elapse dt → u.live = true →
      (u.pl p).gleanCopy = some (acc, base) →
      exec (.gleanUpdate dt p) s = .next (u.modPl p (fun x =>
        { x with gleanCopy := none, gleanNext := some ⟨gleanTable (u.ancOf (u.pl p).snap) acc (u.pl p).table.table, base, none⟩ }))) ∧
    (∀ (dt : Nat) (p : Pipe) (r : Req) (urgent : Bool) (s u : State), u = s.elapse dt → u.live = true → (u.pl p).request = some r →
      (urgent = true ↔ (u.ancOf (u.pl p).snap).eUrg ≤ (u.pl p).e ∧ ∀ l, (u.pl p).lastEvent = some l → l + 7500000000 ≤ u.now) →
      (r.posted + 7500000000 ≤ u.now →
        exec (.shutterRequestRepost dt p) s = .next ((u.postP p 0x0040 [if urgent then 1#32 else 0#32, word (u.pl p).e,
          word (durMs (u.ancOf (u.pl p).snap) (u.pl p).snap.exposure)]).modPl p (fun x => { x with request := some ⟨urgent, u.now⟩ }))) ∧
      (u.now < r.posted + 7500000000 → exec (.shutterRequestRepost dt p) s = .next u)) ∧
    (∀ (dt : Nat) (p : Pipe) (g : Grant) (s u : State), u = s.elapse dt → u.live = true → (u.pl p).grant = some g → g.end_ ≤ u.now →
      exec (.shutterGrantLapsed dt p) s = .next ((u.modPl p (fun x => { x with grant := none })).postP p 0x0041 [])) ∧
    (∀ (dt i : Nat) (slot : SoSlot) (s u : State), u = s.elapse dt → u.live = true → u.sup.soWrite = some (i, slot) → u.sup.soAgain = false →
      exec (.soPersisted dt) s = .next ({ u with nv := { u.nv with soSlots := u.nv.soSlots.set i slot }, sup := { u.sup with soWrite := none } }.post0 0x0046 [word slot.pseq]))) ∧
  ((∀ (dt : Nat) (p : Pipe) (e : ShEvent) (s u : State), u = s.elapse dt → u.live = true → (u.pl p).event = some e → e.closed = false →
      e.fail = none → e.opens = 0 → e.ended = none →
      (u.now < e.start + 10000000 → exec (.noClose dt p) s = .next u) ∧
      (e.start + 10000000 ≤ u.now → ∃ t, exec (.noClose dt p) s = .next t ∧ (t.pl p).event = some { e with fail := some 1, openDue := true } ∧
        (t.pl p).fails = (u.pl p).fails + 1 ∧ ((t.pl p).degraded = true ↔ (u.pl p).degraded = true ∨ (u.pl p).fails = 2) ∧
        (t.pl p).tables = (u.pl p).tables ∧ t.sup = u.sup ∧ t.act = u.act ∧ t.nv = u.nv)) ∧
    (∀ (dt : Nat) (e : ShEvent) (s u : State), u = s.elapse dt → u.live = true → u.pa.event = some e → e.opened = false → 0 < e.opens →
      u.openPending = false → e.lastOpen + 10000000 ≤ u.now → u.position 0 ≠ 1 → u.act.opening = none → u.act.chans.length = 4 →
      (e.opens < 3 → (e.lastOpen + 10250000 ≤ u.now ∨ ∃ f, u.pa.cur = some f ∧ e.lastOpen + 10000000 ≤ f.marker ∧ f.marker ≤ u.now) →
        ∃ t, exec (.openRepeat dt .A) s = .next t ∧
        t.pa.event = some { e with opens := e.opens + 1, lastOpen := u.now } ∧ (t.ch 0).due = some ⟨.open_, u.shutterSteps, u.now⟩ ∧
        t.mode = u.mode ∧ t.nv = u.nv) ∧
      (e.opens < 3 → u.now < e.lastOpen + 10250000 → (∀ f, u.pa.cur = some f → f.marker < e.lastOpen + 10000000 ∨ u.now < f.marker) →
        exec (.openRepeat dt .A) s = .next u) ∧
      (3 ≤ e.opens → u.saf.decided = [] → u.saf.first = 0 → ∃ t, exec (.openRepeat dt .A) s = .next t ∧ t.saf.first = 15 ∧ t.mode = .safe)) ∧
    (∀ (dt : Nat) (e : ShEvent) (s u : State), u = s.elapse dt → u.live = true → u.pb.event = some e → e.opened = false → 0 < e.opens →
      e.lastOpen + 10000000 ≤ u.now → u.nl.comp.pos0 ≠ 1 →
      (e.opens < 3 → (e.lastOpen + 10250000 ≤ u.now ∨ ∃ f, u.pb.cur = some f ∧ e.lastOpen + 10000000 ≤ f.marker ∧ f.marker ≤ u.now) →
        exec (.openRepeat dt .B) s = .next ((u.modPl .B (fun x =>
          { x with event := some { e with opens := e.opens + 1, lastOpen := u.now } })).sendCmd 3 0 0)) ∧
      (e.opens < 3 → u.now < e.lastOpen + 10250000 → (∀ f, u.pb.cur = some f → f.marker < e.lastOpen + 10000000 ∨ u.now < f.marker) →
        exec (.openRepeat dt .B) s = .next u) ∧
      (3 ≤ e.opens → u.saf.decided = [] → u.saf.first = 0 → ∃ t, exec (.openRepeat dt .B) s = .next t ∧ t.saf.first = 15 ∧ t.mode = .safe)) ∧
    (∀ (dt n last : Nat) (s u : State), u = s.elapse dt → u.live = true → u.pa.event = none → u.act.opening = some (n, last) →
      u.openPending = false → last + 10000000 ≤ u.now → u.levelClosed = true →
      (n < 3 → last + 10250000 ≤ u.now →
        exec (.openRepeat dt .A) s = .next (({ u with act := { u.act with opening := some (n + 1, u.now) } } : State).duePulse 0 .startup u.shutterSteps)) ∧
      (3 ≤ n → u.saf.decided = [] → u.saf.first = 0 → ∃ t, exec (.openRepeat dt .A) s = .next t ∧ t.saf.first = 15 ∧ t.mode = .safe)))

/-- 05 R122, R125, R126: with both blade results and every averaging frame in, the anchor is judged with the values of the ANC section
that its event began with: where no limit of R126 is broken the new table awaits its commit at the next pour, over the table in force
and with the averages of drift and plate temperature; where one is, the event fails with its reason and the table stays. An event
that has ended already is then over, and SHUTTER_EVENT says so. -/
def Obligations.AnchorIsJudged : Prop :=
  ∀ (dt : Nat) (p : Pipe) (e : ShEvent) (w : Nat × Nat × Nat) (a : Anc) (tB : Int) (n : NextTable) (s u : State), u = s.elapse dt →
    u.live = true → (u.pl p).event = some e → e.win = some w → a = e.anc → e.fail = none → e.formed = false →
    e.temps.length = 2 ^ a.nAvgLog2 → e.taken = 2 ^ a.nAvgLog2 → 2 ≤ e.blades.length →
    tB = rnd ((e.blades.getD 0 none).getD 0 + (e.blades.getD 1 none).getD 0) 1 →
    n = ⟨anchorTable a e (bladeValue a.shutA tB) (bladeValue a.shutB tB) (u.pl p).table.table, (u.pl p).table.seq,
      some (avg e.bds, avg (e.temps.filterMap id))⟩ →
    (anchorReason a e (bladeValue a.shutA tB) (bladeValue a.shutB tB) = none →
      (e.ended = none → exec (.anchorFormed dt p) s =
        .next (u.modPl p (fun x => { x with event := some { e with formed := true }, anchorNext := some n }))) ∧
      (∀ k, e.ended = some k → exec (.anchorFormed dt p) s = .next ((u.modPl p (fun x =>
        { x with event := none, anchorNext := some n })).postP p 0x0042 [word e.c, word (k + 0xffffffff), 0#32]))) ∧
    (∀ r, anchorReason a e (bladeValue a.shutA tB) (bladeValue a.shutB tB) = some r →
      ∃ t, exec (.anchorFormed dt p) s = .next t ∧
        (t.pl p).event = (if e.ended = none then some { e with fail := some r, openDue := decide (e.opens = 0) } else none) ∧
        (t.pl p).anchorNext = none ∧ (t.pl p).tables = (u.pl p).tables ∧ (t.pl p).fails = (u.pl p).fails + 1 ∧ t.sup = u.sup)

/-! ## Engines (08 R174, R183 to R186, 14 R314) -/

/-- 02 R51, 08 R174, R177, R184, R185, R186, 14 R311, R314: a sheaf is asked offline, accepted where the demand of the settings in force and
of the pending ones fits in one sheaf less, and back, drains, is tested on request and a second after it failed; what is refused posts
ENGINE_OFFLINE_REFUSED and changes no sheaf. A scheduled test that fails sets warning bit 9, and its condition lasts until such a
test passes. 08 R174, R183: an uncorrectable error of an engine's SRAM counts in the engine, its sheaf, its stook and the array, is
noted for the sheaf, and fails the frames it held that are placed on that engine; no other block changes. -/
def Obligations.EngineArray : Prop :=
  (∀ (dt : Nat) (i : Fin 16) (x : Sheaf) (n : Nat) (s u : State), u = s.elapse dt → u.live = true → x = u.sheaf i.val →
      n = (if x.st = .idle then u.sOn - 1 else u.sOn) →
      (x.offReq = true → exec (.offlineReq dt i) s = .next u) ∧
      (x.offReq = false → (∀ ls ∈ [u.loads u.pa.inForce u.pb.inForce, u.pendingLoads], ∀ cool, engineBudget ls cool n = true) →
        ∃ q, exec (.offlineReq dt i) s = .next (u.modSheaf i.val (fun y => { y with offReq := true, ret := false, prior := some q })) ∧
          (x.prior = none → q = (u.now, x.offReq, x.ret))) ∧
      (x.offReq = false → (∃ ls ∈ [u.loads u.pa.inForce u.pb.inForce, u.pendingLoads], ∃ cool, engineBudget ls cool n = false) →
        exec (.offlineReq dt i) s = .next (u.post0 0x0063 [word i.val])) ∧
      (x.st ≠ .failed → (x.st = .test → x.prev ≠ .failed) →
        ∃ q, exec (.returnRequest dt i) s = .next (u.modSheaf i.val (fun y => { y with offReq := false, ret := x.ret, prior := some q }))) ∧
      (x.st = .failed ∨ (x.st = .test ∧ x.prev = .failed) → x.passed = true →
        ∃ q, exec (.returnRequest dt i) s = .next (u.modSheaf i.val (fun y => { y with offReq := false, ret := true, prior := some q })) ∧
          (x.prior = none → q = (u.now, x.offReq, x.ret))) ∧
      (x.st = .failed ∨ (x.st = .test ∧ x.prev = .failed) → x.passed = false →
        exec (.returnRequest dt i) s = .next (u.post0 0x0063 [word i.val])) ∧
      (x.st = .draining → u.sheafInUse i.val = false →
        exec (.sheafDrained dt i) s = .next (u.modSheaf i.val (fun y => { y with st := .offline }))) ∧
      (x.st ≠ .draining ∨ u.sheafInUse i.val = true → exec (.sheafDrained dt i) s = .next u) ∧
      (x.st = .offline ∨ x.st = .failed →
        exec (.testReq dt i) s = .next (u.modSheaf i.val (fun y => { y with prev := y.st, st := .test, sched := false }))) ∧
      (x.st ≠ .offline → x.st ≠ .failed → exec (.testReq dt i) s = .next (u.post0 0x0063 [word i.val])) ∧
      (∀ v, v = (u.modSheaf i.val (fun y =>
          { y with st := y.prev, result := 1, passed := y.passed || decide (y.prev = .failed), history := [], ues := [], sched := false })).post0
            0x0064 [word i.val, 1#32] → x.st = .test → exec (.sheafTest dt i true) s = .next (if x.sched = true
          then { v with saf := { v.saf with testFail := u.saf.testFail.filter (fun k => decide (k ≠ 8 + i.val)) } } else v)) ∧
      (x.st = .test → x.sched = false → exec (.sheafTest dt i false) s = .next ((u.modSheaf i.val (fun y =>
        { y with st := y.prev, result := 2, sched := false })).post0 0x0064 [word i.val, 2#32])) ∧
      (x.st = .test → x.sched = true → ∃ t, exec (.sheafTest dt i false) s = .next t ∧
        t.sheaf i.val = (u.modSheaf i.val (fun y => { y with st := y.prev, result := 2, sched := false })).sheaf i.val ∧
        t.saf.testFail = (8 + i.val) :: u.saf.testFail.filter (fun k => decide (k ≠ 8 + i.val)) ∧ t.saf.warn / 2 ^ 9 % 2 = 1 ∧
        t.sup = u.sup ∧ t.pa = u.pa ∧ t.pb = u.pb) ∧
      (∀ t, x.st = .failed → x.retestAt = some t → t ≤ u.now → exec (.sheafRetest dt i) s = .next (u.modSheaf i.val (fun y =>
        { y with retestAt := none, prev := y.st, st := .test, sched := true }))) ∧
      (x.st ≠ .failed ∨ (∀ t, x.retestAt = some t → u.now < t) → exec (.sheafRetest dt i) s = .next u)) ∧
  (∀ (dt : Nat) (e : Fin 128) (heldA heldB : List Word) (s u : State), u = s.elapse dt → u.live = true → u.eng.sheaves.length = 16 →
      SMap.ok UnitCnt.zero u.eng.units = true →
      ∃ t, exec (.engineSramUe dt e heldA heldB) s = .next t ∧
        (∀ k, (SMap.get UnitCnt.zero t.eng.units k).ue = (if k ∈ [21 + e.val, 5 + e.val / 8, 0, 1 + e.val / 32] then
          satInc (SMap.get UnitCnt.zero u.eng.units k).ue 1 0xffffffff else (SMap.get UnitCnt.zero u.eng.units k).ue)) ∧
        t.sheaf (e.val / 8) = { u.sheaf (e.val / 8) with
          ues := u.pa.lastNo :: (u.sheaf (e.val / 8)).ues.filter (near64 u.pa.lastNo) } ∧
        (∀ j, j ≠ e.val / 8 → t.sheaf j = u.sheaf j) ∧
        (∀ p, ∀ f ∈ (u.pl p).frames, (∃ w ∈ (if p = .A then heldA else heldB), w.toNat = f.n) →
          (∃ x ∈ f.place, x.pipe = pipeNum p ∧ e.val ∈ x.engines) → ∀ g ∈ (t.pl p).frames, g.n = f.n → g.tileFail = true) ∧
        t.sup = u.sup ∧ t.thm = u.thm ∧ t.plt = u.plt ∧ t.cch = u.cch ∧ t.pcv = u.pcv ∧ t.act = u.act ∧ t.nl = u.nl ∧ t.drm = u.drm ∧
        t.saf = u.saf ∧ t.nv = u.nv)

/-! ## Precision converters (11) -/

/-- 11 R259, R260, R262: PCV_CTRL and an entry's configuration are taken at the next pass start; a change that loads a modulator
beyond 8000 clocks is refused with CFG_ERR, a write of a fixed entry with RO_WRITE (R14); PCV_URG starts a conversion at once on
an idle modulator, or is refused; PCV_SWTRIG requests one conversion of an entry, and a further trigger until that has run requests no other. -/
def Obligations.ConverterRegisters : Prop :=
  ∀ (dt : Nat) (v : Word) (s u : State), u = s.elapse dt → u.live = true →
    (∀ c, c = word (fld v 1 0) → modLoad c u.entryRegs 0 ≤ 8000 → modLoad c u.entryRegs 1 ≤ 8000 →
      exec (.pcvCtrl dt v) s = .next { u with pcv := { u.pcv with newCtrl := some c } }) ∧
    (∀ c m, c = word (fld v 1 0) → m < 2 → 8000 < modLoad c u.entryRegs m →
      exec (.pcvCtrl dt v) s = .next { u with pcv := { u.pcv with cfgErr := true } }) ∧
    (∀ i : Fin 16, i.val < 7 → exec (.pcvEntryCfg dt i v) s = .next (u.post0 0x0003 [word (0xc040 + 16 * i.val)])) ∧
    (∀ i : Fin 16, 7 ≤ i.val → cfgEn v = false → u.dropsLens i.val v = false →
      exec (.pcvEntryCfg dt i v) s = .next (u.modEntry i.val (fun e => { e with newCfg := some v }))) ∧
    (∀ i : Fin 16, 7 ≤ i.val → cfgEn v = true → 6 ≤ cfgChan v → cfgChan v ≤ 11 → fld v 16 15 < 3 → cfgExc v < 3 → 8 ≤ fld v 12 0 →
      fld v 12 0 ≤ 4096 → (∀ m, m < 2 → modLoad (u.pcv.newCtrl.getD u.pcv.ctrl) (u.entryRegs.set i.val v) m ≤ 8000) →
      exec (.pcvEntryCfg dt i v) s = .next (u.modEntry i.val (fun e => { e with newCfg := some v }))) ∧
    (∀ (i : Fin 16) (m : Nat), 7 ≤ i.val → cfgEn v = true → m < 2 →
      8000 < modLoad (u.pcv.newCtrl.getD u.pcv.ctrl) (u.entryRegs.set i.val v) m →
      exec (.pcvEntryCfg dt i v) s = .next { u with pcv := { u.pcv with cfgErr := true } }) ∧
    (bit v 31 = false → exec (.pcvUrg dt v) s = .next u) ∧
    (bit v 31 = true → u.urgBad (fld v 3 0) = true →
      exec (.pcvUrg dt v) s = .next { u with pcv := { u.pcv with urgNo := u.pcv.urgNo + 1, urgEntry := fld v 3 0, urgStatus := 2 } }) ∧
    (∀ (e m : Nat) (c : Word) (x : Modulator), bit v 31 = true → e = fld v 3 0 → u.urgBad e = false → c = (u.entry e).cfg → m = cfgMod c →
      u.pcv.mods.length = 2 → x = u.modu m → x.now = none → x.queue = [] → x.urg = none → u.excClash m c = false →
      exec (.pcvUrg dt v) s = .next { u with pcv := { u.pcv with
        urgNo := u.pcv.urgNo + 1, urgEntry := e, urgStatus := 0,
        mods := u.pcv.mods.set m { x with
          now := some ⟨e, c, u.now, u.now + (cfgClocks c + (if x.cold || x.recover then 64 else 0)) * 64, true⟩,
          urg := some ⟨e, false, u.pcv.urgNo + 1⟩, recover := false, cold := false } } }) ∧
    (∃ t, exec (.pcvSwtrig dt v) s = .next t ∧ t = { u with pcv := { u.pcv with swtrig := t.pcv.swtrig } }) ∧
    (∀ i, 7 ≤ i → i < 16 → v = word (2 ^ i) → exec (.pcvSwtrig dt v) s = .next
      (if u.pcv.swtrig / 2 ^ i % 2 = 1 then u
       else { u with pcv := { u.pcv with swtrig := u.pcv.swtrig + 2 ^ i } }))

/-- 11 R254 to R260: a pass starts with the sequencer and then every 8000 modulator clocks of 64 PLATE clocks, takes the registers
written since, and begins with entry 0 on modulator 0 and entry 6 on modulator 1; a conversion that has come to its end puts its
code, x = round(V · G · 2^23 / V_REF) saturated (a tie towards +∞, the model's reading, notes/assumptions/103), and its time into its
entry; by VREF_EXT outside its operating conditions the code is undefined (R401); an overload gives the over-range code, and 64 more
clocks to the next conversion. A software trigger is served by the conversion of its entry. -/
def Obligations.ConverterRuns : Prop :=
  (∀ (dt : Nat) (s u : State), u = s.elapse dt → u.live = true →
    (u.pcv.running = false → exec (.passStart dt) s = .next u) ∧
    (∀ t0, u.pcv.passStart = some t0 → u.now < t0 + 512000 → exec (.passStart dt) s = .next u) ∧
    (∀ a n, u.pcv.running = true →
      (u.pcv.passStart = none ∧ a = u.now ∧ n = u.pcv.passes ∨
        u.pcv.passStart = some (a - 512000) ∧ 512000 ≤ a ∧ a ≤ u.now ∧ n = (u.pcv.passes + 1) % 65536) →
      ∃ t, exec (.passStart dt) s = .next t ∧ { t with pcv := u.pcv, pa := u.pa } = u ∧ t.pa = { u.pa with event := t.pa.event } ∧
        t.pcv.passStart = some a ∧ t.pcv.passes = n ∧
        t.pcv.ctrl = u.pcv.newCtrl.getD u.pcv.ctrl ∧ t.pcv.newCtrl = none ∧
        t.pcv.entries = u.pcv.entries.map (fun e => { e with cfg := e.newCfg.getD e.cfg, newCfg := none }) ∧ t.pcv.swtrig = 0 ∧
        (∃ c, (t.modu 0).now = some c ∧ c.entry = 0 ∧ c.start = a ∧ c.urgent = false) ∧
        (∃ c, (t.modu 1).now = some c ∧ c.entry = 6 ∧ c.start = a ∧ c.urgent = false))) ∧
  (∀ (dt : Nat) (m : Fin 2) (r : ConvResult) (c : Conv) (s u : State), u = s.elapse dt → u.live = true → (u.modu m.val).now = some c →
    (u.now < c.stop → exec (.conversionComplete dt m r) s = .next u) ∧
    (c.stop ≤ u.now → u.pcv.entries.length = 16 → c.entry < 16 →
      ∃ t, exec (.conversionComplete dt m r) s = .next t ∧ (t.entry c.entry).time = c.stop ∧
        (∀ v vref w x, r = .input v vref → w = (if bit c.cfg 27 = true then vref else 1250000000000) →
          x = sat (divF (2 * (v * 2 ^ fld c.cfg 19 17 * 2 ^ 23) + w) (2 * w)) (-8388607) 8388606 →
          bit c.cfg 27 = false ∨ 1000000000000 ≤ vref ∧ vref ≤ 1300000000000 →
          (t.entry c.entry).result = word (2 ^ 31 + flag c.urgent 29 + code x 24) ∧
          (∀ y, 6 ≤ cfgChan c.cfg → cfgChan c.cfg ≤ 11 → tableTemp (u.pcvTable (cfgChan c.cfg)) x = some y →
            (t.entry c.entry).temp = word (2 ^ 31 + code y 16))) ∧
        (∀ v vref, r = .input v vref → bit c.cfg 27 = true → vref < 1000000000000 ∨ 1300000000000 < vref →
          ∃ x : BitVec 24, (t.entry c.entry).result = word (2 ^ 31 + flag c.urgent 29 + x.toNat)) ∧
        (r = .overPos → (t.entry c.entry).result = word (2 ^ 30 + flag c.urgent 29 + 0x7fffff)) ∧
        (r = .overNeg → (t.entry c.entry).result = word (2 ^ 30 + flag c.urgent 29 + 0x800000)) ∧
        (c.urgent = false → t.pcv.swtrig / 2 ^ c.entry % 2 = 0) ∧
        (cfgChan c.cfg ≠ 4 → cfgChan c.cfg ≠ 5 → cfgChan c.cfg ≠ 12 → { t with pcv := u.pcv, pa := u.pa } = u) ∧
        t.nv = u.nv ∧ t.eng = u.eng ∧ t.plt.bias = u.plt.bias))

/-! ## NL lanes and the companion link (13) -/

/-- 07 R172, 10 R237, R239, 13 R289, R292 to R295, R303, R304: NL_TRANSFER_START takes the frame that waits for its stream into transfer
once none is: with both lanes free each egress lane in service begins with RECORD at once, and then sends its share of the lines, line L
on lane L mod N, in their order. A packet has gone out when its blocks have. An RT1 underrun cuts the packet in progress with ABORT
and ends its frame with NL_ABORT. A write of EGR_EN waits for EGRESS_LANE_CHANGE, which waits for the packets in progress, or posts
NL_CONFIG. PRBS patterns run in DIAGNOSTIC alone; their checker locks after 64 correct bits and then counts every wrong one.
Injections, in CALIBRATION and DIAGNOSTIC, strike the lane's traffic and wait while it has none. -/
def Obligations.LanesTransmit : Prop :=
  (∀ (dt : Nat) (i : Fin 2) (o : NlObs) (x : Stream) (s u : State), u = s.elapse dt → u.live = true →
    (u.nl.streams.getD i.val none = none → exec (.nlTransferStart dt i o) s = .next u) ∧
    (u.nl.streams.getD i.val none = some x → x.waiting = none ∨ x.transfer ≠ none → exec (.nlTransferStart dt i o) s = .next u) ∧
    (∀ n r y, u.nl.streams.getD i.val none = some x → x.transfer = none → x.waiting = some (n, r, y) → o = ⟨⟨[]⟩, ⟨[]⟩⟩ →
      u.nl.egrEn ∈ [1, 2, 3] → u.nl.lanes.length = 4 → u.nl.streams.length = 2 → (u.lane 0).cur = none → (u.lane 1).cur = none →
      (∀ z, some z ∈ u.nl.streams → ∀ q ∈ z.todo, q = []) →
      ∃ t todo, exec (.nlTransferStart dt i o) s = .next t ∧ { t with nl := u.nl } = u ∧ t.nl.sent = u.nl.sent ∧ t.nl.comp = u.nl.comp ∧
        t.nl.streams.getD i.val none = some { x with transfer := some (n, r, y), waiting := none, todo := todo } ∧
        (∀ l, l < 2 → u.nl.egrEn / 2 ^ l % 2 = 0 → (t.lane l).cur = none ∧ todo.getD l [] = []) ∧
        (∀ l, l < 2 → u.nl.egrEn / 2 ^ l % 2 = 1 →
          (t.lane l).cur = some (⟨0, i.val, l, 0, n % 65536, r, decide ((u.lane l).prbs = 0) && decide ((u.lane l).inject = 3),
            (u.lane l).blockNow u.now, none⟩, (r.length + 7) / 8 + 2) ∧
          todo.getD l [] = (y.lines.zipIdx.filter (fun z => decide (u.nl.egrEn ≠ 3 ∨ z.2 % 2 = l))).map
            (fun z => ⟨1, i.val, l, z.2, n % 65536, z.1, false, 0, none⟩)))) ∧
  (∀ (dt l r : Nat) (p : NlPacket) (s : State), s.live = true → l < 2 → s.nl.lanes.length = 4 → s.nl.quiet = false → (s.lane l).cur = some (p, r) →
    (s.lane l).prbs = 0 → r ≤ othersAmong (s.lane l).blk ((s.lane l).blockNow (s.now + dt) - (s.lane l).blk) →
    ∃ t new, exec (.egressLaneChange dt) s = .next t ∧ t.nl.sent = new ++ s.nl.sent ∧ p ∈ new) ∧
  (∀ (dt r : Nat) (c : Fin 4) (i : Fin 2) (x : Stream) (p : NlPacket) (s u : State), u = s.elapse dt → u.live = true → u.nl.lanes.length = 4 →
    u.nl.streams.length = 2 → u.nl.streams.getD i.val none = some x → x.transfer ≠ none → (u.lane 0).cur = some (p, r) → p.stream = i.val →
    r < p.size → (u.lane 0).prbs = 0 → (∀ j, j ≠ 0 → (u.lane j).cur = none) → 0 < (u.fill 1).1 →
    ∃ t, exec (.refreshInterval dt c [(1, ⟨[(0, 0)]⟩)]) s = .next t ∧
      t.nl.sent = { p with badCrc := false, abort := some (1, p.size - r - 1) } :: u.nl.sent ∧ (t.lane 0).cur = none ∧
      t.nl.streams.getD i.val none = some { x with transfer := none, todo := [[], []] } ∧ t.drm.under = modAt u.drm.under 1 (fun n => satInc n 1 255) ∧
      t.pa = u.pa ∧ t.pb = u.pb ∧ t.nv = u.nv) ∧
  (∀ (dt : Nat) (v : Word) (s u : State), u = s.elapse dt → u.live = true →
    exec (.egrEn dt v) s = .next (if u.egrFits (fld v 1 0) then { u with nl := { u.nl with egrReq := some (fld v 1 0) } }
      else u.post0 0x00b5 [0#32]) ∧
    (∀ w, u.nl.egrReq = some w → (u.lane 0).cur ≠ none ∨ (u.lane 1).cur ≠ none → exec (.egressLaneChange dt) s = .next u) ∧
    (∀ w, u.nl.egrReq = some w → (u.lane 0).cur = none → (u.lane 1).cur = none → u.nl.lanes.length = 4 →
      ∃ t, exec (.egressLaneChange dt) s = .next t ∧ t.nl.egrEn = w ∧ t.nl.egrReq = none ∧
        (∀ l, l < 2 → (t.lane l).on = if u.mode = .relay then (u.lane l).on else decide (w / 2 ^ l % 2 = 1)) ∧
        (∀ l, 2 ≤ l → t.lane l = u.lane l) ∧ t.nl.sent = u.nl.sent ∧ t.nl.streams = u.nl.streams ∧ { t with nl := u.nl } = u) ∧
    (u.nl.egrReq = none → exec (.egressLaneChange dt) s = .next u)) ∧
  (∀ (dt : Nat) (l : Fin 4) (v : Word) (bits : List Bool) (x : Lane) (s u : State), u = s.elapse dt → u.live = true → u.nl.lanes.length = 4 →
    x = u.lane l.val →
    (u.mode = .diagnostic → ∃ t, exec (.prbs dt l v) s = .next t ∧ (t.lane l.val).prbs = fld v 26 24 ∧
      fld (t.lane l.val).cfg 3 0 = fld v 3 0 ∧ (t.lane l.val).prbsErr = x.prbsErr ∧
      (∀ j, j ≠ l.val → t.lane j = u.lane j) ∧ { t with nl := u.nl } = u) ∧
    (u.mode ≠ .diagnostic → ∃ t, exec (.prbs dt l v) s = .next t ∧ (t.lane l.val).prbs = 0 ∧ fld (t.lane l.val).cfg 3 0 = fld v 3 0 ∧
      (∀ j, j ≠ l.val → t.lane j = u.lane j) ∧ (fld v 26 24 = 0 → { t with nl := u.nl } = u)) ∧
    (u.mode = .diagnostic → x.prbs ≠ 0 → exec (.prbsLock dt l bits) s = .next
      (u.modLane l.val (fun x => bits.foldl (fun y b => y.checkBit x.prbs b) x))) ∧
    (u.mode ≠ .diagnostic ∨ x.prbs = 0 → exec (.prbsLock dt l bits) s = .next u) ∧
    (∀ b, (prbsTaps x.prbs).1 ≤ x.prbsSeen.length →
      (b = prbsNext x.prbs x.prbsSeen → (x.checkBit x.prbs b).prbsErr = x.prbsErr ∧ (x.checkBit x.prbs b).prbsRun = x.prbsRun + 1 ∧
        ((x.checkBit x.prbs b).prbsLock = true ↔ x.prbsLock = true ∨ 63 ≤ x.prbsRun)) ∧
      (b ≠ prbsNext x.prbs x.prbsSeen → (x.checkBit x.prbs b).prbsLock = x.prbsLock ∧ (x.checkBit x.prbs b).prbsRun = 0 ∧
        (x.checkBit x.prbs b).prbsErr = if x.prbsLock = true then satInc x.prbsErr 1 0xffffffff else x.prbsErr)) ∧
    (u.mode = .calibration ∨ u.mode = .diagnostic → 1 ≤ fld v 2 0 → fld v 2 0 ≤ 4 →
      ∃ t y, exec (.inject dt l v) s = .next t ∧ t = u.modLane l.val (fun _ => y) ∧
        (x.on = false ∨ x.prbs ≠ 0 → y = { x with inject := fld v 2 0 }) ∧
        (x.on = true → x.prbs = 0 → fld v 2 0 ≤ 2 → y = { x with inject := 0, spoils := (x.blockNow u.now + 1, fld v 2 0) :: x.spoils }) ∧
        (x.on = true → x.prbs = 0 → fld v 2 0 = 3 → x.cur = none → y = { x with inject := 3 }) ∧
        (∀ p r, x.on = true → x.prbs = 0 → fld v 2 0 = 3 → x.cur = some (p, r) →
          y = { x with inject := 0, cur := some ({ p with badCrc := true }, r) }) ∧
        (x.on = true → x.prbs = 0 → fld v 2 0 = 4 → ∃ c, y = { x with inject := 0, spoils := (c, 4) :: x.spoils } ∧ c % 16384 = 0 ∧
          x.blockNow u.now < c ∧ c ≤ x.blockNow u.now + 16384)) ∧
    (u.mode = .calibration ∨ u.mode = .diagnostic → fld v 2 0 = 0 ∨ 4 < fld v 2 0 → exec (.inject dt l v) s = .next u) ∧
    (u.mode ≠ .calibration → u.mode ≠ .diagnostic →
      exec (.inject dt l v) s = .next (u.post0 0x00b5 [word (0x48 + 0x20 * l.val)])))

/-- 13 R284, R286 to R288, R291, R297, R302: a receiver in use locks on 64 valid headers in a row, synchronises on an LSYNC with a SEED other
than 0, keeps its scrambler through one LSYNC that is missing, and goes back to HUNT at the second or where 16 of 64 headers are
invalid, with NL_LOCK_LOST; a lane whose receiver is ignored changes nothing, whatever comes. A lost lane of the link loses the
companion, or the host. -/
def Obligations.LanesReceive : Prop :=
  (∀ (dt : Nat) (l : Fin 4) (rx : RxTraffic) (c : Instr) (s u : State), u = s.elapse dt → u.live = true → u.receives l.val = false →
    c ∈ [Instr.nlLocked dt l rx, .lsync dt l rx, .missingLsync dt l rx, .nlLockLost dt l rx, .trn dt l rx, .chunk dt l rx, .header dt l rx,
      .coeff dt l rx, .rowS dt l rx, .rowL dt l rx, .cmdRun dt l rx, .cmdRetry dt l rx, .cmdPulse dt l rx, .cmdBlade dt l rx, .cmdStop dt l rx] →
    exec c s = .next u) ∧
  (∀ (dt : Nat) (l : Fin 4) (sig : Bool) (x : Lane) (s u : State), u = s.elapse dt → u.live = true → u.nl.lanes.length = 4 →
    u.receives l.val = true → x = u.lane l.val →
    (∀ (last : Bool) (run : Nat) (line : List Bool) (bs : List RxBlock), x.state = 0 → x.hdrErr < 0xffffffff → bs.length = 64 →
      (∀ b ∈ bs, b.h0 ≠ b.h1) → destuff false last run line = (bs.flatMap blockBits).map (fun b => (b, false)) →
      exec (.nlLocked dt l ⟨[.bits last run line], sig⟩) s =
        .next (u.modLane l.val (fun _ => { x with state := 1, win := List.replicate 64 true }))) ∧
    (∀ (b : RxBlock) (a : Nat) (seed : BitVec 31) (y : Lane), b = ctrlBlock (lsyncWord a seed) → a < 4 → seed ≠ 0#31 →
      x.state = 1 ∨ (x.state = 2 ∧ x.pos = 16384) → ((x.win.take 63).filter (fun ok => !ok)).length < 16 →
      y = { x with win := true :: x.win.take 63, asm_ := x.asm_.map (fun p => { p with age := p.age + 1 }),
                   state := 2, partner := a, seed := seed, scrambler := seed, missRun := 0, pos := 1 } →
      (u.nl.comp.state ≠ 1 → exec (.lsync dt l ⟨[.block b], sig⟩) s = .next (u.modLane l.val (fun _ => y))) ∧
      (u.nl.comp.state = 1 → u.nl.comp.retryAt = none → a = (l.val + 2) % 4 →
        exec (.lsync dt l ⟨[.block b], sig⟩) s = .next ((u.modLane l.val (fun _ => y)).modComp (fun c =>
          { c with state := 2, since := u.now, lanes := 0, heard := 0, acks := 0, ready := false, attempts := satInc c.attempts 1 255 })))) ∧
    (∀ (b : RxBlock) (y : Lane), lsyncOf b = none → x.state = 2 → x.pos = 16384 → y = x.noteHeader (blockValid b) → y.drowned = false →
      (x.missRun = 0 → exec (.missingLsync dt l ⟨[.block b], sig⟩) s = .next
        (u.modLane l.val (fun _ => { y with missing := satInc x.missing 1 65535, scrambler := x.seed, missRun := 1, pos := 1 }))) ∧
      (x.missRun = 1 → x.asm_ = none → u.linkLane l.val = false → ∃ t, exec (.missingLsync dt l ⟨[.block b], sig⟩) s = .next t ∧
        (t.lane l.val).state = 0 ∧ (t.lane l.val).missing = satInc x.missing 1 65535 ∧ (t.lane l.val).losses = satInc x.losses 1 65535 ∧
        (∀ j, j ≠ l.val → t.lane j = u.lane j) ∧ t.nl.comp.state = u.nl.comp.state ∧ t.nl.comp.lanes / 2 ^ (l.val % 2) % 2 = 0 ∧
        t.sup = u.sup ∧ t.pa = u.pa ∧ t.pb = u.pb ∧ t.act = u.act ∧ t.nv = u.nv)) ∧
    (∀ (b : RxBlock), x.state ≠ 0 → blockValid b = false → 15 ≤ ((x.win.take 63).filter (fun ok => !ok)).length → x.asm_ = none →
      (u.linkLane l.val = false → ∃ t, exec (.nlLockLost dt l ⟨[.block b], sig⟩) s = .next t ∧ (t.lane l.val).state = 0 ∧
        (t.lane l.val).hdrErr = satInc x.hdrErr 1 0xffffffff ∧ (t.lane l.val).losses = satInc x.losses 1 65535 ∧
        (∀ j, j ≠ l.val → t.lane j = u.lane j) ∧ t.nl.comp.state = u.nl.comp.state ∧ t.sup = u.sup ∧ t.pa = u.pa ∧ t.pb = u.pb ∧ t.act = u.act ∧
        t.nv = u.nv) ∧
      (u.linkLane l.val = true → ∃ t, exec (.nlLockLost dt l ⟨[.block b], sig⟩) s = .next t ∧ (t.lane l.val).state = 0 ∧
        (t.lane l.val).losses = satInc x.losses 1 65535 ∧ t.nl.comp.state = 1 ∧
        t.nl.comp.loss = (if l.val < 2 then u.nl.comp.loss else 1) ∧ (2 ≤ l.val → t.pb.reading = false) ∧ t.pa = u.pa ∧ t.nv = u.nv)))

/-- 13 R296 to R298, 01 R34, R35: in TRAIN a block of the other role on a paired lane notes its lane and the ACK on it; the host sets READY,
and with it the link lanes, once the ACK of every paired lane stands both ways (the model's choice, notes/assumptions/109), the
companion takes it and begins to send its bundle, the host goes on with the echo. The wrong role and the time limits of TRAIN and BUNDLE
fail the attempt with their stage, and DETECT begins again 100 ms later; a lost chunk is asked for again at most three times; a
bundle that is complete and verifies brings the link to RUN for pipeline B alone, another one posts COMPANION_BUNDLE; a companion
that trains again is lost. The premises name what the lane's receiver makes of the blocks that come (LineCarries, LanesReceive). -/
def Obligations.CompanionTrains : Prop :=
  (∀ (dt : Nat) (l : Fin 4) (i : RxItem) (y : Lane) (sig : Bool) (b : TrnBlock) (s u v : State), u = s.elapse dt → u.live = true →
    u.nl.lanes.length = 4 → u.receives l.val = true → (u.lane l.val).takeItem i = (y, [.trn b]) → v = u.modLane l.val (fun _ => y) →
    y.state = 2 → u.nl.comp.retryAt = none →
    (u.nl.comp.state = 2 → b.role.toNat = u.ownRole → exec (.trn dt l ⟨[i], sig⟩) s = .next (v.trainFail 2)) ∧
    (u.nl.comp.state = 2 → u.mode ≠ .relay → b.role.toNat = 2 → b.lane.toNat = (l.val + 2) % 4 → y.partner = (l.val + 2) % 4 →
      u.nl.comp.ready = false → ∃ t, exec (.trn dt l ⟨[i], sig⟩) s = .next t ∧ { t with nl := v.nl } = v ∧ t.nl.lanes = v.nl.lanes ∧
        (∀ j, j < 2 → t.nl.comp.heard / 2 ^ j % 2 = (if j = l.val % 2 then 1 else u.nl.comp.heard / 2 ^ j % 2) ∧
          t.nl.comp.acks / 2 ^ j % 2 = (if j = l.val % 2 then (if b.ack = true then 1 else 0) else u.nl.comp.acks / 2 ^ j % 2)) ∧
        t.nl.comp.state = 2 ∧
        (b.ack = true ∧ (∀ j, j < 2 → j ≠ l.val % 2 → v.pairedLanes / 2 ^ j % 2 = 1 →
            u.nl.comp.heard / 2 ^ j % 2 = 1 ∧ u.nl.comp.acks / 2 ^ j % 2 = 1) → t.nl.comp.ready = true ∧ t.nl.comp.lanes = v.pairedLanes) ∧
        (b.ack = false ∨ (∃ j, j < 2 ∧ j ≠ l.val % 2 ∧ v.pairedLanes / 2 ^ j % 2 = 1 ∧
            (u.nl.comp.heard / 2 ^ j % 2 = 0 ∨ u.nl.comp.acks / 2 ^ j % 2 = 0)) → t.nl.comp.ready = false ∧ t.nl.comp.lanes = u.nl.comp.lanes)) ∧
    (u.nl.comp.state = 2 → u.mode ≠ .relay → b.role.toNat = 2 → b.lane.toNat = (l.val + 2) % 4 → y.partner = (l.val + 2) % 4 →
      u.nl.comp.ready = true → b.ready = true → u.nl.comp.lanes / 2 ^ (l.val % 2) % 2 = 1 →
      ∃ t, exec (.trn dt l ⟨[i], sig⟩) s = .next t ∧ { t with nl := v.nl } = v ∧ t.nl.comp.state = 3 ∧ t.nl.comp.since = u.now ∧
        t.nl.comp.lanes = u.nl.comp.lanes ∧ t.nl.comp.chunks = [] ∧ t.nl.comp.got = [] ∧ t.nl.comp.retries = [] ∧ t.nl.sent = u.nl.sent) ∧
    (u.nl.comp.state = 2 → u.mode = .relay → b.role.toNat = 1 → b.lane.toNat = (l.val + 2) % 4 → y.partner = (l.val + 2) % 4 →
      b.ack = true → b.ready = true → v.pairedLanes = 2 ^ (l.val % 2) →
      ∃ t, exec (.trn dt l ⟨[i], sig⟩) s = .next t ∧ { t with nl := v.nl } = v ∧ t.nl.comp.state = 3 ∧ t.nl.comp.since = u.now ∧
        t.nl.comp.lanes = 2 ^ (l.val % 2) ∧ t.nl.comp.ready = true ∧ (u.bundleOf u.pa.snap = none → t.nl.sent = u.nl.sent)) ∧
    (u.nl.comp.state = 4 → u.mode ≠ .relay → exec (.trn dt l ⟨[i], sig⟩) s = .next (v.loseCompanion 4)) ∧
    (u.nl.comp.state ≠ 2 → u.nl.comp.state ≠ 4 → exec (.trn dt l ⟨[i], sig⟩) s = .next v)) ∧
  (∀ (dt : Nat) (s u : State), u = s.elapse dt → u.live = true →
    (u.nl.comp.retryAt = none → u.nl.comp.state = 2 → u.nl.comp.since + 1250000 ≤ u.now → exec (.trainTimeout dt) s = .next
      (({ u with nl := { u.nl with comp := { u.nl.comp with fail := 1, retryAt := some (u.now + 12500000) } } } : State).post0 0x00b4 [1#32])) ∧
    (u.nl.comp.retryAt = none → u.nl.comp.state = 3 → u.nl.comp.since + 250000000 ≤ u.now → exec (.bundleTimeout dt) s = .next
      (({ u with nl := { u.nl with comp := { u.nl.comp with fail := 3, retryAt := some (u.now + 12500000) } } } : State).post0 0x00b4 [3#32])) ∧
    (u.nl.comp.state ≠ 2 ∨ u.now < u.nl.comp.since + 1250000 → exec (.trainTimeout dt) s = .next u) ∧
    (u.nl.comp.state ≠ 3 ∨ u.now < u.nl.comp.since + 250000000 → exec (.bundleTimeout dt) s = .next u) ∧
    (∀ r, u.nl.comp.retryAt = some r → r ≤ u.now → exec (.detectRetry dt) s = .next { u with nl := { u.nl with comp := { u.nl.comp with
      state := 1, lanes := 0, retryAt := none, rowS := none, rowL := none, running := false, pulseAtMarker := false, leftClosed := false,
      heard := 0, acks := 0, ready := false, lastS := false, lastL := false } } }) ∧
    (∀ r, u.nl.comp.retryAt = some r → u.now < r → exec (.detectRetry dt) s = .next u)) ∧
  (∀ (dt : Nat) (l : Fin 4) (i : RxItem) (y : Lane) (sig : Bool) (p : RxPacket) (m : SMap Byte) (s u v : State), u = s.elapse dt →
    u.live = true → u.nl.lanes.length = 4 → u.receives l.val = true → 2 ≤ l.val → u.linkLane l.val = true → v = u.modLane l.val (fun _ => y) →
    p.kind = 2 → p.blocks ≤ 512 → u.nl.comp.state = 3 → u.nl.comp.retryAt = none → m = u.nl.comp.chunks.write (4096 * p.tag) (p.bytes.take 4096) →
    ((u.lane l.val).takeItem i = (y, [.discarded p]) →
      (3 ≤ SMap.get 0 u.nl.comp.retries p.tag → exec (.chunk dt l ⟨[i], sig⟩) s = .next (v.trainFail 4)) ∧
      (SMap.get 0 u.nl.comp.retries p.tag < 3 → (∀ j, (v.lane j).prbs = 0) → ∃ t q, exec (.chunk dt l ⟨[i], sig⟩) s = .next t ∧
        t.nl.sent = q :: u.nl.sent ∧ q.kind = 7 ∧ q.payload = [2#8, 0#8] ++ le 2 p.tag ++ [0#8, 0#8, 0#8, 0#8] ∧
        t.nl.comp = { u.nl.comp with retries := SMap.put 0 u.nl.comp.retries p.tag (SMap.get 0 u.nl.comp.retries p.tag + 1) } ∧
        { t with nl := u.nl } = u)) ∧
    (∀ g, (u.lane l.val).takeItem i = (y, [.packet p]) → g = (if p.tag ∈ u.nl.comp.got then u.nl.comp.got else p.tag :: u.nl.comp.got) →
      (0 ∉ g ∨ (∃ k, k < (headerTotal m + 4095) / 4096 ∧ k ∉ g) → exec (.chunk dt l ⟨[i], sig⟩) s = .next (v.modComp (fun c =>
        { c with chunks := m, got := g }))) ∧
      (0 ∈ g → (∀ k, k < (headerTotal m + 4095) / 4096 → k ∈ g) →
        (sig = false → exec (.chunk dt l ⟨[i], sig⟩) s = .next ((v.modComp (fun c => { c with chunks := m, got := g })).post0 0x0050 [])) ∧
        (∀ e, sig = true → parseBundle m (headerTotal m) = .error e → exec (.chunk dt l ⟨[i], sig⟩) s =
          .next (((v.modComp (fun c => { c with chunks := m, got := g })).post0 0x0015 [word e]).post0 0x0050 [])) ∧
        (∀ b, sig = true → parseBundle m (headerTotal m) = .ok b → ∃ t, exec (.chunk dt l ⟨[i], sig⟩) s = .next t ∧ t.nl.comp.state = 4 ∧
          t.nl.comp.lastHeader = u.now ∧ t.nl.comp.chunks = [] ∧ (t.pb.pend.bundle, b) ∈ t.sup.bundles ∧ t.nv = u.nv ∧
          (t.mode = u.mode → t.pb.armed = true ∧ t.pa.pend = u.pa.pend)))))

/-- 07 R173, 13 R299, R300, R302, 01 R33, R35: HEADER of a mode other than RELAY, or none for 150 ms, loses the companion; another HEADER begins
a frame of pipeline B whose marker is the receipt of its SOP; COEFF and the two halves of a row are kept for the frame that is
received, a row whose other half was lost makes way for the later one, and with both packets of row 1547 the frame is received; a
discarded packet leaves it incomplete. Without a link none of them does anything. The premises name what the lane's receiver
makes of the blocks that come (LineCarries, LanesReceive). -/
def Obligations.CompanionStreams : Prop :=
  (∀ (dt : Nat) (l : Fin 4) (i : RxItem) (y : Lane) (sig : Bool) (p : RxPacket) (e : RxEvent) (c : Instr) (s u : State), u = s.elapse dt →
    u.live = true → u.receives l.val = true → 2 ≤ l.val → u.linked = false → (u.lane l.val).takeItem i = (y, [e]) →
    e ∈ [.packet p, .discarded p] → 3 ≤ p.kind →
    c ∈ [Instr.header dt l ⟨[i], sig⟩, .coeff dt l ⟨[i], sig⟩, .rowS dt l ⟨[i], sig⟩, .rowL dt l ⟨[i], sig⟩] →
    exec c s = .next (u.modLane l.val (fun _ => y))) ∧
  (∀ (dt : Nat) (s u : State), u = s.elapse dt → u.live = true →
    (u.linked = false ∨ u.now < u.nl.comp.lastHeader + 18750000 → exec (.headerTimeout dt) s = .next u) ∧
    (u.linked = true → u.nl.comp.lastHeader + 18750000 ≤ u.now → ∃ t, exec (.headerTimeout dt) s = .next t ∧ t.nl.comp.state = 1 ∧
      t.nl.comp.loss = 2 ∧ t.pb.reading = false ∧ t.nv = u.nv ∧ t.act = u.act ∧ t.plt = u.plt)) ∧
  (∀ (dt : Nat) (l : Fin 4) (i : RxItem) (y : Lane) (sig : Bool) (p : RxPacket) (h : CompHeader) (s u v : State), u = s.elapse dt →
    u.live = true → u.receives l.val = true → 2 ≤ l.val → u.linked = true → u.linkLane l.val = true →
    (u.lane l.val).takeItem i = (y, [.packet p]) → v = u.modLane l.val (fun _ => y) → p.kind = 3 → p.blocks = 8 → h = parseHeader p.bytes →
    (h.mode ≠ 4 → ∃ t, exec (.header dt l ⟨[i], sig⟩) s = .next t ∧ t.nl.comp.state = 1 ∧ t.nl.comp.loss = 3 ∧ t.pb.reading = false ∧
      t.nv = u.nv ∧ t.act = u.act ∧ t.plt = u.plt) ∧
    (h.mode = 4 → isRunning u.mode = true → isRunning u.pb.snap.mode = true → u.pb.snap.mode ≠ .relay → u.mode ≠ .relay → u.pb.cur = none →
      u.pb.event = none → u.pb.frameNo < 2 ^ 32 → (∀ f ∈ u.pb.frames, f.n ≠ u.pb.frameNo) →
      ∃ t, exec (.header dt l ⟨[i], sig⟩) s = .next t ∧ t.nl.comp.state = 4 ∧ t.nl.comp.lastHeader = u.now ∧
        t.nl.comp.frame = h.frame.toNat ∧ t.nl.comp.pos0 = h.pos0 ∧ t.pb.reading = true ∧ t.pb.frameNo = (u.pb.frameNo + 1) % 2 ^ 32 ∧
        t.pb.snap.exposure = h.exposure ∧ (∃ f, t.pb.cur = some f ∧ f.n = u.pb.frameNo ∧ f.marker = u.now - 33 * p.age / 32 ∧
          f.ptemp = some h.ptemp ∧ f.incomplete = false ∧ f.rateDrop = decide (fld h.exposure 1 0 < u.pb.snap.rate)) ∧
        t.pa = u.pa ∧ t.nv = u.nv)) ∧
  (∀ (dt row : Nat) (l : Fin 4) (i : RxItem) (y : Lane) (sig : Bool) (p : RxPacket) (f : Frame) (a : Array (BitVec 16)) (s u v : State),
    u = s.elapse dt → u.live = true → u.receives l.val = true → 2 ≤ l.val → u.linked = true → u.linkLane l.val = true →
    v = u.modLane l.val (fun _ => y) → u.pb.cur = some f → p.tag = u.nl.comp.tag → row = p.line → a = parseRow p.bytes →
    ((u.lane l.val).takeItem i = (y, [.packet p]) →
      (p.kind = 4 → p.blocks = 1040 → exec (.coeff dt l ⟨[i], sig⟩) s =
        .next (v.modPl .B (fun x => x.modFrame f.n (fun g => { g with coeff := some (parseCoeff p.bytes) })))) ∧
      (p.kind = 5 → p.blocks = 520 → row ≠ 1547 →
        (u.nl.comp.rowL = none → exec (.rowS dt l ⟨[i], sig⟩) s = .next (v.modComp (fun c => { c with rowS := some (row, a) }))) ∧
        (∀ b, f.coeff.isSome = true → u.nl.comp.rowL = some (row, b) → exec (.rowS dt l ⟨[i], sig⟩) s = .next
          ((v.modComp (fun c => { c with rowS := none, rowL := none })).modPl .B (fun x => { x with link := some (row, a, b) }))) ∧
        (∀ j b, f.lpTime = none → u.nl.comp.rowL = some (j, b) → j < row → exec (.rowS dt l ⟨[i], sig⟩) s = .next
          ((v.modPl .B (fun x => x.modFrame f.n (fun g => { g with incomplete := true }))).modComp (fun c =>
            { c with rowS := some (row, a), rowL := none })))) ∧
      (p.kind = 6 → p.blocks = 520 →
        (row ≠ 1547 → u.nl.comp.rowS = none → exec (.rowL dt l ⟨[i], sig⟩) s = .next (v.modComp (fun c => { c with rowL := some (row, a) }))) ∧
        (∀ b, row ≠ 1547 → f.coeff.isSome = true → u.nl.comp.rowS = some (row, b) → exec (.rowL dt l ⟨[i], sig⟩) s = .next
          ((v.modComp (fun c => { c with rowS := none, rowL := none })).modPl .B (fun x => { x with link := some (row, b, a) }))) ∧
        (∀ b, row = 1547 → f.coeff.isSome = true → f.received = none → u.nl.comp.rowS = some (row, b) → u.nl.comp.lastS = true →
          ∃ t, exec (.rowL dt l ⟨[i], sig⟩) s = .next t ∧ t.pb.link = some (row, b, a) ∧
            t.pb.cur = some { f with received := some u.now } ∧ t.nl.comp.lastL = true ∧ t.pa = u.pa ∧ t.nv = u.nv))) ∧
    ((u.lane l.val).takeItem i = (y, [.discarded p]) → f.lpTime = none → row ≠ 1547 →
      (p.kind = 4 → exec (.coeff dt l ⟨[i], sig⟩) s = .next (v.modPl .B (fun x => x.modFrame f.n (fun g => { g with incomplete := true })))) ∧
      (p.kind = 5 → exec (.rowS dt l ⟨[i], sig⟩) s = .next (v.modPl .B (fun x => x.modFrame f.n (fun g => { g with incomplete := true })))) ∧
      (p.kind = 6 → exec (.rowL dt l ⟨[i], sig⟩) s = .next (v.modPl .B (fun x => x.modFrame f.n (fun g => { g with incomplete := true }))))))

/-- 13 R301, R302: the back channel of a module in RELAY: RUN starts the relay stream, RETRY sends one chunk again, PULSE drives the
open pulse at once or the close pulse at the next marker, BLADE asks the converters for a blade result, STOP ends the link; another
OP changes nothing. In another mode lanes 0 and 1 are ignored (LanesReceive), and a host follows no CMD. The premises name what the
lane's receiver makes of the blocks that come (LineCarries). -/
def Obligations.BackChannel : Prop :=
  ∀ (dt : Nat) (l : Fin 4) (i : RxItem) (y : Lane) (sig : Bool) (p : RxPacket) (c : Instr) (op arg : Nat) (s u v : State), u = s.elapse dt →
    u.live = true → u.receives l.val = true → (u.lane l.val).takeItem i = (y, [.packet p]) → v = u.modLane l.val (fun _ => y) →
    p.kind = 7 → p.blocks = 1 → op = fieldAt p.bytes 0 1 → arg = fieldAt p.bytes 1 1 →
    c ∈ [Instr.cmdRun dt l ⟨[i], sig⟩, .cmdRetry dt l ⟨[i], sig⟩, .cmdPulse dt l ⟨[i], sig⟩, .cmdBlade dt l ⟨[i], sig⟩, .cmdStop dt l ⟨[i], sig⟩] →
    (2 ≤ l.val → u.linkLane l.val = true → exec c s = .next v) ∧
    (l.val < 2 → u.linkLane l.val = true →
      (op = 1 → u.nl.comp.state = 3 → exec c s = .next (v.modComp (fun x => { x with state := 4 }))) ∧
      (∀ b k n, op = 2 → u.nl.comp.state = 3 → k = fieldAt p.bytes 2 2 → u.bundleOf u.pa.snap = some b →
        n = min 4096 ((b.total - 4096 * k + 7) / 8 * 8) → (∀ j, (v.lane j).prbs = 0) →
        ∃ t q, exec c s = .next t ∧ t.nl.sent = q :: u.nl.sent ∧ q.kind = 2 ∧ q.tag = k ∧ q.payload.length = n ∧
          (∀ j, j < n → 4096 * k + j < b.total → q.payload[j]? = some (b.byteAt (4096 * k + j))) ∧ { t with nl := u.nl } = u) ∧
      (op = 3 → arg = 1 → exec c s = .next (v.modComp (fun x => { x with pulseAtMarker := true }))) ∧
      (op = 3 → arg = 0 → exec c s = .next
        ((v.modComp (fun x => { x with leftClosed := false })).modCh 0 (fun x => { x with due := some ⟨.open_, u.shutterSteps, u.now⟩ }))) ∧
      (op = 3 → 2 ≤ arg → exec c s = .next v) ∧
      (op = 4 → u.bladeEntry (u.ancOf u.pa.snap).bladeCh0 = none → exec c s = .next (v.bladeResult none)) ∧
      (∀ (e m : Nat) (g : Word) (x : Modulator), op = 4 → u.bladeEntry (u.ancOf u.pa.snap).bladeCh0 = some e → u.urgBad e = false →
        g = (u.entry e).cfg → m = cfgMod g → u.pcv.mods.length = 2 → x = u.modu m → x.now = none → x.queue = [] → x.urg = none →
        u.excClash m g = false →
        ∃ t, exec c s = .next t ∧ (t.modu m).urg = some ⟨e, true, 0⟩ ∧
          (∃ k, (t.modu m).now = some k ∧ k.entry = e ∧ k.start = u.now ∧ k.urgent = true) ∧ { t with pcv := v.pcv } = v) ∧
      (op = 5 → exec c s = .next (v.modComp (fun x => { x with
        state := 1, lanes := 0, retryAt := none, rowS := none, rowL := none, running := false, pulseAtMarker := false, leftClosed := false,
        heard := 0, acks := 0, ready := false, lastS := false, lastL := false }))) ∧
      (op = 0 ∨ 5 < op → exec c s = .next v)) ∧
    (l.val < 2 → u.linkLane l.val = false → u.nl.comp.lanes ≠ 0 → exec c s = .next v) ∧
    (l.val < 2 → u.linkLane l.val = false → u.nl.comp.lanes = 0 → op = 5 → u.nl.comp.state = 2 → exec c s = .next (v.modComp (fun x => { x with
      state := 1, lanes := 0, retryAt := none, rowS := none, rowL := none, running := false, pulseAtMarker := false, leftClosed := false,
      heard := 0, acks := 0, ready := false, lastS := false, lastL := false })))

/-- 13 R283 to R286, R289 to R291, R296: what a transmitter puts on the line a receiver reads. The scrambler undoes itself; the stuff
bits come out again and none is left; a lane begins each 16384 blocks with LSYNC and its SEED 0x4b3c2d1e + L, and a lane that is off
carries nothing; the blocks of a packet, scrambled, give a synchronised receiver that packet whole, and with the CRC inverted a
packet that it discards with a CRC error; a TRN block gives its fields. -/
def Obligations.LineCarries : Prop :=
  (∀ (k : BitVec 31) (d : BitVec 64), scramble k (scramble k d).1 = (d, (scramble k d).2)) ∧
  (∀ (last : Bool) (run : Nat) (bs : List Bool), run ≤ 24 → destuff false last run (stuff last run bs) = bs.map (fun b => (b, false))) ∧
  (∀ (s : State) (l c : Nat) (p : Option (NlPacket × Nat)) (x : Lane), s.live = true → x = s.lane l → x.prbs = 0 → x.spoils = [] →
    (x.on = false → s.lineBlock l c p = none) ∧
    (x.on = true → ∃ b, s.lineBlock l c p = some b ∧ (c % 16384 = 0 → b = ctrlBlock (lsyncWord l (BitVec.ofNat 31 (0x4b3c2d1e + l)))) ∧
      (∀ q k w, p = some (q, k) → q.blocks[k]? = some w → c % 16384 ≠ 0 → b = { w with payload := (scramble (txScrambler l c) w.payload).1 }))) ∧
  (∀ (p : NlPacket) (x : Lane), p.abort = none → p.kind < 16 → p.stream < 16 → p.line < 2048 → p.tag < 65536 → p.payload.length % 8 = 0 →
    p.payload.length < 32768 → x.state = 2 → x.asm_ = none → x.pos + p.size ≤ 16384 → (x.win.filter (fun ok => !ok)).length < 16 →
    ∃ y q, x.takeBlocks (scrambleBlocks x.scrambler p.blocks) = (y, [if p.badCrc = true then .discarded q else .packet q]) ∧
      q.kind = p.kind ∧ q.stream = p.stream ∧ q.line = p.line ∧ q.tag = p.tag ∧ q.blocks = p.payload.length / 8 ∧ q.bytes = p.payload ∧
      y.asm_ = none ∧ y.state = 2 ∧ y.pos = x.pos + p.size ∧ y.hdrErr = x.hdrErr ∧ y.ctrlErr = x.ctrlErr ∧
      y.crcErr = if p.badCrc = true then satInc x.crcErr 1 0xffffffff else x.crcErr) ∧
  (∀ (t : TrnBlock) (x : Lane), x.state = 2 → x.asm_ = none → x.pos < 16384 → (x.win.filter (fun ok => !ok)).length < 16 →
    ∃ y, x.takeItem (.block (ctrlBlock (scramble x.scrambler (trnWord t)).1)) = (y, [.trn t]) ∧ y.state = 2 ∧ y.partner = x.partner)

/-! ## Reset, boot and stops (17) -/

/-- 17 R371 to R373, 10 R241, 01 R37: a module reset gives every block its reset values, names its cause and reads the refresh-rate
status of the channels; the ledger and the boot store, the level of WAKE_IN and what the host already holds in its memory stay, the
bytes of BAR 2 do not. RST_N resets only while PWR_GOOD is high and after a low level of at least 1 us, and neither SPI nor the host
resets a module that is held in reset; a reset of theirs holds the module for 1 ms, in which no time of its own passes and no step of
BOOT runs. The supplies' fall, and a low level of RST_N that counts, lead to OFF from every mode; a ledger write may be cut by it. -/
def Obligations.ModuleResets : Prop :=
  ∀ (dt k low : Nat) (cause : ResetCause) (clk c b : Bool) (refresh : List (Fin 3)) (cut : Option LedgerCut) (o : BootObs) (s u w : State),
    u = s.elapse dt →
    w = { State.reset with
      pending := u.pending, nv := u.nv, sup := { Sup.reset with cause := k, clksel := c, resetLeft := if k ≤ 2 then 0 else 125000 },
      thm := { Thm.reset with wakePin := u.thm.wakePin },
      hif := { Hif.reset with completions := u.hif.completions, events := u.hif.events, deliveries := u.hif.deliveries,
                              hostWrites := u.hif.hostWrites, messages := u.hif.messages, bar2Seed := u.hif.bar2Seed + 1 } } →
    (cause = .power ∧ k = 1 ∧ c = clk ∨ cause = .pin low ∧ 125 ≤ low ∧ u.sup.pwrGood = true ∧ k = 2 ∧ c = clk ∨
        cause = .spi ∧ u.live = true ∧ k = 3 ∧ c = u.sup.clksel ∨ cause = .host ∧ u.live = true ∧ k = 4 ∧ c = u.sup.clksel →
      exec (.moduleReset dt cause clk refresh) s = .next (w.resetRates refresh) ∧ ((∀ x ∈ refresh, x = 0) → w.resetRates refresh = w) ∧
      (∀ i x, i < 4 → refresh[i]? = some x → ((w.resetRates refresh).dram i).rate = x.val)) ∧
    (cause = .pin low ∧ (u.sup.pwrGood = false ∨ low < 125) ∨ (cause = .spi ∨ cause = .host) ∧ u.live = false →
      exec (.moduleReset dt cause clk refresh) s = .next u) ∧
    (0 < u.sup.resetLeft → exec (.bootStep dt o) s = .next u ∧ u.now = s.now) ∧
    (b = true → low < 125 → exec (.pwrGoodFall dt b low cut) s = .next u) ∧
    (b = false ∨ 125 ≤ low → ∃ t, exec (.pwrGoodFall dt b low cut) s = .next t ∧ t.mode = .off ∧ t.sup.pwrGood = b ∧ t.now = u.now ∧
      (cut = none ∨ u.live = false → t.nv = u.nv) ∧ (∀ x, cut = some x → u.live = true → t.nv = u.cutWrite x) ∧
      t.pending = u.pending ∧ t.thm = { Thm.reset with wakePin := u.thm.wakePin } ∧ t.hif.rings = Hif.reset.rings ∧ t.plt = Plt.reset ∧
      t.pa = Pl.reset ∧ t.pb = Pl.reset ∧ t.pcv = Pcv.reset ∧ t.act = Act.reset ∧ t.nl = Nl.reset ∧ t.drm = Drm.reset ∧ t.eng = Eng.reset ∧
      t.saf = Saf.reset)

/-- 17 R374 to R376, R382, 10 R246, R247, 11 R257: the steps of BOOT that this statement names: a check that fails leads to SAFE with
its fault and FAIL, step 4 waits until frame memory is ready, step 6 starts the converters and drives SAFE_N high where its tests
pass, step 12 reaches STANDBY once no opening of the shutter is under way; outside BOOT and SAFE no step runs. Training begins
initialisation, which a further report or step 4 ends with frame memory ready, every block zero; or it decides fault 11. -/
def Obligations.BootSteps : Prop :=
  (∀ (dt : Nat) (o : BootObs) (s u : State), u = s.elapse dt → u.live = true →
    (u.mode ≠ .boot → u.mode ≠ .safe → exec (.bootStep dt o) s = .next u) ∧
    (u.mode = .safe → 3 ≤ u.sup.step → exec (.bootStep dt o) s = .next u) ∧
    (u.mode = .boot → u.sup.step = 0 → o.ok = true → exec (.bootStep dt o) s = .next
      { u with sup := { u.sup with step := 1, xtalOk := true, pllLock := true }, drm := { u.drm with init := 1 } }) ∧
    (∀ n id, (n, id) ∈ [(1, 3), (6, 20), (10, 20)] → u.mode = .boot → u.sup.step + 1 = n → o.ok = false → u.saf.decided = [] →
      ∃ t, exec (.bootStep dt o) s = .next t ∧ t.mode = .safe ∧ t.sup.failStep = n ∧ t.sup.step = u.sup.step ∧ t.saf.decided = [id] ∧
        t.saf.safeN = false ∧ t.pcv.running = (u.pcv.running || decide (n = 6)) ∧ t.nv = u.nv) ∧
    (u.mode = .boot → u.sup.step = 1 → exec (.bootStep dt o) s = .next { u with
      hif := { u.hif with speed := o.speed.val, width := o.width, link := (o.speed.val, o.width), linkDown := decide (o.speed.val = 0) },
      sup := { u.sup with step := 2 } }) ∧
    (u.mode = .boot → u.sup.step = 3 →
      (u.drm.init = 3 → exec (.bootStep dt o) s = .next { u with sup := { u.sup with step := 4 } }) ∧
      (u.drm.init = 2 → exec (.bootStep dt o) s = .next { u with
        sup := { u.sup with step := 4 },
        drm := { u.drm with init := 3, blocks := [], queue := [], readyAt := some u.now, windows := 0 } }) ∧
      (u.drm.init < 2 ∨ 3 < u.drm.init → exec (.bootStep dt o) s = .next u)) ∧
    (u.mode = .boot → u.sup.step = 5 → o.ok = true → exec (.bootStep dt o) s = .next
      { u with sup := { u.sup with step := 6 }, pcv := { u.pcv with running := true },
               saf := { u.saf with safeN := true, ran := [0, u.now, u.now, 0, u.now] } }) ∧
    (u.mode = .boot → u.sup.step = 11 → u.act.opening = none →
      ∃ t, exec (.bootStep dt o) s = .next t ∧ t.mode = .standby ∧ t.sup.step = 12 ∧ t.sup.bootMs = u.now / 125000 ∧
        t.thm.activity = u.now ∧ t.nv = u.nv ∧ t.saf = u.saf ∧ t.act = u.act) ∧
    (u.mode = .boot → u.sup.step = 11 → u.act.opening ≠ none → exec (.bootStep dt o) s = .next u)) ∧
  (∀ (dt : Nat) (failed : BitVec 4) (s u : State), u = s.elapse dt → u.live = true → u.drm.chans.length = 4 →
    (failed = 0#4 → u.drm.init = 1 → ∃ t, exec (.dramTraining dt failed) s = .next t ∧ t.drm.init = 2 ∧
      (∀ d ∈ t.drm.chans, d.trained = true ∧ d.refAt = u.now) ∧ { t with drm := u.drm } = u) ∧
    (u.drm.init = 2 → exec (.dramTraining dt failed) s = .next
      { u with drm := { u.drm with init := 3, blocks := [], queue := [], readyAt := some u.now, windows := 0 } }) ∧
    (u.drm.init = 0 ∨ 3 ≤ u.drm.init → exec (.dramTraining dt failed) s = .next u) ∧
    (failed ≠ 0#4 → u.drm.init = 1 → u.mode ≠ .safe → u.saf.decided = [] →
      ∃ t, exec (.dramTraining dt failed) s = .next t ∧ t.mode = .safe ∧ t.saf.decided = [11] ∧ t.sup.failStep = 4 ∧ t.drm.init = 1 ∧
        (∀ i, i < 4 → (t.dram i).trained = !failed.getLsbD i) ∧ t.nv = u.nv)) ∧
  (∀ (dt : Nat) (s u : State), u = s.elapse dt → u.live = true → exec (.settleHoldEnd dt) s = .next
    (if 0 < u.sup.holdUntil ∧ u.sup.holdUntil ≤ u.now then { u with sup := { u.sup with settled := true } } else u))

/-- 17 R383, R385, 16 R364: a stop reaches STANDBY once nothing is read or in flight and, but for a thermal stop, the table has been
written; on the way to OFF the bias goes off, a CLOSED shutter is opened, and OFF follows when nothing is written any more. -/
def Obligations.StopsComplete : Prop :=
  (∀ (dt : Nat) (s u : State), u = s.elapse dt → u.live = true → u.sup.target = .standby →
    (u.sup.trans = true → u.pa.reading = false → u.pb.reading = false → u.pa.frames = [] → u.pb.frames = [] → u.plt.firstMarker = none →
      (u.sup.gleanDirty = false → u.sup.soWrite = none ∨ u.sup.stopSo = false →
        ∃ t, exec (.standbyReached dt) s = .next t ∧ t.mode = .standby ∧ t.sup.trans = false ∧ t.thm.activity = u.now ∧ t.nv = u.nv ∧
          t.pa = u.pa ∧ t.pb = u.pb ∧ t.saf = u.saf ∧ t.act = u.act ∧ t.plt = u.plt) ∧
      (u.sup.stopSo = true → u.sup.soWrite ≠ none → exec (.standbyReached dt) s = .next u) ∧
      (u.sup.stopSo = true → u.sup.soWrite = none → u.sup.gleanDirty = true →
        ∃ t, exec (.standbyReached dt) s = .next t ∧ t.mode = u.mode ∧ t.sup.trans = true ∧ t.sup.soWrite.isSome = true ∧
          t.sup.gleanDirty = false ∧ t.pa = u.pa ∧ t.hif = u.hif)) ∧
    (u.sup.trans = false ∨ u.pa.reading = true ∨ u.pb.reading = true ∨ u.pa.frames ≠ [] ∨ u.pb.frames ≠ [] ∨ u.plt.firstMarker ≠ none →
      exec (.standbyReached dt) s = .next u)) ∧
  (∀ (dt : Nat) (s u : State), u = s.elapse dt → u.live = true → u.mode = .standby → u.sup.trans = true → u.sup.target = .off → u.sup.soWrite = none →
    u.sup.trimDue = [] → u.sup.biasWrite = none → u.sup.logDue = [] →
    (u.act.opening = none → u.position 0 ≠ 2 → ∃ t, exec (.offReached dt) s = .next t ∧ t.mode = .off ∧ t.now = u.now ∧ t.nv = u.nv ∧
      t.sup.pwrGood = u.sup.pwrGood ∧ t.pending = u.pending ∧ t.pa = Pl.reset ∧ t.act = Act.reset ∧ t.pcv = Pcv.reset) ∧
    (u.act.opening = none → u.position 0 = 2 → ∃ t, exec (.offReached dt) s = .next t ∧ t.mode = .standby ∧ t.act.opening.isSome = true ∧
      t.pcv.biasOn = none ∧ t.nv = u.nv ∧ t.sup.trans = true) ∧
    (u.act.opening ≠ none → exec (.offReached dt) s = .next { u with pcv := { u.pcv with biasOn := none } }))

/-! ## Thermal management and idle depths (16) -/

/-- 16 R357, R360, R361, 14 R310: a conversion of a sensor that is not broken is kept, one that breaks it, outside -55 to 175 °C or
more than 25 °C from the median of at least three others, counts as 150 °C, and 130 °C is dangerous fault 7; a sample takes the hottest sensor, keeps the peak, and moves the thermal state by the rows of R360; the
timers of ENFORCED, of the release, of the rearming and of slow sampling do what the next sample would. -/
def Obligations.ThermalManagement : Prop :=
  (∀ (dt : Nat) (n : Fin 10) (v : Int) (s u : State), u = s.elapse dt → u.live = true → u.thm.broken.length = 10 →
    u.thm.broken.getD n.val false = false →
    (u.breaks n.val v = true ↔ v < -14080 ∨ 44800 < v ∨
      (n.val < 8 ∧ 3 ≤ (u.othersOf n.val).length ∧ 6400 < (v - medianOf (u.othersOf n.val)).natAbs)) ∧
    (u.breaks n.val v = false → v < 33280 → exec (.thermalConversion dt n v) s = .next
      { u with thm := { u.thm with conv := u.thm.conv.set n.val (some v) } }) ∧
    (u.breaks n.val v = false → 33280 ≤ v → 7 ∉ u.saf.decided → u.mode ≠ .safe →
      ∃ t, exec (.thermalConversion dt n v) s = .next t ∧ t.mode = .safe ∧ t.saf.decided = u.saf.decided ++ [7] ∧
        t.thm.conv = u.thm.conv.set n.val (some v) ∧ t.thm.broken = u.thm.broken ∧ t.nv = u.nv) ∧
    (u.breaks n.val v = true → 7 ∉ u.saf.decided → u.mode ≠ .safe →
      ∃ t, exec (.thermalConversion dt n v) s = .next t ∧ t.mode = .safe ∧ t.saf.decided = u.saf.decided ++ [7] ∧
        t.thm.conv = u.thm.conv.set n.val (some 38400) ∧ t.thm.broken = u.thm.broken.set n.val true ∧ t.nv = u.nv)) ∧
  (∀ (dt : Nat) (v : Int) (n : Nat) (s u : State), u = s.elapse dt → u.live = true → u.hottest = some (v, n) →
    ∃ t, exec (.thermalSample dt) s = .next t ∧ t.thm.sample = v ∧ t.thm.sensor = n ∧
      t.thm.peak = (if u.thm.sampled = false ∨ u.thm.peak < v then v else u.thm.peak) ∧
      (29440 ≤ v → t.thm.warn = true) ∧ (v ≤ 28672 → t.thm.warn = false) ∧ (28672 < v → v < 29440 → t.thm.warn = u.thm.warn) ∧
      (28672 ≤ v → t.thm.fast = true) ∧
      (u.thm.state ≠ .stopped → 32000 ≤ v → t.thm.state = .stopped) ∧
      (u.thm.state = .normal → v < 30720 → t.thm.state = .normal) ∧
      (u.thm.state = .normal → 30720 ≤ v → v < 32000 → t.thm.state = .grace ∧
        t.thm.graceEnd = u.now + max 50 (min 5000 (fld u.thm.ctrl 12 0)) * 125000) ∧
      (u.thm.state = .grace → v ≤ 29952 → t.thm.state = .normal) ∧
      (u.thm.state = .grace → 29952 < v → v < 32000 → t.thm.state = (if u.thm.graceEnd ≤ u.now then .enforced else .grace)) ∧
      (u.thm.state = .stopped → 28160 < v → t.thm.state = .stopped) ∧
      t.nv = u.nv ∧ t.act = u.act ∧ t.pcv = u.pcv ∧ t.nl = u.nl ∧ t.drm = u.drm ∧ t.eng = u.eng ∧ t.cch = u.cch ∧ t.plt = u.plt) ∧
  (∀ (dt : Nat) (s u : State), u = s.elapse dt → u.live = true →
    (u.hottest = none → exec (.thermalSample dt) s = .next u) ∧
    (u.thm.state = .grace → u.thm.graceEnd ≤ u.now → ∃ t, exec (.thmEnforced dt) s = .next t ∧ t.thm = { u.thm with state := .enforced } ∧
      t.pa = { u.pa with pend := { u.pa.pend with cool := true }, prior := some (u.priorNow .A) } ∧
      t.pb = { u.pb with pend := { u.pb.pend with cool := true }, prior := some (u.priorNow .B) } ∧
      t.sup = u.sup ∧ t.nv = u.nv ∧ t.saf = u.saf) ∧
    (∀ a, u.thm.state = .enforced → u.thm.low112 = some a → a + 625000000 ≤ u.now →
      ∃ t, exec (.thmReleased dt) s = .next t ∧ t.thm = { u.thm with state := .normal } ∧
        t.pa = { u.pa with pend := { u.pa.pend with cool := false }, prior := some (u.priorNow .A) } ∧
        t.pb = { u.pb with pend := { u.pb.pend with cool := false }, prior := some (u.priorNow .B) } ∧
        t.sup = u.sup ∧ t.nv = u.nv ∧ t.saf = u.saf) ∧
    (∀ a, u.thm.state = .stopped → u.thm.low110 = some a → a + 1250000000 ≤ u.now →
      ∃ t, exec (.thmRearmed dt) s = .next t ∧ t.thm = { u.thm with state := .normal, restartCool := true } ∧ t.pa = u.pa ∧ t.pb = u.pb ∧
        t.sup = u.sup ∧ t.nv = u.nv ∧ t.saf = u.saf) ∧
    (∀ a, u.thm.fast = true → u.thm.slowSince = some a → a + 12500000 ≤ u.now →
      exec (.slowSampling dt) s = .next { u with thm := { u.thm with fast := false } }))

/-- 16 R365 to R368: 10 ms after the last activity in STANDBY the chosen depth is entered, with what it turns off; WAKE_IN and a
wake bring the module back after the wake time of its depth, from I3 with the bias applied at once; the end of a wake counts as
activity. -/
def Obligations.IdleDepths : Prop :=
  (∀ (dt d : Nat) (s u : State), u = s.elapse dt → u.live = true → u.mode = .standby → u.thm.waking = none → d = u.depthTaken →
    (u.thm.wakePin = false → u.thm.activity + 1250000 ≤ u.now → u.thm.depth < d → (2 ≤ d → u.sup.soWrite = none ∧ u.hif.waiting = none) →
      ∃ t, exec (.idleDepth dt) s = .next t ∧ t.thm = { u.thm with depth := d } ∧ t.mode = .standby ∧
        t.drm.selfRefresh = (u.drm.selfRefresh || decide (2 ≤ d)) ∧ (2 ≤ d → ∀ x ∈ t.drm.chans, x.debt = 0) ∧
        (3 ≤ d → ∀ g ∈ t.cch.groups, g.2.cycle = none) ∧ t.pcv = { u.pcv with biasOn := if d = 4 then none else u.pcv.biasOn } ∧
        t.pa = u.pa ∧ t.pb = u.pb ∧ t.nv = u.nv ∧ t.saf = u.saf) ∧
    (u.thm.wakePin = true ∨ u.now < u.thm.activity + 1250000 ∨ d ≤ u.thm.depth → exec (.idleDepth dt) s = .next u) ∧
    (u.thm.depth = 0 → exec (.wakeIn dt) s = .next { u with thm := { u.thm with wakePin := true } }) ∧
    (∀ w, (u.thm.depth, w) ∈ [(1, 2500), (2, 50000), (3, 625000)] → exec (.wakeIn dt) s = .next
      { u with thm := { u.thm with wakePin := true, waking := some (u.now + w, 0) } }) ∧
    (u.thm.depth = 4 → exec (.wakeIn dt) s = .next { u with
      thm := { u.thm with wakePin := true, waking := some (u.now + 500000000, 0) },
      pcv := { u.pcv with biasOn := some u.now }, sup := { u.sup with wakeHold := u.now + 500000000 } })) ∧
  (∀ (dt : Nat) (s u : State), u = s.elapse dt →
    (u.mode ≠ .standby → exec (.wakeIn dt) s = .next { u with thm := { u.thm with wakePin := true } }) ∧
    exec (.wakeInFall dt) s = .next { u with thm := { u.thm with wakePin := false, activity := u.now } }) ∧
  (∀ (dt e d : Nat) (s u : State), u = s.elapse dt → u.live = true →
    (u.thm.waking = none → exec (.wakeComplete dt) s = .next u) ∧
    (u.thm.waking = some (e, d) → u.now < e → exec (.wakeComplete dt) s = .next u) ∧
    (u.thm.waking = some (e, d) → e ≤ u.now → ∃ t, exec (.wakeComplete dt) s = .next t ∧
      t.thm = { u.thm with depth := d, waking := none, activity := u.now } ∧
      (2 ≤ d ∨ u.drm.selfRefresh = false → t.drm = u.drm) ∧ (d < 2 → t.drm.selfRefresh = false ∧ t.drm.blocks = u.drm.blocks) ∧
      (d < 2 → u.drm.selfRefresh = true → ∀ x ∈ t.drm.chans, x.refAt = u.now) ∧
      (u.thm.depth < 3 → t.pa = u.pa ∧ t.pb = u.pb) ∧ (3 ≤ u.thm.depth → t.pa.glean = [] ∧ t.pb.glean = []) ∧
      t.sup = u.sup ∧ t.nv = u.nv ∧ t.saf = u.saf ∧ t.pcv = u.pcv))

/-! ## Frame memory (10) -/

/-- 10 R230, R231, R235, R236, R240, R241, R244, R245, R248 to R251: the refresh debt at its intervals and its forced batches;
the polls with their drift; the row-activation table, the guard once in 8 us and its report once per
window and bank, the windows of 64 ms; the blocks with their bit errors: one bit of a word corrected, written back by the scrubber
and told of once a second, two found and handled by their silo until the whole block is written; a write of less than a block is
merged, and a read waits for that or is answered from the queue; a master finds its reserved room whatever the others do. -/
def Obligations.FrameMemory : Prop :=
  (∀ (dt : Nat) (c : Fin 4) (ports : List (Fin 3 × PortObs)) (d : DramCh) (at_ : Nat) (s u v : State), u = s.elapse dt → u.live = true →
    v = u.portsSeen ports → v.drm.chans.length = 4 → d = v.dram c.val →
    at_ = d.refAt + (if d.rate = 0 then 488 else if d.rate = 1 then 244 else 122) →
    (v.drm.selfRefresh = true ∨ v.drm.init < 2 ∨ v.now < at_ → exec (.refreshInterval dt c ports) s = .next v) ∧
    (v.drm.selfRefresh = false → 2 ≤ v.drm.init → at_ ≤ v.now →
      (d.forced = true ∨ d.debt + 1 < (if d.rate = 0 then 8 else if d.rate = 1 then 4 else 1) →
        exec (.refreshInterval dt c ports) s = .next (v.modDram c.val (fun x => { x with debt := x.debt + 1, refAt := at_ }))) ∧
      (d.forced = false → (if d.rate = 0 then 8 else if d.rate = 1 then 4 else 1) ≤ d.debt + 1 →
        ∃ t, exec (.refreshInterval dt c ports) s = .next t ∧
          t.dram c.val = { d with debt := d.debt + 1, refAt := at_, forced := true, batch := 0 } ∧
          t.drm.forced = satInc v.drm.forced 1 65535 ∧ (∀ j, j ≠ c.val → t.dram j = v.dram j) ∧ { t with drm := v.drm } = v)) ∧
    (d.debt = 0 ∨ d.forced = false ∧ v.panicking = true ∨ v.now < d.refDone + 35 → exec (.allBankRefresh dt c ports) s = .next v) ∧
    (0 < d.debt → d.forced = true ∨ v.panicking = false → d.refDone + 35 ≤ v.now →
      ∃ t, exec (.allBankRefresh dt c ports) s = .next t ∧ (t.dram c.val).debt = d.debt - 1 ∧ (t.dram c.val).refDone = v.now ∧
        (t.dram c.val).forced = (d.forced && decide (1 < d.debt)) ∧
        t.drm.maxBatch = max v.drm.maxBatch (min (if d.forced then d.batch + 1 else 0) 15) ∧
        (∀ j, j ≠ c.val → t.dram j = v.dram j) ∧ { t with drm := v.drm } = v) ∧
    (v.panicking = true ↔ (v.fill 0).1 < 16384 ∨ 16384 < (v.fill 0).2 ∨ (v.fill 1).1 < 8192 ∨ (v.fill 2).1 < 16384 ∨ 16384 < (v.fill 2).2)) ∧
  (∀ (dt : Nat) (c : Fin 4) (d : DramCh) (x : Int) (s u : State), u = s.elapse dt → u.live = true → u.drm.chans.length = 4 →
    d = u.dram c.val →
    (d.rate = 0 → d.forced = true ∨ d.debt < 8 → -32 ≤ d.drift + x.sign → d.drift + x.sign ≤ 32 →
      exec (.refreshStatusPoll dt c 0 x) s = .next (u.modDram c.val (fun y => { y with drift := y.drift + x.sign }))) ∧
    (d.rate = 0 → d.forced = true ∨ d.debt < 4 → -32 ≤ d.drift + x.sign → d.drift + x.sign ≤ 32 →
      exec (.refreshStatusPoll dt c 1 x) s = .next (((u.modDram c.val (fun y => { y with rate := 1 })).post0 0x00d4 [word c.val, word 1]).modDram
        c.val (fun y => { y with drift := y.drift + x.sign }))) ∧
    (d.rate = 0 → d.forced = false → 4 ≤ d.debt → -32 ≤ d.drift + x.sign → d.drift + x.sign ≤ 32 →
      ∃ t, exec (.refreshStatusPoll dt c 1 x) s = .next t ∧
        t.dram c.val = { d with rate := 1, forced := true, batch := 0, drift := d.drift + x.sign } ∧ t.mode = u.mode ∧ t.nv = u.nv) ∧
    (32 < (d.drift + x.sign).natAbs → d.rate = 0 → 9 ∉ u.saf.decided → u.mode ≠ .safe →
      ∃ t, exec (.refreshStatusPoll dt c 0 x) s = .next t ∧ t.mode = .safe ∧ t.saf.decided = u.saf.decided ++ [9] ∧ t.nv = u.nv) ∧
    (8 ∉ u.saf.decided → u.mode ≠ .safe → ∃ t l, exec (.refreshStatusPoll dt c 2 x) s = .next t ∧ t.mode = .safe ∧
      t.saf.decided = u.saf.decided ++ 8 :: l ∧ (t.dram c.val).rate = 2 ∧ t.nv = u.nv)) ∧
  (∀ (dt n : Nat) (c : Fin 4) (b : Fin 8) (row : BitVec 16) (rt : Bool) (m : Master) (d : DramCh) (s u : State), u = s.elapse dt →
    u.live = true → u.drm.chans.length = 4 → d = u.dram c.val →
    (∀ e, d.guardTime = some e → u.now < e + 1000 → exec (.guardAction dt c b row rt) s = .next u) ∧
    ((∀ e, d.guardTime = some e → e + 1000 ≤ u.now) →
      ∃ t, exec (.guardAction dt c b row rt) s = .next t ∧ t.drm.hits = satInc u.drm.hits 1 65535 ∧ t.drm.lastCh = c.val ∧ t.drm.lastBank = b.val ∧
        t.drm.lastRow = row.toNat ∧ (t.dram c.val).guardTime = some u.now ∧ b.val ∈ (t.dram c.val).reported ∧
        (t.dram c.val).count b.val row.toNat = 0 ∧
        (∀ r, r ∈ t.drm.guarded ↔ (r + 1 = row.toNat ∨ r = row.toNat + 1) ∧ r < 65536) ∧
        ((∀ x ∈ d.due, x.1 = b.val → x.2.1 ≠ row.toNat) → (rt = true → (t.dram c.val).limited = d.limited) ∧
          (rt = false → ∃ a, (b.val, a) ∈ (t.dram c.val).limited)) ∧
        (b.val ∈ d.reported → { t with drm := u.drm } = u) ∧ { t with drm := u.drm, hif := u.hif } = u) ∧
    ((∀ e ∈ u.drm.blocks, e.2.flips = []) → (∀ x ∈ d.limited, x.1 ≠ b.val) →
      ∃ t, exec (.scrubberPass dt ⟨[.activate c b row m n]⟩) s = .next t ∧
        d.count b.val row.toNat + n ≤ (t.dram c.val).count b.val row.toNat ∧
        (0 < n → 4096 ≤ (t.dram c.val).count b.val row.toNat → ∃ x ∈ (t.dram c.val).due, x.1 = b.val ∧ x.2.1 = row.toNat) ∧
        { t with drm := u.drm } = u) ∧
    (∀ e, (∀ e ∈ u.drm.blocks, e.2.flips = []) → d.limited.find? (fun x => x.1 = b.val) = some (b.val, e) → u.now < e + 125 → m = .other →
      exec (.scrubberPass dt ⟨[.activate c b row m n]⟩) s = .next u) ∧
    (∀ e, u.drm.readyAt = some e → e + (u.drm.windows + 1) * 8000000 ≤ u.now → exec (.activationWindow dt) s = .next
      { u with drm := { u.drm with windows := u.drm.windows + 1,
                                   chans := u.drm.chans.map (fun x => { x with reported := [], limited := [], table := [] }) } }) ∧
    (u.drm.readyAt = none ∨ (∃ e, u.drm.readyAt = some e ∧ u.now < e + (u.drm.windows + 1) * 8000000) →
      exec (.activationWindow dt) s = .next u)) ∧
  (∀ (dt k i silo : Nat) (x : MBlock) (c : Nat) (d : DramCh) (a : Word) (s u : State), u = s.elapse dt → u.live = true →
    u.drm.chans.length = 4 → SMap.ok MBlock.zero u.drm.blocks = true → (∀ e ∈ u.drm.blocks, e.1 ≠ k → e.2.flips = []) →
    k < 2 ^ 26 → x = u.block k → siloOf (64 * k) = some silo → c = channelOf (64 * k) → d = u.dram c → a = word (64 * k) → i < 576 →
    (x.flips = [] → exec (.scrubberPass dt ⟨[]⟩) s = .next u) ∧
    (x.flips = [] → u.scrubbed k = true → ∃ t, exec (.scrubberPass dt ⟨[.flip a [i]]⟩) s = .next t ∧ t.block k = x ∧
      (t.dram c).ce = satInc d.ce 1 0xffffffff ∧ (t.dram c).errAddr = a ∧ (∀ j, j ≠ c → t.dram j = u.dram j) ∧ (∀ j, j ≠ k → t.block j = u.block j) ∧
      ((∀ e, d.ceTime = some e → e + 125000000 ≤ u.now) → (t.dram c).ceTime = some u.now ∧ (t.dram c).ceNew = 0) ∧
      (∀ e, d.ceTime = some e → u.now < e + 125000000 → (t.dram c).ceTime = some e ∧ (t.dram c).ceNew = d.ceNew + 1 ∧ t.hif = u.hif) ∧
      t.mode = u.mode ∧ t.saf = u.saf ∧ t.nv = u.nv ∧ t.pa = u.pa ∧ t.pb = u.pb) ∧
    (u.scrubbed k = false → exec (.scrubberPass dt ⟨[.flip a [i]]⟩) s = .next (u.putBlock k (x.flip i))) ∧
    (x.flips = [] → u.scrubbed k = true → i % 72 < 71 → 10 ∉ u.saf.decided → u.mode ≠ .safe →
      ∃ t, exec (.scrubberPass dt ⟨[.flip a [i, i + 1]]⟩) s = .next t ∧ t.mode = .safe ∧ t.saf.decided = u.saf.decided ++ [10] ∧
        (t.dram c).ue = satInc d.ue 1 0xffffffff ∧ (t.block k).flips = [i, i + 1] ∧ t.nv = u.nv)) ∧
  (∀ (dt k off silo p : Nat) (m w : Master) (x : MBlock) (a : Word) (data : List Byte) (s u : State), u = s.elapse dt → u.live = true →
    u.drm.chans.length = 4 → u.drm.answers.length = 4 → u.drm.queue = [] → u.drm.reads = [] → u.drm.stalled = [] → SMap.ok MBlock.zero u.drm.blocks = true →
    (∀ e ∈ u.drm.blocks, e.1 ≠ k → e.2.flips = []) → k < 2 ^ 26 → x = u.block k → x.data.length = 64 → a = word (64 * k + off) →
    0 < data.length → off + data.length ≤ 64 → p = masterNum m → siloOf (64 * k) = some silo →
    (data.length = 64 → ∃ t, exec (.scrubberPass dt ⟨[.write w a data, .drain]⟩) s = .next t ∧ t.block k = ⟨data, []⟩ ∧ t.drm.queue = [] ∧
      (∀ j, j ≠ k → t.block j = u.block j) ∧ t.drm.chans = u.drm.chans ∧ { t with drm := u.drm } = u) ∧
    (data.length < 64 → x.flips = [] → ∃ t, exec (.scrubberPass dt ⟨[.write w a data, .drain]⟩) s = .next t ∧ (t.block k).flips = [] ∧
      t.drm.queue = [] ∧ (∀ j, j < 64 → (t.block k).data[j]? = if off ≤ j ∧ j < off + data.length then data[j - off]? else x.data[j]?) ∧
      (∀ j, j ≠ k → t.block j = u.block j) ∧ { t with drm := u.drm } = u) ∧
    (data.length < 64 → x.lost = true → u.scrubbed k = false → silo ∈ [1, 2, 3, 10, 11, 12, 13, 14] →
      ∃ t, exec (.scrubberPass dt ⟨[.write w a data, .drain]⟩) s = .next t ∧ (t.block k).flips = x.flips ∧ (t.dram (channelOf (64 * k))).ue = satInc (u.dram (channelOf (64 * k))).ue 1 0xffffffff ∧
      t.mode = u.mode ∧ t.nv = u.nv) ∧
    (x.flips = [] → ∃ t, exec (.scrubberPass dt ⟨[.read m a, .serve m]⟩) s = .next t ∧ t.drm.reads = [] ∧
      t.drm.answers[p]? = some (some ⟨k, x.data, false⟩) ∧ t.drm.blocks = u.drm.blocks ∧ { t with drm := u.drm } = u) ∧
    (data.length = 64 → x.flips = [] → ∃ t, exec (.scrubberPass dt ⟨[.write w a data, .read m a, .serve m]⟩) s = .next t ∧
      t.drm.answers[p]? = some (some ⟨k, data, false⟩) ∧ t.drm.blocks = u.drm.blocks ∧ t.drm.queue.length = 1 ∧ { t with drm := u.drm } = u) ∧
    (data.length < 64 → x.flips = [] → ∃ t, exec (.scrubberPass dt ⟨[.write w a data, .read m a, .serve m]⟩) s = .next t ∧
      t.drm.answers[p]? = some (some ⟨k, (t.block k).data, false⟩) ∧ t.drm.queue = [] ∧
      (∀ j, j < 64 → (t.block k).data[j]? = if off ≤ j ∧ j < off + data.length then data[j - off]? else x.data[j]?) ∧ { t with drm := u.drm } = u)) ∧
  (∀ (dt : Nat) (m : Master) (a : Word) (data : List Byte) (s u : State), u = s.elapse dt → u.live = true →
    (∀ e ∈ u.drm.blocks, e.2.flips = []) → (∀ x ∈ u.drm.stalled, opMaster x ≠ some m) →
    (m = .rt0 ∨ m = .rt2 → u.writesOf m < 256 → exec (.scrubberPass dt ⟨[.write m a data]⟩) s = .next
      { u with drm := { u.drm with queue := u.drm.queue ++ [⟨m, a.toNat / 64, a.toNat % 64, data⟩] } }) ∧
    (m ≠ .other → u.readsOf m < 1024 → exec (.scrubberPass dt ⟨[.read m a]⟩) s = .next
      { u with drm := { u.drm with reads := u.drm.reads ++ [(m, a.toNat / 64)] } }) ∧
    (512 ≤ u.writesOf .other → m = .other ∨ m = .rt1 → exec (.scrubberPass dt ⟨[.write m a data]⟩) s = .next
      { u with drm := { u.drm with stalled := u.drm.stalled ++ [.write m a data] } }) ∧
    (5120 ≤ u.readsOf .other → m = .other → exec (.scrubberPass dt ⟨[.read m a]⟩) s = .next
      { u with drm := { u.drm with stalled := u.drm.stalled ++ [.read m a] } }))

/-! ## Functional safety and the safety channel (14) -/

/-- 14 R310, R311, R313 to R316, R320, 01 R36: a monitor that finds its fault leads to SAFE, before the supervisor has started it does
nothing, and with an injection armed its finding is that test's answer and nothing follows; the levels read back are kept and one
that differs sets warning bit 10, in the pulse of a test they are its answer; the supervisor repeats tests 1 to 4 by itself, one that
nothing has answered in its time sets bit 9; a commanded test passes where its target flagged the injection. -/
def Obligations.MonitorsTrip : Prop :=
  (∀ (dt id n : Nat) (c : Instr) (s u : State), u = s.elapse dt → u.live = true →
    (c, id, n) ∈ [(Instr.clockCheck dt false, 3, 1), (Instr.lockstep dt, 5, 2), (Instr.heartbeat dt, 6, 0)] →
    (u.injecting n = true → exec c s = .next (u.injected n true)) ∧
    (u.injecting n = false → u.mode = .boot → u.sup.step = 0 → exec c s = .next u) ∧
    (u.injecting n = false → u.mode ≠ .boot ∨ 1 ≤ u.sup.step → u.mode ≠ .safe → id ∉ u.saf.decided → ∃ t, exec c s = .next t ∧ u.tripped t id ∧
      t.saf.first = (if u.saf.first = 0 ∨ u.saf.firstAt = u.now ∧ id < u.saf.first then id else u.saf.first) ∧
      t.saf.count = satInc u.saf.count 1 255) ∧
    (u.injecting n = false → u.mode ≠ .boot ∨ 1 ≤ u.sup.step → u.mode = .safe → id ∉ u.saf.decided → ∃ t, exec c s = .next t ∧ t.mode = .safe ∧
      t.saf.decided = u.saf.decided ++ [id] ∧ t.hif = u.hif ∧ t.pa = u.pa ∧ t.nv = u.nv ∧
      (u.saf.first ≠ 0 → u.saf.firstAt < u.now → t.saf.first = u.saf.first ∧
        t.saf.second = (if u.saf.second = 0 ∨ u.saf.secondAt = u.now ∧ id < u.saf.second then id else u.saf.second))) ∧
    (u.injecting n = false → id ∈ u.saf.decided → exec c s = .next u)) ∧
  (∀ (n : Nat) (hit : Bool) (u : State),
    (u.commanded n = true → n ∉ u.saf.sched → u.injected n hit = { u with saf := { u.saf with flagged := some hit } }) ∧
    (u.commanded n = false → n ∈ u.saf.sched → n ∉ (u.injected n hit).saf.sched ∧ (n ∈ (u.injected n hit).saf.testFail ↔ hit = false) ∧
      (hit = false → (u.injected n hit).saf.warn / 2 ^ 9 % 2 = 1) ∧ (u.injected n hit).mode = u.mode ∧ (u.injected n hit).nv = u.nv)) ∧
  (∀ (dt : Nat) (a b : Bool) (s u : State), u = s.elapse dt → u.live = true →
    (u.injecting 1 = false → exec (.clockCheck dt true) s = .next u) ∧
    (u.testPulse 6 = false → u.testPulse 7 = false → a = u.saf.safeN → b = !u.errLow → exec (.safeNReadback dt a b) s = .next
      { u with saf := { u.saf with safeNPin := a, errNPin := b, mismatch := false } }) ∧
    (u.testPulse 6 = false → u.testPulse 7 = false → a ≠ u.saf.safeN ∨ b = u.errLow → ∃ t, exec (.safeNReadback dt a b) s = .next t ∧
      t.saf.safeNPin = a ∧ t.saf.errNPin = b ∧ t.saf.mismatch = true ∧ t.saf.warn / 2 ^ 10 % 2 = 1 ∧ t.mode = u.mode ∧ t.nv = u.nv ∧
      t.pa = u.pa) ∧
    (u.testPulse 6 = true → u.commanded 6 = true → ∃ t, exec (.safeNReadback dt a b) s = .next t ∧ t.saf.flagged = some (!a) ∧
      t.saf.safeNPin = a ∧ t.saf.errNPin = b ∧ t.mode = u.mode) ∧
    (u.testPulse 7 = true → u.commanded 7 = true → ∃ t, exec (.safeNReadback dt a b) s = .next t ∧ t.saf.flagged = some (!b) ∧
      t.saf.safeNPin = a ∧ t.saf.errNPin = b ∧ t.mode = u.mode)) ∧
  (∀ (dt period time : Nat) (n : Fin 5) (s u : State), u = s.elapse dt → u.live = true → period = (if n.val ≤ 2 then 125000000 else 7500000000) →
    time = (if 3 ≤ n.val then 562500 else 125000) →
    (u.mode = .boot ∨ n.val = 0 → exec (.latentTest dt n) s = .next u) ∧
    (u.mode ≠ .boot → 1 ≤ n.val → n.val ∉ u.saf.sched →
      (u.saf.ran.getD n.val 0 + period ≤ u.now → (n.val = 3 → ∃ t, u.pcv.biasOn = some t ∧ t + 125000 ≤ u.now) →
        exec (.latentTest dt n) s = .next { u with saf := { u.saf with sched := n.val :: u.saf.sched, ran := u.saf.ran.set n.val u.now } }) ∧
      (u.now < u.saf.ran.getD n.val 0 + period ∨ n.val = 3 ∧ u.pcv.biasOn = none → exec (.latentTest dt n) s = .next u)) ∧
    (u.mode ≠ .boot → 1 ≤ n.val → n.val ∈ u.saf.sched →
      (u.now < u.saf.ran.getD n.val 0 + time → exec (.latentTest dt n) s = .next u) ∧
      (u.saf.ran.getD n.val 0 + time ≤ u.now → u.commanded n.val = false → ∃ t, exec (.latentTest dt n) s = .next t ∧ n.val ∉ t.saf.sched ∧
        n.val ∈ t.saf.testFail ∧ t.saf.warn / 2 ^ 9 % 2 = 1 ∧ t.sup = u.sup ∧ t.nv = u.nv))) ∧
  (∀ (dt n : Nat) (s u : State), u = s.elapse dt → u.live = true → n = u.saf.test →
    (u.saf.testResult ≠ 3 → exec (.safetyTest dt) s = .next u) ∧
    (u.saf.testResult = 3 → u.saf.flagged = none →
      n ≠ 5 ∧ u.now < u.saf.testAt + (if n = 3 ∨ n = 4 then 562500 else 125000) ∨
        n = 5 ∧ u.saf.test5 = true ∧ (u.pa.reading = true ∨ u.pa.armed = true) ∨ n = 5 ∧ u.saf.test5 = false ∧ (∃ f ∈ u.pa.frames, f.test5 = true) →
      exec (.safetyTest dt) s = .next u) ∧
    (u.saf.testResult = 3 → u.saf.flagged ≠ none ∨ n ≠ 5 ∧ u.saf.testAt + (if n = 3 ∨ n = 4 then 562500 else 125000) ≤ u.now ∨
        n = 5 ∧ u.saf.test5 = true ∧ u.pa.reading = false ∧ u.pa.armed = false ∨ n = 5 ∧ u.saf.test5 = false ∧ (∀ f ∈ u.pa.frames, f.test5 = false) →
      ∃ t, exec (.safetyTest dt) s = .next t ∧ t.saf.testResult = (if u.saf.flagged = some true then 1 else 2) ∧
        t.saf.test = n ∧ (n ∈ t.saf.testFail ↔ u.saf.flagged ≠ some true) ∧ t.sup = u.sup ∧ t.nv = u.nv ∧ t.pcv = u.pcv))

/-- 14 R321 to R329: what every request of the safety channel meets before its own command: nothing before 20 ms, CRC_ERR, SEQ_ERR,
DENIED on CS_MAINT_N, BAD_ARG for reserved bits, NO_SESSION; each as the answer of the next frame, with nothing else done; while
SESS_AUTH compares, NOT_READY again and a request other than NOP discarded and counted. 14
R321, R326, R311: a frame of another length than 64 bits, a select low for too long and both selects low at once are frame
errors: counted, answered FRAME_ERR with the bits received, at most 255, and the eighth anomalous frame within one second sets
warning bit 11. -/
def Obligations.SpiFramesChecked : Prop :=
  (∀ (dt op i : Nat) (c : Instr) (q : SpiReq) (nonce : BitVec 128) (ch : Word) (s u : State), u = s.elapse dt → u.live = true → i = selNum q.sel →
      (c, op) ∈ [(Instr.spiNop dt q, 0x00), (Instr.read dt q, 0x01), (Instr.sessOpen dt q nonce, 0x10), (Instr.sessNonce dt q, 0x11),
        (Instr.sessAuth dt (.word q), 0x12), (Instr.wdGet dt q, 0x20), (Instr.wdAnswer dt q ch, 0x21), (Instr.clearWarn dt q, 0x30),
        (Instr.reqSafe dt q, 0x31), (Instr.reqReset dt q, 0x32), (Instr.test dt q, 0x40)] →
      (u.now < 2500000 → exec c s = .next u) ∧
      (2500000 ≤ u.now → u.saf.ports.length = 2 →
        crc8 (frameBytes op q.arg.toNat (q.seq.toNat * 16 + q.rsv.toNat) q.data) ≠ q.crc →
        ∃ t, exec c s = .next t ∧ t.port i = ⟨(u.port i).seq, if i = 0 ∧ u.saf.comparing ≠ none then (u.port i).ans else
          ⟨op, 4, q.seq.toNat, 0#32⟩, none, u.response (u.port i).given⟩ ∧
          t.port (1 - i) = u.port (1 - i) ∧ t.saf.crcErr = satInc u.saf.crcErr 1 255 ∧ t.saf.sessOpen = u.saf.sessOpen ∧
          t.saf.wdState = u.saf.wdState ∧ t.saf.decided = u.saf.decided ∧ t.sup = u.sup ∧ t.nv = u.nv ∧ t.pa = u.pa) ∧
      (∀ r, 2500000 ≤ u.now → u.saf.ports.length = 2 → (q.sel = .safe → u.saf.comparing = none) → (u.port i).seq = some r →
        q.seq.toNat ≠ (r + 1) % 16 →
        crc8 (frameBytes op q.arg.toNat (q.seq.toNat * 16 + q.rsv.toNat) q.data) = q.crc → exec c s = .next
          { u.spiDone q op 6 0#32 with saf := { (u.spiDone q op 6 0#32).saf with seqErr := satInc u.saf.seqErr 1 255 } }) ∧
      (∀ sq, 2500000 ≤ u.now → u.saf.ports.length = 2 → q.sel = .safe → u.saf.comparing = some sq →
        crc8 (frameBytes op q.arg.toNat (q.seq.toNat * 16 + q.rsv.toNat) q.data) = q.crc →
        (op ≠ 0 → exec c s = .next { u.shiftOut 0 with saf := { (u.shiftOut 0).saf with discard := satInc u.saf.discard 1 255 } }) ∧
        (op = 0 → (∀ r, (u.port 0).seq = some r → q.seq.toNat = (r + 1) % 16) → exec c s = .next
          (u.modPort 0 (fun p => ⟨some q.seq.toNat, p.ans, none, u.response p.given⟩)))) ∧
      (u.admits q op → q.sel = .maint → 1 < op → exec c s = .next (u.spiDone q op 8 0#32)) ∧
      (u.admits q op → q.sel = .safe ∨ op ≤ 1 → q.rsv ≠ 0#4 → exec c s = .next (u.spiDone q op 3 0#32)) ∧
      (u.admits q op → q.sel = .safe → q.rsv = 0#4 → 0x20 ≤ op → u.saf.sessOpen = false → exec c s = .next (u.spiDone q op 7 0#32))) ∧
  (∀ (dt bits b1 i : Nat) (x : Sel) (s u : State), u = s.elapse dt → u.live = true → i = selNum x → u.saf.ports.length = 2 →
      (u.now < 2500000 → exec (.frameErr dt x bits) s = .next u ∧ exec (.selectTimeout dt x bits) s = .next u ∧
        exec (.bothSelectsLow dt bits b1) s = .next u) ∧
      exec (.frameErr dt x 64) s = .next u ∧
      (2500000 ≤ u.now → bits ≠ 64 → ∃ t, exec (.frameErr dt x bits) s = .next t ∧ exec (.selectTimeout dt x bits) s = .next t ∧
        t.port i = { u.port i with err := some (min bits 255), miso := u.response (u.port i).given } ∧
        (t.port i).given = ⟨0, 5, 0, word (min bits 255)⟩ ∧ t.port (1 - i) = u.port (1 - i) ∧
        t.saf.frameErr = satInc u.saf.frameErr 1 255 ∧ t.saf.anomalies = u.now :: u.saf.anomalies.filter (fun a => decide (u.now < a + 125000000)) ∧
        (7 ≤ (u.saf.anomalies.filter (fun a => decide (u.now < a + 125000000))).length → t.saf.warn / 2 ^ 11 % 2 = 1) ∧
        t.sup = u.sup ∧ t.nv = u.nv ∧ t.pa = u.pa ∧ t.saf.decided = u.saf.decided) ∧
      (2500000 ≤ u.now → ∃ t, exec (.bothSelectsLow dt bits b1) s = .next t ∧
        t.port 0 = { u.port 0 with err := some (min bits 255) } ∧ t.port 1 = { u.port 1 with err := some (min b1 255) } ∧
        (t.port 0).given = ⟨0, 5, 0, word (min bits 255)⟩ ∧ (t.port 1).given = ⟨0, 5, 0, word (min b1 255)⟩ ∧
        t.saf.frameErr = satInc u.saf.frameErr 1 255 ∧ t.sup = u.sup ∧ t.nv = u.nv ∧ t.pa = u.pa ∧ t.saf.decided = u.saf.decided))

/-- 14 R320, R328, R330, R336: the commands of the channel that change no session: NOP, READ, an unknown OP, CLEAR_WARN, REQ_SAFE,
REQ_RESET and TEST. -/
def Obligations.SpiCommandsServed : Prop :=
  ∀ (dt : Nat) (q : SpiReq) (s u : State), u = s.elapse dt → u.live = true → q.rsv = 0#4 →
    (u.admits q 0x00 → exec (.spiNop dt q) s = .next (u.spiDone q 0x00 0 0#32)) ∧
    (u.admits q 0x01 → exec (.read dt q) s = .next (u.spiDone q 0x01 0 (u.safReg (4 * q.arg.toNat)))) ∧
    (∀ op : Byte, knownOps.contains op.toNat = false → u.admits q op.toNat → exec (.badOp dt op q) s = .next (u.spiDone q op.toNat 2 0#32)) ∧
    (∀ op : Byte, knownOps.contains op.toNat = true → exec (.badOp dt op q) s = .next u) ∧
    (q.sel = .safe → u.saf.sessOpen = true → u.admits q 0x30 →
      ∃ t w, exec (.clearWarn dt q) s = .next t ∧ t = { u.spiDone q 0x30 0 (word w) with saf := { (u.spiDone q 0x30 0 (word w)).saf with warn := w } } ∧
        ∀ b, b < 14 → (w / 2 ^ b % 2 = 1 ↔ u.saf.warn / 2 ^ b % 2 = 1 ∧ (bit q.data b = true → u.warnHolds b = true))) ∧
    (q.sel = .safe → u.saf.sessOpen = true → u.admits q 0x31 →
      (q.data ≠ 0x00005a5a#32 → exec (.reqSafe dt q) s = .next (u.spiDone q 0x31 3 0#32)) ∧
      (q.data = 0x00005a5a#32 → 18 ∉ u.saf.decided → u.mode ≠ .safe → ∃ t, exec (.reqSafe dt q) s = .next t ∧ u.tripped t 18 ∧
        t.saf.ports = (u.spiDone q 0x31 0 0#32).saf.ports)) ∧
    (q.sel = .safe → u.saf.sessOpen = true → u.admits q 0x32 → exec (.reqReset dt q) s = .next
      (if q.data = 0x0000a5a5#32 then (let r := u.moduleReset 3 u.sup.clksel; { r with sup := { r.sup with resetLeft := 125000 } })
        else u.spiDone q 0x32 3 0#32)) ∧
    (q.sel = .safe → u.saf.sessOpen = true → u.admits q 0x40 →
      (u.testStatus q.arg.toNat ≠ 0 → exec (.test dt q) s = .next (u.spiDone q 0x40 (u.testStatus q.arg.toNat) 0#32)) ∧
      (u.testStatus q.arg.toNat = 0 → ∃ t, exec (.test dt q) s = .next t ∧ t.saf.test = q.arg.toNat ∧ t.saf.testResult = 3 ∧
        t.saf.ports = (u.spiDone q 0x40 0 3#32).saf.ports ∧ t.saf.testAt = u.now ∧ t.saf.flagged = none ∧
        (q.arg.toNat = 5 → t.saf.test5 = true) ∧ t.sup = u.sup ∧ t.nv = u.nv ∧ t.hif = u.hif ∧ t.pcv = u.pcv))

/-- 14 R325, R330, R331, 15 R341: SESS_OPEN draws a nonce where the SAFETY key is set, no session is open and no lockout runs, a copy of
the key with a wrong CRC rewritten first; the eight words of
the MAC come in order within 1 s; word 7 starts the comparison, which is answered NOT_READY until it ends; the right MAC opens the
session and arms the watchdog, a wrong one counts towards the lockout. -/
def Obligations.SafetySessionOpens : Prop :=
  ∀ (dt : Nat) (q : SpiReq) (nonce : BitVec 128) (ch : Word) (s u : State), u = s.elapse dt → u.live = true → q.rsv = 0#4 → q.sel = .safe →
    (u.admits q 0x10 → (u.sup.ledgerReady = true → (∃ n x y, u.nv.keys[3]? = some ⟨some (n, x), some y⟩)) → u.sup.ledgerReady = false ∨ u.keyOf 3 = [] ∨ u.saf.sessOpen = true →
      exec (.sessOpen dt q nonce) s = .next (u.spiDone q 0x10 8 0#32)) ∧
    (u.admits q 0x10 → u.sup.ledgerReady = true → (∃ n x y, u.nv.keys[3]? = some ⟨some (n, x), some y⟩) → u.keyOf 3 ≠ [] → u.saf.sessOpen = false → u.lockedOut 3 = true →
      exec (.sessOpen dt q nonce) s = .next (u.spiDone q 0x10 10 0#32)) ∧
    (u.admits q 0x10 → u.sup.ledgerReady = true → (∃ n x y, u.nv.keys[3]? = some ⟨some (n, x), some y⟩) → u.keyOf 3 ≠ [] → u.saf.sessOpen = false → u.lockedOut 3 = false →
      exec (.sessOpen dt q nonce) s = .next { u.spiDone q 0x10 0 0#32 with saf := { (u.spiDone q 0x10 0 0#32).saf with
        nonce := some ⟨nonce, u.now, u.keyOf 3, []⟩, nonceBytes := nonce } }) ∧
    (∀ r n x, u.admits q 0x10 → u.sup.ledgerReady = true → u.nv.keys[3]? = some r → r = ⟨none, some (n, x)⟩ ∨ r = ⟨some (n, x), none⟩ → x ≠ [] →
      u.saf.sessOpen = false → u.lockedOut 3 = false → ∃ t, exec (.sessOpen dt q nonce) s = .next t ∧
        t.nv = { u.nv with keys := u.nv.keys.set 3 (Rec.both n x) } ∧ t.saf.nonce = some ⟨nonce, u.now, x, []⟩ ∧
        (t.port 0).ans = ⟨0x10, 0, q.seq.toNat, 0#32⟩ ∧ t.saf.warn / 2 ^ 13 % 2 = 1) ∧
    (u.admits q 0x11 → exec (.sessNonce dt q) s = .next (if 3 < q.arg.toNat then u.spiDone q 0x11 3 0#32
      else u.spiDone q 0x11 0 (BitVec.ofNat 32 (u.saf.nonceBytes.toNat / 2 ^ (32 * q.arg.toNat))))) ∧
    (u.admits q 0x12 → u.saf.sessOpen = true → exec (.sessAuth dt (.word q)) s = .next (u.spiDone q 0x12 8 0#32)) ∧
    (u.admits q 0x12 → u.saf.sessOpen = false → u.saf.nonce = none → exec (.sessAuth dt (.word q)) s = .next (u.spiDone q 0x12 9 0#32)) ∧
    (∀ n : SafeNonce, u.admits q 0x12 → u.saf.sessOpen = false → u.saf.nonce = some n → q.arg.toNat = n.words.length →
      (n.at_ + 125000000 < u.now → exec (.sessAuth dt (.word q)) s = .next
        { u.spiDone q 0x12 9 0#32 with saf := { (u.spiDone q 0x12 9 0#32).saf with nonce := none } }) ∧
      (u.now ≤ n.at_ + 125000000 → q.arg.toNat < 7 → exec (.sessAuth dt (.word q)) s = .next { u.spiDone q 0x12 0 0#32 with
        saf := { (u.spiDone q 0x12 0 0#32).saf with nonce := some { n with words := n.words ++ [q.data] } } }) ∧
      (u.now ≤ n.at_ + 125000000 → q.arg.toNat = 7 → exec (.sessAuth dt (.word q)) s = .next { u.spiDone q 0x12 1 0#32 with
        saf := { (u.spiDone q 0x12 1 0#32).saf with nonce := some { n with words := n.words ++ [q.data] }, comparing := some q.seq.toNat } })) ∧
    (u.saf.comparing = none → exec (.sessAuth dt (.compared ch)) s = .next u) ∧
    (∀ (n : SafeNonce) (sq : Nat) (m : List Byte), u.saf.ports.length = 2 → u.saf.comparing = some sq → u.saf.nonce = some n →
      m = n.words.flatMap (fun w => le 4 w.toNat) →
      (m = hmac n.key (le 16 n.nonce.toNat ++ le 8 u.nv.serial.toNat) →
        ∃ t, exec (.sessAuth dt (.compared ch)) s = .next t ∧ t.port 0 = { u.port 0 with ans := ⟨0x12, 0, sq, 0#32⟩ } ∧ t.port 1 = u.port 1 ∧
          t.saf.comparing = none ∧ t.saf.sessOpen = true ∧ t.saf.key = n.key ∧ t.saf.sessNonce = n.nonce ∧ t.saf.wdState = 1 ∧ t.saf.wdN = 0 ∧
          t.saf.wdChal = ch ∧ t.saf.wdTime = u.now ∧ t.saf.nonce = none ∧ t.mode = u.mode ∧ t.saf.decided = u.saf.decided ∧ t.pa = u.pa ∧
          t.plt = u.plt) ∧
      (u.sup.lockFails.length = 8 → u.nv.guard.a.isSome = true → u.nv.guard.b.isSome = true → m ≠ hmac n.key (le 16 n.nonce.toNat ++ le 8 u.nv.serial.toNat) →
        ∃ t, exec (.sessAuth dt (.compared ch)) s = .next t ∧ t.port 0 = { u.port 0 with ans := ⟨0x12, 9, sq, 0#32⟩ } ∧ t.port 1 = u.port 1 ∧
          t.saf.comparing = none ∧ t.saf.sessOpen = u.saf.sessOpen ∧ t.saf.nonce = none ∧
          t.sup.lockFails = u.sup.lockFails.set 3 (satInc (u.sup.lockFails.getD 3 0) 1 255) ∧ t.mode = u.mode ∧ t.pa = u.pa ∧ t.plt = u.plt))

/-- 14 R332 to R334: the watchdog of an open session: WD_GET shows the challenge; the right answer 10 to 20 ms after it starts the
next cycle; an answer too soon or wrong is fault 17, one too late and none at all are fault 16. -/
def Obligations.WatchdogJudges : Prop :=
  (∀ (dt : Nat) (q : SpiReq) (ch : Word) (s u : State), u = s.elapse dt → u.live = true → q.rsv = 0#4 → q.sel = .safe → u.saf.sessOpen = true →
    (u.admits q 0x20 → exec (.wdGet dt q) s = .next (if u.saf.wdState = 2 then u.spiDone q 0x20 12 0#32 else u.spiDone q 0x20 0 u.saf.wdChal)) ∧
    (u.admits q 0x21 → u.saf.wdState = 2 → exec (.wdAnswer dt q ch) s = .next (u.spiDone q 0x21 12 0#32)) ∧
    (u.admits q 0x21 → u.saf.wdState ≠ 2 → u.saf.wdTime + 1250000 ≤ u.now → u.now ≤ u.saf.wdTime + 2500000 →
      q.data = word (unle ((hmac u.saf.key (le 16 u.saf.sessNonce.toNat ++ le 4 u.saf.wdChal.toNat ++ le 2 u.saf.wdN)).take 4)) →
      exec (.wdAnswer dt q ch) s = .next { u.spiDone q 0x21 0 0#32 with saf := { (u.spiDone q 0x21 0 0#32).saf with
        wdN := (u.saf.wdN + 1) % 65536, wdChal := ch, wdTime := u.now } }) ∧
    (u.admits q 0x21 → u.saf.wdState ≠ 2 → u.now ≤ u.saf.wdTime + 2500000 → u.mode ≠ .safe → 17 ∉ u.saf.decided →
      u.now < u.saf.wdTime + 1250000 ∨
        q.data ≠ word (unle ((hmac u.saf.key (le 16 u.saf.sessNonce.toNat ++ le 4 u.saf.wdChal.toNat ++ le 2 u.saf.wdN)).take 4)) →
      ∃ t, exec (.wdAnswer dt q ch) s = .next t ∧ u.tripped t 17 ∧ t.saf.wdState = 2 ∧ t.saf.ports = (u.spiDone q 0x21 12 0#32).saf.ports) ∧
    (u.admits q 0x21 → u.saf.wdState ≠ 2 → u.saf.wdTime + 2500000 < u.now → u.mode ≠ .safe → 16 ∉ u.saf.decided →
      ∃ t, exec (.wdAnswer dt q ch) s = .next t ∧ u.tripped t 16 ∧ t.saf.wdState = 2 ∧ t.saf.ports = (u.spiDone q 0x21 12 0#32).saf.ports)) ∧
  (∀ (dt : Nat) (s u : State), u = s.elapse dt → u.live = true →
    (u.saf.wdState ≠ 1 ∨ u.now < u.saf.wdTime + 2500000 → exec (.wdTimeout dt) s = .next u) ∧
    (u.saf.wdState = 1 → u.saf.wdTime + 2500000 ≤ u.now → u.mode ≠ .safe → 16 ∉ u.saf.decided →
      ∃ t, exec (.wdTimeout dt) s = .next t ∧ u.tripped t 16 ∧ t.saf.wdState = 2))

/-! ## Ledger (15) -/

/-- 03 R81, 02 R59, 15 R341, R343 to R348, R351, R352, 09 R219: the records that are due are written, each as the next version in both
copies, one with a wrong copy resolved and rewritten first; the oldest log entry that is due follows the newest; a running lockout is
rewritten every 16 s and ended when its time is out; operating time counts in tenths of an hour and its remainder in seconds once a
minute. -/
def Obligations.LedgerWrites : Prop :=
  (∀ (dt : Nat) (s u : State), u = s.elapse dt → u.live = true → u.sup.trimDue.Nodup → SMap.ok (Rec.both 0 TrimGroup.zero) u.nv.trim = true →
    (∀ g ∈ u.sup.trimDue, (u.nv.trimRec g).a.isSome = true ∧ (u.nv.trimRec g).b.isSome = true) →
    ∃ t, exec (.trimRecordWrite dt) s = .next t ∧ t = { u with nv := { u.nv with trim := t.nv.trim }, sup := { u.sup with trimDue := [] } } ∧
      (∀ g ∈ u.sup.trimDue, t.nv.trimRec g = (u.nv.trimRec g).write ⟨(u.grp g).perm, (u.grp g).failed,
        (List.range 32).map (fun j => (u.chan g j).trim) ++ [(u.grp g).spare]⟩) ∧
      (∀ g, g ∉ u.sup.trimDue → t.nv.trimRec g = u.nv.trimRec g)) ∧
  (∀ (dt g n : Nat) (x : TrimGroup) (r : Rec TrimGroup) (s u : State), u = s.elapse dt → u.live = true → u.sup.trimDue = [g] →
    SMap.ok (Rec.both 0 TrimGroup.zero) u.nv.trim = true → r = u.nv.trimRec g → r = ⟨none, some (n, x)⟩ ∨ r = ⟨some (n, x), none⟩ →
    ∃ t, exec (.trimRecordWrite dt) s = .next t ∧ t.sup = { u.sup with trimDue := [] } ∧ t.nv.trimRec g = Rec.both ((n + 1) % 2 ^ 32)
        ⟨(u.grp g).perm, (u.grp g).failed, (List.range 32).map (fun j => (u.chan g j).trim) ++ [(u.grp g).spare]⟩ ∧
      (∀ h, h ≠ g → t.nv.trimRec h = u.nv.trimRec h) ∧ t.saf.warn / 2 ^ 13 % 2 = 1) ∧
  (∀ (dt : Nat) (s u : State), u = s.elapse dt → u.live = true →
    (∀ b, u.sup.biasWrite = some b → u.nv.bias.a.isSome = true → u.nv.bias.b.isSome = true → exec (.biasRecordWrite dt) s = .next
      { u with nv := { u.nv with bias := u.nv.bias.write b }, sup := { u.sup with biasWrite := none } }) ∧
    (∀ b n x, u.sup.biasWrite = some b → u.nv.bias = ⟨none, some (n, x)⟩ ∨ u.nv.bias = ⟨some (n, x), none⟩ →
      ∃ t, exec (.biasRecordWrite dt) s = .next t ∧ t.nv = { u.nv with bias := Rec.both ((n + 1) % 2 ^ 32) b } ∧
        t.sup = { u.sup with biasWrite := none } ∧ t.saf.warn / 2 ^ 13 % 2 = 1) ∧
    (u.sup.biasWrite = none → exec (.biasRecordWrite dt) s = .next u) ∧
    (∀ k c a rest q, u.sup.logDue = (k, c, a) :: rest → u.sup.ledgerReady = true → SMap.ok none u.nv.log = true →
      q = (match newestLog u.nv.log with | some n => (n + 1) % 2 ^ 32 | none => 0) →
      ∃ t, exec (.logEntryWrite dt) s = .next t ∧ t = { u with nv := { u.nv with log := t.nv.log }, sup := { u.sup with logDue := rest } } ∧
        SMap.get none t.nv.log (q % 2048) = some ⟨q, (u.tally 5).value, u.now / 125000, k, c, (a ++ [0, 0, 0]).take 3⟩ ∧
        (∀ i, i ≠ q % 2048 → SMap.get none t.nv.log i = SMap.get none u.nv.log i)) ∧
    (u.sup.logDue = [] ∨ u.sup.ledgerReady = false → exec (.logEntryWrite dt) s = .next u) ∧
    (∀ w, w < 8 → u.lockedOut w = true → u.sup.guardAt + 2000000000 ≤ u.now → u.nv.guard.a.isSome = true → u.nv.guard.b.isSome = true →
      exec (.guardRecordRewrite dt) s = .next
        { u with nv := { u.nv with guard := u.nv.guard.write ⟨u.sup.lockFails, (List.range 8).map u.lockLeft⟩ },
                 sup := { u.sup with guardAt := u.now } }) ∧
    (∀ w, w < 8 → u.lockedOut w = true → u.sup.guardAt + 2000000000 ≤ u.now → u.nv.guard = ⟨none, none⟩ →
      ∃ t, exec (.guardRecordRewrite dt) s = .next t ∧ t.sup.lockFails = List.replicate 8 0 ∧ t.sup.guardAt = u.now ∧
        (∀ j, j < u.sup.lockEnd.length → ∃ e, t.sup.lockEnd[j]? = some (some e) ∧ u.now + 3750000000 ≤ e) ∧ t.saf.warn / 2 ^ 13 % 2 = 1) ∧
    ((∀ w, w < 8 → u.lockedOut w = false) ∨ u.now < u.sup.guardAt + 2000000000 → exec (.guardRecordRewrite dt) s = .next u) ∧
    (u.sup.ledgerReady = true → u.sup.residSince + 7500000000 ≤ (u.now : Int) → exec (.residRewrite dt) s = .next
      { u with nv := { u.nv with resid := min 359 ((u.sup.residSince + 7500000000 - u.sup.opSince) / 125000000).toNat },
               sup := { u.sup with residSince := u.sup.residSince + 7500000000 } }) ∧
    (u.sup.ledgerReady = false ∨ (u.now : Int) < u.sup.residSince + 7500000000 → exec (.residRewrite dt) s = .next u) ∧
    (u.sup.ledgerReady = true → u.sup.opSince + 45000000000 ≤ (u.now : Int) → (u.tally 4).high.a.isSome = true →
      (u.tally 4).high.b.isSome = true → exec (.operatingTime dt) s = .next
      { u with nv := { u.nv with tally := modAt u.nv.tally 4 Tally.count, resid := 0 },
               sup := { u.sup with opSince := u.sup.opSince + 45000000000, residSince := u.sup.opSince + 45000000000 } }) ∧
    (u.sup.ledgerReady = false ∨ (u.now : Int) < u.sup.opSince + 45000000000 → exec (.operatingTime dt) s = .next u)) ∧
  (∀ (dt : Nat) (w : Fin 8) (e : Nat) (s u : State), u = s.elapse dt → u.live = true → u.sup.lockEnd.getD w.val none = some e →
    (u.now < e → exec (.lockoutEnd dt w) s = .next u) ∧
    (e ≤ u.now → u.nv.guard.a.isSome = true → u.nv.guard.b.isSome = true →
      ∃ t, exec (.lockoutEnd dt w) s = .next t ∧ t.lockedOut w.val = false ∧ t.sup.lockFails = u.sup.lockFails ∧
        t.sup.lockEnd = u.sup.lockEnd.set w.val none ∧
        t.nv = { u.nv with guard := u.nv.guard.write ⟨u.sup.lockFails, (List.range 8).map t.lockLeft⟩ } ∧ t.hif = u.hif ∧ t.pa = u.pa))

/-! ## What holds over every command -/

/-- The values that the spec gives for reset, as the registers show them: SUP_ID, mode BOOT, cause POWER (17), HIF rings (09 R204), PLT_EXP
and PLT_FSYNC (02 R46), THM_CTRL (16), the engines OFFLINE (08 R174), SAFE_N low (14 R316), no command waiting. -/
def Obligations.ResetValues : Prop :=
  State.reset.readReg 0x00000 = 0x2415#32 ∧ State.reset.readReg 0x00008 = 1#32 ∧ State.reset.readReg 0x0000c = 1#32 ∧
    State.reset.readReg 0x02000 = 0x3e8#32 ∧ State.reset.readReg 0x02014 = 0x20#32 ∧ State.reset.readReg 0x02018 = 400#32 ∧
    State.reset.readReg 0x04000 = 0#32 ∧ (∀ x, x < 23 → (State.reset.ring x).enable = false ∧ (State.reset.ring x).vector = x - 1) ∧
    State.reset.readReg 0x08000 = 0x9120#32 ∧ State.reset.readReg 0x08004 = 0x2#32 ∧
    (∀ i, i < 16 → (State.reset.sheaf i).st = .offline) ∧ State.reset.saf.safeN = false ∧ State.reset.saf.decided = [] ∧
    State.reset.pending = [] ∧ State.reset.SafeInv ∧ State.reset.FaultInv ∧ SMap.ok 0#8 State.reset.nv.customer = true

/-- 14 R315, R317: in SAFE nothing is read, no transition runs, no first marker is due and SAFE_N is low; every step keeps it so. -/
def Obligations.SafeStays : Prop :=
  ∀ s t : State, s.SafeInv → step s = .next t → t.SafeInv

/-- 14 R317: SAFE is left only by module reset, among them the fall of the supplies to OFF: after any other command, and any host
command or frame of the safety channel that resets nothing, the module is still in SAFE. -/
def Obligations.SafeLeftByReset : Prop :=
  ∀ (c : Instr) (s t : State), s.mode = .safe → s.rests → exec c s = .next t →
    t.mode = .safe ∨ ((t.mode = .boot ∨ t.mode = .off) ∧ t.saf = Saf.reset ∧ t.plt = Plt.reset ∧ t.pa = Pl.reset ∧ t.pb = Pl.reset ∧
      t.pcv = Pcv.reset ∧ t.act = Act.reset ∧ t.drm = Drm.reset ∧ t.eng = Eng.reset ∧ t.nl = Nl.reset)

/-- 14 R313: the first dangerous fault is latched with its time until a module reset, but for one of a lower ID decided in the same
PER clock, and no fault that has been decided is taken back; no step decides a fault while none is the first. -/
def Obligations.FirstFaultLatched : Prop :=
  (∀ s t : State, s.FaultInv → step s = .next t → t.FaultInv) ∧
    ∀ (c : Instr) (s t : State), s.saf.first ≠ 0 → exec c s = .next t →
      t.saf = Saf.reset ∨ ((t.saf.first = s.saf.first ∨ t.saf.first < s.saf.first ∧ t.now = s.saf.firstAt) ∧
        t.saf.time = s.saf.time ∧ t.saf.firstAt = s.saf.firstAt ∧ ∃ l, t.saf.decided = s.saf.decided ++ l)
end

