-- ==== Sys2Proof/Laws/Line.lean ====
section
/-! SUPPORT. What the receiver of a lane makes of the blocks of a packet: the scrambler undoes itself, a control word gives its TYPE
and its upper half, EOP ends the packet in progress. -/
namespace Sys2Proof.Machine

/-- Scrambling twice from one state gives the payload back (R284). -/
theorem scramble_twice (s : BitVec 31) (d : BitVec 64) : scramble s (scramble s d).1 = (d, (scramble s d).2) := by
  simp only [scramble, BitVec.xor_assoc, BitVec.xor_self, BitVec.xor_zero]

/-- A control word with nothing below bit 32 beside its TYPE, as a number. -/
theorem toNat_ctrlWord (t n : Nat) (ht : t < 256) (hn : n < 2 ^ 32) :
    (ctrlWord t (n * 2 ^ 32)).toNat = t + (255 - t) * 2 ^ 8 + n * 2 ^ 32 := by
  rw [ctrlWord, BitVec.toNat_ofNat, Nat.mod_eq_of_lt]
  omega

/-- Its TYPE. -/
theorem typeOf_ctrlWord (t n : Nat) (ht : t < 256) (hn : n < 2 ^ 32) : typeOf (ctrlWord t (n * 2 ^ 32)) = some t := by
  have h := toNat_ctrlWord t n ht hn
  have a : byteOf (ctrlWord t (n * 2 ^ 32)) 0 = t := by
    rw [byteOf, h]
    omega
  have b : byteOf (ctrlWord t (n * 2 ^ 32)) 1 = 255 - t := by
    have d : (t + (255 - t) * 2 ^ 8 + n * 2 ^ 32) / 2 ^ (8 * 1) = (255 - t) + n * 2 ^ 24 := by
      rw [show t + (255 - t) * 2 ^ 8 + n * 2 ^ 32 = t + 2 ^ (8 * 1) * ((255 - t) + n * 2 ^ 24) by omega,
        Nat.add_mul_div_left _ _ (by decide), Nat.div_eq_of_lt (by omega), Nat.zero_add]
    rw [byteOf, h, d]
    omega
  rw [typeOf, a, b, if_pos (by omega)]

/-- Its upper half. -/
theorem upper_ctrlWord (t n : Nat) (ht : t < 256) (hn : n < 2 ^ 32) : wfld (ctrlWord t (n * 2 ^ 32)) 63 32 = n := by
  rw [wfld, toNat_ctrlWord t n ht hn, Nat.add_mul_div_right _ _ (by decide), Nat.div_eq_of_lt (by omega), Nat.zero_add]
  exact Nat.mod_eq_of_lt hn

/-- A scrambled control block between two LSYNC is the word it stands for. -/
theorem takeBlock_ctrl (x : Lane) (w : BitVec 64) (h2 : x.state = 2) (hp : x.pos ≠ lsyncPeriod) (hd : (x.noteHeader true).drowned = false) :
    x.takeBlock (ctrlBlock (scramble x.scrambler w).1) =
      Lane.control { x.noteHeader true with scrambler := (scramble x.scrambler w).2, pos := x.pos + 1 } w := by
  have e : blockValid (ctrlBlock (scramble x.scrambler w).1) = true := rfl
  have n : x.state ≠ 0 := by omega
  have k : (x.noteHeader true).state ≠ 1 := by show x.state ≠ 1; omega
  have q : (x.noteHeader true).pos ≠ lsyncPeriod := hp
  simp only [Lane.takeBlock, e, hd, if_neg n, if_neg k, if_neg q, Bool.false_eq_true, if_false, Lane.payload, Bool.not_true]
  have s : (x.noteHeader true).scrambler = x.scrambler := rfl
  simp only [ctrlBlock, s, scramble_twice, if_true]
  rfl

/-- EOP inside a packet ends it. -/
theorem control_eop (x : Lane) (p : RxPacket) (w : BitVec 64) (ha : x.asm_ = some p) (k : typeOf w = some 0x4b) :
    x.control w = x.endPacket p w := by
  simp only [Lane.control, ha, k]

/-- The end of a packet whose CRC is right: whole where nothing spoilt it and the number of its blocks is right (R290, R291). -/
theorem endPacket_crc (x : Lane) (p : RxPacket) (w : BitVec 64) (c : Nat) (hc : (crc32 p.bytes).toNat = c) (u : wfld w 63 32 = c) :
    x.endPacket p w = if p.bad = true ∨ p.words.length ≠ p.blocks then (({ x with asm_ := none } : Lane).ctrlError, [.discarded p])
      else ({ x with asm_ := none }, [.packet p]) := by
  simp only [Lane.endPacket, u, hc, ne_eq, not_true, if_false, Bool.or_eq_true, decide_eq_true_eq]

/-- EOP with the right CRC, as it comes on the line. -/
theorem takeItem_eop (x : Lane) (q : RxPacket) (c : Nat) (y : Lane) (h2 : x.state = 2) (hp : x.pos ≠ lsyncPeriod)
    (hd : (x.noteHeader true).drowned = false) (hq : (x.noteHeader true).asm_ = some q) (hc : (crc32 q.bytes).toNat = c)
    (hy : y = { x.noteHeader true with scrambler := (scramble x.scrambler (ctrlWord 0x4b (c * 2 ^ 32))).2, pos := x.pos + 1 }) :
    x.takeItem (.block (ctrlBlock (scramble x.scrambler (ctrlWord 0x4b (c * 2 ^ 32))).1)) =
      if q.bad = true ∨ q.words.length ≠ q.blocks then (({ y with asm_ := none } : Lane).ctrlError, [.discarded q])
      else ({ y with asm_ := none }, [.packet q]) := by
  have lt : c < 2 ^ 32 := hc ▸ (crc32 q.bytes).isLt
  have a : y.asm_ = some q := by rw [hy]; exact hq
  rw [Lane.takeItem, takeBlock_ctrl x _ h2 hp hd, ← hy, control_eop y q _ a (typeOf_ctrlWord 0x4b c (by decide) lt),
    endPacket_crc y q _ c hc (upper_ctrlWord 0x4b c (by decide) lt)]

end Sys2Proof.Machine
end

