-- ==== Sys2Proof/Laws/Sparse.lean ====
section
/-! SUPPORT. Laws of sparse maps: what a key reads after a write, and that writes keep the canonical form. -/
namespace Sys2Proof.Machine

/-- A key below every key of a canonical map is not listed. -/
theorem SMap.get_of_lt {α : Type} [DecidableEq α] (d : α) (m : SMap α) (lo i : Nat) (h : SMap.okFrom d lo m = true) (hi : i < lo) :
    SMap.get d m i = d := by
  induction m generalizing lo with
  | nil => rfl
  | cons e m ih =>
    obtain ⟨k, v⟩ := e
    simp only [SMap.okFrom, Bool.and_eq_true, decide_eq_true_eq] at h
    rw [SMap.get, if_neg (by omega), ih (k + 1) h.2 (by omega)]

/-- The canonical form from a lower bound on. -/
theorem SMap.okFrom_mono {α : Type} [DecidableEq α] (d : α) (m : SMap α) (lo lo' : Nat) (h : SMap.okFrom d lo m = true) (hl : lo' ≤ lo) :
    SMap.okFrom d lo' m = true := by
  cases m with
  | nil => rfl
  | cons e m =>
    simp only [SMap.okFrom, Bool.and_eq_true, decide_eq_true_eq] at h ⊢
    exact ⟨⟨by omega, h.1.2⟩, h.2⟩

theorem SMap.get_insert {α : Type} [DecidableEq α] (d : α) (m : SMap α) (i j : Nat) (x : α) :
    SMap.get d (SMap.insert m i x) j = if j = i then x else SMap.get d m j := by
  induction m with
  | nil => rfl
  | cons e m ih =>
    obtain ⟨k, v⟩ := e
    simp only [SMap.insert]
    split
    · rfl
    · split
      · subst i; simp only [SMap.get]; split <;> rfl
      · simp only [SMap.get, ih]; split
        · rw [if_neg (by omega)]
        · rfl

theorem SMap.get_erase {α : Type} [DecidableEq α] (d : α) (m : SMap α) (lo i j : Nat) (h : SMap.okFrom d lo m = true) :
    SMap.get d (SMap.erase m i) j = if j = i then d else SMap.get d m j := by
  induction m generalizing lo with
  | nil => simp [SMap.erase, SMap.get]
  | cons e m ih =>
    obtain ⟨k, v⟩ := e
    simp only [SMap.okFrom, Bool.and_eq_true, decide_eq_true_eq] at h
    simp only [SMap.erase]
    split
    · subst i
      simp only [SMap.get]
      split
      · next e => exact SMap.get_of_lt d m (k + 1) j h.2 (by omega)
      · rfl
    · simp only [SMap.get, ih (k + 1) h.2]
      split
      · rw [if_neg (by omega)]
      · rfl

/-- What a key reads after another, or the same, has been set. -/
theorem SMap.get_put {α : Type} [DecidableEq α] (d : α) (m : SMap α) (i j : Nat) (x : α) (h : SMap.ok d m = true) :
    SMap.get d (SMap.put d m i x) j = if j = i then x else SMap.get d m j := by
  unfold SMap.put
  split
  · next e => rw [SMap.get_erase d m 0 i j h, e]
  · exact SMap.get_insert d m i j x

theorem SMap.okFrom_insert {α : Type} [DecidableEq α] (d : α) (m : SMap α) (lo i : Nat) (x : α) (h : SMap.okFrom d lo m = true)
    (hx : x ≠ d) (hi : lo ≤ i) : SMap.okFrom d lo (SMap.insert m i x) = true := by
  induction m generalizing lo with
  | nil => simp [SMap.insert, SMap.okFrom, hx, hi]
  | cons e m ih =>
    obtain ⟨k, v⟩ := e
    simp only [SMap.okFrom, Bool.and_eq_true, decide_eq_true_eq] at h
    simp only [SMap.insert]
    split
    · simp only [SMap.okFrom, Bool.and_eq_true, decide_eq_true_eq]
      exact ⟨⟨hi, hx⟩, ⟨by omega, h.1.2⟩, h.2⟩
    · split
      · subst i; simp only [SMap.okFrom, Bool.and_eq_true, decide_eq_true_eq]; exact ⟨⟨hi, hx⟩, h.2⟩
      · simp only [SMap.okFrom, Bool.and_eq_true, decide_eq_true_eq]
        exact ⟨h.1, ih (k + 1) h.2 (by omega)⟩

theorem SMap.okFrom_erase {α : Type} [DecidableEq α] (d : α) (m : SMap α) (lo i : Nat) (h : SMap.okFrom d lo m = true) :
    SMap.okFrom d lo (SMap.erase m i) = true := by
  induction m generalizing lo with
  | nil => rfl
  | cons e m ih =>
    obtain ⟨k, v⟩ := e
    simp only [SMap.okFrom, Bool.and_eq_true, decide_eq_true_eq] at h
    simp only [SMap.erase]
    split
    · exact SMap.okFrom_mono d m (k + 1) lo h.2 (by omega)
    · simp only [SMap.okFrom, Bool.and_eq_true, decide_eq_true_eq]; exact ⟨h.1, ih (k + 1) h.2⟩

/-- Setting a key keeps the canonical form. -/
theorem SMap.ok_put {α : Type} [DecidableEq α] (d : α) (m : SMap α) (i : Nat) (x : α) (h : SMap.ok d m = true) :
    SMap.ok d (SMap.put d m i x) = true := by
  unfold SMap.put
  split
  · exact SMap.okFrom_erase d m 0 i h
  · next e => exact SMap.okFrom_insert d m 0 i x h e (Nat.zero_le i)

/-- Writing bytes keeps the canonical form. -/
theorem SMap.ok_write (m : SMap Byte) (a : Nat) (bs : List Byte) (h : SMap.ok 0#8 m = true) : SMap.ok 0#8 (m.write a bs) = true := by
  induction bs generalizing m a with
  | nil => exact h
  | cons b bs ih => exact ih _ _ (SMap.ok_put 0#8 m a b h)

/-- What a byte reads after a write of several. -/
theorem SMap.get_write (m : SMap Byte) (a i : Nat) (bs : List Byte) (h : SMap.ok 0#8 m = true) :
    SMap.get 0#8 (m.write a bs) i = if a ≤ i ∧ i < a + bs.length then bs.getD (i - a) 0#8 else SMap.get 0#8 m i := by
  induction bs generalizing m a with
  | nil => rw [if_neg (by simp)]; rfl
  | cons b bs ih =>
    rw [SMap.write, ih _ _ (SMap.ok_put 0#8 m a b h), SMap.get_put 0#8 m a i b h]
    simp only [List.length_cons]
    by_cases e : i = a
    · subst e; rw [if_neg (by omega), if_pos rfl, if_pos (by omega), Nat.sub_self]; rfl
    · by_cases g : a + 1 ≤ i ∧ i < a + 1 + bs.length
      · rw [if_pos g, if_pos (by omega), show i - a = (i - (a + 1)) + 1 by omega]; rfl
      · rw [if_neg g, if_neg e, if_neg (by omega)]

/-- Bytes outside a write stay. -/
theorem SMap.get_write_outside (m : SMap Byte) (a i : Nat) (bs : List Byte) (h : SMap.ok 0#8 m = true) (hi : i < a ∨ a + bs.length ≤ i) :
    SMap.get 0#8 (m.write a bs) i = SMap.get 0#8 m i := by
  rw [SMap.get_write m a i bs h, if_neg (by omega)]

/-- The bytes of a range, one by one. -/
theorem SMap.bytes_eq (m : SMap Byte) (a n : Nat) : m.bytes a n = (List.range n).map (fun k => SMap.get 0#8 m (a + k)) := by
  induction n generalizing a with
  | zero => rfl
  | succ n ih =>
    rw [SMap.bytes, ih, List.range_succ_eq_map]
    simp [Function.comp_def, Nat.add_assoc, Nat.add_comm 1]

/-- What was written is read back. -/
theorem SMap.bytes_write (m : SMap Byte) (a : Nat) (bs : List Byte) (h : SMap.ok 0#8 m = true) : (m.write a bs).bytes a bs.length = bs := by
  rw [SMap.bytes_eq]
  apply List.ext_getElem
  · simp
  · intro k h1 h2
    simp only [List.getElem_map, List.getElem_range]
    rw [SMap.get_write m a (a + k) bs h, if_pos (by simp at h1; omega), Nat.add_sub_cancel_left, List.getD_eq_getElem _ _ h2]

/-- The element at a position after one is changed. -/
theorem getD_modAt {α : Type} (l : List α) (i j : Nat) (f : α → α) (d : α) :
    (modAt l i f).getD j d = if i = j ∧ j < l.length then f (l.getD j d) else l.getD j d := by
  unfold modAt
  simp only [List.getD_eq_getElem?_getD, List.getElem?_modify]
  by_cases h : j < l.length
  · simp only [List.getElem?_eq_getElem h, h, and_true]
    split <;> simp
  · simp [h]

/-- Changing an element keeps the length. -/
@[simp] theorem length_modAt {α : Type} (l : List α) (i : Nat) (f : α → α) : (modAt l i f).length = l.length := by
  simp [modAt]

end Sys2Proof.Machine
end

