-- ==== Sys2Proof/Laws/State.lean ====
section
/-! SUPPORT. What each named update of the state leaves alone: one lemma for each field and each update. -/
namespace Sys2Proof.Machine

/-! ## Updates of one part -/
@[simp] theorem State.modRing_now (s : State) (x : Nat) (f : Ring → Ring) : (s.modRing x f).now = s.now := rfl
@[simp] theorem State.modRing_pending (s : State) (x : Nat) (f : Ring → Ring) : (s.modRing x f).pending = s.pending := rfl
@[simp] theorem State.modRing_sup (s : State) (x : Nat) (f : Ring → Ring) : (s.modRing x f).sup = s.sup := rfl
@[simp] theorem State.modRing_thm (s : State) (x : Nat) (f : Ring → Ring) : (s.modRing x f).thm = s.thm := rfl
@[simp] theorem State.modRing_plt (s : State) (x : Nat) (f : Ring → Ring) : (s.modRing x f).plt = s.plt := rfl
@[simp] theorem State.modRing_cch (s : State) (x : Nat) (f : Ring → Ring) : (s.modRing x f).cch = s.cch := rfl
@[simp] theorem State.modRing_pa (s : State) (x : Nat) (f : Ring → Ring) : (s.modRing x f).pa = s.pa := rfl
@[simp] theorem State.modRing_pb (s : State) (x : Nat) (f : Ring → Ring) : (s.modRing x f).pb = s.pb := rfl
@[simp] theorem State.modRing_pcv (s : State) (x : Nat) (f : Ring → Ring) : (s.modRing x f).pcv = s.pcv := rfl
@[simp] theorem State.modRing_act (s : State) (x : Nat) (f : Ring → Ring) : (s.modRing x f).act = s.act := rfl
@[simp] theorem State.modRing_nl (s : State) (x : Nat) (f : Ring → Ring) : (s.modRing x f).nl = s.nl := rfl
@[simp] theorem State.modRing_drm (s : State) (x : Nat) (f : Ring → Ring) : (s.modRing x f).drm = s.drm := rfl
@[simp] theorem State.modRing_eng (s : State) (x : Nat) (f : Ring → Ring) : (s.modRing x f).eng = s.eng := rfl
@[simp] theorem State.modRing_saf (s : State) (x : Nat) (f : Ring → Ring) : (s.modRing x f).saf = s.saf := rfl
@[simp] theorem State.modRing_nv (s : State) (x : Nat) (f : Ring → Ring) : (s.modRing x f).nv = s.nv := rfl
@[simp] theorem State.modCh_now (s : State) (c : Nat) (f : ActCh → ActCh) : (s.modCh c f).now = s.now := rfl
@[simp] theorem State.modCh_pending (s : State) (c : Nat) (f : ActCh → ActCh) : (s.modCh c f).pending = s.pending := rfl
@[simp] theorem State.modCh_sup (s : State) (c : Nat) (f : ActCh → ActCh) : (s.modCh c f).sup = s.sup := rfl
@[simp] theorem State.modCh_thm (s : State) (c : Nat) (f : ActCh → ActCh) : (s.modCh c f).thm = s.thm := rfl
@[simp] theorem State.modCh_hif (s : State) (c : Nat) (f : ActCh → ActCh) : (s.modCh c f).hif = s.hif := rfl
@[simp] theorem State.modCh_plt (s : State) (c : Nat) (f : ActCh → ActCh) : (s.modCh c f).plt = s.plt := rfl
@[simp] theorem State.modCh_cch (s : State) (c : Nat) (f : ActCh → ActCh) : (s.modCh c f).cch = s.cch := rfl
@[simp] theorem State.modCh_pa (s : State) (c : Nat) (f : ActCh → ActCh) : (s.modCh c f).pa = s.pa := rfl
@[simp] theorem State.modCh_pb (s : State) (c : Nat) (f : ActCh → ActCh) : (s.modCh c f).pb = s.pb := rfl
@[simp] theorem State.modCh_pcv (s : State) (c : Nat) (f : ActCh → ActCh) : (s.modCh c f).pcv = s.pcv := rfl
@[simp] theorem State.modCh_nl (s : State) (c : Nat) (f : ActCh → ActCh) : (s.modCh c f).nl = s.nl := rfl
@[simp] theorem State.modCh_drm (s : State) (c : Nat) (f : ActCh → ActCh) : (s.modCh c f).drm = s.drm := rfl
@[simp] theorem State.modCh_eng (s : State) (c : Nat) (f : ActCh → ActCh) : (s.modCh c f).eng = s.eng := rfl
@[simp] theorem State.modCh_saf (s : State) (c : Nat) (f : ActCh → ActCh) : (s.modCh c f).saf = s.saf := rfl
@[simp] theorem State.modCh_nv (s : State) (c : Nat) (f : ActCh → ActCh) : (s.modCh c f).nv = s.nv := rfl
@[simp] theorem State.modDram_now (s : State) (c : Nat) (f : DramCh → DramCh) : (s.modDram c f).now = s.now := rfl
@[simp] theorem State.modDram_pending (s : State) (c : Nat) (f : DramCh → DramCh) : (s.modDram c f).pending = s.pending := rfl
@[simp] theorem State.modDram_sup (s : State) (c : Nat) (f : DramCh → DramCh) : (s.modDram c f).sup = s.sup := rfl
@[simp] theorem State.modDram_thm (s : State) (c : Nat) (f : DramCh → DramCh) : (s.modDram c f).thm = s.thm := rfl
@[simp] theorem State.modDram_hif (s : State) (c : Nat) (f : DramCh → DramCh) : (s.modDram c f).hif = s.hif := rfl
@[simp] theorem State.modDram_plt (s : State) (c : Nat) (f : DramCh → DramCh) : (s.modDram c f).plt = s.plt := rfl
@[simp] theorem State.modDram_cch (s : State) (c : Nat) (f : DramCh → DramCh) : (s.modDram c f).cch = s.cch := rfl
@[simp] theorem State.modDram_pa (s : State) (c : Nat) (f : DramCh → DramCh) : (s.modDram c f).pa = s.pa := rfl
@[simp] theorem State.modDram_pb (s : State) (c : Nat) (f : DramCh → DramCh) : (s.modDram c f).pb = s.pb := rfl
@[simp] theorem State.modDram_pcv (s : State) (c : Nat) (f : DramCh → DramCh) : (s.modDram c f).pcv = s.pcv := rfl
@[simp] theorem State.modDram_act (s : State) (c : Nat) (f : DramCh → DramCh) : (s.modDram c f).act = s.act := rfl
@[simp] theorem State.modDram_nl (s : State) (c : Nat) (f : DramCh → DramCh) : (s.modDram c f).nl = s.nl := rfl
@[simp] theorem State.modDram_eng (s : State) (c : Nat) (f : DramCh → DramCh) : (s.modDram c f).eng = s.eng := rfl
@[simp] theorem State.modDram_saf (s : State) (c : Nat) (f : DramCh → DramCh) : (s.modDram c f).saf = s.saf := rfl
@[simp] theorem State.modDram_nv (s : State) (c : Nat) (f : DramCh → DramCh) : (s.modDram c f).nv = s.nv := rfl
@[simp] theorem State.modSheaf_now (s : State) (i : Nat) (f : Sheaf → Sheaf) : (s.modSheaf i f).now = s.now := rfl
@[simp] theorem State.modSheaf_pending (s : State) (i : Nat) (f : Sheaf → Sheaf) : (s.modSheaf i f).pending = s.pending := rfl
@[simp] theorem State.modSheaf_sup (s : State) (i : Nat) (f : Sheaf → Sheaf) : (s.modSheaf i f).sup = s.sup := rfl
@[simp] theorem State.modSheaf_thm (s : State) (i : Nat) (f : Sheaf → Sheaf) : (s.modSheaf i f).thm = s.thm := rfl
@[simp] theorem State.modSheaf_hif (s : State) (i : Nat) (f : Sheaf → Sheaf) : (s.modSheaf i f).hif = s.hif := rfl
@[simp] theorem State.modSheaf_plt (s : State) (i : Nat) (f : Sheaf → Sheaf) : (s.modSheaf i f).plt = s.plt := rfl
@[simp] theorem State.modSheaf_cch (s : State) (i : Nat) (f : Sheaf → Sheaf) : (s.modSheaf i f).cch = s.cch := rfl
@[simp] theorem State.modSheaf_pa (s : State) (i : Nat) (f : Sheaf → Sheaf) : (s.modSheaf i f).pa = s.pa := rfl
@[simp] theorem State.modSheaf_pb (s : State) (i : Nat) (f : Sheaf → Sheaf) : (s.modSheaf i f).pb = s.pb := rfl
@[simp] theorem State.modSheaf_pcv (s : State) (i : Nat) (f : Sheaf → Sheaf) : (s.modSheaf i f).pcv = s.pcv := rfl
@[simp] theorem State.modSheaf_act (s : State) (i : Nat) (f : Sheaf → Sheaf) : (s.modSheaf i f).act = s.act := rfl
@[simp] theorem State.modSheaf_nl (s : State) (i : Nat) (f : Sheaf → Sheaf) : (s.modSheaf i f).nl = s.nl := rfl
@[simp] theorem State.modSheaf_drm (s : State) (i : Nat) (f : Sheaf → Sheaf) : (s.modSheaf i f).drm = s.drm := rfl
@[simp] theorem State.modSheaf_saf (s : State) (i : Nat) (f : Sheaf → Sheaf) : (s.modSheaf i f).saf = s.saf := rfl
@[simp] theorem State.modSheaf_nv (s : State) (i : Nat) (f : Sheaf → Sheaf) : (s.modSheaf i f).nv = s.nv := rfl
@[simp] theorem State.modUnit_now (s : State) (i : Nat) (f : UnitCnt → UnitCnt) : (s.modUnit i f).now = s.now := rfl
@[simp] theorem State.modUnit_pending (s : State) (i : Nat) (f : UnitCnt → UnitCnt) : (s.modUnit i f).pending = s.pending := rfl
@[simp] theorem State.modUnit_sup (s : State) (i : Nat) (f : UnitCnt → UnitCnt) : (s.modUnit i f).sup = s.sup := rfl
@[simp] theorem State.modUnit_thm (s : State) (i : Nat) (f : UnitCnt → UnitCnt) : (s.modUnit i f).thm = s.thm := rfl
@[simp] theorem State.modUnit_hif (s : State) (i : Nat) (f : UnitCnt → UnitCnt) : (s.modUnit i f).hif = s.hif := rfl
@[simp] theorem State.modUnit_plt (s : State) (i : Nat) (f : UnitCnt → UnitCnt) : (s.modUnit i f).plt = s.plt := rfl
@[simp] theorem State.modUnit_cch (s : State) (i : Nat) (f : UnitCnt → UnitCnt) : (s.modUnit i f).cch = s.cch := rfl
@[simp] theorem State.modUnit_pa (s : State) (i : Nat) (f : UnitCnt → UnitCnt) : (s.modUnit i f).pa = s.pa := rfl
@[simp] theorem State.modUnit_pb (s : State) (i : Nat) (f : UnitCnt → UnitCnt) : (s.modUnit i f).pb = s.pb := rfl
@[simp] theorem State.modUnit_pcv (s : State) (i : Nat) (f : UnitCnt → UnitCnt) : (s.modUnit i f).pcv = s.pcv := rfl
@[simp] theorem State.modUnit_act (s : State) (i : Nat) (f : UnitCnt → UnitCnt) : (s.modUnit i f).act = s.act := rfl
@[simp] theorem State.modUnit_nl (s : State) (i : Nat) (f : UnitCnt → UnitCnt) : (s.modUnit i f).nl = s.nl := rfl
@[simp] theorem State.modUnit_drm (s : State) (i : Nat) (f : UnitCnt → UnitCnt) : (s.modUnit i f).drm = s.drm := rfl
@[simp] theorem State.modUnit_saf (s : State) (i : Nat) (f : UnitCnt → UnitCnt) : (s.modUnit i f).saf = s.saf := rfl
@[simp] theorem State.modUnit_nv (s : State) (i : Nat) (f : UnitCnt → UnitCnt) : (s.modUnit i f).nv = s.nv := rfl
@[simp] theorem State.modLane_now (s : State) (l : Nat) (f : Lane → Lane) : (s.modLane l f).now = s.now := rfl
@[simp] theorem State.modLane_pending (s : State) (l : Nat) (f : Lane → Lane) : (s.modLane l f).pending = s.pending := rfl
@[simp] theorem State.modLane_sup (s : State) (l : Nat) (f : Lane → Lane) : (s.modLane l f).sup = s.sup := rfl
@[simp] theorem State.modLane_thm (s : State) (l : Nat) (f : Lane → Lane) : (s.modLane l f).thm = s.thm := rfl
@[simp] theorem State.modLane_hif (s : State) (l : Nat) (f : Lane → Lane) : (s.modLane l f).hif = s.hif := rfl
@[simp] theorem State.modLane_plt (s : State) (l : Nat) (f : Lane → Lane) : (s.modLane l f).plt = s.plt := rfl
@[simp] theorem State.modLane_cch (s : State) (l : Nat) (f : Lane → Lane) : (s.modLane l f).cch = s.cch := rfl
@[simp] theorem State.modLane_pa (s : State) (l : Nat) (f : Lane → Lane) : (s.modLane l f).pa = s.pa := rfl
@[simp] theorem State.modLane_pb (s : State) (l : Nat) (f : Lane → Lane) : (s.modLane l f).pb = s.pb := rfl
@[simp] theorem State.modLane_pcv (s : State) (l : Nat) (f : Lane → Lane) : (s.modLane l f).pcv = s.pcv := rfl
@[simp] theorem State.modLane_act (s : State) (l : Nat) (f : Lane → Lane) : (s.modLane l f).act = s.act := rfl
@[simp] theorem State.modLane_drm (s : State) (l : Nat) (f : Lane → Lane) : (s.modLane l f).drm = s.drm := rfl
@[simp] theorem State.modLane_eng (s : State) (l : Nat) (f : Lane → Lane) : (s.modLane l f).eng = s.eng := rfl
@[simp] theorem State.modLane_saf (s : State) (l : Nat) (f : Lane → Lane) : (s.modLane l f).saf = s.saf := rfl
@[simp] theorem State.modLane_nv (s : State) (l : Nat) (f : Lane → Lane) : (s.modLane l f).nv = s.nv := rfl
@[simp] theorem State.modComp_now (s : State) (f : Comp → Comp) : (s.modComp f).now = s.now := rfl
@[simp] theorem State.modComp_pending (s : State) (f : Comp → Comp) : (s.modComp f).pending = s.pending := rfl
@[simp] theorem State.modComp_sup (s : State) (f : Comp → Comp) : (s.modComp f).sup = s.sup := rfl
@[simp] theorem State.modComp_thm (s : State) (f : Comp → Comp) : (s.modComp f).thm = s.thm := rfl
@[simp] theorem State.modComp_hif (s : State) (f : Comp → Comp) : (s.modComp f).hif = s.hif := rfl
@[simp] theorem State.modComp_plt (s : State) (f : Comp → Comp) : (s.modComp f).plt = s.plt := rfl
@[simp] theorem State.modComp_cch (s : State) (f : Comp → Comp) : (s.modComp f).cch = s.cch := rfl
@[simp] theorem State.modComp_pa (s : State) (f : Comp → Comp) : (s.modComp f).pa = s.pa := rfl
@[simp] theorem State.modComp_pb (s : State) (f : Comp → Comp) : (s.modComp f).pb = s.pb := rfl
@[simp] theorem State.modComp_pcv (s : State) (f : Comp → Comp) : (s.modComp f).pcv = s.pcv := rfl
@[simp] theorem State.modComp_act (s : State) (f : Comp → Comp) : (s.modComp f).act = s.act := rfl
@[simp] theorem State.modComp_drm (s : State) (f : Comp → Comp) : (s.modComp f).drm = s.drm := rfl
@[simp] theorem State.modComp_eng (s : State) (f : Comp → Comp) : (s.modComp f).eng = s.eng := rfl
@[simp] theorem State.modComp_saf (s : State) (f : Comp → Comp) : (s.modComp f).saf = s.saf := rfl
@[simp] theorem State.modComp_nv (s : State) (f : Comp → Comp) : (s.modComp f).nv = s.nv := rfl
@[simp] theorem State.setGrp_now (s : State) (g : Nat) (x : Group) : (s.setGrp g x).now = s.now := rfl
@[simp] theorem State.setGrp_pending (s : State) (g : Nat) (x : Group) : (s.setGrp g x).pending = s.pending := rfl
@[simp] theorem State.setGrp_sup (s : State) (g : Nat) (x : Group) : (s.setGrp g x).sup = s.sup := rfl
@[simp] theorem State.setGrp_thm (s : State) (g : Nat) (x : Group) : (s.setGrp g x).thm = s.thm := rfl
@[simp] theorem State.setGrp_hif (s : State) (g : Nat) (x : Group) : (s.setGrp g x).hif = s.hif := rfl
@[simp] theorem State.setGrp_plt (s : State) (g : Nat) (x : Group) : (s.setGrp g x).plt = s.plt := rfl
@[simp] theorem State.setGrp_pa (s : State) (g : Nat) (x : Group) : (s.setGrp g x).pa = s.pa := rfl
@[simp] theorem State.setGrp_pb (s : State) (g : Nat) (x : Group) : (s.setGrp g x).pb = s.pb := rfl
@[simp] theorem State.setGrp_pcv (s : State) (g : Nat) (x : Group) : (s.setGrp g x).pcv = s.pcv := rfl
@[simp] theorem State.setGrp_act (s : State) (g : Nat) (x : Group) : (s.setGrp g x).act = s.act := rfl
@[simp] theorem State.setGrp_nl (s : State) (g : Nat) (x : Group) : (s.setGrp g x).nl = s.nl := rfl
@[simp] theorem State.setGrp_drm (s : State) (g : Nat) (x : Group) : (s.setGrp g x).drm = s.drm := rfl
@[simp] theorem State.setGrp_eng (s : State) (g : Nat) (x : Group) : (s.setGrp g x).eng = s.eng := rfl
@[simp] theorem State.setGrp_saf (s : State) (g : Nat) (x : Group) : (s.setGrp g x).saf = s.saf := rfl
@[simp] theorem State.setGrp_nv (s : State) (g : Nat) (x : Group) : (s.setGrp g x).nv = s.nv := rfl
@[simp] theorem State.setChan_now (s : State) (g j : Nat) (x : Chan) : (s.setChan g j x).now = s.now := rfl
@[simp] theorem State.setChan_pending (s : State) (g j : Nat) (x : Chan) : (s.setChan g j x).pending = s.pending := rfl
@[simp] theorem State.setChan_sup (s : State) (g j : Nat) (x : Chan) : (s.setChan g j x).sup = s.sup := rfl
@[simp] theorem State.setChan_thm (s : State) (g j : Nat) (x : Chan) : (s.setChan g j x).thm = s.thm := rfl
@[simp] theorem State.setChan_hif (s : State) (g j : Nat) (x : Chan) : (s.setChan g j x).hif = s.hif := rfl
@[simp] theorem State.setChan_plt (s : State) (g j : Nat) (x : Chan) : (s.setChan g j x).plt = s.plt := rfl
@[simp] theorem State.setChan_pa (s : State) (g j : Nat) (x : Chan) : (s.setChan g j x).pa = s.pa := rfl
@[simp] theorem State.setChan_pb (s : State) (g j : Nat) (x : Chan) : (s.setChan g j x).pb = s.pb := rfl
@[simp] theorem State.setChan_pcv (s : State) (g j : Nat) (x : Chan) : (s.setChan g j x).pcv = s.pcv := rfl
@[simp] theorem State.setChan_act (s : State) (g j : Nat) (x : Chan) : (s.setChan g j x).act = s.act := rfl
@[simp] theorem State.setChan_nl (s : State) (g j : Nat) (x : Chan) : (s.setChan g j x).nl = s.nl := rfl
@[simp] theorem State.setChan_drm (s : State) (g j : Nat) (x : Chan) : (s.setChan g j x).drm = s.drm := rfl
@[simp] theorem State.setChan_eng (s : State) (g j : Nat) (x : Chan) : (s.setChan g j x).eng = s.eng := rfl
@[simp] theorem State.setChan_saf (s : State) (g j : Nat) (x : Chan) : (s.setChan g j x).saf = s.saf := rfl
@[simp] theorem State.setChan_nv (s : State) (g j : Nat) (x : Chan) : (s.setChan g j x).nv = s.nv := rfl
@[simp] theorem State.modEntry_now (s : State) (i : Nat) (f : Entry → Entry) : (s.modEntry i f).now = s.now := rfl
@[simp] theorem State.modEntry_pending (s : State) (i : Nat) (f : Entry → Entry) : (s.modEntry i f).pending = s.pending := rfl
@[simp] theorem State.modEntry_sup (s : State) (i : Nat) (f : Entry → Entry) : (s.modEntry i f).sup = s.sup := rfl
@[simp] theorem State.modEntry_thm (s : State) (i : Nat) (f : Entry → Entry) : (s.modEntry i f).thm = s.thm := rfl
@[simp] theorem State.modEntry_hif (s : State) (i : Nat) (f : Entry → Entry) : (s.modEntry i f).hif = s.hif := rfl
@[simp] theorem State.modEntry_plt (s : State) (i : Nat) (f : Entry → Entry) : (s.modEntry i f).plt = s.plt := rfl
@[simp] theorem State.modEntry_cch (s : State) (i : Nat) (f : Entry → Entry) : (s.modEntry i f).cch = s.cch := rfl
@[simp] theorem State.modEntry_pa (s : State) (i : Nat) (f : Entry → Entry) : (s.modEntry i f).pa = s.pa := rfl
@[simp] theorem State.modEntry_pb (s : State) (i : Nat) (f : Entry → Entry) : (s.modEntry i f).pb = s.pb := rfl
@[simp] theorem State.modEntry_act (s : State) (i : Nat) (f : Entry → Entry) : (s.modEntry i f).act = s.act := rfl
@[simp] theorem State.modEntry_nl (s : State) (i : Nat) (f : Entry → Entry) : (s.modEntry i f).nl = s.nl := rfl
@[simp] theorem State.modEntry_drm (s : State) (i : Nat) (f : Entry → Entry) : (s.modEntry i f).drm = s.drm := rfl
@[simp] theorem State.modEntry_eng (s : State) (i : Nat) (f : Entry → Entry) : (s.modEntry i f).eng = s.eng := rfl
@[simp] theorem State.modEntry_saf (s : State) (i : Nat) (f : Entry → Entry) : (s.modEntry i f).saf = s.saf := rfl
@[simp] theorem State.modEntry_nv (s : State) (i : Nat) (f : Entry → Entry) : (s.modEntry i f).nv = s.nv := rfl
@[simp] theorem State.setModu_now (s : State) (m : Nat) (x : Modulator) : (s.setModu m x).now = s.now := rfl
@[simp] theorem State.setModu_pending (s : State) (m : Nat) (x : Modulator) : (s.setModu m x).pending = s.pending := rfl
@[simp] theorem State.setModu_sup (s : State) (m : Nat) (x : Modulator) : (s.setModu m x).sup = s.sup := rfl
@[simp] theorem State.setModu_thm (s : State) (m : Nat) (x : Modulator) : (s.setModu m x).thm = s.thm := rfl
@[simp] theorem State.setModu_hif (s : State) (m : Nat) (x : Modulator) : (s.setModu m x).hif = s.hif := rfl
@[simp] theorem State.setModu_plt (s : State) (m : Nat) (x : Modulator) : (s.setModu m x).plt = s.plt := rfl
@[simp] theorem State.setModu_cch (s : State) (m : Nat) (x : Modulator) : (s.setModu m x).cch = s.cch := rfl
@[simp] theorem State.setModu_pa (s : State) (m : Nat) (x : Modulator) : (s.setModu m x).pa = s.pa := rfl
@[simp] theorem State.setModu_pb (s : State) (m : Nat) (x : Modulator) : (s.setModu m x).pb = s.pb := rfl
@[simp] theorem State.setModu_act (s : State) (m : Nat) (x : Modulator) : (s.setModu m x).act = s.act := rfl
@[simp] theorem State.setModu_nl (s : State) (m : Nat) (x : Modulator) : (s.setModu m x).nl = s.nl := rfl
@[simp] theorem State.setModu_drm (s : State) (m : Nat) (x : Modulator) : (s.setModu m x).drm = s.drm := rfl
@[simp] theorem State.setModu_eng (s : State) (m : Nat) (x : Modulator) : (s.setModu m x).eng = s.eng := rfl
@[simp] theorem State.setModu_saf (s : State) (m : Nat) (x : Modulator) : (s.setModu m x).saf = s.saf := rfl
@[simp] theorem State.setModu_nv (s : State) (m : Nat) (x : Modulator) : (s.setModu m x).nv = s.nv := rfl
@[simp] theorem State.modPort_now (s : State) (i : Nat) (f : SpiPort → SpiPort) : (s.modPort i f).now = s.now := rfl
@[simp] theorem State.modPort_pending (s : State) (i : Nat) (f : SpiPort → SpiPort) : (s.modPort i f).pending = s.pending := rfl
@[simp] theorem State.modPort_sup (s : State) (i : Nat) (f : SpiPort → SpiPort) : (s.modPort i f).sup = s.sup := rfl
@[simp] theorem State.modPort_thm (s : State) (i : Nat) (f : SpiPort → SpiPort) : (s.modPort i f).thm = s.thm := rfl
@[simp] theorem State.modPort_hif (s : State) (i : Nat) (f : SpiPort → SpiPort) : (s.modPort i f).hif = s.hif := rfl
@[simp] theorem State.modPort_plt (s : State) (i : Nat) (f : SpiPort → SpiPort) : (s.modPort i f).plt = s.plt := rfl
@[simp] theorem State.modPort_cch (s : State) (i : Nat) (f : SpiPort → SpiPort) : (s.modPort i f).cch = s.cch := rfl
@[simp] theorem State.modPort_pa (s : State) (i : Nat) (f : SpiPort → SpiPort) : (s.modPort i f).pa = s.pa := rfl
@[simp] theorem State.modPort_pb (s : State) (i : Nat) (f : SpiPort → SpiPort) : (s.modPort i f).pb = s.pb := rfl
@[simp] theorem State.modPort_pcv (s : State) (i : Nat) (f : SpiPort → SpiPort) : (s.modPort i f).pcv = s.pcv := rfl
@[simp] theorem State.modPort_act (s : State) (i : Nat) (f : SpiPort → SpiPort) : (s.modPort i f).act = s.act := rfl
@[simp] theorem State.modPort_nl (s : State) (i : Nat) (f : SpiPort → SpiPort) : (s.modPort i f).nl = s.nl := rfl
@[simp] theorem State.modPort_drm (s : State) (i : Nat) (f : SpiPort → SpiPort) : (s.modPort i f).drm = s.drm := rfl
@[simp] theorem State.modPort_eng (s : State) (i : Nat) (f : SpiPort → SpiPort) : (s.modPort i f).eng = s.eng := rfl
@[simp] theorem State.modPort_nv (s : State) (i : Nat) (f : SpiPort → SpiPort) : (s.modPort i f).nv = s.nv := rfl
@[simp] theorem State.logCause_now (s : State) (k c : Nat) (a : List Nat) : (s.logCause k c a).now = s.now := rfl
@[simp] theorem State.logCause_pending (s : State) (k c : Nat) (a : List Nat) : (s.logCause k c a).pending = s.pending := rfl
@[simp] theorem State.logCause_thm (s : State) (k c : Nat) (a : List Nat) : (s.logCause k c a).thm = s.thm := rfl
@[simp] theorem State.logCause_hif (s : State) (k c : Nat) (a : List Nat) : (s.logCause k c a).hif = s.hif := rfl
@[simp] theorem State.logCause_plt (s : State) (k c : Nat) (a : List Nat) : (s.logCause k c a).plt = s.plt := rfl
@[simp] theorem State.logCause_cch (s : State) (k c : Nat) (a : List Nat) : (s.logCause k c a).cch = s.cch := rfl
@[simp] theorem State.logCause_pa (s : State) (k c : Nat) (a : List Nat) : (s.logCause k c a).pa = s.pa := rfl
@[simp] theorem State.logCause_pb (s : State) (k c : Nat) (a : List Nat) : (s.logCause k c a).pb = s.pb := rfl
@[simp] theorem State.logCause_pcv (s : State) (k c : Nat) (a : List Nat) : (s.logCause k c a).pcv = s.pcv := rfl
@[simp] theorem State.logCause_act (s : State) (k c : Nat) (a : List Nat) : (s.logCause k c a).act = s.act := rfl
@[simp] theorem State.logCause_nl (s : State) (k c : Nat) (a : List Nat) : (s.logCause k c a).nl = s.nl := rfl
@[simp] theorem State.logCause_drm (s : State) (k c : Nat) (a : List Nat) : (s.logCause k c a).drm = s.drm := rfl
@[simp] theorem State.logCause_eng (s : State) (k c : Nat) (a : List Nat) : (s.logCause k c a).eng = s.eng := rfl
@[simp] theorem State.logCause_saf (s : State) (k c : Nat) (a : List Nat) : (s.logCause k c a).saf = s.saf := rfl
@[simp] theorem State.logCause_nv (s : State) (k c : Nat) (a : List Nat) : (s.logCause k c a).nv = s.nv := rfl
@[simp] theorem State.takeCmd_now (s : State) : (s.takeCmd).now = s.now := rfl
@[simp] theorem State.takeCmd_pending (s : State) : (s.takeCmd).pending = s.pending := rfl
@[simp] theorem State.takeCmd_sup (s : State) : (s.takeCmd).sup = s.sup := rfl
@[simp] theorem State.takeCmd_thm (s : State) : (s.takeCmd).thm = s.thm := rfl
@[simp] theorem State.takeCmd_plt (s : State) : (s.takeCmd).plt = s.plt := rfl
@[simp] theorem State.takeCmd_cch (s : State) : (s.takeCmd).cch = s.cch := rfl
@[simp] theorem State.takeCmd_pa (s : State) : (s.takeCmd).pa = s.pa := rfl
@[simp] theorem State.takeCmd_pb (s : State) : (s.takeCmd).pb = s.pb := rfl
@[simp] theorem State.takeCmd_pcv (s : State) : (s.takeCmd).pcv = s.pcv := rfl
@[simp] theorem State.takeCmd_act (s : State) : (s.takeCmd).act = s.act := rfl
@[simp] theorem State.takeCmd_nl (s : State) : (s.takeCmd).nl = s.nl := rfl
@[simp] theorem State.takeCmd_drm (s : State) : (s.takeCmd).drm = s.drm := rfl
@[simp] theorem State.takeCmd_eng (s : State) : (s.takeCmd).eng = s.eng := rfl
@[simp] theorem State.takeCmd_saf (s : State) : (s.takeCmd).saf = s.saf := rfl
@[simp] theorem State.takeCmd_nv (s : State) : (s.takeCmd).nv = s.nv := rfl
@[simp] theorem State.endCycles_now (s : State) : (s.endCycles).now = s.now := rfl
@[simp] theorem State.endCycles_pending (s : State) : (s.endCycles).pending = s.pending := rfl
@[simp] theorem State.endCycles_sup (s : State) : (s.endCycles).sup = s.sup := rfl
@[simp] theorem State.endCycles_thm (s : State) : (s.endCycles).thm = s.thm := rfl
@[simp] theorem State.endCycles_hif (s : State) : (s.endCycles).hif = s.hif := rfl
@[simp] theorem State.endCycles_plt (s : State) : (s.endCycles).plt = s.plt := rfl
@[simp] theorem State.endCycles_pa (s : State) : (s.endCycles).pa = s.pa := rfl
@[simp] theorem State.endCycles_pb (s : State) : (s.endCycles).pb = s.pb := rfl
@[simp] theorem State.endCycles_pcv (s : State) : (s.endCycles).pcv = s.pcv := rfl
@[simp] theorem State.endCycles_act (s : State) : (s.endCycles).act = s.act := rfl
@[simp] theorem State.endCycles_nl (s : State) : (s.endCycles).nl = s.nl := rfl
@[simp] theorem State.endCycles_drm (s : State) : (s.endCycles).drm = s.drm := rfl
@[simp] theorem State.endCycles_eng (s : State) : (s.endCycles).eng = s.eng := rfl
@[simp] theorem State.endCycles_saf (s : State) : (s.endCycles).saf = s.saf := rfl
@[simp] theorem State.endCycles_nv (s : State) : (s.endCycles).nv = s.nv := rfl

/-! ## Pipelines -/

@[simp] theorem State.setPl_now (s : State) (p : Pipe) (x : Pl) : (s.setPl p x).now = s.now := by cases p <;> rfl
@[simp] theorem State.setPl_pending (s : State) (p : Pipe) (x : Pl) : (s.setPl p x).pending = s.pending := by cases p <;> rfl
@[simp] theorem State.setPl_sup (s : State) (p : Pipe) (x : Pl) : (s.setPl p x).sup = s.sup := by cases p <;> rfl
@[simp] theorem State.setPl_thm (s : State) (p : Pipe) (x : Pl) : (s.setPl p x).thm = s.thm := by cases p <;> rfl
@[simp] theorem State.setPl_hif (s : State) (p : Pipe) (x : Pl) : (s.setPl p x).hif = s.hif := by cases p <;> rfl
@[simp] theorem State.setPl_plt (s : State) (p : Pipe) (x : Pl) : (s.setPl p x).plt = s.plt := by cases p <;> rfl
@[simp] theorem State.setPl_cch (s : State) (p : Pipe) (x : Pl) : (s.setPl p x).cch = s.cch := by cases p <;> rfl
@[simp] theorem State.setPl_pcv (s : State) (p : Pipe) (x : Pl) : (s.setPl p x).pcv = s.pcv := by cases p <;> rfl
@[simp] theorem State.setPl_act (s : State) (p : Pipe) (x : Pl) : (s.setPl p x).act = s.act := by cases p <;> rfl
@[simp] theorem State.setPl_nl (s : State) (p : Pipe) (x : Pl) : (s.setPl p x).nl = s.nl := by cases p <;> rfl
@[simp] theorem State.setPl_drm (s : State) (p : Pipe) (x : Pl) : (s.setPl p x).drm = s.drm := by cases p <;> rfl
@[simp] theorem State.setPl_eng (s : State) (p : Pipe) (x : Pl) : (s.setPl p x).eng = s.eng := by cases p <;> rfl
@[simp] theorem State.setPl_saf (s : State) (p : Pipe) (x : Pl) : (s.setPl p x).saf = s.saf := by cases p <;> rfl
@[simp] theorem State.setPl_nv (s : State) (p : Pipe) (x : Pl) : (s.setPl p x).nv = s.nv := by cases p <;> rfl
@[simp] theorem State.modPl_now (s : State) (p : Pipe) (f : Pl → Pl) : (s.modPl p f).now = s.now := by cases p <;> rfl
@[simp] theorem State.modPl_pending (s : State) (p : Pipe) (f : Pl → Pl) : (s.modPl p f).pending = s.pending := by cases p <;> rfl
@[simp] theorem State.modPl_sup (s : State) (p : Pipe) (f : Pl → Pl) : (s.modPl p f).sup = s.sup := by cases p <;> rfl
@[simp] theorem State.modPl_thm (s : State) (p : Pipe) (f : Pl → Pl) : (s.modPl p f).thm = s.thm := by cases p <;> rfl
@[simp] theorem State.modPl_hif (s : State) (p : Pipe) (f : Pl → Pl) : (s.modPl p f).hif = s.hif := by cases p <;> rfl
@[simp] theorem State.modPl_plt (s : State) (p : Pipe) (f : Pl → Pl) : (s.modPl p f).plt = s.plt := by cases p <;> rfl
@[simp] theorem State.modPl_cch (s : State) (p : Pipe) (f : Pl → Pl) : (s.modPl p f).cch = s.cch := by cases p <;> rfl
@[simp] theorem State.modPl_pcv (s : State) (p : Pipe) (f : Pl → Pl) : (s.modPl p f).pcv = s.pcv := by cases p <;> rfl
@[simp] theorem State.modPl_act (s : State) (p : Pipe) (f : Pl → Pl) : (s.modPl p f).act = s.act := by cases p <;> rfl
@[simp] theorem State.modPl_nl (s : State) (p : Pipe) (f : Pl → Pl) : (s.modPl p f).nl = s.nl := by cases p <;> rfl
@[simp] theorem State.modPl_drm (s : State) (p : Pipe) (f : Pl → Pl) : (s.modPl p f).drm = s.drm := by cases p <;> rfl
@[simp] theorem State.modPl_eng (s : State) (p : Pipe) (f : Pl → Pl) : (s.modPl p f).eng = s.eng := by cases p <;> rfl
@[simp] theorem State.modPl_saf (s : State) (p : Pipe) (f : Pl → Pl) : (s.modPl p f).saf = s.saf := by cases p <;> rfl
@[simp] theorem State.modPl_nv (s : State) (p : Pipe) (f : Pl → Pl) : (s.modPl p f).nv = s.nv := by cases p <;> rfl
@[simp] theorem State.accept_now (s : State) (p : Pipe) (f : Settings → Settings) : (s.accept p f).now = s.now := by cases p <;> rfl
@[simp] theorem State.accept_pending (s : State) (p : Pipe) (f : Settings → Settings) : (s.accept p f).pending = s.pending := by cases p <;> rfl
@[simp] theorem State.accept_sup (s : State) (p : Pipe) (f : Settings → Settings) : (s.accept p f).sup = s.sup := by cases p <;> rfl
@[simp] theorem State.accept_thm (s : State) (p : Pipe) (f : Settings → Settings) : (s.accept p f).thm = s.thm := by cases p <;> rfl
@[simp] theorem State.accept_hif (s : State) (p : Pipe) (f : Settings → Settings) : (s.accept p f).hif = s.hif := by cases p <;> rfl
@[simp] theorem State.accept_plt (s : State) (p : Pipe) (f : Settings → Settings) : (s.accept p f).plt = s.plt := by cases p <;> rfl
@[simp] theorem State.accept_cch (s : State) (p : Pipe) (f : Settings → Settings) : (s.accept p f).cch = s.cch := by cases p <;> rfl
@[simp] theorem State.accept_pcv (s : State) (p : Pipe) (f : Settings → Settings) : (s.accept p f).pcv = s.pcv := by cases p <;> rfl
@[simp] theorem State.accept_act (s : State) (p : Pipe) (f : Settings → Settings) : (s.accept p f).act = s.act := by cases p <;> rfl
@[simp] theorem State.accept_nl (s : State) (p : Pipe) (f : Settings → Settings) : (s.accept p f).nl = s.nl := by cases p <;> rfl
@[simp] theorem State.accept_drm (s : State) (p : Pipe) (f : Settings → Settings) : (s.accept p f).drm = s.drm := by cases p <;> rfl
@[simp] theorem State.accept_eng (s : State) (p : Pipe) (f : Settings → Settings) : (s.accept p f).eng = s.eng := by cases p <;> rfl
@[simp] theorem State.accept_saf (s : State) (p : Pipe) (f : Settings → Settings) : (s.accept p f).saf = s.saf := by cases p <;> rfl
@[simp] theorem State.accept_nv (s : State) (p : Pipe) (f : Settings → Settings) : (s.accept p f).nv = s.nv := by cases p <;> rfl

@[simp] theorem State.modPl_A_pa (s : State) (f : Pl → Pl) : (s.modPl .A f).pa = f s.pa := rfl
@[simp] theorem State.modPl_A_pb (s : State) (f : Pl → Pl) : (s.modPl .A f).pb = s.pb := rfl
@[simp] theorem State.modPl_B_pa (s : State) (f : Pl → Pl) : (s.modPl .B f).pa = s.pa := rfl
@[simp] theorem State.modPl_B_pb (s : State) (f : Pl → Pl) : (s.modPl .B f).pb = f s.pb := rfl
@[simp] theorem State.pl_modPl (s : State) (p : Pipe) (f : Pl → Pl) : (s.modPl p f).pl p = f (s.pl p) := by cases p <;> rfl

/-! ## Messages, events, completions touch the host interface only -/

/-- A message touches the host interface alone. -/
theorem State.sendMessage_eq (s : State) (v : Nat) : s.sendMessage v = { s with hif := (s.sendMessage v).hif } := by
  unfold State.sendMessage; dsimp only; (repeat' split) <;> rfl
@[simp] theorem State.sendMessage_now (s : State) (v : Nat) : (s.sendMessage v).now = s.now := by rw [State.sendMessage_eq]
@[simp] theorem State.sendMessage_pending (s : State) (v : Nat) : (s.sendMessage v).pending = s.pending := by rw [State.sendMessage_eq]
@[simp] theorem State.sendMessage_sup (s : State) (v : Nat) : (s.sendMessage v).sup = s.sup := by rw [State.sendMessage_eq]
@[simp] theorem State.sendMessage_thm (s : State) (v : Nat) : (s.sendMessage v).thm = s.thm := by rw [State.sendMessage_eq]
@[simp] theorem State.sendMessage_plt (s : State) (v : Nat) : (s.sendMessage v).plt = s.plt := by rw [State.sendMessage_eq]
@[simp] theorem State.sendMessage_cch (s : State) (v : Nat) : (s.sendMessage v).cch = s.cch := by rw [State.sendMessage_eq]
@[simp] theorem State.sendMessage_pa (s : State) (v : Nat) : (s.sendMessage v).pa = s.pa := by rw [State.sendMessage_eq]
@[simp] theorem State.sendMessage_pb (s : State) (v : Nat) : (s.sendMessage v).pb = s.pb := by rw [State.sendMessage_eq]
@[simp] theorem State.sendMessage_pcv (s : State) (v : Nat) : (s.sendMessage v).pcv = s.pcv := by rw [State.sendMessage_eq]
@[simp] theorem State.sendMessage_act (s : State) (v : Nat) : (s.sendMessage v).act = s.act := by rw [State.sendMessage_eq]
@[simp] theorem State.sendMessage_nl (s : State) (v : Nat) : (s.sendMessage v).nl = s.nl := by rw [State.sendMessage_eq]
@[simp] theorem State.sendMessage_drm (s : State) (v : Nat) : (s.sendMessage v).drm = s.drm := by rw [State.sendMessage_eq]
@[simp] theorem State.sendMessage_eng (s : State) (v : Nat) : (s.sendMessage v).eng = s.eng := by rw [State.sendMessage_eq]
@[simp] theorem State.sendMessage_saf (s : State) (v : Nat) : (s.sendMessage v).saf = s.saf := by rw [State.sendMessage_eq]
@[simp] theorem State.sendMessage_nv (s : State) (v : Nat) : (s.sendMessage v).nv = s.nv := by rw [State.sendMessage_eq]
@[simp] theorem State.signal_now (s : State) (x : Nat) : (s.signal x).now = s.now := by unfold State.signal; dsimp only; split <;> simp
@[simp] theorem State.signal_pending (s : State) (x : Nat) : (s.signal x).pending = s.pending := by unfold State.signal; dsimp only; split <;> simp
@[simp] theorem State.signal_sup (s : State) (x : Nat) : (s.signal x).sup = s.sup := by unfold State.signal; dsimp only; split <;> simp
@[simp] theorem State.signal_thm (s : State) (x : Nat) : (s.signal x).thm = s.thm := by unfold State.signal; dsimp only; split <;> simp
@[simp] theorem State.signal_plt (s : State) (x : Nat) : (s.signal x).plt = s.plt := by unfold State.signal; dsimp only; split <;> simp
@[simp] theorem State.signal_cch (s : State) (x : Nat) : (s.signal x).cch = s.cch := by unfold State.signal; dsimp only; split <;> simp
@[simp] theorem State.signal_pa (s : State) (x : Nat) : (s.signal x).pa = s.pa := by unfold State.signal; dsimp only; split <;> simp
@[simp] theorem State.signal_pb (s : State) (x : Nat) : (s.signal x).pb = s.pb := by unfold State.signal; dsimp only; split <;> simp
@[simp] theorem State.signal_pcv (s : State) (x : Nat) : (s.signal x).pcv = s.pcv := by unfold State.signal; dsimp only; split <;> simp
@[simp] theorem State.signal_act (s : State) (x : Nat) : (s.signal x).act = s.act := by unfold State.signal; dsimp only; split <;> simp
@[simp] theorem State.signal_nl (s : State) (x : Nat) : (s.signal x).nl = s.nl := by unfold State.signal; dsimp only; split <;> simp
@[simp] theorem State.signal_drm (s : State) (x : Nat) : (s.signal x).drm = s.drm := by unfold State.signal; dsimp only; split <;> simp
@[simp] theorem State.signal_eng (s : State) (x : Nat) : (s.signal x).eng = s.eng := by unfold State.signal; dsimp only; split <;> simp
@[simp] theorem State.signal_saf (s : State) (x : Nat) : (s.signal x).saf = s.saf := by unfold State.signal; dsimp only; split <;> simp
@[simp] theorem State.signal_nv (s : State) (x : Nat) : (s.signal x).nv = s.nv := by unfold State.signal; dsimp only; split <;> simp
@[simp] theorem State.writeEvent_now (s : State) (code : Nat) (frame : Word) (gen pipe : Nat) (args : List Word) : (s.writeEvent code frame gen pipe args).now = s.now := by simp [State.writeEvent]
@[simp] theorem State.writeEvent_pending (s : State) (code : Nat) (frame : Word) (gen pipe : Nat) (args : List Word) : (s.writeEvent code frame gen pipe args).pending = s.pending := by simp [State.writeEvent]
@[simp] theorem State.writeEvent_sup (s : State) (code : Nat) (frame : Word) (gen pipe : Nat) (args : List Word) : (s.writeEvent code frame gen pipe args).sup = s.sup := by simp [State.writeEvent]
@[simp] theorem State.writeEvent_thm (s : State) (code : Nat) (frame : Word) (gen pipe : Nat) (args : List Word) : (s.writeEvent code frame gen pipe args).thm = s.thm := by simp [State.writeEvent]
@[simp] theorem State.writeEvent_plt (s : State) (code : Nat) (frame : Word) (gen pipe : Nat) (args : List Word) : (s.writeEvent code frame gen pipe args).plt = s.plt := by simp [State.writeEvent]
@[simp] theorem State.writeEvent_cch (s : State) (code : Nat) (frame : Word) (gen pipe : Nat) (args : List Word) : (s.writeEvent code frame gen pipe args).cch = s.cch := by simp [State.writeEvent]
@[simp] theorem State.writeEvent_pa (s : State) (code : Nat) (frame : Word) (gen pipe : Nat) (args : List Word) : (s.writeEvent code frame gen pipe args).pa = s.pa := by simp [State.writeEvent]
@[simp] theorem State.writeEvent_pb (s : State) (code : Nat) (frame : Word) (gen pipe : Nat) (args : List Word) : (s.writeEvent code frame gen pipe args).pb = s.pb := by simp [State.writeEvent]
@[simp] theorem State.writeEvent_pcv (s : State) (code : Nat) (frame : Word) (gen pipe : Nat) (args : List Word) : (s.writeEvent code frame gen pipe args).pcv = s.pcv := by simp [State.writeEvent]
@[simp] theorem State.writeEvent_act (s : State) (code : Nat) (frame : Word) (gen pipe : Nat) (args : List Word) : (s.writeEvent code frame gen pipe args).act = s.act := by simp [State.writeEvent]
@[simp] theorem State.writeEvent_nl (s : State) (code : Nat) (frame : Word) (gen pipe : Nat) (args : List Word) : (s.writeEvent code frame gen pipe args).nl = s.nl := by simp [State.writeEvent]
@[simp] theorem State.writeEvent_drm (s : State) (code : Nat) (frame : Word) (gen pipe : Nat) (args : List Word) : (s.writeEvent code frame gen pipe args).drm = s.drm := by simp [State.writeEvent]
@[simp] theorem State.writeEvent_eng (s : State) (code : Nat) (frame : Word) (gen pipe : Nat) (args : List Word) : (s.writeEvent code frame gen pipe args).eng = s.eng := by simp [State.writeEvent]
@[simp] theorem State.writeEvent_saf (s : State) (code : Nat) (frame : Word) (gen pipe : Nat) (args : List Word) : (s.writeEvent code frame gen pipe args).saf = s.saf := by simp [State.writeEvent]
@[simp] theorem State.writeEvent_nv (s : State) (code : Nat) (frame : Word) (gen pipe : Nat) (args : List Word) : (s.writeEvent code frame gen pipe args).nv = s.nv := by simp [State.writeEvent]
@[simp] theorem State.flushLost_now (s : State) : s.flushLost.now = s.now := by unfold State.flushLost; dsimp only; split <;> simp
@[simp] theorem State.flushLost_pending (s : State) : s.flushLost.pending = s.pending := by unfold State.flushLost; dsimp only; split <;> simp
@[simp] theorem State.flushLost_sup (s : State) : s.flushLost.sup = s.sup := by unfold State.flushLost; dsimp only; split <;> simp
@[simp] theorem State.flushLost_thm (s : State) : s.flushLost.thm = s.thm := by unfold State.flushLost; dsimp only; split <;> simp
@[simp] theorem State.flushLost_plt (s : State) : s.flushLost.plt = s.plt := by unfold State.flushLost; dsimp only; split <;> simp
@[simp] theorem State.flushLost_cch (s : State) : s.flushLost.cch = s.cch := by unfold State.flushLost; dsimp only; split <;> simp
@[simp] theorem State.flushLost_pa (s : State) : s.flushLost.pa = s.pa := by unfold State.flushLost; dsimp only; split <;> simp
@[simp] theorem State.flushLost_pb (s : State) : s.flushLost.pb = s.pb := by unfold State.flushLost; dsimp only; split <;> simp
@[simp] theorem State.flushLost_pcv (s : State) : s.flushLost.pcv = s.pcv := by unfold State.flushLost; dsimp only; split <;> simp
@[simp] theorem State.flushLost_act (s : State) : s.flushLost.act = s.act := by unfold State.flushLost; dsimp only; split <;> simp
@[simp] theorem State.flushLost_nl (s : State) : s.flushLost.nl = s.nl := by unfold State.flushLost; dsimp only; split <;> simp
@[simp] theorem State.flushLost_drm (s : State) : s.flushLost.drm = s.drm := by unfold State.flushLost; dsimp only; split <;> simp
@[simp] theorem State.flushLost_eng (s : State) : s.flushLost.eng = s.eng := by unfold State.flushLost; dsimp only; split <;> simp
@[simp] theorem State.flushLost_saf (s : State) : s.flushLost.saf = s.saf := by unfold State.flushLost; dsimp only; split <;> simp
@[simp] theorem State.flushLost_nv (s : State) : s.flushLost.nv = s.nv := by unfold State.flushLost; dsimp only; split <;> simp
@[simp] theorem State.post_now (s : State) (code : Nat) (frame : Word) (gen pipe : Nat) (args : List Word) : (s.post code frame gen pipe args).now = s.now := by unfold State.post; dsimp only; split <;> simp
@[simp] theorem State.post_pending (s : State) (code : Nat) (frame : Word) (gen pipe : Nat) (args : List Word) : (s.post code frame gen pipe args).pending = s.pending := by unfold State.post; dsimp only; split <;> simp
@[simp] theorem State.post_sup (s : State) (code : Nat) (frame : Word) (gen pipe : Nat) (args : List Word) : (s.post code frame gen pipe args).sup = s.sup := by unfold State.post; dsimp only; split <;> simp
@[simp] theorem State.post_thm (s : State) (code : Nat) (frame : Word) (gen pipe : Nat) (args : List Word) : (s.post code frame gen pipe args).thm = s.thm := by unfold State.post; dsimp only; split <;> simp
@[simp] theorem State.post_plt (s : State) (code : Nat) (frame : Word) (gen pipe : Nat) (args : List Word) : (s.post code frame gen pipe args).plt = s.plt := by unfold State.post; dsimp only; split <;> simp
@[simp] theorem State.post_cch (s : State) (code : Nat) (frame : Word) (gen pipe : Nat) (args : List Word) : (s.post code frame gen pipe args).cch = s.cch := by unfold State.post; dsimp only; split <;> simp
@[simp] theorem State.post_pa (s : State) (code : Nat) (frame : Word) (gen pipe : Nat) (args : List Word) : (s.post code frame gen pipe args).pa = s.pa := by unfold State.post; dsimp only; split <;> simp
@[simp] theorem State.post_pb (s : State) (code : Nat) (frame : Word) (gen pipe : Nat) (args : List Word) : (s.post code frame gen pipe args).pb = s.pb := by unfold State.post; dsimp only; split <;> simp
@[simp] theorem State.post_pcv (s : State) (code : Nat) (frame : Word) (gen pipe : Nat) (args : List Word) : (s.post code frame gen pipe args).pcv = s.pcv := by unfold State.post; dsimp only; split <;> simp
@[simp] theorem State.post_act (s : State) (code : Nat) (frame : Word) (gen pipe : Nat) (args : List Word) : (s.post code frame gen pipe args).act = s.act := by unfold State.post; dsimp only; split <;> simp
@[simp] theorem State.post_nl (s : State) (code : Nat) (frame : Word) (gen pipe : Nat) (args : List Word) : (s.post code frame gen pipe args).nl = s.nl := by unfold State.post; dsimp only; split <;> simp
@[simp] theorem State.post_drm (s : State) (code : Nat) (frame : Word) (gen pipe : Nat) (args : List Word) : (s.post code frame gen pipe args).drm = s.drm := by unfold State.post; dsimp only; split <;> simp
@[simp] theorem State.post_eng (s : State) (code : Nat) (frame : Word) (gen pipe : Nat) (args : List Word) : (s.post code frame gen pipe args).eng = s.eng := by unfold State.post; dsimp only; split <;> simp
@[simp] theorem State.post_saf (s : State) (code : Nat) (frame : Word) (gen pipe : Nat) (args : List Word) : (s.post code frame gen pipe args).saf = s.saf := by unfold State.post; dsimp only; split <;> simp
@[simp] theorem State.post_nv (s : State) (code : Nat) (frame : Word) (gen pipe : Nat) (args : List Word) : (s.post code frame gen pipe args).nv = s.nv := by unfold State.post; dsimp only; split <;> simp
@[simp] theorem State.post0_now (s : State) (c : Nat) (a : List Word) : (s.post0 c a).now = s.now := by simp [State.post0]
@[simp] theorem State.post0_pending (s : State) (c : Nat) (a : List Word) : (s.post0 c a).pending = s.pending := by simp [State.post0]
@[simp] theorem State.post0_sup (s : State) (c : Nat) (a : List Word) : (s.post0 c a).sup = s.sup := by simp [State.post0]
@[simp] theorem State.post0_thm (s : State) (c : Nat) (a : List Word) : (s.post0 c a).thm = s.thm := by simp [State.post0]
@[simp] theorem State.post0_plt (s : State) (c : Nat) (a : List Word) : (s.post0 c a).plt = s.plt := by simp [State.post0]
@[simp] theorem State.post0_cch (s : State) (c : Nat) (a : List Word) : (s.post0 c a).cch = s.cch := by simp [State.post0]
@[simp] theorem State.post0_pa (s : State) (c : Nat) (a : List Word) : (s.post0 c a).pa = s.pa := by simp [State.post0]
@[simp] theorem State.post0_pb (s : State) (c : Nat) (a : List Word) : (s.post0 c a).pb = s.pb := by simp [State.post0]
@[simp] theorem State.post0_pcv (s : State) (c : Nat) (a : List Word) : (s.post0 c a).pcv = s.pcv := by simp [State.post0]
@[simp] theorem State.post0_act (s : State) (c : Nat) (a : List Word) : (s.post0 c a).act = s.act := by simp [State.post0]
@[simp] theorem State.post0_nl (s : State) (c : Nat) (a : List Word) : (s.post0 c a).nl = s.nl := by simp [State.post0]
@[simp] theorem State.post0_drm (s : State) (c : Nat) (a : List Word) : (s.post0 c a).drm = s.drm := by simp [State.post0]
@[simp] theorem State.post0_eng (s : State) (c : Nat) (a : List Word) : (s.post0 c a).eng = s.eng := by simp [State.post0]
@[simp] theorem State.post0_saf (s : State) (c : Nat) (a : List Word) : (s.post0 c a).saf = s.saf := by simp [State.post0]
@[simp] theorem State.post0_nv (s : State) (c : Nat) (a : List Word) : (s.post0 c a).nv = s.nv := by simp [State.post0]
@[simp] theorem State.postP_now (s : State) (p : Pipe) (c : Nat) (a : List Word) : (s.postP p c a).now = s.now := by simp [State.postP]
@[simp] theorem State.postP_pending (s : State) (p : Pipe) (c : Nat) (a : List Word) : (s.postP p c a).pending = s.pending := by simp [State.postP]
@[simp] theorem State.postP_sup (s : State) (p : Pipe) (c : Nat) (a : List Word) : (s.postP p c a).sup = s.sup := by simp [State.postP]
@[simp] theorem State.postP_thm (s : State) (p : Pipe) (c : Nat) (a : List Word) : (s.postP p c a).thm = s.thm := by simp [State.postP]
@[simp] theorem State.postP_plt (s : State) (p : Pipe) (c : Nat) (a : List Word) : (s.postP p c a).plt = s.plt := by simp [State.postP]
@[simp] theorem State.postP_cch (s : State) (p : Pipe) (c : Nat) (a : List Word) : (s.postP p c a).cch = s.cch := by simp [State.postP]
@[simp] theorem State.postP_pa (s : State) (p : Pipe) (c : Nat) (a : List Word) : (s.postP p c a).pa = s.pa := by simp [State.postP]
@[simp] theorem State.postP_pb (s : State) (p : Pipe) (c : Nat) (a : List Word) : (s.postP p c a).pb = s.pb := by simp [State.postP]
@[simp] theorem State.postP_pcv (s : State) (p : Pipe) (c : Nat) (a : List Word) : (s.postP p c a).pcv = s.pcv := by simp [State.postP]
@[simp] theorem State.postP_act (s : State) (p : Pipe) (c : Nat) (a : List Word) : (s.postP p c a).act = s.act := by simp [State.postP]
@[simp] theorem State.postP_nl (s : State) (p : Pipe) (c : Nat) (a : List Word) : (s.postP p c a).nl = s.nl := by simp [State.postP]
@[simp] theorem State.postP_drm (s : State) (p : Pipe) (c : Nat) (a : List Word) : (s.postP p c a).drm = s.drm := by simp [State.postP]
@[simp] theorem State.postP_eng (s : State) (p : Pipe) (c : Nat) (a : List Word) : (s.postP p c a).eng = s.eng := by simp [State.postP]
@[simp] theorem State.postP_saf (s : State) (p : Pipe) (c : Nat) (a : List Word) : (s.postP p c a).saf = s.saf := by simp [State.postP]
@[simp] theorem State.postP_nv (s : State) (p : Pipe) (c : Nat) (a : List Word) : (s.postP p c a).nv = s.nv := by simp [State.postP]
@[simp] theorem State.postF_now (s : State) (p : Pipe) (f : Frame) (c : Nat) (a : List Word) : (s.postF p f c a).now = s.now := by simp [State.postF]
@[simp] theorem State.postF_pending (s : State) (p : Pipe) (f : Frame) (c : Nat) (a : List Word) : (s.postF p f c a).pending = s.pending := by simp [State.postF]
@[simp] theorem State.postF_sup (s : State) (p : Pipe) (f : Frame) (c : Nat) (a : List Word) : (s.postF p f c a).sup = s.sup := by simp [State.postF]
@[simp] theorem State.postF_thm (s : State) (p : Pipe) (f : Frame) (c : Nat) (a : List Word) : (s.postF p f c a).thm = s.thm := by simp [State.postF]
@[simp] theorem State.postF_plt (s : State) (p : Pipe) (f : Frame) (c : Nat) (a : List Word) : (s.postF p f c a).plt = s.plt := by simp [State.postF]
@[simp] theorem State.postF_cch (s : State) (p : Pipe) (f : Frame) (c : Nat) (a : List Word) : (s.postF p f c a).cch = s.cch := by simp [State.postF]
@[simp] theorem State.postF_pa (s : State) (p : Pipe) (f : Frame) (c : Nat) (a : List Word) : (s.postF p f c a).pa = s.pa := by simp [State.postF]
@[simp] theorem State.postF_pb (s : State) (p : Pipe) (f : Frame) (c : Nat) (a : List Word) : (s.postF p f c a).pb = s.pb := by simp [State.postF]
@[simp] theorem State.postF_pcv (s : State) (p : Pipe) (f : Frame) (c : Nat) (a : List Word) : (s.postF p f c a).pcv = s.pcv := by simp [State.postF]
@[simp] theorem State.postF_act (s : State) (p : Pipe) (f : Frame) (c : Nat) (a : List Word) : (s.postF p f c a).act = s.act := by simp [State.postF]
@[simp] theorem State.postF_nl (s : State) (p : Pipe) (f : Frame) (c : Nat) (a : List Word) : (s.postF p f c a).nl = s.nl := by simp [State.postF]
@[simp] theorem State.postF_drm (s : State) (p : Pipe) (f : Frame) (c : Nat) (a : List Word) : (s.postF p f c a).drm = s.drm := by simp [State.postF]
@[simp] theorem State.postF_eng (s : State) (p : Pipe) (f : Frame) (c : Nat) (a : List Word) : (s.postF p f c a).eng = s.eng := by simp [State.postF]
@[simp] theorem State.postF_saf (s : State) (p : Pipe) (f : Frame) (c : Nat) (a : List Word) : (s.postF p f c a).saf = s.saf := by simp [State.postF]
@[simp] theorem State.postF_nv (s : State) (p : Pipe) (f : Frame) (c : Nat) (a : List Word) : (s.postF p f c a).nv = s.nv := by simp [State.postF]
@[simp] theorem State.lockedWrite_now (s : State) (o : Nat) : (s.lockedWrite o).now = s.now := by simp [State.lockedWrite]
@[simp] theorem State.lockedWrite_pending (s : State) (o : Nat) : (s.lockedWrite o).pending = s.pending := by simp [State.lockedWrite]
@[simp] theorem State.lockedWrite_sup (s : State) (o : Nat) : (s.lockedWrite o).sup = s.sup := by simp [State.lockedWrite]
@[simp] theorem State.lockedWrite_thm (s : State) (o : Nat) : (s.lockedWrite o).thm = s.thm := by simp [State.lockedWrite]
@[simp] theorem State.lockedWrite_plt (s : State) (o : Nat) : (s.lockedWrite o).plt = s.plt := by simp [State.lockedWrite]
@[simp] theorem State.lockedWrite_cch (s : State) (o : Nat) : (s.lockedWrite o).cch = s.cch := by simp [State.lockedWrite]
@[simp] theorem State.lockedWrite_pa (s : State) (o : Nat) : (s.lockedWrite o).pa = s.pa := by simp [State.lockedWrite]
@[simp] theorem State.lockedWrite_pb (s : State) (o : Nat) : (s.lockedWrite o).pb = s.pb := by simp [State.lockedWrite]
@[simp] theorem State.lockedWrite_pcv (s : State) (o : Nat) : (s.lockedWrite o).pcv = s.pcv := by simp [State.lockedWrite]
@[simp] theorem State.lockedWrite_act (s : State) (o : Nat) : (s.lockedWrite o).act = s.act := by simp [State.lockedWrite]
@[simp] theorem State.lockedWrite_nl (s : State) (o : Nat) : (s.lockedWrite o).nl = s.nl := by simp [State.lockedWrite]
@[simp] theorem State.lockedWrite_drm (s : State) (o : Nat) : (s.lockedWrite o).drm = s.drm := by simp [State.lockedWrite]
@[simp] theorem State.lockedWrite_eng (s : State) (o : Nat) : (s.lockedWrite o).eng = s.eng := by simp [State.lockedWrite]
@[simp] theorem State.lockedWrite_saf (s : State) (o : Nat) : (s.lockedWrite o).saf = s.saf := by simp [State.lockedWrite]
@[simp] theorem State.lockedWrite_nv (s : State) (o : Nat) : (s.lockedWrite o).nv = s.nv := by simp [State.lockedWrite]
@[simp] theorem State.complete_now (s : State) (tag : Word) (op st ix : Nat) (r : List Word) : (s.complete tag op st ix r).now = s.now := by unfold State.complete; dsimp only; split <;> simp
@[simp] theorem State.complete_pending (s : State) (tag : Word) (op st ix : Nat) (r : List Word) : (s.complete tag op st ix r).pending = s.pending := by unfold State.complete; dsimp only; split <;> simp
@[simp] theorem State.complete_sup (s : State) (tag : Word) (op st ix : Nat) (r : List Word) : (s.complete tag op st ix r).sup = s.sup := by unfold State.complete; dsimp only; split <;> simp
@[simp] theorem State.complete_plt (s : State) (tag : Word) (op st ix : Nat) (r : List Word) : (s.complete tag op st ix r).plt = s.plt := by unfold State.complete; dsimp only; split <;> simp
@[simp] theorem State.complete_cch (s : State) (tag : Word) (op st ix : Nat) (r : List Word) : (s.complete tag op st ix r).cch = s.cch := by unfold State.complete; dsimp only; split <;> simp
@[simp] theorem State.complete_pa (s : State) (tag : Word) (op st ix : Nat) (r : List Word) : (s.complete tag op st ix r).pa = s.pa := by unfold State.complete; dsimp only; split <;> simp
@[simp] theorem State.complete_pb (s : State) (tag : Word) (op st ix : Nat) (r : List Word) : (s.complete tag op st ix r).pb = s.pb := by unfold State.complete; dsimp only; split <;> simp
@[simp] theorem State.complete_pcv (s : State) (tag : Word) (op st ix : Nat) (r : List Word) : (s.complete tag op st ix r).pcv = s.pcv := by unfold State.complete; dsimp only; split <;> simp
@[simp] theorem State.complete_act (s : State) (tag : Word) (op st ix : Nat) (r : List Word) : (s.complete tag op st ix r).act = s.act := by unfold State.complete; dsimp only; split <;> simp
@[simp] theorem State.complete_nl (s : State) (tag : Word) (op st ix : Nat) (r : List Word) : (s.complete tag op st ix r).nl = s.nl := by unfold State.complete; dsimp only; split <;> simp
@[simp] theorem State.complete_drm (s : State) (tag : Word) (op st ix : Nat) (r : List Word) : (s.complete tag op st ix r).drm = s.drm := by unfold State.complete; dsimp only; split <;> simp
@[simp] theorem State.complete_eng (s : State) (tag : Word) (op st ix : Nat) (r : List Word) : (s.complete tag op st ix r).eng = s.eng := by unfold State.complete; dsimp only; split <;> simp
@[simp] theorem State.complete_saf (s : State) (tag : Word) (op st ix : Nat) (r : List Word) : (s.complete tag op st ix r).saf = s.saf := by unfold State.complete; dsimp only; split <;> simp
@[simp] theorem State.complete_nv (s : State) (tag : Word) (op st ix : Nat) (r : List Word) : (s.complete tag op st ix r).nv = s.nv := by unfold State.complete; dsimp only; split <;> simp

/-! ## Coils, lanes and the passing of time -/

/-- What every step of a fold leaves alone, the fold leaves alone. -/
theorem foldl_keeps {α β : Type} (g : State → β) (f : State → α → State) (h : ∀ s a, g (f s a) = g s) (l : List α) (s : State) :
    g (l.foldl f s) = g s := by
  induction l generalizing s with
  | nil => rfl
  | cons a l ih => rw [List.foldl_cons, ih, h]

@[simp] theorem State.tick_pending (s : State) (dt : Nat) : (s.tick dt).pending = s.pending := rfl
@[simp] theorem State.tick_thm (s : State) (dt : Nat) : (s.tick dt).thm = s.thm := rfl
@[simp] theorem State.tick_hif (s : State) (dt : Nat) : (s.tick dt).hif = s.hif := rfl
@[simp] theorem State.tick_plt (s : State) (dt : Nat) : (s.tick dt).plt = s.plt := rfl
@[simp] theorem State.tick_cch (s : State) (dt : Nat) : (s.tick dt).cch = s.cch := rfl
@[simp] theorem State.tick_pa (s : State) (dt : Nat) : (s.tick dt).pa = s.pa := rfl
@[simp] theorem State.tick_pb (s : State) (dt : Nat) : (s.tick dt).pb = s.pb := rfl
@[simp] theorem State.tick_pcv (s : State) (dt : Nat) : (s.tick dt).pcv = s.pcv := rfl
@[simp] theorem State.tick_act (s : State) (dt : Nat) : (s.tick dt).act = s.act := rfl
@[simp] theorem State.tick_nl (s : State) (dt : Nat) : (s.tick dt).nl = s.nl := rfl
@[simp] theorem State.tick_drm (s : State) (dt : Nat) : (s.tick dt).drm = s.drm := rfl
@[simp] theorem State.tick_eng (s : State) (dt : Nat) : (s.tick dt).eng = s.eng := rfl
@[simp] theorem State.tick_saf (s : State) (dt : Nat) : (s.tick dt).saf = s.saf := rfl
@[simp] theorem State.tick_nv (s : State) (dt : Nat) : (s.tick dt).nv = s.nv := rfl
@[simp] theorem State.tick_mode (s : State) (dt : Nat) : (s.tick dt).mode = s.mode := rfl
@[simp] theorem State.tick_now (s : State) (dt : Nat) : (s.tick dt).now = s.now + (dt - s.sup.resetLeft) := rfl
@[simp] theorem State.tick_resetLeft (s : State) (dt : Nat) : (s.tick dt).sup.resetLeft = s.sup.resetLeft - dt := rfl
@[simp] theorem State.coilHot_now (s : State) (ch x : Nat) : (s.coilHot ch x).now = s.now := by simp [State.coilHot, State.warnBit]; split <;> simp
@[simp] theorem State.coilHot_pending (s : State) (ch x : Nat) : (s.coilHot ch x).pending = s.pending := by simp [State.coilHot, State.warnBit]; split <;> simp
@[simp] theorem State.coilHot_sup (s : State) (ch x : Nat) : (s.coilHot ch x).sup = s.sup := by simp [State.coilHot, State.warnBit]; split <;> simp
@[simp] theorem State.coilHot_thm (s : State) (ch x : Nat) : (s.coilHot ch x).thm = s.thm := by simp [State.coilHot, State.warnBit]; split <;> simp
@[simp] theorem State.coilHot_plt (s : State) (ch x : Nat) : (s.coilHot ch x).plt = s.plt := by simp [State.coilHot, State.warnBit]; split <;> simp
@[simp] theorem State.coilHot_cch (s : State) (ch x : Nat) : (s.coilHot ch x).cch = s.cch := by simp [State.coilHot, State.warnBit]; split <;> simp
@[simp] theorem State.coilHot_pa (s : State) (ch x : Nat) : (s.coilHot ch x).pa = s.pa := by simp [State.coilHot, State.warnBit]; split <;> simp
@[simp] theorem State.coilHot_pb (s : State) (ch x : Nat) : (s.coilHot ch x).pb = s.pb := by simp [State.coilHot, State.warnBit]; split <;> simp
@[simp] theorem State.coilHot_pcv (s : State) (ch x : Nat) : (s.coilHot ch x).pcv = s.pcv := by simp [State.coilHot, State.warnBit]; split <;> simp
@[simp] theorem State.coilHot_act (s : State) (ch x : Nat) : (s.coilHot ch x).act = s.act := by simp [State.coilHot, State.warnBit]; split <;> simp
@[simp] theorem State.coilHot_nl (s : State) (ch x : Nat) : (s.coilHot ch x).nl = s.nl := by simp [State.coilHot, State.warnBit]; split <;> simp
@[simp] theorem State.coilHot_drm (s : State) (ch x : Nat) : (s.coilHot ch x).drm = s.drm := by simp [State.coilHot, State.warnBit]; split <;> simp
@[simp] theorem State.coilHot_eng (s : State) (ch x : Nat) : (s.coilHot ch x).eng = s.eng := by simp [State.coilHot, State.warnBit]; split <;> simp
@[simp] theorem State.coilHot_nv (s : State) (ch x : Nat) : (s.coilHot ch x).nv = s.nv := by simp [State.coilHot, State.warnBit]; split <;> simp
@[simp] theorem State.heatCh_now (s : State) (ch t a n : Nat) : (s.heatCh ch t a n).now = s.now := by unfold State.heatCh; dsimp only; split <;> simp [State.asOf]
@[simp] theorem State.heatCh_pending (s : State) (ch t a n : Nat) : (s.heatCh ch t a n).pending = s.pending := by unfold State.heatCh; dsimp only; split <;> simp [State.asOf]
@[simp] theorem State.heatCh_sup (s : State) (ch t a n : Nat) : (s.heatCh ch t a n).sup = s.sup := by unfold State.heatCh; dsimp only; split <;> simp [State.asOf]
@[simp] theorem State.heatCh_thm (s : State) (ch t a n : Nat) : (s.heatCh ch t a n).thm = s.thm := by unfold State.heatCh; dsimp only; split <;> simp [State.asOf]
@[simp] theorem State.heatCh_plt (s : State) (ch t a n : Nat) : (s.heatCh ch t a n).plt = s.plt := by unfold State.heatCh; dsimp only; split <;> simp [State.asOf]
@[simp] theorem State.heatCh_cch (s : State) (ch t a n : Nat) : (s.heatCh ch t a n).cch = s.cch := by unfold State.heatCh; dsimp only; split <;> simp [State.asOf]
@[simp] theorem State.heatCh_pa (s : State) (ch t a n : Nat) : (s.heatCh ch t a n).pa = s.pa := by unfold State.heatCh; dsimp only; split <;> simp [State.asOf]
@[simp] theorem State.heatCh_pb (s : State) (ch t a n : Nat) : (s.heatCh ch t a n).pb = s.pb := by unfold State.heatCh; dsimp only; split <;> simp [State.asOf]
@[simp] theorem State.heatCh_pcv (s : State) (ch t a n : Nat) : (s.heatCh ch t a n).pcv = s.pcv := by unfold State.heatCh; dsimp only; split <;> simp [State.asOf]
@[simp] theorem State.heatCh_nl (s : State) (ch t a n : Nat) : (s.heatCh ch t a n).nl = s.nl := by unfold State.heatCh; dsimp only; split <;> simp [State.asOf]
@[simp] theorem State.heatCh_drm (s : State) (ch t a n : Nat) : (s.heatCh ch t a n).drm = s.drm := by unfold State.heatCh; dsimp only; split <;> simp [State.asOf]
@[simp] theorem State.heatCh_eng (s : State) (ch t a n : Nat) : (s.heatCh ch t a n).eng = s.eng := by unfold State.heatCh; dsimp only; split <;> simp [State.asOf]
@[simp] theorem State.heatCh_nv (s : State) (ch t a n : Nat) : (s.heatCh ch t a n).nv = s.nv := by unfold State.heatCh; dsimp only; split <;> simp [State.asOf]
@[simp] theorem State.heatTo_now (s : State) (ch : Nat) : (s.heatTo ch).now = s.now := by
  unfold State.heatTo; split
  · rfl
  · dsimp only; split
    · simp
    · rw [foldl_keeps State.now _ (fun _ _ => State.heatCh_now ..)]; simp
@[simp] theorem State.heatTo_pending (s : State) (ch : Nat) : (s.heatTo ch).pending = s.pending := by
  unfold State.heatTo; split
  · rfl
  · dsimp only; split
    · simp
    · rw [foldl_keeps State.pending _ (fun _ _ => State.heatCh_pending ..)]; simp
@[simp] theorem State.heatTo_sup (s : State) (ch : Nat) : (s.heatTo ch).sup = s.sup := by
  unfold State.heatTo; split
  · rfl
  · dsimp only; split
    · simp
    · rw [foldl_keeps State.sup _ (fun _ _ => State.heatCh_sup ..)]; simp
@[simp] theorem State.heatTo_thm (s : State) (ch : Nat) : (s.heatTo ch).thm = s.thm := by
  unfold State.heatTo; split
  · rfl
  · dsimp only; split
    · simp
    · rw [foldl_keeps State.thm _ (fun _ _ => State.heatCh_thm ..)]; simp
@[simp] theorem State.heatTo_plt (s : State) (ch : Nat) : (s.heatTo ch).plt = s.plt := by
  unfold State.heatTo; split
  · rfl
  · dsimp only; split
    · simp
    · rw [foldl_keeps State.plt _ (fun _ _ => State.heatCh_plt ..)]; simp
@[simp] theorem State.heatTo_cch (s : State) (ch : Nat) : (s.heatTo ch).cch = s.cch := by
  unfold State.heatTo; split
  · rfl
  · dsimp only; split
    · simp
    · rw [foldl_keeps State.cch _ (fun _ _ => State.heatCh_cch ..)]; simp
@[simp] theorem State.heatTo_pa (s : State) (ch : Nat) : (s.heatTo ch).pa = s.pa := by
  unfold State.heatTo; split
  · rfl
  · dsimp only; split
    · simp
    · rw [foldl_keeps State.pa _ (fun _ _ => State.heatCh_pa ..)]; simp
@[simp] theorem State.heatTo_pb (s : State) (ch : Nat) : (s.heatTo ch).pb = s.pb := by
  unfold State.heatTo; split
  · rfl
  · dsimp only; split
    · simp
    · rw [foldl_keeps State.pb _ (fun _ _ => State.heatCh_pb ..)]; simp
@[simp] theorem State.heatTo_pcv (s : State) (ch : Nat) : (s.heatTo ch).pcv = s.pcv := by
  unfold State.heatTo; split
  · rfl
  · dsimp only; split
    · simp
    · rw [foldl_keeps State.pcv _ (fun _ _ => State.heatCh_pcv ..)]; simp
@[simp] theorem State.heatTo_nl (s : State) (ch : Nat) : (s.heatTo ch).nl = s.nl := by
  unfold State.heatTo; split
  · rfl
  · dsimp only; split
    · simp
    · rw [foldl_keeps State.nl _ (fun _ _ => State.heatCh_nl ..)]; simp
@[simp] theorem State.heatTo_drm (s : State) (ch : Nat) : (s.heatTo ch).drm = s.drm := by
  unfold State.heatTo; split
  · rfl
  · dsimp only; split
    · simp
    · rw [foldl_keeps State.drm _ (fun _ _ => State.heatCh_drm ..)]; simp
@[simp] theorem State.heatTo_eng (s : State) (ch : Nat) : (s.heatTo ch).eng = s.eng := by
  unfold State.heatTo; split
  · rfl
  · dsimp only; split
    · simp
    · rw [foldl_keeps State.eng _ (fun _ _ => State.heatCh_eng ..)]; simp
@[simp] theorem State.heatTo_nv (s : State) (ch : Nat) : (s.heatTo ch).nv = s.nv := by
  unfold State.heatTo; split
  · rfl
  · dsimp only; split
    · simp
    · rw [foldl_keeps State.nv _ (fun _ _ => State.heatCh_nv ..)]; simp
@[simp] theorem State.heat_now (s : State) : (s.heat).now = s.now := by
  unfold State.heat; split
  · rfl
  · exact foldl_keeps State.now _ (fun _ _ => State.heatTo_now ..) _ _
@[simp] theorem State.heat_pending (s : State) : (s.heat).pending = s.pending := by
  unfold State.heat; split
  · rfl
  · exact foldl_keeps State.pending _ (fun _ _ => State.heatTo_pending ..) _ _
@[simp] theorem State.heat_sup (s : State) : (s.heat).sup = s.sup := by
  unfold State.heat; split
  · rfl
  · exact foldl_keeps State.sup _ (fun _ _ => State.heatTo_sup ..) _ _
@[simp] theorem State.heat_thm (s : State) : (s.heat).thm = s.thm := by
  unfold State.heat; split
  · rfl
  · exact foldl_keeps State.thm _ (fun _ _ => State.heatTo_thm ..) _ _
@[simp] theorem State.heat_plt (s : State) : (s.heat).plt = s.plt := by
  unfold State.heat; split
  · rfl
  · exact foldl_keeps State.plt _ (fun _ _ => State.heatTo_plt ..) _ _
@[simp] theorem State.heat_cch (s : State) : (s.heat).cch = s.cch := by
  unfold State.heat; split
  · rfl
  · exact foldl_keeps State.cch _ (fun _ _ => State.heatTo_cch ..) _ _
@[simp] theorem State.heat_pa (s : State) : (s.heat).pa = s.pa := by
  unfold State.heat; split
  · rfl
  · exact foldl_keeps State.pa _ (fun _ _ => State.heatTo_pa ..) _ _
@[simp] theorem State.heat_pb (s : State) : (s.heat).pb = s.pb := by
  unfold State.heat; split
  · rfl
  · exact foldl_keeps State.pb _ (fun _ _ => State.heatTo_pb ..) _ _
@[simp] theorem State.heat_pcv (s : State) : (s.heat).pcv = s.pcv := by
  unfold State.heat; split
  · rfl
  · exact foldl_keeps State.pcv _ (fun _ _ => State.heatTo_pcv ..) _ _
@[simp] theorem State.heat_nl (s : State) : (s.heat).nl = s.nl := by
  unfold State.heat; split
  · rfl
  · exact foldl_keeps State.nl _ (fun _ _ => State.heatTo_nl ..) _ _
@[simp] theorem State.heat_drm (s : State) : (s.heat).drm = s.drm := by
  unfold State.heat; split
  · rfl
  · exact foldl_keeps State.drm _ (fun _ _ => State.heatTo_drm ..) _ _
@[simp] theorem State.heat_eng (s : State) : (s.heat).eng = s.eng := by
  unfold State.heat; split
  · rfl
  · exact foldl_keeps State.eng _ (fun _ _ => State.heatTo_eng ..) _ _
@[simp] theorem State.heat_nv (s : State) : (s.heat).nv = s.nv := by
  unfold State.heat; split
  · rfl
  · exact foldl_keeps State.nv _ (fun _ _ => State.heatTo_nv ..) _ _
@[simp] theorem State.noteSent_now (s : State) (l : Nat) (ps : List NlPacket) : (s.noteSent l ps).now = s.now := by unfold State.noteSent; split <;> rfl
@[simp] theorem State.noteSent_pending (s : State) (l : Nat) (ps : List NlPacket) : (s.noteSent l ps).pending = s.pending := by unfold State.noteSent; split <;> rfl
@[simp] theorem State.noteSent_sup (s : State) (l : Nat) (ps : List NlPacket) : (s.noteSent l ps).sup = s.sup := by unfold State.noteSent; split <;> rfl
@[simp] theorem State.noteSent_thm (s : State) (l : Nat) (ps : List NlPacket) : (s.noteSent l ps).thm = s.thm := by unfold State.noteSent; split <;> rfl
@[simp] theorem State.noteSent_hif (s : State) (l : Nat) (ps : List NlPacket) : (s.noteSent l ps).hif = s.hif := by unfold State.noteSent; split <;> rfl
@[simp] theorem State.noteSent_plt (s : State) (l : Nat) (ps : List NlPacket) : (s.noteSent l ps).plt = s.plt := by unfold State.noteSent; split <;> rfl
@[simp] theorem State.noteSent_cch (s : State) (l : Nat) (ps : List NlPacket) : (s.noteSent l ps).cch = s.cch := by unfold State.noteSent; split <;> rfl
@[simp] theorem State.noteSent_pa (s : State) (l : Nat) (ps : List NlPacket) : (s.noteSent l ps).pa = s.pa := by unfold State.noteSent; split <;> rfl
@[simp] theorem State.noteSent_pb (s : State) (l : Nat) (ps : List NlPacket) : (s.noteSent l ps).pb = s.pb := by unfold State.noteSent; split <;> rfl
@[simp] theorem State.noteSent_pcv (s : State) (l : Nat) (ps : List NlPacket) : (s.noteSent l ps).pcv = s.pcv := by unfold State.noteSent; split <;> rfl
@[simp] theorem State.noteSent_act (s : State) (l : Nat) (ps : List NlPacket) : (s.noteSent l ps).act = s.act := by unfold State.noteSent; split <;> rfl
@[simp] theorem State.noteSent_drm (s : State) (l : Nat) (ps : List NlPacket) : (s.noteSent l ps).drm = s.drm := by unfold State.noteSent; split <;> rfl
@[simp] theorem State.noteSent_eng (s : State) (l : Nat) (ps : List NlPacket) : (s.noteSent l ps).eng = s.eng := by unfold State.noteSent; split <;> rfl
@[simp] theorem State.noteSent_saf (s : State) (l : Nat) (ps : List NlPacket) : (s.noteSent l ps).saf = s.saf := by unfold State.noteSent; split <;> rfl
@[simp] theorem State.noteSent_nv (s : State) (l : Nat) (ps : List NlPacket) : (s.noteSent l ps).nv = s.nv := by unfold State.noteSent; split <;> rfl
@[simp] theorem State.egressLane_now (s : State) (l : Nat) : (s.egressLane l).now = s.now := by simp [State.egressLane]
@[simp] theorem State.egressLane_pending (s : State) (l : Nat) : (s.egressLane l).pending = s.pending := by simp [State.egressLane]
@[simp] theorem State.egressLane_sup (s : State) (l : Nat) : (s.egressLane l).sup = s.sup := by simp [State.egressLane]
@[simp] theorem State.egressLane_thm (s : State) (l : Nat) : (s.egressLane l).thm = s.thm := by simp [State.egressLane]
@[simp] theorem State.egressLane_hif (s : State) (l : Nat) : (s.egressLane l).hif = s.hif := by simp [State.egressLane]
@[simp] theorem State.egressLane_plt (s : State) (l : Nat) : (s.egressLane l).plt = s.plt := by simp [State.egressLane]
@[simp] theorem State.egressLane_cch (s : State) (l : Nat) : (s.egressLane l).cch = s.cch := by simp [State.egressLane]
@[simp] theorem State.egressLane_pa (s : State) (l : Nat) : (s.egressLane l).pa = s.pa := by simp [State.egressLane]
@[simp] theorem State.egressLane_pb (s : State) (l : Nat) : (s.egressLane l).pb = s.pb := by simp [State.egressLane]
@[simp] theorem State.egressLane_pcv (s : State) (l : Nat) : (s.egressLane l).pcv = s.pcv := by simp [State.egressLane]
@[simp] theorem State.egressLane_act (s : State) (l : Nat) : (s.egressLane l).act = s.act := by simp [State.egressLane]
@[simp] theorem State.egressLane_drm (s : State) (l : Nat) : (s.egressLane l).drm = s.drm := by simp [State.egressLane]
@[simp] theorem State.egressLane_eng (s : State) (l : Nat) : (s.egressLane l).eng = s.eng := by simp [State.egressLane]
@[simp] theorem State.egressLane_saf (s : State) (l : Nat) : (s.egressLane l).saf = s.saf := by simp [State.egressLane]
@[simp] theorem State.egressLane_nv (s : State) (l : Nat) : (s.egressLane l).nv = s.nv := by simp [State.egressLane]
@[simp] theorem State.transferEnd_now (s : State) (i : Nat) : (s.transferEnd i).now = s.now := by unfold State.transferEnd; split <;> (try split) <;> rfl
@[simp] theorem State.transferEnd_pending (s : State) (i : Nat) : (s.transferEnd i).pending = s.pending := by unfold State.transferEnd; split <;> (try split) <;> rfl
@[simp] theorem State.transferEnd_sup (s : State) (i : Nat) : (s.transferEnd i).sup = s.sup := by unfold State.transferEnd; split <;> (try split) <;> rfl
@[simp] theorem State.transferEnd_thm (s : State) (i : Nat) : (s.transferEnd i).thm = s.thm := by unfold State.transferEnd; split <;> (try split) <;> rfl
@[simp] theorem State.transferEnd_hif (s : State) (i : Nat) : (s.transferEnd i).hif = s.hif := by unfold State.transferEnd; split <;> (try split) <;> rfl
@[simp] theorem State.transferEnd_plt (s : State) (i : Nat) : (s.transferEnd i).plt = s.plt := by unfold State.transferEnd; split <;> (try split) <;> rfl
@[simp] theorem State.transferEnd_cch (s : State) (i : Nat) : (s.transferEnd i).cch = s.cch := by unfold State.transferEnd; split <;> (try split) <;> rfl
@[simp] theorem State.transferEnd_pa (s : State) (i : Nat) : (s.transferEnd i).pa = s.pa := by unfold State.transferEnd; split <;> (try split) <;> rfl
@[simp] theorem State.transferEnd_pb (s : State) (i : Nat) : (s.transferEnd i).pb = s.pb := by unfold State.transferEnd; split <;> (try split) <;> rfl
@[simp] theorem State.transferEnd_pcv (s : State) (i : Nat) : (s.transferEnd i).pcv = s.pcv := by unfold State.transferEnd; split <;> (try split) <;> rfl
@[simp] theorem State.transferEnd_act (s : State) (i : Nat) : (s.transferEnd i).act = s.act := by unfold State.transferEnd; split <;> (try split) <;> rfl
@[simp] theorem State.transferEnd_drm (s : State) (i : Nat) : (s.transferEnd i).drm = s.drm := by unfold State.transferEnd; split <;> (try split) <;> rfl
@[simp] theorem State.transferEnd_eng (s : State) (i : Nat) : (s.transferEnd i).eng = s.eng := by unfold State.transferEnd; split <;> (try split) <;> rfl
@[simp] theorem State.transferEnd_saf (s : State) (i : Nat) : (s.transferEnd i).saf = s.saf := by unfold State.transferEnd; split <;> (try split) <;> rfl
@[simp] theorem State.transferEnd_nv (s : State) (i : Nat) : (s.transferEnd i).nv = s.nv := by unfold State.transferEnd; split <;> (try split) <;> rfl
@[simp] theorem State.egress_now (s : State) : (s.egress).now = s.now := by simp [State.egress]
@[simp] theorem State.egress_pending (s : State) : (s.egress).pending = s.pending := by simp [State.egress]
@[simp] theorem State.egress_sup (s : State) : (s.egress).sup = s.sup := by simp [State.egress]
@[simp] theorem State.egress_thm (s : State) : (s.egress).thm = s.thm := by simp [State.egress]
@[simp] theorem State.egress_hif (s : State) : (s.egress).hif = s.hif := by simp [State.egress]
@[simp] theorem State.egress_plt (s : State) : (s.egress).plt = s.plt := by simp [State.egress]
@[simp] theorem State.egress_cch (s : State) : (s.egress).cch = s.cch := by simp [State.egress]
@[simp] theorem State.egress_pa (s : State) : (s.egress).pa = s.pa := by simp [State.egress]
@[simp] theorem State.egress_pb (s : State) : (s.egress).pb = s.pb := by simp [State.egress]
@[simp] theorem State.egress_pcv (s : State) : (s.egress).pcv = s.pcv := by simp [State.egress]
@[simp] theorem State.egress_act (s : State) : (s.egress).act = s.act := by simp [State.egress]
@[simp] theorem State.egress_drm (s : State) : (s.egress).drm = s.drm := by simp [State.egress]
@[simp] theorem State.egress_eng (s : State) : (s.egress).eng = s.eng := by simp [State.egress]
@[simp] theorem State.egress_saf (s : State) : (s.egress).saf = s.saf := by simp [State.egress]
@[simp] theorem State.egress_nv (s : State) : (s.egress).nv = s.nv := by simp [State.egress]
@[simp] theorem State.elapse_pending (s : State) (dt : Nat) : (s.elapse dt).pending = s.pending := by unfold State.elapse; dsimp only; split <;> simp
@[simp] theorem State.elapse_thm (s : State) (dt : Nat) : (s.elapse dt).thm = s.thm := by unfold State.elapse; dsimp only; split <;> simp
@[simp] theorem State.elapse_plt (s : State) (dt : Nat) : (s.elapse dt).plt = s.plt := by unfold State.elapse; dsimp only; split <;> simp
@[simp] theorem State.elapse_cch (s : State) (dt : Nat) : (s.elapse dt).cch = s.cch := by unfold State.elapse; dsimp only; split <;> simp
@[simp] theorem State.elapse_pa (s : State) (dt : Nat) : (s.elapse dt).pa = s.pa := by unfold State.elapse; dsimp only; split <;> simp
@[simp] theorem State.elapse_pb (s : State) (dt : Nat) : (s.elapse dt).pb = s.pb := by unfold State.elapse; dsimp only; split <;> simp
@[simp] theorem State.elapse_pcv (s : State) (dt : Nat) : (s.elapse dt).pcv = s.pcv := by unfold State.elapse; dsimp only; split <;> simp
@[simp] theorem State.elapse_drm (s : State) (dt : Nat) : (s.elapse dt).drm = s.drm := by unfold State.elapse; dsimp only; split <;> simp
@[simp] theorem State.elapse_eng (s : State) (dt : Nat) : (s.elapse dt).eng = s.eng := by unfold State.elapse; dsimp only; split <;> simp
@[simp] theorem State.elapse_nv (s : State) (dt : Nat) : (s.elapse dt).nv = s.nv := by unfold State.elapse; dsimp only; split <;> simp

/-- Time as the clocks of the module count it. -/
@[simp] theorem State.elapse_now (s : State) (dt : Nat) : (s.elapse dt).now = s.now + (dt - s.sup.resetLeft) := by
  unfold State.elapse; dsimp only; split <;> simp

@[simp] theorem State.elapse_sup (s : State) (dt : Nat) :
    (s.elapse dt).sup = { s.sup with resetLeft := s.sup.resetLeft - dt } := by
  unfold State.elapse; dsimp only; split <;> simp [State.tick]

@[simp] theorem State.elapse_mode (s : State) (dt : Nat) : (s.elapse dt).mode = s.mode := by simp [State.mode]

/-- With no pulse in progress no coil heats. -/
theorem State.heat_of_idle {s : State} (h : s.act.chans.all (fun c => c.run.isNone) = true) : s.heat = s := if_pos h

/-- With no pulse and no transfer in progress only the clocks count. -/
theorem State.elapse_of_idle {s : State} (h : s.act.chans.all (fun c => c.run.isNone) = true) (h' : s.nl.quiet = true) (dt : Nat) :
    s.elapse dt = s.tick dt := by
  unfold State.elapse; dsimp only
  rw [State.heat_of_idle (by simpa using h)]; exact if_pos h'

/-- With no transfer in progress nothing goes out while time passes. -/
theorem State.elapse_of_quiet {s : State} (h : s.nl.quiet = true) (dt : Nat) : s.elapse dt = (s.tick dt).heat := by
  unfold State.elapse; dsimp only
  rw [if_pos (by simpa using h)]

/-! ## Running -/

/-- A module not held in reset acts on a command after its time. -/
theorem State.run_of_live {s : State} {dt : Nat} (h : (s.elapse dt).live = true) (f : State → State) : s.run dt f = f (s.elapse dt) :=
  if_pos h

/-- On a module held in reset only time passes. -/
theorem State.run_of_held {s : State} {dt : Nat} (h : (s.elapse dt).live = false) (f : State → State) : s.run dt f = s.elapse dt :=
  if_neg (by simp [h])

/-- In OFF only time passes. -/
theorem State.run_of_off {s : State} (h : s.mode = .off) (dt : Nat) (f : State → State) : s.run dt f = s.elapse dt :=
  State.run_of_held (by simp [State.live, show s.sup.mode = .off from h]) f

/-- A module is live once what is left of its hold in reset has passed, unless it is in OFF. -/
theorem State.live_elapse (s : State) (dt : Nat) :
    (s.elapse dt).live = (decide (s.mode ≠ .off) && decide (s.sup.resetLeft ≤ dt)) := by
  by_cases h : s.sup.mode = .off <;> simp [State.live, State.mode, h, Nat.sub_eq_zero_iff_le]

end Sys2Proof.Machine
end

