-- ==== Sys2Proof/Laws/Ops.lean ====
section
/-! SUPPORT. Laws of the shared operations: what a part reads after it or another has been changed, what events, messages and
completions leave of the host interface, what a dangerous fault decides. -/
namespace Sys2Proof.Machine

/-! ## Parts read after a change -/

theorem State.ch_modCh (s : State) (i j : Nat) (f : ActCh → ActCh) :
    (s.modCh i f).ch j = if i = j ∧ j < s.act.chans.length then f (s.ch j) else s.ch j := getD_modAt _ _ _ _ _

@[simp] theorem State.modCh_length (s : State) (i : Nat) (f : ActCh → ActCh) : (s.modCh i f).act.chans.length = s.act.chans.length :=
  length_modAt _ _ _

theorem State.lane_modLane (s : State) (i j : Nat) (f : Lane → Lane) :
    (s.modLane i f).lane j = if i = j ∧ j < s.nl.lanes.length then f (s.lane j) else s.lane j := getD_modAt _ _ _ _ _

@[simp] theorem State.modLane_length (s : State) (i : Nat) (f : Lane → Lane) : (s.modLane i f).nl.lanes.length = s.nl.lanes.length :=
  length_modAt _ _ _

theorem State.sheaf_modSheaf (s : State) (i j : Nat) (f : Sheaf → Sheaf) :
    (s.modSheaf i f).sheaf j = if i = j ∧ j < s.eng.sheaves.length then f (s.sheaf j) else s.sheaf j := getD_modAt _ _ _ _ _

@[simp] theorem State.modSheaf_length (s : State) (i : Nat) (f : Sheaf → Sheaf) : (s.modSheaf i f).eng.sheaves.length = s.eng.sheaves.length :=
  length_modAt _ _ _

theorem State.dram_modDram (s : State) (i j : Nat) (f : DramCh → DramCh) :
    (s.modDram i f).dram j = if i = j ∧ j < s.drm.chans.length then f (s.dram j) else s.dram j := getD_modAt _ _ _ _ _

@[simp] theorem State.modDram_length (s : State) (i : Nat) (f : DramCh → DramCh) : (s.modDram i f).drm.chans.length = s.drm.chans.length :=
  length_modAt _ _ _

theorem State.entry_modEntry (s : State) (i j : Nat) (f : Entry → Entry) :
    (s.modEntry i f).entry j = if i = j ∧ j < s.pcv.entries.length then f (s.entry j) else s.entry j := getD_modAt _ _ _ _ _

@[simp] theorem State.modEntry_length (s : State) (i : Nat) (f : Entry → Entry) : (s.modEntry i f).pcv.entries.length = s.pcv.entries.length :=
  length_modAt _ _ _

theorem State.ring_modRing (s : State) (i j : Nat) (f : Ring → Ring) :
    (s.modRing i f).ring j = if i = j ∧ j < s.hif.rings.length then f (s.ring j) else s.ring j := getD_modAt _ _ _ _ _

@[simp] theorem State.modRing_length (s : State) (i : Nat) (f : Ring → Ring) : (s.modRing i f).hif.rings.length = s.hif.rings.length :=
  length_modAt _ _ _

theorem State.port_modPort (s : State) (i j : Nat) (f : SpiPort → SpiPort) :
    (s.modPort i f).port j = if i = j ∧ j < s.saf.ports.length then f (s.port j) else s.port j := getD_modAt _ _ _ _ _

@[simp] theorem State.modPort_length (s : State) (i : Nat) (f : SpiPort → SpiPort) : (s.modPort i f).saf.ports.length = s.saf.ports.length :=
  length_modAt _ _ _

theorem State.ring_modRing_ne (s : State) (i j : Nat) (f : Ring → Ring) (h : i ≠ j) : (s.modRing i f).ring j = s.ring j := by
  rw [State.ring_modRing, if_neg (fun e => h e.1)]

theorem State.grp_setGrp (s : State) (i j : Nat) (x : Group) (h : SMap.ok Group.zero s.cch.groups = true) :
    (s.setGrp i x).grp j = if j = i then x else s.grp j := SMap.get_put _ _ _ _ _ h

/-! ## What messages, events and completions leave of the host interface -/
@[simp] theorem State.modRing_hif_speed (s : State) (x : Nat) (f : Ring → Ring) : (s.modRing x f).hif.speed = s.hif.speed := rfl
@[simp] theorem State.modRing_hif_width (s : State) (x : Nat) (f : Ring → Ring) : (s.modRing x f).hif.width = s.hif.width := rfl
@[simp] theorem State.modRing_hif_cfg (s : State) (x : Nat) (f : Ring → Ring) : (s.modRing x f).hif.cfg = s.hif.cfg := rfl
@[simp] theorem State.modRing_hif_sessions (s : State) (x : Nat) (f : Ring → Ring) : (s.modRing x f).hif.sessions = s.hif.sessions := rfl
@[simp] theorem State.modRing_hif_expired (s : State) (x : Nat) (f : Ring → Ring) : (s.modRing x f).hif.expired = s.hif.expired := rfl
@[simp] theorem State.modRing_hif_shadows (s : State) (x : Nat) (f : Ring → Ring) : (s.modRing x f).hif.shadows = s.hif.shadows := rfl
@[simp] theorem State.modRing_hif_rdata (s : State) (x : Nat) (f : Ring → Ring) : (s.modRing x f).hif.rdata = s.hif.rdata := rfl
@[simp] theorem State.modRing_hif_linkDown (s : State) (x : Nat) (f : Ring → Ring) : (s.modRing x f).hif.linkDown = s.hif.linkDown := rfl
@[simp] theorem State.modRing_hif_d3 (s : State) (x : Nat) (f : Ring → Ring) : (s.modRing x f).hif.d3 = s.hif.d3 := rfl
@[simp] theorem State.modRing_hif_noMaster (s : State) (x : Nat) (f : Ring → Ring) : (s.modRing x f).hif.noMaster = s.hif.noMaster := rfl
@[simp] theorem State.modRing_hif_poursAbsent (s : State) (x : Nat) (f : Ring → Ring) : (s.modRing x f).hif.poursAbsent = s.hif.poursAbsent := rfl
@[simp] theorem State.modRing_hif_resumeDue (s : State) (x : Nat) (f : Ring → Ring) : (s.modRing x f).hif.resumeDue = s.hif.resumeDue := rfl
@[simp] theorem State.modRing_hif_staging (s : State) (x : Nat) (f : Ring → Ring) : (s.modRing x f).hif.staging = s.hif.staging := rfl
@[simp] theorem State.modRing_hif_waiting (s : State) (x : Nat) (f : Ring → Ring) : (s.modRing x f).hif.waiting = s.hif.waiting := rfl
@[simp] theorem State.modRing_hif_deliveries (s : State) (x : Nat) (f : Ring → Ring) : (s.modRing x f).hif.deliveries = s.hif.deliveries := rfl
@[simp] theorem State.modRing_hif_hostWrites (s : State) (x : Nat) (f : Ring → Ring) : (s.modRing x f).hif.hostWrites = s.hif.hostWrites := rfl
@[simp] theorem State.modRing_hif_completions (s : State) (x : Nat) (f : Ring → Ring) : (s.modRing x f).hif.completions = s.hif.completions := rfl
@[simp] theorem State.modRing_hif_events (s : State) (x : Nat) (f : Ring → Ring) : (s.modRing x f).hif.events = s.hif.events := rfl
@[simp] theorem State.sendMessage_hif_speed (s : State) (v : Nat) : (s.sendMessage v).hif.speed = s.hif.speed := by
  unfold State.sendMessage; dsimp only; (repeat' split) <;> rfl
@[simp] theorem State.sendMessage_hif_width (s : State) (v : Nat) : (s.sendMessage v).hif.width = s.hif.width := by
  unfold State.sendMessage; dsimp only; (repeat' split) <;> rfl
@[simp] theorem State.sendMessage_hif_cfg (s : State) (v : Nat) : (s.sendMessage v).hif.cfg = s.hif.cfg := by
  unfold State.sendMessage; dsimp only; (repeat' split) <;> rfl
@[simp] theorem State.sendMessage_hif_sessions (s : State) (v : Nat) : (s.sendMessage v).hif.sessions = s.hif.sessions := by
  unfold State.sendMessage; dsimp only; (repeat' split) <;> rfl
@[simp] theorem State.sendMessage_hif_expired (s : State) (v : Nat) : (s.sendMessage v).hif.expired = s.hif.expired := by
  unfold State.sendMessage; dsimp only; (repeat' split) <;> rfl
@[simp] theorem State.sendMessage_hif_shadows (s : State) (v : Nat) : (s.sendMessage v).hif.shadows = s.hif.shadows := by
  unfold State.sendMessage; dsimp only; (repeat' split) <;> rfl
@[simp] theorem State.sendMessage_hif_rdata (s : State) (v : Nat) : (s.sendMessage v).hif.rdata = s.hif.rdata := by
  unfold State.sendMessage; dsimp only; (repeat' split) <;> rfl
@[simp] theorem State.sendMessage_hif_linkDown (s : State) (v : Nat) : (s.sendMessage v).hif.linkDown = s.hif.linkDown := by
  unfold State.sendMessage; dsimp only; (repeat' split) <;> rfl
@[simp] theorem State.sendMessage_hif_d3 (s : State) (v : Nat) : (s.sendMessage v).hif.d3 = s.hif.d3 := by
  unfold State.sendMessage; dsimp only; (repeat' split) <;> rfl
@[simp] theorem State.sendMessage_hif_noMaster (s : State) (v : Nat) : (s.sendMessage v).hif.noMaster = s.hif.noMaster := by
  unfold State.sendMessage; dsimp only; (repeat' split) <;> rfl
@[simp] theorem State.sendMessage_hif_poursAbsent (s : State) (v : Nat) : (s.sendMessage v).hif.poursAbsent = s.hif.poursAbsent := by
  unfold State.sendMessage; dsimp only; (repeat' split) <;> rfl
@[simp] theorem State.sendMessage_hif_resumeDue (s : State) (v : Nat) : (s.sendMessage v).hif.resumeDue = s.hif.resumeDue := by
  unfold State.sendMessage; dsimp only; (repeat' split) <;> rfl
@[simp] theorem State.sendMessage_hif_staging (s : State) (v : Nat) : (s.sendMessage v).hif.staging = s.hif.staging := by
  unfold State.sendMessage; dsimp only; (repeat' split) <;> rfl
@[simp] theorem State.sendMessage_hif_waiting (s : State) (v : Nat) : (s.sendMessage v).hif.waiting = s.hif.waiting := by
  unfold State.sendMessage; dsimp only; (repeat' split) <;> rfl
@[simp] theorem State.sendMessage_hif_deliveries (s : State) (v : Nat) : (s.sendMessage v).hif.deliveries = s.hif.deliveries := by
  unfold State.sendMessage; dsimp only; (repeat' split) <;> rfl
@[simp] theorem State.sendMessage_hif_hostWrites (s : State) (v : Nat) : (s.sendMessage v).hif.hostWrites = s.hif.hostWrites := by
  unfold State.sendMessage; dsimp only; (repeat' split) <;> rfl
@[simp] theorem State.sendMessage_hif_completions (s : State) (v : Nat) : (s.sendMessage v).hif.completions = s.hif.completions := by
  unfold State.sendMessage; dsimp only; (repeat' split) <;> rfl
@[simp] theorem State.sendMessage_hif_events (s : State) (v : Nat) : (s.sendMessage v).hif.events = s.hif.events := by
  unfold State.sendMessage; dsimp only; (repeat' split) <;> rfl
@[simp] theorem State.signal_hif_speed (s : State) (x : Nat) : (s.signal x).hif.speed = s.hif.speed := by unfold State.signal; dsimp only; split <;> simp
@[simp] theorem State.signal_hif_width (s : State) (x : Nat) : (s.signal x).hif.width = s.hif.width := by unfold State.signal; dsimp only; split <;> simp
@[simp] theorem State.signal_hif_cfg (s : State) (x : Nat) : (s.signal x).hif.cfg = s.hif.cfg := by unfold State.signal; dsimp only; split <;> simp
@[simp] theorem State.signal_hif_sessions (s : State) (x : Nat) : (s.signal x).hif.sessions = s.hif.sessions := by unfold State.signal; dsimp only; split <;> simp
@[simp] theorem State.signal_hif_expired (s : State) (x : Nat) : (s.signal x).hif.expired = s.hif.expired := by unfold State.signal; dsimp only; split <;> simp
@[simp] theorem State.signal_hif_shadows (s : State) (x : Nat) : (s.signal x).hif.shadows = s.hif.shadows := by unfold State.signal; dsimp only; split <;> simp
@[simp] theorem State.signal_hif_rdata (s : State) (x : Nat) : (s.signal x).hif.rdata = s.hif.rdata := by unfold State.signal; dsimp only; split <;> simp
@[simp] theorem State.signal_hif_linkDown (s : State) (x : Nat) : (s.signal x).hif.linkDown = s.hif.linkDown := by unfold State.signal; dsimp only; split <;> simp
@[simp] theorem State.signal_hif_d3 (s : State) (x : Nat) : (s.signal x).hif.d3 = s.hif.d3 := by unfold State.signal; dsimp only; split <;> simp
@[simp] theorem State.signal_hif_noMaster (s : State) (x : Nat) : (s.signal x).hif.noMaster = s.hif.noMaster := by unfold State.signal; dsimp only; split <;> simp
@[simp] theorem State.signal_hif_poursAbsent (s : State) (x : Nat) : (s.signal x).hif.poursAbsent = s.hif.poursAbsent := by unfold State.signal; dsimp only; split <;> simp
@[simp] theorem State.signal_hif_resumeDue (s : State) (x : Nat) : (s.signal x).hif.resumeDue = s.hif.resumeDue := by unfold State.signal; dsimp only; split <;> simp
@[simp] theorem State.signal_hif_staging (s : State) (x : Nat) : (s.signal x).hif.staging = s.hif.staging := by unfold State.signal; dsimp only; split <;> simp
@[simp] theorem State.signal_hif_waiting (s : State) (x : Nat) : (s.signal x).hif.waiting = s.hif.waiting := by unfold State.signal; dsimp only; split <;> simp
@[simp] theorem State.signal_hif_deliveries (s : State) (x : Nat) : (s.signal x).hif.deliveries = s.hif.deliveries := by unfold State.signal; dsimp only; split <;> simp
@[simp] theorem State.signal_hif_hostWrites (s : State) (x : Nat) : (s.signal x).hif.hostWrites = s.hif.hostWrites := by unfold State.signal; dsimp only; split <;> simp
@[simp] theorem State.signal_hif_completions (s : State) (x : Nat) : (s.signal x).hif.completions = s.hif.completions := by unfold State.signal; dsimp only; split <;> simp
@[simp] theorem State.signal_hif_events (s : State) (x : Nat) : (s.signal x).hif.events = s.hif.events := by unfold State.signal; dsimp only; split <;> simp
@[simp] theorem State.writeEvent_hif_speed (s : State) (c : Nat) (f : Word) (g p : Nat) (a : List Word) : (s.writeEvent c f g p a).hif.speed = s.hif.speed := by simp [State.writeEvent]
@[simp] theorem State.writeEvent_hif_width (s : State) (c : Nat) (f : Word) (g p : Nat) (a : List Word) : (s.writeEvent c f g p a).hif.width = s.hif.width := by simp [State.writeEvent]
@[simp] theorem State.writeEvent_hif_cfg (s : State) (c : Nat) (f : Word) (g p : Nat) (a : List Word) : (s.writeEvent c f g p a).hif.cfg = s.hif.cfg := by simp [State.writeEvent]
@[simp] theorem State.writeEvent_hif_sessions (s : State) (c : Nat) (f : Word) (g p : Nat) (a : List Word) : (s.writeEvent c f g p a).hif.sessions = s.hif.sessions := by simp [State.writeEvent]
@[simp] theorem State.writeEvent_hif_expired (s : State) (c : Nat) (f : Word) (g p : Nat) (a : List Word) : (s.writeEvent c f g p a).hif.expired = s.hif.expired := by simp [State.writeEvent]
@[simp] theorem State.writeEvent_hif_shadows (s : State) (c : Nat) (f : Word) (g p : Nat) (a : List Word) : (s.writeEvent c f g p a).hif.shadows = s.hif.shadows := by simp [State.writeEvent]
@[simp] theorem State.writeEvent_hif_rdata (s : State) (c : Nat) (f : Word) (g p : Nat) (a : List Word) : (s.writeEvent c f g p a).hif.rdata = s.hif.rdata := by simp [State.writeEvent]
@[simp] theorem State.writeEvent_hif_linkDown (s : State) (c : Nat) (f : Word) (g p : Nat) (a : List Word) : (s.writeEvent c f g p a).hif.linkDown = s.hif.linkDown := by simp [State.writeEvent]
@[simp] theorem State.writeEvent_hif_d3 (s : State) (c : Nat) (f : Word) (g p : Nat) (a : List Word) : (s.writeEvent c f g p a).hif.d3 = s.hif.d3 := by simp [State.writeEvent]
@[simp] theorem State.writeEvent_hif_noMaster (s : State) (c : Nat) (f : Word) (g p : Nat) (a : List Word) : (s.writeEvent c f g p a).hif.noMaster = s.hif.noMaster := by simp [State.writeEvent]
@[simp] theorem State.writeEvent_hif_poursAbsent (s : State) (c : Nat) (f : Word) (g p : Nat) (a : List Word) : (s.writeEvent c f g p a).hif.poursAbsent = s.hif.poursAbsent := by simp [State.writeEvent]
@[simp] theorem State.writeEvent_hif_resumeDue (s : State) (c : Nat) (f : Word) (g p : Nat) (a : List Word) : (s.writeEvent c f g p a).hif.resumeDue = s.hif.resumeDue := by simp [State.writeEvent]
@[simp] theorem State.writeEvent_hif_staging (s : State) (c : Nat) (f : Word) (g p : Nat) (a : List Word) : (s.writeEvent c f g p a).hif.staging = s.hif.staging := by simp [State.writeEvent]
@[simp] theorem State.writeEvent_hif_waiting (s : State) (c : Nat) (f : Word) (g p : Nat) (a : List Word) : (s.writeEvent c f g p a).hif.waiting = s.hif.waiting := by simp [State.writeEvent]
@[simp] theorem State.writeEvent_hif_deliveries (s : State) (c : Nat) (f : Word) (g p : Nat) (a : List Word) : (s.writeEvent c f g p a).hif.deliveries = s.hif.deliveries := by simp [State.writeEvent]
@[simp] theorem State.writeEvent_hif_hostWrites (s : State) (c : Nat) (f : Word) (g p : Nat) (a : List Word) : (s.writeEvent c f g p a).hif.hostWrites = s.hif.hostWrites := by simp [State.writeEvent]
@[simp] theorem State.writeEvent_hif_completions (s : State) (c : Nat) (f : Word) (g p : Nat) (a : List Word) : (s.writeEvent c f g p a).hif.completions = s.hif.completions := by simp [State.writeEvent]
@[simp] theorem State.flushLost_hif_speed (s : State) : (s.flushLost).hif.speed = s.hif.speed := by unfold State.flushLost; split <;> simp
@[simp] theorem State.flushLost_hif_width (s : State) : (s.flushLost).hif.width = s.hif.width := by unfold State.flushLost; split <;> simp
@[simp] theorem State.flushLost_hif_cfg (s : State) : (s.flushLost).hif.cfg = s.hif.cfg := by unfold State.flushLost; split <;> simp
@[simp] theorem State.flushLost_hif_sessions (s : State) : (s.flushLost).hif.sessions = s.hif.sessions := by unfold State.flushLost; split <;> simp
@[simp] theorem State.flushLost_hif_expired (s : State) : (s.flushLost).hif.expired = s.hif.expired := by unfold State.flushLost; split <;> simp
@[simp] theorem State.flushLost_hif_shadows (s : State) : (s.flushLost).hif.shadows = s.hif.shadows := by unfold State.flushLost; split <;> simp
@[simp] theorem State.flushLost_hif_rdata (s : State) : (s.flushLost).hif.rdata = s.hif.rdata := by unfold State.flushLost; split <;> simp
@[simp] theorem State.flushLost_hif_linkDown (s : State) : (s.flushLost).hif.linkDown = s.hif.linkDown := by unfold State.flushLost; split <;> simp
@[simp] theorem State.flushLost_hif_d3 (s : State) : (s.flushLost).hif.d3 = s.hif.d3 := by unfold State.flushLost; split <;> simp
@[simp] theorem State.flushLost_hif_noMaster (s : State) : (s.flushLost).hif.noMaster = s.hif.noMaster := by unfold State.flushLost; split <;> simp
@[simp] theorem State.flushLost_hif_poursAbsent (s : State) : (s.flushLost).hif.poursAbsent = s.hif.poursAbsent := by unfold State.flushLost; split <;> simp
@[simp] theorem State.flushLost_hif_resumeDue (s : State) : (s.flushLost).hif.resumeDue = s.hif.resumeDue := by unfold State.flushLost; split <;> simp
@[simp] theorem State.flushLost_hif_staging (s : State) : (s.flushLost).hif.staging = s.hif.staging := by unfold State.flushLost; split <;> simp
@[simp] theorem State.flushLost_hif_waiting (s : State) : (s.flushLost).hif.waiting = s.hif.waiting := by unfold State.flushLost; split <;> simp
@[simp] theorem State.flushLost_hif_deliveries (s : State) : (s.flushLost).hif.deliveries = s.hif.deliveries := by unfold State.flushLost; split <;> simp
@[simp] theorem State.flushLost_hif_hostWrites (s : State) : (s.flushLost).hif.hostWrites = s.hif.hostWrites := by unfold State.flushLost; split <;> simp
@[simp] theorem State.flushLost_hif_completions (s : State) : (s.flushLost).hif.completions = s.hif.completions := by unfold State.flushLost; split <;> simp
@[simp] theorem State.post_hif_speed (s : State) (c : Nat) (f : Word) (g p : Nat) (a : List Word) : (s.post c f g p a).hif.speed = s.hif.speed := by unfold State.post; dsimp only; split <;> simp
@[simp] theorem State.post_hif_width (s : State) (c : Nat) (f : Word) (g p : Nat) (a : List Word) : (s.post c f g p a).hif.width = s.hif.width := by unfold State.post; dsimp only; split <;> simp
@[simp] theorem State.post_hif_cfg (s : State) (c : Nat) (f : Word) (g p : Nat) (a : List Word) : (s.post c f g p a).hif.cfg = s.hif.cfg := by unfold State.post; dsimp only; split <;> simp
@[simp] theorem State.post_hif_sessions (s : State) (c : Nat) (f : Word) (g p : Nat) (a : List Word) : (s.post c f g p a).hif.sessions = s.hif.sessions := by unfold State.post; dsimp only; split <;> simp
@[simp] theorem State.post_hif_expired (s : State) (c : Nat) (f : Word) (g p : Nat) (a : List Word) : (s.post c f g p a).hif.expired = s.hif.expired := by unfold State.post; dsimp only; split <;> simp
@[simp] theorem State.post_hif_shadows (s : State) (c : Nat) (f : Word) (g p : Nat) (a : List Word) : (s.post c f g p a).hif.shadows = s.hif.shadows := by unfold State.post; dsimp only; split <;> simp
@[simp] theorem State.post_hif_rdata (s : State) (c : Nat) (f : Word) (g p : Nat) (a : List Word) : (s.post c f g p a).hif.rdata = s.hif.rdata := by unfold State.post; dsimp only; split <;> simp
@[simp] theorem State.post_hif_linkDown (s : State) (c : Nat) (f : Word) (g p : Nat) (a : List Word) : (s.post c f g p a).hif.linkDown = s.hif.linkDown := by unfold State.post; dsimp only; split <;> simp
@[simp] theorem State.post_hif_d3 (s : State) (c : Nat) (f : Word) (g p : Nat) (a : List Word) : (s.post c f g p a).hif.d3 = s.hif.d3 := by unfold State.post; dsimp only; split <;> simp
@[simp] theorem State.post_hif_noMaster (s : State) (c : Nat) (f : Word) (g p : Nat) (a : List Word) : (s.post c f g p a).hif.noMaster = s.hif.noMaster := by unfold State.post; dsimp only; split <;> simp
@[simp] theorem State.post_hif_poursAbsent (s : State) (c : Nat) (f : Word) (g p : Nat) (a : List Word) : (s.post c f g p a).hif.poursAbsent = s.hif.poursAbsent := by unfold State.post; dsimp only; split <;> simp
@[simp] theorem State.post_hif_resumeDue (s : State) (c : Nat) (f : Word) (g p : Nat) (a : List Word) : (s.post c f g p a).hif.resumeDue = s.hif.resumeDue := by unfold State.post; dsimp only; split <;> simp
@[simp] theorem State.post_hif_staging (s : State) (c : Nat) (f : Word) (g p : Nat) (a : List Word) : (s.post c f g p a).hif.staging = s.hif.staging := by unfold State.post; dsimp only; split <;> simp
@[simp] theorem State.post_hif_waiting (s : State) (c : Nat) (f : Word) (g p : Nat) (a : List Word) : (s.post c f g p a).hif.waiting = s.hif.waiting := by unfold State.post; dsimp only; split <;> simp
@[simp] theorem State.post_hif_deliveries (s : State) (c : Nat) (f : Word) (g p : Nat) (a : List Word) : (s.post c f g p a).hif.deliveries = s.hif.deliveries := by unfold State.post; dsimp only; split <;> simp
@[simp] theorem State.post_hif_hostWrites (s : State) (c : Nat) (f : Word) (g p : Nat) (a : List Word) : (s.post c f g p a).hif.hostWrites = s.hif.hostWrites := by unfold State.post; dsimp only; split <;> simp
@[simp] theorem State.post_hif_completions (s : State) (c : Nat) (f : Word) (g p : Nat) (a : List Word) : (s.post c f g p a).hif.completions = s.hif.completions := by unfold State.post; dsimp only; split <;> simp
@[simp] theorem State.post0_hif_speed (s : State) (c : Nat) (a : List Word) : (s.post0 c a).hif.speed = s.hif.speed := by simp [State.post0]
@[simp] theorem State.post0_hif_width (s : State) (c : Nat) (a : List Word) : (s.post0 c a).hif.width = s.hif.width := by simp [State.post0]
@[simp] theorem State.post0_hif_cfg (s : State) (c : Nat) (a : List Word) : (s.post0 c a).hif.cfg = s.hif.cfg := by simp [State.post0]
@[simp] theorem State.post0_hif_sessions (s : State) (c : Nat) (a : List Word) : (s.post0 c a).hif.sessions = s.hif.sessions := by simp [State.post0]
@[simp] theorem State.post0_hif_expired (s : State) (c : Nat) (a : List Word) : (s.post0 c a).hif.expired = s.hif.expired := by simp [State.post0]
@[simp] theorem State.post0_hif_shadows (s : State) (c : Nat) (a : List Word) : (s.post0 c a).hif.shadows = s.hif.shadows := by simp [State.post0]
@[simp] theorem State.post0_hif_rdata (s : State) (c : Nat) (a : List Word) : (s.post0 c a).hif.rdata = s.hif.rdata := by simp [State.post0]
@[simp] theorem State.post0_hif_linkDown (s : State) (c : Nat) (a : List Word) : (s.post0 c a).hif.linkDown = s.hif.linkDown := by simp [State.post0]
@[simp] theorem State.post0_hif_d3 (s : State) (c : Nat) (a : List Word) : (s.post0 c a).hif.d3 = s.hif.d3 := by simp [State.post0]
@[simp] theorem State.post0_hif_noMaster (s : State) (c : Nat) (a : List Word) : (s.post0 c a).hif.noMaster = s.hif.noMaster := by simp [State.post0]
@[simp] theorem State.post0_hif_poursAbsent (s : State) (c : Nat) (a : List Word) : (s.post0 c a).hif.poursAbsent = s.hif.poursAbsent := by simp [State.post0]
@[simp] theorem State.post0_hif_resumeDue (s : State) (c : Nat) (a : List Word) : (s.post0 c a).hif.resumeDue = s.hif.resumeDue := by simp [State.post0]
@[simp] theorem State.post0_hif_staging (s : State) (c : Nat) (a : List Word) : (s.post0 c a).hif.staging = s.hif.staging := by simp [State.post0]
@[simp] theorem State.post0_hif_waiting (s : State) (c : Nat) (a : List Word) : (s.post0 c a).hif.waiting = s.hif.waiting := by simp [State.post0]
@[simp] theorem State.post0_hif_deliveries (s : State) (c : Nat) (a : List Word) : (s.post0 c a).hif.deliveries = s.hif.deliveries := by simp [State.post0]
@[simp] theorem State.post0_hif_hostWrites (s : State) (c : Nat) (a : List Word) : (s.post0 c a).hif.hostWrites = s.hif.hostWrites := by simp [State.post0]
@[simp] theorem State.post0_hif_completions (s : State) (c : Nat) (a : List Word) : (s.post0 c a).hif.completions = s.hif.completions := by simp [State.post0]
@[simp] theorem State.postP_hif_speed (s : State) (p : Pipe) (c : Nat) (a : List Word) : (s.postP p c a).hif.speed = s.hif.speed := by simp [State.postP]
@[simp] theorem State.postP_hif_width (s : State) (p : Pipe) (c : Nat) (a : List Word) : (s.postP p c a).hif.width = s.hif.width := by simp [State.postP]
@[simp] theorem State.postP_hif_cfg (s : State) (p : Pipe) (c : Nat) (a : List Word) : (s.postP p c a).hif.cfg = s.hif.cfg := by simp [State.postP]
@[simp] theorem State.postP_hif_sessions (s : State) (p : Pipe) (c : Nat) (a : List Word) : (s.postP p c a).hif.sessions = s.hif.sessions := by simp [State.postP]
@[simp] theorem State.postP_hif_expired (s : State) (p : Pipe) (c : Nat) (a : List Word) : (s.postP p c a).hif.expired = s.hif.expired := by simp [State.postP]
@[simp] theorem State.postP_hif_shadows (s : State) (p : Pipe) (c : Nat) (a : List Word) : (s.postP p c a).hif.shadows = s.hif.shadows := by simp [State.postP]
@[simp] theorem State.postP_hif_rdata (s : State) (p : Pipe) (c : Nat) (a : List Word) : (s.postP p c a).hif.rdata = s.hif.rdata := by simp [State.postP]
@[simp] theorem State.postP_hif_linkDown (s : State) (p : Pipe) (c : Nat) (a : List Word) : (s.postP p c a).hif.linkDown = s.hif.linkDown := by simp [State.postP]
@[simp] theorem State.postP_hif_d3 (s : State) (p : Pipe) (c : Nat) (a : List Word) : (s.postP p c a).hif.d3 = s.hif.d3 := by simp [State.postP]
@[simp] theorem State.postP_hif_noMaster (s : State) (p : Pipe) (c : Nat) (a : List Word) : (s.postP p c a).hif.noMaster = s.hif.noMaster := by simp [State.postP]
@[simp] theorem State.postP_hif_poursAbsent (s : State) (p : Pipe) (c : Nat) (a : List Word) : (s.postP p c a).hif.poursAbsent = s.hif.poursAbsent := by simp [State.postP]
@[simp] theorem State.postP_hif_resumeDue (s : State) (p : Pipe) (c : Nat) (a : List Word) : (s.postP p c a).hif.resumeDue = s.hif.resumeDue := by simp [State.postP]
@[simp] theorem State.postP_hif_staging (s : State) (p : Pipe) (c : Nat) (a : List Word) : (s.postP p c a).hif.staging = s.hif.staging := by simp [State.postP]
@[simp] theorem State.postP_hif_waiting (s : State) (p : Pipe) (c : Nat) (a : List Word) : (s.postP p c a).hif.waiting = s.hif.waiting := by simp [State.postP]
@[simp] theorem State.postP_hif_deliveries (s : State) (p : Pipe) (c : Nat) (a : List Word) : (s.postP p c a).hif.deliveries = s.hif.deliveries := by simp [State.postP]
@[simp] theorem State.postP_hif_hostWrites (s : State) (p : Pipe) (c : Nat) (a : List Word) : (s.postP p c a).hif.hostWrites = s.hif.hostWrites := by simp [State.postP]
@[simp] theorem State.postP_hif_completions (s : State) (p : Pipe) (c : Nat) (a : List Word) : (s.postP p c a).hif.completions = s.hif.completions := by simp [State.postP]
@[simp] theorem State.postF_hif_speed (s : State) (p : Pipe) (f : Frame) (c : Nat) (a : List Word) : (s.postF p f c a).hif.speed = s.hif.speed := by simp [State.postF]
@[simp] theorem State.postF_hif_width (s : State) (p : Pipe) (f : Frame) (c : Nat) (a : List Word) : (s.postF p f c a).hif.width = s.hif.width := by simp [State.postF]
@[simp] theorem State.postF_hif_cfg (s : State) (p : Pipe) (f : Frame) (c : Nat) (a : List Word) : (s.postF p f c a).hif.cfg = s.hif.cfg := by simp [State.postF]
@[simp] theorem State.postF_hif_sessions (s : State) (p : Pipe) (f : Frame) (c : Nat) (a : List Word) : (s.postF p f c a).hif.sessions = s.hif.sessions := by simp [State.postF]
@[simp] theorem State.postF_hif_expired (s : State) (p : Pipe) (f : Frame) (c : Nat) (a : List Word) : (s.postF p f c a).hif.expired = s.hif.expired := by simp [State.postF]
@[simp] theorem State.postF_hif_shadows (s : State) (p : Pipe) (f : Frame) (c : Nat) (a : List Word) : (s.postF p f c a).hif.shadows = s.hif.shadows := by simp [State.postF]
@[simp] theorem State.postF_hif_rdata (s : State) (p : Pipe) (f : Frame) (c : Nat) (a : List Word) : (s.postF p f c a).hif.rdata = s.hif.rdata := by simp [State.postF]
@[simp] theorem State.postF_hif_linkDown (s : State) (p : Pipe) (f : Frame) (c : Nat) (a : List Word) : (s.postF p f c a).hif.linkDown = s.hif.linkDown := by simp [State.postF]
@[simp] theorem State.postF_hif_d3 (s : State) (p : Pipe) (f : Frame) (c : Nat) (a : List Word) : (s.postF p f c a).hif.d3 = s.hif.d3 := by simp [State.postF]
@[simp] theorem State.postF_hif_noMaster (s : State) (p : Pipe) (f : Frame) (c : Nat) (a : List Word) : (s.postF p f c a).hif.noMaster = s.hif.noMaster := by simp [State.postF]
@[simp] theorem State.postF_hif_poursAbsent (s : State) (p : Pipe) (f : Frame) (c : Nat) (a : List Word) : (s.postF p f c a).hif.poursAbsent = s.hif.poursAbsent := by simp [State.postF]
@[simp] theorem State.postF_hif_resumeDue (s : State) (p : Pipe) (f : Frame) (c : Nat) (a : List Word) : (s.postF p f c a).hif.resumeDue = s.hif.resumeDue := by simp [State.postF]
@[simp] theorem State.postF_hif_staging (s : State) (p : Pipe) (f : Frame) (c : Nat) (a : List Word) : (s.postF p f c a).hif.staging = s.hif.staging := by simp [State.postF]
@[simp] theorem State.postF_hif_waiting (s : State) (p : Pipe) (f : Frame) (c : Nat) (a : List Word) : (s.postF p f c a).hif.waiting = s.hif.waiting := by simp [State.postF]
@[simp] theorem State.postF_hif_deliveries (s : State) (p : Pipe) (f : Frame) (c : Nat) (a : List Word) : (s.postF p f c a).hif.deliveries = s.hif.deliveries := by simp [State.postF]
@[simp] theorem State.postF_hif_hostWrites (s : State) (p : Pipe) (f : Frame) (c : Nat) (a : List Word) : (s.postF p f c a).hif.hostWrites = s.hif.hostWrites := by simp [State.postF]
@[simp] theorem State.postF_hif_completions (s : State) (p : Pipe) (f : Frame) (c : Nat) (a : List Word) : (s.postF p f c a).hif.completions = s.hif.completions := by simp [State.postF]
@[simp] theorem State.complete_hif_speed (s : State) (tag : Word) (op st ix : Nat) (r : List Word) : (s.complete tag op st ix r).hif.speed = s.hif.speed := by unfold State.complete; dsimp only; split <;> simp
@[simp] theorem State.complete_hif_width (s : State) (tag : Word) (op st ix : Nat) (r : List Word) : (s.complete tag op st ix r).hif.width = s.hif.width := by unfold State.complete; dsimp only; split <;> simp
@[simp] theorem State.complete_hif_cfg (s : State) (tag : Word) (op st ix : Nat) (r : List Word) : (s.complete tag op st ix r).hif.cfg = s.hif.cfg := by unfold State.complete; dsimp only; split <;> simp
@[simp] theorem State.complete_hif_sessions (s : State) (tag : Word) (op st ix : Nat) (r : List Word) : (s.complete tag op st ix r).hif.sessions = s.hif.sessions := by unfold State.complete; dsimp only; split <;> simp
@[simp] theorem State.complete_hif_expired (s : State) (tag : Word) (op st ix : Nat) (r : List Word) : (s.complete tag op st ix r).hif.expired = s.hif.expired := by unfold State.complete; dsimp only; split <;> simp
@[simp] theorem State.complete_hif_shadows (s : State) (tag : Word) (op st ix : Nat) (r : List Word) : (s.complete tag op st ix r).hif.shadows = s.hif.shadows := by unfold State.complete; dsimp only; split <;> simp
@[simp] theorem State.complete_hif_rdata (s : State) (tag : Word) (op st ix : Nat) (r : List Word) : (s.complete tag op st ix r).hif.rdata = s.hif.rdata := by unfold State.complete; dsimp only; split <;> simp
@[simp] theorem State.complete_hif_linkDown (s : State) (tag : Word) (op st ix : Nat) (r : List Word) : (s.complete tag op st ix r).hif.linkDown = s.hif.linkDown := by unfold State.complete; dsimp only; split <;> simp
@[simp] theorem State.complete_hif_d3 (s : State) (tag : Word) (op st ix : Nat) (r : List Word) : (s.complete tag op st ix r).hif.d3 = s.hif.d3 := by unfold State.complete; dsimp only; split <;> simp
@[simp] theorem State.complete_hif_noMaster (s : State) (tag : Word) (op st ix : Nat) (r : List Word) : (s.complete tag op st ix r).hif.noMaster = s.hif.noMaster := by unfold State.complete; dsimp only; split <;> simp
@[simp] theorem State.complete_hif_poursAbsent (s : State) (tag : Word) (op st ix : Nat) (r : List Word) : (s.complete tag op st ix r).hif.poursAbsent = s.hif.poursAbsent := by unfold State.complete; dsimp only; split <;> simp
@[simp] theorem State.complete_hif_resumeDue (s : State) (tag : Word) (op st ix : Nat) (r : List Word) : (s.complete tag op st ix r).hif.resumeDue = s.hif.resumeDue := by unfold State.complete; dsimp only; split <;> simp
@[simp] theorem State.complete_hif_staging (s : State) (tag : Word) (op st ix : Nat) (r : List Word) : (s.complete tag op st ix r).hif.staging = s.hif.staging := by unfold State.complete; dsimp only; split <;> simp
@[simp] theorem State.complete_hif_waiting (s : State) (tag : Word) (op st ix : Nat) (r : List Word) : (s.complete tag op st ix r).hif.waiting = s.hif.waiting := by unfold State.complete; dsimp only; split <;> simp
@[simp] theorem State.complete_hif_deliveries (s : State) (tag : Word) (op st ix : Nat) (r : List Word) : (s.complete tag op st ix r).hif.deliveries = s.hif.deliveries := by unfold State.complete; dsimp only; split <;> simp
@[simp] theorem State.complete_hif_hostWrites (s : State) (tag : Word) (op st ix : Nat) (r : List Word) : (s.complete tag op st ix r).hif.hostWrites = s.hif.hostWrites := by unfold State.complete; dsimp only; split <;> simp
@[simp] theorem State.complete_hif_events (s : State) (tag : Word) (op st ix : Nat) (r : List Word) : (s.complete tag op st ix r).hif.events = s.hif.events := by unfold State.complete; dsimp only; split <;> simp

/-! ## Rings other than the one written -/

@[simp] theorem State.ring_sendMessage (s : State) (v x : Nat) : (s.sendMessage v).ring x = s.ring x := by
  rw [State.ring, State.ring]
  congr 1
  unfold State.sendMessage; dsimp only; (repeat' split) <;> rfl

theorem State.ring_signal_ne (s : State) (i x : Nat) (h : i ≠ x) : (s.signal i).ring x = s.ring x := by
  unfold State.signal; dsimp only; split <;> simp [State.ring_modRing_ne _ _ _ _ h]

theorem State.ring_writeEvent_ne (s : State) (c : Nat) (f : Word) (g p : Nat) (a : List Word) (x : Nat) (h : x ≠ 2) :
    (s.writeEvent c f g p a).ring x = s.ring x := by
  unfold State.writeEvent
  rw [State.ring_signal_ne _ _ _ (Ne.symm h), State.ring_modRing_ne _ _ _ _ (Ne.symm h)]
  rfl

theorem State.ring_flushLost_ne (s : State) (x : Nat) (h : x ≠ 2) : s.flushLost.ring x = s.ring x := by
  unfold State.flushLost
  split
  · exact State.ring_writeEvent_ne _ _ _ _ _ _ _ h
  · rfl

/-- Events touch no ring but the event ring. -/
theorem State.ring_post_ne (s : State) (c : Nat) (f : Word) (g p : Nat) (a : List Word) (x : Nat) (h : x ≠ 2) :
    (s.post c f g p a).ring x = s.ring x := by
  unfold State.post
  dsimp only
  split
  · rw [State.ring_writeEvent_ne _ _ _ _ _ _ _ h, State.ring_flushLost_ne _ _ h]
  · rw [State.ring_modRing_ne _ _ _ _ (Ne.symm h)]
    exact State.ring_flushLost_ne _ _ h

/-- A completion touches no ring but the completion ring. -/
theorem State.ring_complete_ne (s : State) (tag : Word) (op st ix : Nat) (r : List Word) (x : Nat) (h : x ≠ 1) :
    (s.complete tag op st ix r).ring x = s.ring x := by
  unfold State.complete
  dsimp only
  split
  · rfl
  · show ((State.modRing _ 1 Ring.advance).signal 1).ring x = _
    rw [State.ring_signal_ne _ _ _ (Ne.symm h), State.ring_modRing_ne _ _ _ _ (Ne.symm h)]
    rfl

/-- The completion that is written. -/
theorem State.complete_completions (s : State) (tag : Word) (op st ix : Nat) (r : List Word) (h : (s.ring 1).enable = true) :
    (s.complete tag op st ix r).hif.completions = ⟨(s.ring 1).head, (s.ring 1).phase, tag, op, st, ix,
      if st = 0 then (r ++ List.replicate 5 0#32).take 5 else List.replicate 5 0#32⟩ :: s.hif.completions := by
  unfold State.complete
  simp [h]

/-! ## What shutter events, streams and waiting pulses leave alone as they end -/

/-- What the steps by which work ends leave alone: time, the queue, the engines, the converters, the PLATE registers, the ledger,
the record of faults and the mode. -/
structure Kept where
  now : Nat
  pending : List Instr
  eng : Eng
  pcv : Pcv
  plt : Plt
  nv : Nv
  mode : Mode
  decided : List Nat
  first : Nat
  time : Word
  firstAt : Nat
  count : Nat
  safeN : Bool

/-- That part of a state. -/
def State.kept (s : State) : Kept :=
  ⟨s.now, s.pending, s.eng, s.pcv, s.plt, s.nv, s.sup.mode, s.saf.decided, s.saf.first, s.saf.time, s.saf.firstAt, s.saf.count,
    s.saf.safeN⟩

/-- A fold of steps that keep it keeps it. -/
theorem kept_foldl {α : Type} (f : State → α → State) (h : ∀ s a, (f s a).kept = s.kept) (l : List α) (s : State) :
    (l.foldl f s).kept = s.kept := foldl_keeps State.kept f h l s

@[simp] theorem State.modPl_kept (s : State) (p : Pipe) (f : Pl → Pl) : (s.modPl p f).kept = s.kept := by simp [State.kept]
@[simp] theorem State.modCh_kept (s : State) (c : Nat) (f : ActCh → ActCh) : (s.modCh c f).kept = s.kept := by simp [State.kept]
@[simp] theorem State.modRing_kept (s : State) (x : Nat) (f : Ring → Ring) : (s.modRing x f).kept = s.kept := by simp [State.kept]
@[simp] theorem State.modLane_kept (s : State) (l : Nat) (f : Lane → Lane) : (s.modLane l f).kept = s.kept := by simp [State.kept]
@[simp] theorem State.noteSent_kept (s : State) (l : Nat) (ps : List NlPacket) : (s.noteSent l ps).kept = s.kept := by
  simp [State.kept]
@[simp] theorem State.post_kept (s : State) (c : Nat) (f : Word) (g p : Nat) (a : List Word) : (s.post c f g p a).kept = s.kept := by
  simp [State.kept]
@[simp] theorem State.post0_kept (s : State) (c : Nat) (a : List Word) : (s.post0 c a).kept = s.kept := by simp [State.kept]
@[simp] theorem State.postP_kept (s : State) (p : Pipe) (c : Nat) (a : List Word) : (s.postP p c a).kept = s.kept := by
  simp [State.kept]
@[simp] theorem State.nl_kept (s : State) (x : Nl) : State.kept { s with nl := x } = s.kept := rfl
@[simp] theorem State.act_kept (s : State) (x : Act) : State.kept { s with act := x } = s.kept := rfl
@[simp] theorem State.cch_kept (s : State) (x : Cch) : State.kept { s with cch := x } = s.kept := rfl
@[simp] theorem State.logCause_kept (s : State) (k c : Nat) (a : List Nat) : (s.logCause k c a).kept = s.kept := rfl
@[simp] theorem State.warnBit_kept (s : State) (b : Nat) : (s.warnBit b).kept = s.kept := by
  unfold State.warnBit; split
  · rfl
  · simp; rfl
@[simp] theorem State.logCutBoot_kept (s : State) : s.logCutBoot.kept = s.kept := by
  unfold State.logCutBoot; split <;> rfl
@[simp] theorem State.sendPacket_kept (s : State) (k t l n g : Nat) (q : List Byte) : (s.sendPacket k t l n g q).kept = s.kept := by
  simp [State.sendPacket]
@[simp] theorem State.sendCmd_kept (s : State) (o a b : Nat) : (s.sendCmd o a b).kept = s.kept := by simp [State.sendCmd]
@[simp] theorem State.shutterPulse_kept (s : State) (p : Pipe) (o : Owner) : (s.shutterPulse p o).kept = s.kept := by
  cases p <;> simp [State.shutterPulse, State.duePulse]
@[simp] theorem State.countFailure_kept (s : State) (p : Pipe) : (s.countFailure p).kept = s.kept := by
  unfold State.countFailure; dsimp only; split <;> simp
@[simp] theorem State.closeEvent_kept (s : State) (p : Pipe) : (s.closeEvent p).kept = s.kept := by
  unfold State.closeEvent; (repeat' split) <;> simp
@[simp] theorem State.failEvent_kept (s : State) (p : Pipe) (r : Nat) : (s.failEvent p r).kept = s.kept := by
  unfold State.failEvent; (repeat' split) <;> simp
@[simp] theorem State.issueOpen_kept (s : State) (p : Pipe) : (s.issueOpen p).kept = s.kept := by
  unfold State.issueOpen; (repeat' split) <;> simp
@[simp] theorem State.abortEvent_kept (s : State) (p : Pipe) : (s.abortEvent p).kept = s.kept := by simp [State.abortEvent]
@[simp] theorem State.endCycles_kept (s : State) : s.endCycles.kept = s.kept := rfl
@[simp] theorem State.returnClaims_kept (s : State) (f : Frame) : (s.returnClaims f).kept = s.kept := by
  unfold State.returnClaims
  induction f.claims with
  | nil => rfl
  | cons c l ih => simpa using ih
@[simp] theorem State.dropWait_kept (s : State) (w r : Nat) : (s.dropWait w r).kept = s.kept := by
  unfold State.dropWait; split <;> simp
@[simp] theorem State.dropDue_kept (s : State) : s.dropDue.kept = s.kept := rfl
@[simp] theorem State.abortOn_kept (s : State) (i r l : Nat) : (s.abortOn i r l).kept = s.kept := by
  unfold State.abortOn; dsimp only; (repeat' split) <;> simp
@[simp] theorem State.sendAbort_kept (s : State) (i r : Nat) : (s.sendAbort i r).kept = s.kept := by simp [State.sendAbort]
@[simp] theorem State.abortStreams_kept (s : State) : s.abortStreams.kept = s.kept := by simp [State.abortStreams]
@[simp] theorem State.stopPipe_kept (s : State) (p : Pipe) : (s.stopPipe p).kept = s.kept := by
  simp [State.stopPipe, kept_foldl _ State.returnClaims_kept]
@[simp] theorem State.serveLanes_kept (s : State) (m : Nat) : (s.serveLanes m).kept = s.kept := by simp [State.serveLanes]
@[simp] theorem State.relayLink_kept (s : State) (m : Mode) : (s.relayLink m).kept = s.kept := by
  unfold State.relayLink; (repeat' split) <;> simp
@[simp] theorem State.impose_kept (s : State) (p : Pipe) (f : Settings → Settings) : (s.impose p f).kept = s.kept := by
  simp [State.impose]
@[simp] theorem State.leaveMode_kept (s : State) (m : Mode) : (s.leaveMode m).kept = s.kept := by
  unfold State.leaveMode; dsimp only; split <;> simp
@[simp] theorem State.postSafe_kept (s : State) : s.postSafe.kept = s.kept := by
  unfold State.postSafe; split
  · simp
  · rfl

/-! ## Modes and dangerous faults -/

@[simp] theorem State.enterMode_mode (s : State) (m : Mode) : (s.enterMode m).sup.mode = m := by simp [State.enterMode]
@[simp] theorem State.enterMode_trans (s : State) (m : Mode) : (s.enterMode m).sup.trans = false := by simp [State.enterMode]
@[simp] theorem State.postSafe_sup_trans (s : State) : s.postSafe.sup.trans = s.sup.trans := by unfold State.postSafe; split <;> simp

/-- A new mode leaves all of that part but the mode. -/
theorem State.enterMode_kept (s : State) (m : Mode) : (s.enterMode m).kept = { s.kept with mode := m } := by
  have h := (State.relayLink_kept (s.leaveMode m) m).trans (State.leaveMode_kept s m)
  simp only [State.kept, Kept.mk.injEq] at h ⊢
  simp [State.enterMode, h]

/-- Neither pipeline begins or ends its reading. -/
def State.reads (s : State) : Bool × Bool := (s.pa.reading, s.pb.reading)

@[simp] theorem State.modLane_reads (s : State) (l : Nat) (f : Lane → Lane) : (s.modLane l f).reads = s.reads := rfl
@[simp] theorem State.noteSent_reads (s : State) (l : Nat) (ps : List NlPacket) : (s.noteSent l ps).reads = s.reads := by
  simp [State.reads]
@[simp] theorem State.post0_reads (s : State) (c : Nat) (a : List Word) : (s.post0 c a).reads = s.reads := by simp [State.reads]
@[simp] theorem State.nl_reads (s : State) (x : Nl) : State.reads { s with nl := x } = s.reads := rfl
@[simp] theorem State.act_reads (s : State) (x : Act) : State.reads { s with act := x } = s.reads := rfl
@[simp] theorem State.sup_reads (s : State) (x : Sup) : State.reads { s with sup := x } = s.reads := rfl
theorem State.idle_reads (s : State) (a : Saf) (b : Pcv) (c : Plt) (d : Thm) (e : Drm) :
    State.reads { s with saf := a, pcv := b, plt := c, thm := d, drm := e } = s.reads := rfl
@[simp] theorem State.abortOn_reads (s : State) (i r l : Nat) : (s.abortOn i r l).reads = s.reads := by
  unfold State.abortOn; dsimp only; (repeat' split) <;> simp
@[simp] theorem State.sendAbort_reads (s : State) (i r : Nat) : (s.sendAbort i r).reads = s.reads := by simp [State.sendAbort]
@[simp] theorem State.abortStreams_reads (s : State) : s.abortStreams.reads = s.reads := by simp [State.abortStreams]
@[simp] theorem State.dropDue_reads (s : State) : s.dropDue.reads = s.reads := rfl
@[simp] theorem State.dropWait_reads (s : State) (w r : Nat) : (s.dropWait w r).reads = s.reads := by
  unfold State.dropWait; split <;> simp
@[simp] theorem State.serveLanes_reads (s : State) (m : Nat) : (s.serveLanes m).reads = s.reads := by simp [State.serveLanes]
@[simp] theorem State.relayLink_reads (s : State) (m : Mode) : (s.relayLink m).reads = s.reads := by
  unfold State.relayLink; (repeat' split) <;> simp
@[simp] theorem State.impose_reads (s : State) (p : Pipe) (f : Settings → Settings) : (s.impose p f).reads = s.reads := by
  cases p <;> rfl
@[simp] theorem State.leaveMode_reads (s : State) (m : Mode) : (s.leaveMode m).reads = s.reads := by
  unfold State.leaveMode; dsimp only; split <;> simp
@[simp] theorem State.enterMode_reads (s : State) (m : Mode) : (s.enterMode m).reads = s.reads := by simp [State.enterMode]
@[simp] theorem State.postSafe_reads (s : State) : s.postSafe.reads = s.reads := by
  unfold State.postSafe; split
  · simp
  · rfl

/-- A pipeline that has been stopped reads nothing and holds no frame. -/
@[simp] theorem State.stopPipe_reading (s : State) (p : Pipe) : ((s.stopPipe p).pl p).reading = false ∧ ((s.stopPipe p).pl p).frames = [] := by
  simp [State.stopPipe]

/-- Claims returned leave both pipelines alone. -/
theorem State.returnClaims_pa (s : State) (f : Frame) : (s.returnClaims f).pa = s.pa := by
  unfold State.returnClaims
  induction f.claims with
  | nil => rfl
  | cons c l ih => simpa using ih

/-- With both pipelines stopped nothing is read. -/
theorem State.stopPipe_both (s : State) : ((s.stopPipe .A).stopPipe .B).reads = (false, false) := by
  have a : ((s.stopPipe .A).stopPipe .B).pa = (s.stopPipe .A).pa := by
    unfold State.stopPipe
    simp [foldl_keeps State.pa _ State.returnClaims_pa]
  have b := (State.stopPipe_reading (s.stopPipe .A) .B).1
  have c := (State.stopPipe_reading s .A).1
  simp only [State.reads, State.pl] at *
  rw [a, b, c]

/-- Entry to SAFE leads to SAFE at rest, with the bias off; the ledger stays and the faults decided are as before. -/
theorem State.enterSafe_rests (s : State) : s.enterSafe.mode = .safe ∧ s.enterSafe.rests ∧ s.enterSafe.pcv.biasOn = none ∧
    s.enterSafe.nv = s.nv ∧ s.enterSafe.saf.decided = s.saf.decided ∧ s.enterSafe.saf.first = s.saf.first ∧
    s.enterSafe.saf.time = s.saf.time ∧ s.enterSafe.saf.firstAt = s.saf.firstAt := by
  have k : s.enterSafe.kept = { s.kept with
      mode := .safe, pcv := { s.pcv with biasOn := none }, plt := { s.plt with firstMarker := none, busy := false }, safeN := false } := by
    have h : (((((((s.logCutBoot.abortEvent .A).abortEvent .B).endCycles.stopPipe .A).stopPipe .B).abortStreams.dropDue).dropWait 0 5).dropWait 1 5).kept
        = s.kept := by simp
    unfold State.enterSafe
    dsimp only
    rw [State.postSafe_kept, State.enterMode_kept]
    simp only [State.kept, Kept.mk.injEq] at h ⊢
    simp only [h, and_self]
  have r : s.enterSafe.reads = (false, false) := by
    have e (x : State) : ((x.abortStreams.dropDue.dropWait 0 5).dropWait 1 5).reads = x.reads := by simp
    unfold State.enterSafe
    dsimp only
    rw [State.postSafe_reads, State.enterMode_reads]
    rw [State.idle_reads, e, State.stopPipe_both]
  have d : s.enterSafe.sup.trans = false := by simp [State.enterSafe]
  simp only [State.kept, Kept.mk.injEq, State.reads, Prod.mk.injEq] at k r
  simp [State.rests, State.mode, k, r, d]

@[simp] theorem State.enterSafe_mode (s : State) : s.enterSafe.mode = .safe := s.enterSafe_rests.1
@[simp] theorem State.enterSafe_nv (s : State) : s.enterSafe.nv = s.nv := s.enterSafe_rests.2.2.2.1
@[simp] theorem State.enterSafe_saf_decided (s : State) : s.enterSafe.saf.decided = s.saf.decided := s.enterSafe_rests.2.2.2.2.1
@[simp] theorem State.enterSafe_saf_first (s : State) : s.enterSafe.saf.first = s.saf.first := s.enterSafe_rests.2.2.2.2.2.1
@[simp] theorem State.enterSafe_saf_time (s : State) : s.enterSafe.saf.time = s.saf.time := s.enterSafe_rests.2.2.2.2.2.2.1
@[simp] theorem State.enterSafe_saf_firstAt (s : State) : s.enterSafe.saf.firstAt = s.saf.firstAt := s.enterSafe_rests.2.2.2.2.2.2.2

/-- FIRST after a fault is recorded (R313): a fault decided in the PER clock of the first and of a lower ID stands before it. -/
theorem Saf.record_first (f : Saf) (id now : Nat) :
    (f.record id now).first = (if f.first = 0 ∨ f.firstAt = now ∧ id < f.first then id else f.first) := by
  by_cases a : f.first = 0
  · simp [Saf.record, a]
  · by_cases b : f.firstAt = now ∧ id < f.first
    · rw [if_pos (Or.inr b)]
      simp only [Saf.record, if_neg a, if_pos b]
    · rw [if_neg (not_or.mpr ⟨a, b⟩)]
      simp only [Saf.record, if_neg a, if_neg b]
      split <;> rfl

/-- What the record of a fault keeps: those decided before, and the instant and the time of the first. -/
theorem Saf.record_keeps (f : Saf) (id now : Nat) :
    (f.record id now).decided = f.decided ++ [id] ∧ (f.record id now).count = satInc f.count 1 255 ∧
      (f.first ≠ 0 → (f.record id now).time = f.time ∧ (f.record id now).firstAt = f.firstAt) := by
  unfold Saf.record
  dsimp only
  split
  · next a => exact ⟨rfl, rfl, fun b => absurd a b⟩
  · split
    · exact ⟨rfl, rfl, fun _ => ⟨rfl, rfl⟩⟩
    · split
      · exact ⟨rfl, rfl, fun _ => ⟨rfl, rfl⟩⟩
      · exact ⟨rfl, rfl, fun _ => ⟨rfl, rfl⟩⟩

/-- SECOND after a fault is recorded, where FIRST is set (R313): it holds the second of those decided, and once set it changes
only within the PER clock of its decision. -/
theorem Saf.record_second (f : Saf) (id now : Nat) (h : f.first ≠ 0) :
    (f.record id now).second = (if f.firstAt = now ∧ id < f.first then f.first
      else if f.second = 0 ∨ f.secondAt = now ∧ id < f.second then id else f.second) := by
  by_cases b : f.firstAt = now ∧ id < f.first
  · simp only [Saf.record, if_neg h, if_pos b]
  · by_cases c : f.second = 0 ∨ f.secondAt = now ∧ id < f.second
    · simp only [Saf.record, if_neg h, if_neg b, if_pos c]
    · simp only [Saf.record, if_neg h, if_neg b, if_neg c]

/-- What the decision of a dangerous fault writes before SAFE is entered. -/
theorem State.fault_eq (s : State) (id : Nat) (h : id ∉ s.saf.decided) (m : s.mode ≠ .off) :
    ∃ u : State, s.fault id = (if u.mode = .safe then u else u.enterSafe) ∧ u.mode = s.mode ∧ u.nv = s.nv ∧
      u.saf = s.saf.record id s.now := by
  have c : ¬(s.saf.decided.contains id || decide (s.mode = .off)) = true := by simpa using ⟨h, m⟩
  unfold State.fault
  rw [if_neg c]
  refine ⟨_, rfl, ?_⟩
  split <;> exact ⟨rfl, rfl, rfl⟩

/-- A dangerous fault that has not been decided is decided: the first one is kept with its time, one of its PER clock and of a
lower ID standing before it, and SAFE is entered, or stays. -/
theorem State.fault_decides (s : State) (id : Nat) (h : id ∉ s.saf.decided) (m : s.mode ≠ .off) :
    (s.fault id).mode = .safe ∧ (s.fault id).saf.decided = s.saf.decided ++ [id] ∧
      (s.fault id).saf.first = (if s.saf.first = 0 ∨ s.saf.firstAt = s.now ∧ id < s.saf.first then id else s.saf.first) ∧
      (s.saf.first ≠ 0 → (s.fault id).saf.time = s.saf.time ∧ (s.fault id).saf.firstAt = s.saf.firstAt) ∧
      (s.mode ≠ .safe → (s.fault id).rests) ∧ (s.fault id).nv = s.nv := by
  obtain ⟨u, e, um, un, us⟩ := s.fault_eq id h m
  obtain ⟨kd, -, kt⟩ := s.saf.record_keeps id s.now
  have kf := s.saf.record_first id s.now
  rw [e]
  split
  · next g => exact ⟨g, us ▸ kd, us ▸ kf, fun k => us ▸ kt k, fun k => absurd (um ▸ g) k, un⟩
  · exact ⟨u.enterSafe_mode, u.enterSafe_saf_decided.trans (us ▸ kd), u.enterSafe_saf_first.trans (us ▸ kf),
      fun k => ⟨u.enterSafe_saf_time.trans (us ▸ (kt k).1), u.enterSafe_saf_firstAt.trans (us ▸ (kt k).2)⟩,
      fun _ => u.enterSafe_rests.2.1, u.enterSafe_nv.trans un⟩

end Sys2Proof.Machine
end

