-- ==== Sys2Proof/Machine/BootStore.lean ====
section
/-! DEFINITION. The boot store (09 R224): its layout, the stored form of a bundle with its NUC sections packed, a scene-offset slot as
bytes (R129). The state holds what the regions mean; here are the bytes that the module keeps of it (DESIGN CHOICE,
notes/assumptions/111). -/
namespace Sys2Proof.Machine

/-! ## The stored form of a bundle -/

/-- The 11 bytes of a pair of NUC entries: the upper 44 bits of each. -/
def packPair (e0 e1 : Nat) : List Byte := le 11 (e0 / 2 ^ 20 % 2 ^ 44 + e1 / 2 ^ 20 % 2 ^ 44 * 2 ^ 44)

/-- The pair of entries behind 11 bytes, the lower 20 bits of each 0 (R104). -/
def unpackPair (b : List Byte) : Nat × Nat := (unle b % 2 ^ 44 * 2 ^ 20, unle b / 2 ^ 44 % 2 ^ 44 * 2 ^ 20)

/-- The NUC sections of a bundle by offset and length, in rising order. -/
def nucSections (m : SMap Byte) : List (Nat × Nat) :=
  ((directory m).filter (fun d => decide (16 ≤ d.1) && decide (d.1 ≤ 31))).foldr
    (fun d l => l.filter (fun x => decide (x.1 < d.2.1)) ++ (d.2.1, d.2.2) :: l.filter (fun x => decide (d.2.1 < x.1))) []

/-- Bytes of a packed section: 11 for each pair of entries. -/
def packedLength (n : Nat) : Nat := n / 16 * 11

/-- Byte `k` of the stored form of a bundle: past the sections in `nuc`, each packed, a byte stands `shift` before its place in the bundle
as staged. -/
def storedByte (m : SMap Byte) : List (Nat × Nat) → Nat → Nat → Byte
  | [], shift, k => SMap.get 0#8 m (k + shift)
  | (o, n) :: rest, shift, k =>
    if k + shift < o then SMap.get 0#8 m (k + shift)
    else
      let j := k + shift - o
      if j < packedLength n then (packPair (rd m (o + j / 11 * 16) 8) (rd m (o + j / 11 * 16 + 8) 8)).getD (j % 11) 0#8
      else storedByte m rest (shift + (n - packedLength n)) k

/-- Byte `a` of a bundle unpacked from its stored form `f` (R377). -/
def unpackedByte (f : Nat → Byte) : List (Nat × Nat) → Nat → Nat → Byte
  | [], shift, a => f (a - shift)
  | (o, n) :: rest, shift, a =>
    if a < o then f (a - shift)
    else if a < o + n then
      let j := a - o
      let p := unpackPair ((List.range 11).map (fun i => f (o - shift + j / 16 * 11 + i)))
      (le 8 (if j % 16 < 8 then p.1 else p.2)).getD (j % 8) 0#8
    else unpackedByte f rest (shift + (n - packedLength n)) a

/-! ## Scene-offset slots -/

/-- The 64-byte header of a slot without its CRC, then the table row by row (R95, R107, R129). -/
def SoSlot.header (x : SoSlot) : List Byte :=
  le 4 x.pseq ++ le 4 x.bundleId ++ le 2 x.tShort ++ le 1 x.hdrK ++ [0#8] ++ le 2 (code x.tPlate 16) ++ [0#8, 0#8] ++
    le 4 (code x.bd0 32) ++ List.replicate 40 0#8

/-- Entry (r, c) of the table. -/
def SoSlot.entry (x : SoSlot) (i : Nat) : Int := (SMap.get #[] x.table (i / 2048)).getD (i % 2048) 0

/-- Byte `k` of the table. -/
def SoSlot.tableByte (x : SoSlot) (k : Nat) : Byte := (le 2 (code (x.entry (k / 2)) 16)).getD (k % 2) 0#8

/-- The CRC of a slot; one whose write was cut short has another (R131). -/
def SoSlot.crc (x : SoSlot) : Word :=
  let c := crc32 (x.header ++ (List.range 6291456).map x.tableByte)
  if x.ok then c else ~~~c

/-- Byte `k` of a slot. -/
def SoSlot.byte (x : SoSlot) (k : Nat) : Byte :=
  if k < 60 then x.header.getD k 0#8 else if k < 64 then (le 4 x.crc.toNat).getD (k - 60) 0#8 else x.tableByte (k - 64)

/-! ## The regions -/

/-- Byte `k` of a bundle in its stored form; none past its end. -/
def Bundle.storedByte? (b : Bundle) (k : Nat) : Option Byte :=
  match b.staged with
  | some (n, m) => if k < storedBytes m n then some (storedByte m (nucSections m) 0 k) else none
  | none => if k < Config.factoryTotal then some (Config.factoryByte k) else none

/-- Byte `k` of an image slot. -/
def Nv.imageByte (x : Nv) (i k : Nat) : Option Byte :=
  match x.images[i]? with
  | some y =>
    if !y.present then none
    else match y.data with
      | some (n, m) => if k < n then some (SMap.get 0#8 m k) else none
      | none => some (Config.imageByte i k)
  | none => none

/-- The byte of the boot store at an offset (R224); none where the spec says nothing of it: the reserved region, and what a region holds
past its object. -/
def Nv.bootByte (x : Nv) (a : Nat) : Option Byte :=
  if a < 0x0c00000 then x.imageByte 0 a
  else if a < 0x1800000 then x.imageByte 1 (a - 0x0c00000)
  else if a < 0x4000000 then x.factory.bind (fun b => b.storedByte? (a - 0x1800000))
  else if a < 0x7300000 then x.persisted.bind (fun b => b.storedByte? (a - 0x4000000))
  else if a < 0x7910000 then
    if a - 0x7300000 < 6291520 then (x.soSlots[0]?).map (fun y => y.byte (a - 0x7300000)) else none
  else if a < 0x7f20000 then
    if a - 0x7910000 < 6291520 then (x.soSlots[1]?).map (fun y => y.byte (a - 0x7910000)) else none
  else none

end Sys2Proof.Machine
end

