-- ==== Sys2Proof/Tests/Slice0.lean ====
section
/-! SUPPORT. Tests: ill-formed commands that WellFormed refuses, the worked examples of the spec, single steps, and for each
statement of Obligations.lean states and operands that meet its hypotheses, clause by clause. -/
namespace Sys2Proof.Tests
set_option Elab.async false
open Sys2Proof Sys2Proof.Machine

/-! ## States to test on -/

/-- Rings 0 to 3 in service with 16 entries, one command posted in ring 0. -/
def rings : List Ring :=
  { Ring.reset 0 with enable := true, size := 4, tail := 1 } :: { Ring.reset 1 with enable := true, size := 4 } ::
    { Ring.reset 2 with enable := true, size := 4 } :: { Ring.reset 3 with enable := true, size := 4, tail := 2 } ::
    ((List.range 19).map (fun i => Ring.reset (i + 4)))

/-- A module in a mode at ten seconds, its sheaves idle, with a host and one authenticated session of a role. -/
def base (m : Mode) (r : Role) : State :=
  { State.reset with
    now := 1250000000
    sup := { Sup.reset with mode := m, step := 12, ledgerReady := true }
    hif := { Hif.reset with rings := rings, sessions := [some ⟨1#32, r, 0#128, [], true, 0⟩, none, none, none], linkDown := false,
                            noMaster := false, speed := 3, width := 4, link := (3, 4) }
    eng := { Eng.reset with sheaves := List.replicate 16 ⟨.idle, false, 1, .idle, false, false, false, none, [], [], none, none⟩ } }

/-- The header of a command of that session. -/
def hdr : Hdr := ⟨7#32, 1#32, false⟩

/-- No session's block, nothing drawn. -/
def noInput : HostInput := ⟨none, [], false, 0#32, 0#128, ⟨[]⟩⟩

/-- A frame of pipeline A or B at its start. -/
def frame (n : Nat) : Frame := Frame.start Pl.reset n 1249000000 none (0, false)

/-- A pipeline that reads one frame. -/
def reading : Pl := { Pl.reset with reading := true, frameNo := 6, frames := [frame 5] }

/-! ## Ill-formed commands -/

theorem wf_fetch_short : (Instr.commandFetch 0 (some [0#8]) noInput).wf = false := by decide
theorem wf_fetch_bar2 : (Instr.commandFetch 0 none { noInput with bar2 := [.write 0x7fffff#23 [0#8, 0#8]] }).wf = false := by decide
theorem wf_stageChunk : (Instr.stageChunk 0 hdr 0#8 0#32 0#32 [.read 0x7fffff#23 2]).wf = false := by decide
theorem wf_stageCommit : (Instr.stageCommit 0 hdr 0#8 true ⟨[.write .other 0#32 []]⟩).wf = false := by decide
theorem wf_moduleReset : (Instr.moduleReset 0 .spi false []).wf = false := by decide
theorem wf_sessionAuth : (Instr.sessionAuth 0 hdr 1#32 []).wf = false := by decide
theorem wf_productSet : (Instr.productSet 0 hdr 0#8 [0#8] 0#16).wf = false := by decide
theorem wf_paramSet : (Instr.paramSet 0 hdr 0#8 0#8 2#16 0#64 (some [0#8])).wf = false := by decide
theorem wf_ledgerRead : (Instr.ledgerRead 0 hdr 0#32 4#32 0#64 (some [])).wf = false := by decide
theorem wf_ledgerWrite : (Instr.ledgerWrite 0 hdr 0#32 4#32 0#64 (some [])).wf = false := by decide
theorem wf_bootStep : (Instr.bootStep 0 ⟨true, [true], [], 0, 0, []⟩).wf = false := by decide
theorem wf_bootStep_width : (Instr.bootStep 0 ⟨true, [true, true], [true, true], 3, 3, []⟩).wf = false := by decide
theorem wf_rowSlot : (Instr.rowSlot 0 ⟨#[], #[], #[], #[]⟩).wf = false := by decide
theorem wf_stripeStart : (Instr.stripeStart 0 .A 0#32 [] ⟨[.read .rt0 0xe0000000#32]⟩ []).wf = false := by decide
theorem wf_scrubberPass : (Instr.scrubberPass 0 ⟨[.write .other 60#32 (List.replicate 5 0#8)]⟩).wf = false := by decide
theorem wf_nlTransfer : (Instr.nlTransferStart 0 1 ⟨⟨[]⟩, ⟨[.flip 0#32 [576]]⟩⟩).wf = false := by decide
theorem wf_conversion : (Instr.conversionComplete 0 0 (.input 0 3765000000001)).wf = false := by decide
theorem wf_thermal : (Instr.thermalConversion 0 0 (-8388609)).wf = false := by decide
theorem wf_linkBudget : (Instr.linkBudget 0 2 8).wf = false := by decide
theorem wf_poll : (Instr.refreshStatusPoll 0 0 0 128).wf = false := by decide
theorem wf_lanes : (let rx : RxTraffic := ⟨[.bits false 25 []], false⟩
    [Instr.nlLocked 0 0 rx, .lsync 0 0 rx, .missingLsync 0 0 rx, .nlLockLost 0 0 rx, .trn 0 0 rx, .chunk 0 0 rx, .header 0 0 rx, .coeff 0 0 rx,
      .rowS 0 0 rx, .rowL 0 0 rx, .cmdRun 0 0 rx, .cmdRetry 0 0 rx, .cmdPulse 0 0 rx, .cmdBlade 0 0 rx, .cmdStop 0 0 rx].all (fun c => !c.wf)) = true := by
  decide
theorem wf_nop : (Instr.nop 0 hdr).wf = true := by decide

/-! ## Worked examples of the spec -/

/-- 00 R7: rnd(5, 1) = 3, rnd(-5, 1) = -2, sat_u(70000, 16) = 65535. -/
theorem test_rnd : rnd 5 1 = 3 ∧ rnd (-5) 1 = -2 ∧ satU 70000 16 = 65535 := by decide

/-- 02 R48: at 30 Hz with k = 16 the longest T_SHORT is 153, at 60 Hz it is 72. -/
theorem test_exposure : validExposure 0x00009931#32 = true ∧ validExposure 0x00009a31#32 = false ∧ validExposure 0x00009930#32 = false ∧
    validExposure 0x00004830#32 = true := by decide

/-- 03 R67: at 41.25 °C the offset is 136 and the gain 210. -/
theorem test_interp : interp 10560 [0, 7680, 20480] [0, 100, 260] = 136 ∧ interp 10560 [0, 7680, 20480] [0, 180, 313] = 210 := by decide

/-- 07 R173: the buffers of DISPLAY, VISION_A, TEMPMAP, STATS, CANDIDATES and SURFACE at minimum stride. -/
theorem test_buffers : [0, 2, 5, 6, 7, 8].map (fun k => bufferBytes k 0 false 0) = [6291712, 6291712, 6291712, 15872, 4368, 12544] := by decide

/-- 10 R234: word (100, 631) of frame slot 0 of CAP_A. -/
theorem test_silo : siloAddress 2 (0x12000000 + 821724) = (1, 0, 4620, 732) ∧ checkBytes 4620 732 = (57921, 1112) := by decide

/-- 11 R259: entry 7 loads PC0 with 4608 + 1536, entry 8 loads PC1 with 768 + 4096 + 64. -/
theorem test_load : modLoad 2#32 (List.replicate 7 0#32 ++ [0x80600040#32, 0xc0808080#32]) 0 = 6144 ∧
    modLoad 2#32 (List.replicate 7 0#32 ++ [0x80600040#32, 0xc0808080#32]) 1 = 4928 := by decide

/-- 12 R274: one step at TAU_S 30 uses k = 218. -/
theorem test_cooling_factor : 6554 / (State.reset.ch 0).tauS = 218 := by decide

/-- 15 R346: HIGH 1234 and a full stroke cell of TAG 1234 give 316160; the next pulse is 316161. -/
theorem test_tally : Tally.value ⟨Rec.both 1235 1234, 256, 1234⟩ = 316160 ∧
    (Tally.count ⟨Rec.both 1235 1234, 256, 1234⟩).value = 316161 := by decide

/-- 15 R346: copy A holds 1235 with SEQ 1236, copy B 1234: the repaired tally reads 316160 and counts on from there. -/
theorem test_tally_repair : (Tally.repaired ⟨⟨some (1236, 1235), some (1235, 1234)⟩, 256, 1234⟩).value = 316160 := by decide

/-- 09 R219: lockouts of 30, 60, 120, 240, 480 and again 480 s. -/
theorem test_lockouts : [3, 4, 5, 6, 7, 8].map lockSeconds = [30, 60, 120, 240, 480, 480] := by decide

/-- 16 R366: the depth chosen for 0, 20, 400, 5000 and 4000000 us. -/
theorem test_depths : [0, 19, 20, 399, 400, 4999, 5000, 4000000].map chosenDepth = [0, 0, 1, 1, 2, 2, 3, 4] := by decide

/-- 07 R161: the check value of CRC-32. -/
theorem test_crc32 : crc32 [0x31#8, 0x32#8, 0x33#8, 0x34#8, 0x35#8, 0x36#8, 0x37#8, 0x38#8, 0x39#8] = 0xcbf43926#32 := by decide +kernel

/-- 14 R324: the check value of CRC-8 with polynomial 0x2f, 0xff in and 0xff out. -/
theorem test_crc8 : crc8 [0x31#8, 0x32#8, 0x33#8, 0x34#8, 0x35#8, 0x36#8, 0x37#8, 0x38#8, 0x39#8] = 0xdf#8 := by decide +kernel

/-- 14 R313: faults of one PER clock stand in the order of their IDs, and a later one changes neither. -/
theorem test_faults_of_one_clock : (let f := ((Saf.reset.record 13 7).record 8 7).record 2 9
    (f.first, f.second, f.count, f.time)) = (8, 13, 3, 7#32) := by decide

/-- The words of the table give no bits, so none spells a command. -/
theorem test_decode : decodeTableWord 32 0 = none := by decide

/-! ## States that meet the hypotheses of the statements -/

/-- `takes`, as a test that can be computed. -/
def served (s : State) (h : Hdr) (r : Role) : Bool :=
  s.mayFetch && decide (s.mode ≠ .safe) && !s.asleep && !s.pa.pend.compat && !h.rsv &&
    (s.sessionOf h.session).any (fun x => decide (x.role = r))

/-- The test says what `takes` says. -/
theorem takes_of_served (s : State) (h : Hdr) (r : Role) (e : served s h r = true) : s.takes h r := by
  simp only [served, Bool.and_eq_true, Bool.not_eq_true', decide_eq_true_eq, Option.any_eq_true] at e
  obtain ⟨⟨⟨⟨⟨a, b⟩, c⟩, d⟩, f⟩, x, hx, hr⟩ := e
  exact ⟨a, b, c, d, f, x, hx, hr⟩

/-- `admits`, as a test that can be computed. -/
def admitted (s : State) (q : SpiReq) (op : Nat) : Bool :=
  decide (2500000 ≤ s.now) && decide (s.saf.ports.length = 2) &&
    decide (crc8 (frameBytes op q.arg.toNat (q.seq.toNat * 16 + q.rsv.toNat) q.data) = q.crc) &&
    (decide (q.sel = .maint) || decide (s.saf.comparing = none)) &&
    (s.port (selNum q.sel)).seq.all (fun r => decide (q.seq.toNat = (r + 1) % 16))

/-- The test says what `admits` says. -/
theorem admits_of_admitted (s : State) (q : SpiReq) (op : Nat) (e : admitted s q op = true) : s.admits q op := by
  simp only [admitted, Bool.and_eq_true, decide_eq_true_eq] at e
  obtain ⟨⟨⟨⟨a, b⟩, c⟩, k⟩, d⟩ := e
  refine ⟨a, b, c, fun h => by simpa [h] using k, fun r hr => ?_⟩
  simpa [hr] using d

/-- The doorbell of a ring is accepted with an INDEX. -/
def rung (u : State) (x i : Nat) : Bool :=
  let r := u.ring x
  let d := fun a b => (a + 2 ^ r.size - b % 2 ^ r.size) % 2 ^ r.size
  r.enable && decide (i < 2 ^ r.size) && (x = 1 || x = 2 || decide (d r.tail r.head ≤ d i r.head)) &&
    ((x ≠ 1 && x ≠ 2) || decide (d i r.tail ≤ d r.head r.tail))

/-- A module in STANDBY under a maintenance session, and its state when a command has let no time pass. -/
def idle : State := (base .standby .maintenance).elapse 0

/-- A module in IMAGING that reads frame 5. -/
def busy : State := { base .imaging .operator with pa := reading, plt := { Plt.reset with marker := 1249000000 } }

theorem witness_StepTakesFront : ({ State.reset with pending := [.nop 0 hdr, .coolingTick 1] } : State).pending = .nop 0 hdr :: [.coolingTick 1] ∧
    State.reset.pending = [] := by decide +kernel

theorem witness_OffHoldsTheModule : (base .off .operator).mode = .off ∧ Instr.reachesOff (.nop 0 hdr) = false := by decide +kernel

theorem witness_Doorbells : idle.live = true ∧ rung idle 3 15 = true ∧ rung idle 3 2 = true ∧ rung idle 1 0 = true ∧
    (rung idle 2 0 = true ∧ idle.hif.lostSince = 0) ∧ rung idle 0 15 = true ∧ rung idle 3 16 = false ∧ rung idle 3 1 = false ∧
    rung idle 1 1 = false ∧ rung idle 22 0 = false := by decide +kernel

/-- No session open, every ring as at reset. -/
def unlocked : State := { base .standby .operator with hif := Hif.reset }

theorem witness_RingEnable : unlocked.live = true ∧ unlocked.locked = false ∧ (unlocked.ring 22).enable = false ∧ (unlocked.ring 0).enable = false ∧
    ([0x80000003#32, 0x8000000c#32].all (fun v => bit v 31 && decide (3 ≤ fld v 3 0 ∧ fld v 3 0 ≤ 12))) ∧ (unlocked.ring 22).stride.toNat % 64 = 0 ∧
    (unlocked.ring 2).enable = false ∧ unlocked.hif.lostSince = 0 ∧ unlocked.hif.resumeDue = false ∧ unlocked.sup.noBundleDue = false ∧
    unlocked.sup.safeEvDue = false ∧
    [0x80000002#32, 0x8000000d#32].all (fun v => bit v 31 && decide (¬(3 ≤ fld v 3 0 ∧ fld v 3 0 ≤ 12))) := by decide +kernel

theorem witness_RegisterWrite : idle.live = true ∧ idle.locked = true ∧ unlocked.live = true ∧ unlocked.locked = false ∧ unlocked.hif.rings.length = 23 ∧
    [0x08000#20, 0x08004#20, 0x02000#20, 0x09010#20, 0x00014#20, 0x0800c#20, 0x08034#20, 0x10000#20, 0x1001c#20, 0x21000#20, 0x21030#20,
      0x22000#20, 0xffffc#20, 0x08038#20, 0x08ffc#20, 0x16540#20, 0x1fffc#20, 0x04118#20, 0x043d8#20, 0x0c004#20, 0x0d04c#20, 0x0d07c#20,
      0x04100#20, 0x043c0#20].all (fun o => decide (o.toNat % 4 = 0)) ∧
    (0x04118#20).toNat = 0x4118 + 32 * 0 ∧ (0x043d8#20).toNat = 0x4118 + 32 * 22 ∧ (0x0d07c#20).toNat = 0xd04c + 16 * 3 ∧
    (0x043c0#20).toNat = 0x4100 + 32 * 22 := by decide +kernel

theorem witness_AccessSize : idle.live = true := by decide +kernel

/-- MSI with `n` doubled vectors granted; vector 4 masked, the rings' messages on vector 31. -/
def signalling (n : Nat) (held : Bool) : State :=
  { idle with hif := { idle.hif with
      rings := modAt idle.hif.rings 22 (fun r => { r with modHeld := held, modUntil := idle.now, vector := 31 })
      cfg := { PciCfg.reset with msiOn := true, msiGranted := n }, msiMask := 16#32, msiPending := 16#32 } }

theorem witness_ReadsAndMessages : idle.live = true ∧ (0x04008#20).toNat % 4 = 0 ∧ SMap.ok none idle.hif.shadows = true ∧
    SMap.get none idle.hif.shadows 0x4008 = none ∧
    (idle.hif.msi = 0 ∧ idle.hif.vectors[31]? = some ⟨0#32, 0#32, 0#32, true, false⟩ ∧ idle.absent = false) ∧
    (let s := { idle with hif := { idle.hif with rings := modAt idle.hif.rings 22 (fun r => { r with modHeld := true, modUntil := idle.now, vector := 31 }) } }
     s.live = true ∧ (s.ring 22).modHeld = true ∧ (s.ring 22).modUntil ≤ s.now + 0 ∧ s.hif.msi = 0 ∧
       s.hif.vectors[(s.ring 22).vector]? = some ⟨0#32, 0#32, 0#32, true, false⟩) ∧
    (idle.ring 22).modHeld = false ∧
    [0, 5].all (fun n =>
      let s := signalling n true
      s.live && (s.ring 22).modHeld && decide ((s.ring 22).modUntil ≤ s.now) && decide (s.hif.msi ≠ 0)) = true ∧
    (let s := signalling 5 false
     4 < s.hif.msi ∧ s.absent = false ∧ ∀ m, m < 32 → m ≠ 4 → bit s.hif.msiPending m = true → bit s.hif.msiMask m = true) := by decide +kernel

/-- A camera that binds VISION_A to ring 3 under a session. -/
def camera (h : Word) : Camera := ⟨0, h, false, [0, 0, 3, 0, 0, 0, 0, 0, 0, 0], [2], []⟩

/-- Camera 0 on pipeline A. -/
def bound (m : Mode) (r : Role) : State :=
  { base m r with pa := { Pl.reset with pend := { Settings.reset with cams := [camera 1#32], mode := m } } }

theorem witness_HostPresence : idle.live = true ∧ idle.hif.sessions.length = 4 ∧ idle.hif.link.1 ≠ 0 ∧ linkBudget 0 0 = 0 ∧ linkBudget idle.hif.link.1 idle.hif.link.2 ≤ linkBudget 3 4 ∧
    (let s := bound .imaging .operator
     s.live = true ∧ 0 < linkBudget 1 1 ∧ linkBudget 1 1 < linkBudget s.hif.link.1 s.hif.link.2 ∧
       { s with hif := { s.hif with speed := 1, width := 1, link := (1, 1) } }.overLink = true) ∧
    (let s := { idle with hif := { idle.hif with sessions := [none, none, none, some ⟨9#32, .operator, 0#128, [], false, idle.now - 125000000⟩] } }
     s.live = true ∧ s.hif.sessions.getD 3 none = some ⟨9#32, .operator, 0#128, [], false, s.now - 125000000⟩ ∧
       (s.now - 125000000) + 125000000 ≤ s.now) := by decide +kernel

/-! ### Shutter and valve drive -/

/-- A pulse of 200 steps that has just run its length on channel `x`, or with `k` has just ended its kick. -/
def pulsing (x : Nat) (k : Bool) : State :=
  let now := idle.now
  idle.modCh x (fun c => { c with run := some ⟨.host, 200, 50, false, now - (if k then 50 else 200) * 12500, 0, k⟩ })

theorem witness_PulseRunsItsLength :
    (∀ x ∈ [0, 3], (pulsing x true).live = true ∧ (pulsing x true).act.chans.length = 4 ∧
      ((pulsing x true).ch x).run.any (fun r => r.kicking && decide (r.start + r.kick * 12500 ≤ (pulsing x true).now))) ∧
    ∀ x ∈ [0, 3], (pulsing x false).live = true ∧ (pulsing x false).act.chans.length = 4 ∧
      ((pulsing x false).ch x).run.any (fun r => decide (r.start + r.steps * 12500 ≤ (pulsing x false).now)) ∧
      ((pulsing x false).ch x).run.any (fun r => decide (r.counted < r.steps)) ∧ (x = 0 → (pulsing x false).judged x false = [x]) ∧
      ∀ j, j < 4 → j ≠ x → ((pulsing x false).ch j).run = none := by decide +kernel

/-- VACT of 8.7 V, BOOST_CAP charged. -/
def supplied : State := { idle with act := { idle.act with vact := 87, vboost := 255 } }

/-- A host pulse of 10 steps of channel `x` that has waited 1000 ms. -/
def waiting (x : Nat) : State :=
  { supplied with act := { supplied.act with waits := supplied.act.waits.set (x / 2) (some ⟨x, 10, false, idle.now - 125000000⟩) } }

theorem witness_PulseStarts :
    (let u := supplied.modCh 0 (fun c => { c with due := some ⟨.open_, 10, 0⟩ })
     u.live = true ∧ u.act.chans.length = 4 ∧ (∀ c ∈ u.act.chans, c.run = none) ∧ (u.ch 0).due = some ⟨.open_, 10, 0⟩ ∧ (u.ch 0).lastPulse = none) ∧
    [5, 500000].all (fun since =>
      let u := supplied.modCh 0 (fun c => { c with due := some ⟨.open_, 10, since⟩, lastPulse := some (idle.now - 250000) })
      u.live && decide (∀ c ∈ u.act.chans, c.run = none) && decide (idle.now - 250000 + 250000 ≤ u.now)) = true ∧
    (let u := supplied.modCh 0 (fun c => { c with due := some ⟨.open_, 10, 5⟩, lastPulse := some (idle.now - 249999) })
     u.live = true ∧ (∀ c ∈ u.act.chans, c.run = none) ∧ 5 < idle.now - 249999 ∧ u.now < idle.now - 249999 + 250000) ∧
    ∀ x ∈ [0, 2, 3], (let u := waiting x
      let h : HostPulse := ⟨x, 10, false, idle.now - 125000000⟩
      u.live = true ∧ u.act.chans.length = 4 ∧ (∀ c ∈ u.act.chans, c.run = none) ∧ u.act.waits.getD (x / 2) none = some h ∧ h.channel = x ∧
        (u.ch x).due = none ∧ (u.ch (x / 2 * 2)).due = none ∧ u.hostPulseStop h = none ∧ u.switchFree (x / 2) = true ∧
        u.kickOk (u.ch x).kick = true ∧ u.reserved h = false) := by decide +kernel

theorem witness_PulsesCutShort :
    (∀ x ∈ [0, 3], (pulsing x false).live = true ∧ (pulsing x false).carrier x = some x ∧
      ((pulsing x false).ch x).run.any (fun r => decide (r.start + 125000 ≤ (pulsing x false).now)) ∧
      ((supplied.modCh x (fun c => { c with run := some ⟨.host, 200, 50, false, idle.now - 124999, 0, false⟩ })).ch x).run.any
        (fun r => decide (idle.now < r.start + 125000))) ∧
    idle.carrier 0 = none ∧ idle.carrier 3 = none ∧
    (∀ x ∈ [0, 3], (waiting x).live = true ∧ ((waiting x).act.waits.getD (x / 2) none).any (fun h => decide (h.since + 125000000 ≤ (waiting x).now))) ∧
    supplied.live = true ∧ supplied.act.waits.length = 2 ∧ vactOk 86 = false ∧ vactOk 166 = false ∧ vactOk supplied.act.vact = true ∧
    vactOk 165 = true := by decide +kernel

theorem witness_SenseAndCooling : idle.mode = .standby ∧ busy.live = true ∧ busy.mode ≠ .standby ∧
    (∀ p ∈ [0, 1], (idle.ch (2 * p)).run = none ∧ (idle.ch (2 * p + 1)).run = none ∧ (idle.ch (2 * p)).due = none ∧
      (idle.ch (2 * p + 1)).due = none ∧ idle.act.waits.getD p none = none) ∧
    (let u := { idle with act := { idle.act with inputs := [⟨none, [], none⟩, ⟨some true, [], some (idle.now - 125000000)⟩] } }
     u.live = true ∧ u.act.inputs[1]? = some ⟨some true, [], some (idle.now - 125000000)⟩ ∧ (idle.now - 125000000) + 125000000 ≤ u.now ∧
       u.act.inputs[0]? = some ⟨none, [], none⟩ ∧ u.pa.event = none ∧ bit u.act.sense (2 * 1) = false) ∧
    (∀ c ∈ idle.act.chans, c.run = none ∧ 0 < c.tauS) ∧ (idle.act.coolTicks + 1) * 12500000 ≤ idle.now ∧ busy.live = true ∧ idle.live = true := by decide +kernel

/-! ### Host commands -/

/-- A descriptor of an opcode with its handle field, tag 7. -/
def desc (op h : Nat) : List Byte := le 2 op ++ le 2 0 ++ le 4 7 ++ le 4 h ++ le 4 0 ++ List.replicate 48 0#8

theorem witness_CommandFetched : idle.mayFetch = true ∧ fieldAt (desc 1 0) 0 2 = 1 ∧ fieldAt (desc 1 0) 2 2 = 0 ∧ fieldAt (desc 1 0) 12 4 = 0 ∧
    parseArgs (fieldAt (desc 0 0) 0 2) ((desc 0 0).drop 16) noInput = none ∧
    parseArgs (fieldAt (desc 0xffff 0) 0 2) ((desc 0xffff 0).drop 16) noInput = none ∧ idle.asleep = false := by decide +kernel

/-- A module in SAFE that serves a host after BOOT step 3, and one in 1210 mode. -/
def safe_ : State := (base .safe .maintenance).elapse 0
def small_ : State := { idle with pa := { idle.pa with pend := { idle.pa.pend with compat := true } } }

theorem witness_CommandRefused :
    (let f := parseDesc (desc 0x52 0) noInput
     let g := parseDesc (desc 0x52 1) noInput
     ∃ c, f.cmd = some c ∧ g.cmd = some c ∧ c.wakes = true ∧ c.needsSession = true ∧ c.outside1210 = false ∧ safe_.safeServes c = false ∧
       (let u := { idle with thm := { idle.thm with depth := 1 } }
        u.mayFetch = true ∧ u.asleep = true) ∧
       idle.mayFetch = true ∧ idle.asleep = false ∧ f.rsv = false ∧ idle.sessionOf f.session = none ∧ safe_.mayFetch = true ∧
       safe_.asleep = false ∧ g.rsv = false ∧ safe_.sessionOf g.session ≠ none ∧ safe_.mode = .safe) ∧
    (let f := parseDesc (le 2 0x52 ++ le 2 1 ++ (desc 0x52 1).drop 4) noInput
     ∃ c, f.cmd = some c ∧ f.rsv = true) ∧
    (let f := parseDesc (desc 0x33 1) noInput
     ∃ c, f.cmd = some c ∧ small_.mayFetch = true ∧ small_.asleep = false ∧ f.rsv = false ∧ small_.sessionOf f.session ≠ none ∧
       small_.mode ≠ .safe ∧ small_.pa.pend.compat = true ∧ c.outside1210 = true) := by
  refine ⟨⟨_, rfl, rfl, ?_⟩, ⟨_, rfl, ?_⟩, ⟨_, rfl, ?_⟩⟩ <;> decide +kernel

theorem witness_PlainCommands : idle.mayFetch = true ∧ hdr.rsv = false ∧ served idle hdr .maintenance = true ∧
    (∀ c ∈ supplied.act.chans, c.run = none) ∧ served supplied hdr .maintenance = true ∧
    (∀ x ∈ [(4, 0, 10), (1, 2, 10), (1, 0, 9), (1, 0, 2001), (1, 1, 10), (0, 0, 10)], supplied.actPulseStatus x.1 x.2.1 x.2.2 ≠ 0) ∧
    (∀ x ∈ [(1, 0, 10), (1, 0, 2000), (2, 1, 10)], supplied.actPulseStatus x.1 x.2.1 x.2.2 = 0 ∧ supplied.act.waits.getD (x.1 / 2) none = none ∧
      supplied.hostPulseStop ⟨x.1, 10, decide (x.2.1 = 1) && !supplied.paired x.1, supplied.now⟩ = none) := by decide +kernel

/-- Every key slot set. -/
def keyed : State := { idle with nv := { idle.nv with keys := List.replicate 4 (Rec.both 0 (List.replicate 32 0x4d#8)) } }

theorem witness_SessionOpens : idle.mayFetch = true ∧ hdr.rsv = false ∧ roleOfNum 0 = some .operator ∧ roleOfNum 2 = some .maintenance ∧
    (let u := { keyed with sup := { keyed.sup with lockEnd := (keyed.sup.lockEnd).set 2 (some (keyed.now + 1)) } }
     u.mayFetch = true ∧ u.lockedOut 2 = true) ∧
    (idle.lockedOut 0 = false ∧ idle.keyOf 0 = []) ∧
    (keyed.mayFetch = true ∧ keyed.lockedOut 2 = false ∧ keyed.keyOf 2 ≠ [] ∧ keyed.freeSlot .maintenance = none) ∧
    (keyed.lockedOut 0 = false ∧ keyed.keyOf 0 ≠ [] ∧ keyed.freeSlot .operator = some 1 ∧ keyed.handleFree 2#32 = true) ∧
    (let v := keyed.takeCmd.readKey 2
     v.lockedOut 2 = false ∧ v.keyOf 2 ≠ [] ∧ v.freeSlot .maintenance = none) ∧
    (let v := keyed.takeCmd.readKey 0
     v.lockedOut 0 = false ∧ v.keyOf 0 ≠ [] ∧ v.freeSlot .operator = some 1 ∧ v.handleFree 2#32 = true) ∧
    (keyed.nv.keys[2]? = some (Rec.both 0 (List.replicate 32 0x4d#8))) ∧
    ({ keyed with nv := { keyed.nv with keys := keyed.nv.keys.set 2 ⟨none, some (4, [1#8])⟩ } } : State).nv.keys[2]? = some ⟨none, some (4, [1#8])⟩ := by decide +kernel

/-- A session opened and not yet authenticated. -/
def opened : State :=
  { idle with hif := { idle.hif with sessions := [none, none, none, some ⟨9#32, .maintenance, 5#128, [1#8], false, idle.now - 124999999⟩] } }

theorem witness_SessionAuthenticates :
    (let x : Session := ⟨9#32, .maintenance, 5#128, [1#8], false, idle.now - 124999999⟩
     opened.mayFetch = true ∧ hdr.rsv = false ∧ opened.hif.sessions.getD 3 none = some x ∧
       (∀ j, j < 4 → j ≠ 3 → opened.hif.sessions.getD j none = none) ∧ opened.sup.lockFails.length = 8 ∧ opened.sup.lockEnd.length = 8 ∧ opened.nv.guard.a.isSome = true ∧ opened.nv.guard.b.isSome = true ∧
       x.auth = false ∧ opened.now < x.opened + 125000000 ∧
       [] ≠ hmac x.key (le 16 x.nonce.toNat ++ le 4 x.handle.toNat ++ le 1 (roleNum x.role) ++ le 8 opened.nv.serial.toNat)) ∧
    (idle.hif.sessions.getD 0 none).any (fun x => x.auth && decide (hdr.session = x.handle)) = true ∧ idle.asleep = false ∧ idle.mode ≠ .safe := by
  decide +kernel

/-- A module in STANDBY with a bundle. -/
def loaded : State := { idle with sup := { idle.sup with bundles := [(0, Bundle.factory)], nextKey := 1 } }

theorem witness_ModeSets :
    (served idle hdr .maintenance = true ∧ modeOfNum 2 = some idle.mode) ∧
    (modeOfNum 5 = some .calibration ∧ Mode.calibration ≠ idle.mode ∧ roleLacks .maintenance .calibration = true) ∧
    ([(3, Mode.imaging), (4, .relay), (6, .diagnostic)].all (fun x => served loaded hdr .maintenance && decide (loaded.mode = .standby) &&
      !loaded.sup.trans && decide (modeOfNum x.1 = some x.2) && isRunning x.2 && !roleLacks .maintenance x.2 && loaded.mayRun x.2)) ∧
    loaded.thm.restartCool = false ∧ (∀ k ∈ [14, 15], (loaded.sheaf k).st = .idle ∧ (loaded.sheaf k).offReq = false ∧ (loaded.sheaf k).history = [] ∧
      (loaded.sheaf k).ues = []) ∧
    (served busy hdr .operator = true ∧ isRunning busy.mode = true ∧ busy.sup.trans = false ∧ modeOfNum 2 = some .standby) ∧
    (let u := base .diagnostic .calibration
     served u hdr .calibration = true ∧ u.mode ∈ [Mode.imaging, .calibration, .diagnostic] ∧ Mode.calibration ≠ u.mode ∧ u.sup.trans = false ∧
       roleLacks .calibration .calibration = false) ∧
    (idle.mode = .standby ∧ idle.sup.trans = false ∧ modeOfNum 0 = some .off) ∧
    (modeOfNum 7 = some .safe ∧ idle.saf.decided = [] ∧ idle.saf.first = 0 ∧ ∀ f ∈ idle.pa.frames ++ idle.pb.frames, ∀ c ∈ f.claims, 3 ≤ c.ring) ∧
    (busy.saf.decided = [] ∧ busy.saf.first = 0 ∧ ∀ f ∈ busy.pa.frames ++ busy.pb.frames, ∀ c ∈ f.claims, 3 ≤ c.ring) ∧
    modeOfNum 1 = some .boot := by decide +kernel

/-- A secondary camera with no product. -/
def second : Camera := ⟨1, 1#32, true, List.replicate 10 0, [], []⟩

/-- Camera 0 and the secondary camera 1 on pipeline A. -/
def pair : State :=
  { idle with pa := { Pl.reset with pend := { Settings.reset with cams := [camera 1#32, second] } } }

theorem witness_CamerasBind :
    (served pair hdr .maintenance = true ∧ pipeOfByte 0#8 = some .A ∧ 2 ≤ (pair.cams .A).length) ∧
    (pipeOfByte 1#8 = some .B ∧ (pair.cams .B).length < 2 ∧ (∀ c ∈ pair.cams .A ++ pair.cams .B, c.id ≠ 2) ∧
      ∀ j, j < 2 → ∃ c ∈ pair.cams .A ++ pair.cams .B, c.id = j) ∧
    (served idle hdr .maintenance = true ∧ (idle.cams .A).length < 2 ∧ idle.cams .A ++ idle.cams .B = []) ∧
    pair.cameraOf 0 hdr.session = some (.A, camera 1#32) ∧ (pair.cams .A).find? (fun x => x.id = 0) = some (camera 1#32) := by decide +kernel

/-- A trained link of speed and width, every ring in service; the secondary delivers VISION_A to ring 5, the primary nothing. -/
def crowd (l : Nat × Nat) : State :=
  { idle with
    hif := { idle.hif with rings := idle.hif.rings.map (fun r => { r with enable := true, size := 4 }), link := l }
    pa := { Pl.reset with pend := { Settings.reset with cams := [⟨0, 1#32, false, List.replicate 10 0, [], []⟩, ⟨1, 1#32, true, [0, 0, 5, 0, 0, 0, 0, 0, 0, 0], [2], []⟩] } } }

theorem witness_ProductSets :
    (served pair hdr .maintenance = true ∧ pair.cameraOf 0 hdr.session = some (.A, camera 1#32)) ∧
    [([2, 0, 0, 0, 0, 0, 0, 0, 0, 0], 0), ([23, 0, 0, 0, 0, 0, 0, 0, 0, 0], 0), ([253, 0, 0, 0, 0, 0, 0, 0, 0, 0], 0),
      ([3, 0, 0, 0, 0, 0, 0, 0, 0, 0], 1024), ([3, 0, 0, 0, 0, 0, 0, 0, 0, 0], 2)].all (fun x => !declOk x.1 x.2) ∧
    (let d := [254, 0, 3, 0, 0, 0, 0, 0, 0, 0]
     let c : Camera := ⟨1, 1#32, true, List.replicate 10 0, [], []⟩
     let u := { pair with pa := { pair.pa with pend := { pair.pa.pend with cams := [camera 2#32, c] } } }
     declOk d 5 = true ∧ u.cameraOf 1 hdr.session = some (.A, c) ∧ u.notPrimary .A hdr.session = true ∧ 254 ∈ d) ∧
    (let d := [254, 0, 3, 0, 0, 0, 0, 0, 0, 0]
     declOk d 5 = true ∧ pair.notPrimary .A hdr.session = false ∧ (∀ k, k < 10 → pair.takeCmd.destOk pair.pa.pend 0 d k = true) ∧
       pair.takeCmd.budgetWith .A (replaceCam (pair.cams .A) ((camera 1#32).declare d 5)) = 0) ∧
    (let d := [3, 0, 4, 0, 0, 0, 0, 0, 0, 0]
     let c : Camera := ⟨0, 1#32, false, List.replicate 10 0, [], []⟩
     let e : Camera := ⟨1, 1#32, true, [0, 0, 5, 0, 0, 0, 0, 0, 0, 0], [2], []⟩
     declOk d 0 = true ∧ [((3, 1), true), ((1, 1), false)].all (fun x =>
       let u := crowd x.1
       let all := replaceCam (u.cams .A) (c.declare d 0)
       served u hdr .maintenance && decide (u.cameraOf 0 hdr.session = some (.A, c)) && decide (u.cameraOf 1 hdr.session = some (.A, e)) &&
         !u.notPrimary .A hdr.session && (List.range 10).all (fun k => u.takeCmd.destOk u.pa.pend 0 d k) &&
         decide (u.takeCmd.budgetWith .A all ≠ 0) && decide (all.find? (fun y => !y.secondary) = some (c.declare d 0)) &&
         decide (all.find? Camera.secondary = some e) && decide ((u.takeCmd.budgetWith .A [c.declare d 0] = 0) = x.2)) = true) ∧
    (let d := [0, 0, 5, 6, 0, 0, 0, 0, 0, 0]
     let u := crowd (1, 1)
     let e : Camera := ⟨1, 1#32, true, [0, 0, 5, 0, 0, 0, 0, 0, 0, 0], [2], []⟩
     declOk d 0 = true ∧ (∀ k, k < 10 → u.takeCmd.destOk u.pa.pend 1 d k = true) ∧
       u.takeCmd.budgetWith .A (replaceCam (u.cams .A) (e.declare d 0)) ≠ 0) ∧
    (let d := [0, 0, 5, 6, 0, 0, 0, 0, 0, 0]
     let c : Camera := ⟨0, 1#32, false, List.replicate 10 0, [], []⟩
     let u := { crowd (1, 1) with pa := { Pl.reset with pend := { Settings.reset with cams := [c] } } }
     let all := replaceCam (u.cams .A) (c.declare d 0)
     u.cameraOf 0 hdr.session = some (.A, c) ∧ (∀ k, k < 10 → u.takeCmd.destOk u.pa.pend 0 d k = true) ∧ u.takeCmd.budgetWith .A all ≠ 0 ∧
       all.find? (fun y => !y.secondary) = some (c.declare d 0) ∧ all.find? Camera.secondary = none) := by decide +kernel

/-- A module in STANDBY with PIPELINE B enabled. -/
def twin : State := { idle with sup := { idle.sup with pipeB := true } }

theorem witness_PipelineCommands :
    ([(idle, 2), (twin, 1)].all (fun x =>
      let v := { x.1.takeCmd with sup := { x.1.sup with pipeB := true } }.accept .B (fun st => { st with rate := x.2 })
      served x.1 hdr .maintenance && !x.1.notPrimary .B hdr.session && decide (x.1.mode ≠ .relay) && decide (v.budgetCode v.pendingLoads = 0)) = true ∧
      idle.sup.pipeB = false ∧ twin.sup.pipeB = true ∧ idle.nl.lanes.length = 4) ∧
    (let u := base .relay .operator
     served u hdr .operator = true ∧ u.mode = .relay ∧ u.notPrimary .B hdr.session = false) ∧
    (let u := crowd (1, 1)
     let v := { u.takeCmd with sup := { u.sup with pipeB := true } }.accept .B (fun st => { st with rate := 0 })
     served u hdr .maintenance = true ∧ u.notPrimary .B hdr.session = false ∧ u.mode ≠ .relay ∧ v.budgetCode v.pendingLoads ≠ 0) ∧
    (served busy hdr .operator = true ∧ pipeOfByte 1#8 = some .B ∧ busy.mode ≠ .standby ∧ idle.mode = .standby) ∧
    (pair.notPrimary .A hdr.session = false ∧ served pair hdr .maintenance = true ∧
      let v := pair.takeCmd.accept .A (fun st => { st with services := 3 })
      v.budgetCode v.pendingLoads = 0) ∧
    ([(crowd (1, 1), true), ({ crowd (1, 1) with pa := bound .standby .maintenance |>.pa }, false)].all (fun x =>
      let v := x.1.takeCmd.accept .A (fun st => { st with services := 0 })
      served x.1 hdr .maintenance && !x.1.notPrimary .A hdr.session && decide (v.budgetCode v.pendingLoads ≠ 0) &&
        decide ((v.cams .A).find? (fun c => !c.secondary) ≠ none) && decide (((v.cams .A).find? Camera.secondary ≠ none) = x.2)) = true) ∧
    (idle.mayFetch = true ∧ idle.asleep = false ∧ idle.mode = .standby ∧ hdr.rsv = false ∧ (idle.sessionOf hdr.session).isSome = true ∧
      twin.compatFits = false ∧ idle.compatFits = true) := by decide +kernel

/-- A block of group 1: YUYV, a manual window of 0 to 256. -/
def dispBlock : List Byte := [0#8, 0#8, 0#8, 0#8, 0#8, 0#8, 0#8, 0#8, 0#8, 1#8, 0#8, 0#8, 0#8, 0#8, 1#8, 0#8, 1#8] ++ List.replicate 11 0#8

/-- DISPLAY in a pending mode on ring 3 of a link of 218.8 MB/s. -/
def displaying (m : Nat) : State :=
  { crowd (1, 1) with
    pa := { Pl.reset with pend := { Settings.reset with cams := [⟨0, 1#32, false, [3, 0, 0, 0, 0, 0, 0, 0, 0, 0], [0], []⟩]
                                                        disp := { Settings.reset.disp with mode := m } } } }

/-- A block of group 7. -/
def biasBlock (a c e r : Nat) : List Byte := le 2 a ++ le 2 c ++ le 1 e ++ le 3 r

theorem witness_ParamSets :
    (served pair hdr .maintenance = true ∧ pipeOfByte 0#8 = some .A ∧ pair.notPrimary .A hdr.session = false ∧
      groupLength 0 = some 28 ∧ groupLength 2 = some 768 ∧ groupLength 6 = some 72 ∧ groupLength 8 = some 16 ∧ pipeOfByte 2#8 = none ∧
      groupLength 9 = none) ∧
    (let u := { base .diagnostic .maintenance with pa := pair.pa }
     served u hdr .maintenance = true ∧ u.mode = .diagnostic) ∧
    (parseBlock 3 (takeBytes 100 [9#8]) pair.converts pair.pa.pend).isNone ∧ (parseBlock 8 (takeBytes 16 []) pair.converts pair.pa.pend).isNone ∧
    (parseBlock 2 (takeBytes 768 []) pair.converts pair.pa.pend).isSome ∧
    (parseBlock 3 (takeBytes 100 []) pair.converts pair.pa.pend).isSome ∧
    (parseBlock 6 (takeBytes 72 [0#8, 16#8, 0#8, 16#8, 0#8, 0#8, 3#8]) pair.converts pair.pa.pend).isSome ∧
    (parseBlock 8 (takeBytes 16 (List.replicate 16 1#8)) pair.converts pair.pa.pend).isSome ∧
    ([(pair, 0, 0), (displaying 1, 0, 7), (displaying 0, 7, 7)].all (fun x =>
      let u := x.1
      served u hdr .maintenance && !u.notPrimary .A hdr.session && decide (u.takeCmd.budgetCode u.takeCmd.pendingLoads = x.2.1) &&
        (parseBlock 1 (takeBytes 28 dispBlock) u.converts u.pa.pend).any (fun f =>
          let v := u.takeCmd.accept .A f
          decide (v.budgetCode v.pendingLoads = x.2.2))) = true) ∧
    (let u := base .calibration .calibration
     served u hdr .calibration = true ∧ u.mode = .calibration ∧
       [(4000, 4000, 1, 0), (0, 0, 0, 0)].all (fun x => let l := takeBytes 8 (biasBlock x.1 x.2.1 x.2.2.1 x.2.2.2)
         decide (fieldAt l 0 2 ≤ 4000) && decide (fieldAt l 2 2 ≤ 4000) && decide (fieldAt l 4 1 ≤ 1) && decide (fieldAt l 5 3 = 0)) = true ∧
       [(4001, 0, 0, 0), (0, 4001, 0, 0), (0, 0, 2, 0), (0, 0, 0, 1)].all (fun x => let l := takeBytes 8 (biasBlock x.1 x.2.1 x.2.2.1 x.2.2.2)
         decide (4000 < fieldAt l 0 2 ∨ 4000 < fieldAt l 2 2 ∨ 1 < fieldAt l 4 1 ∨ fieldAt l 5 3 ≠ 0)) = true) ∧
    (let u := { idle with pa := { Pl.reset with pend := { Settings.reset with cams := [camera 2#32] } } }
     served u hdr .maintenance = true ∧ u.notPrimary .A hdr.session = true) ∧
    (pipeOfByte 1#8 = some .B ∧ groupLength 7 = some (8#16).toNat ∧ groupLength 8 = some (16#16).toNat ∧ idle.mode ≠ .calibration ∧ idle.mode ≠ .diagnostic) ∧
    (served (base .calibration .maintenance) hdr .maintenance = true ∧ served (base .diagnostic .calibration) hdr .calibration = true) := by decide +kernel

theorem witness_ShutterCommands : served pair hdr .maintenance = true ∧ pipeOfByte 0#8 = some .A ∧ pair.notPrimary .A hdr.session = false ∧
    (let u := { idle with pa := { Pl.reset with pend := { Settings.reset with cams := [camera 2#32] } } }
     served u hdr .maintenance = true ∧ u.notPrimary .A hdr.session = true) ∧
    (let u := base .calibration .calibration
     served u hdr .calibration = true ∧ u.notPrimary .A hdr.session = false ∧ u.mode = .calibration) := by decide +kernel

/-- A module with a staging of one session, held by the role of its kind. -/
def staging (k : Nat) (r : Role) (d : SMap Byte) (n : Nat) : State :=
  let s := (base .standby r).elapse 0
  { s with hif := { s.hif with staging := some ⟨k, n, n, d, 1#32⟩ } }

/-- The header and directory of a bundle of `n` bytes with two NUC sets, as 32-bit words; LIN and NUC lie in the zeros from 0x4000 on. -/
def headerWords (n : Nat) : List Nat :=
  [0x31564d55, 0x90001, 0x77, n, 1, 0x200, 512, 2, 0x4000, 4096, 3, 0x4000, 4096, 4, 0x400, 768, 5, 0x800, 2304,
   16, 0x4000, 25625600, 17, 0x4000, 25625600, 32, 0x1200, 1536, 33, 0x1800, 1664]

/-- The first words of FPC, ANC and CCH at the ends of their ranges. -/
def fpcWords : List Nat := [0x20091, 0x5000000, 0, 0, 0, 0, 4096]
def ancWords : List Nat := [0x100040, 0x10110, 0x1030100, 0, 0x10000, 0, 0, 0, 0x100040, 0x40]
def cchWords : List Nat := [0x10001, 0x10001, 0x10001, 0x10001, 0xa000000, 0x1400]

/-- Byte `a` of a bundle. -/
def imageByte (n a : Nat) : Nat :=
  let w (l : List Nat) (o : Nat) : Nat := l.getD (o / 4) 0 / 256 ^ (o % 4) % 256
  if a < 0x200 then w (headerWords n) a
  else if a < 0x400 then w fpcWords (a - 0x200)
  else if a < 0x800 then w ancWords (a - 0x400)
  else if a < 0x840 then w [0, 0, 1, 1, 1] (a - 0x800)
  else if a < 0x1048 then ((a - 0x840) / 4 % 257 + 1) / 256 ^ (a % 4) % 256
  else if a < 0x1200 then 0
  else if a < 0x1210 then (if a = 0x1200 then 15 else 0)
  else if a < 0x1430 then (if a % 8 = 0 then (a - 0x1210) % 136 / 8 else 0)
  else if a < 0x1800 then 0
  else w cchWords (a - 0x1800)

/-- The bytes of the bundle below 0x4000; those above are 0. -/
def image (n : Nat) : SMap Byte := (List.range 0x4000).map (fun a => (a, BitVec.ofNat 8 (imageByte n a)))

theorem get_image (t : Nat) (d : Byte) (i : Nat) : SMap.get d (image t) i = if i < 0x4000 then BitVec.ofNat 8 (imageByte t i) else d := by
  have h : ∀ n k (f : Nat → Byte), SMap.get d ((List.range' k n).map (fun a => (a, f a))) i = if k ≤ i ∧ i < k + n then f i else d := by
    intro n
    induction n with
    | zero => intro k f; simp [SMap.get]
    | succ n ih =>
      intro k f
      rw [List.range'_succ, List.map_cons, SMap.get, ih]
      split
      · next e => subst e; simp
      · next e => congr 1; simp; omega
  have := h 0x4000 0 (fun a => BitVec.ofNat 8 (imageByte t a))
  simpa [image, List.range_eq_range'] using this

/-- The bytes of the bundle in a range. -/
def imageBytes (t a : Nat) : Nat → List Byte
  | 0 => []
  | n + 1 => (if a < 0x4000 then BitVec.ofNat 8 (imageByte t a) else 0#8) :: imageBytes t (a + 1) n

theorem bytes_image (t a n : Nat) : (image t).bytes a n = imageBytes t a n := by
  induction n generalizing a with
  | zero => rfl
  | succ n ih => rw [SMap.bytes, imageBytes, get_image, ih]

/-- A NUC set of zeros is in range. -/
theorem image_nuc (t : Nat) : ∃ x, parseNuc (image t) 0x4000 = some x := by
  have z : ∀ a n, 0x4000 ≤ a → imageBytes t a n = List.replicate n 0#8 := by
    intro a n h
    induction n generalizing a with
    | zero => rfl
    | succ n ih => rw [imageBytes, if_neg (by omega), ih (a + 1) (by omega), List.replicate_succ]
  have h : (List.range nucEntries).all (fun i => decide (rd (image t) (0x4000 + 8 * i) 8 % 2 ^ 20 = 0)) = true := by
    rw [List.all_eq_true]
    intro i _
    have e : rd (image t) (0x4000 + 8 * i) 8 = 0 := by
      rw [rd, bytes_image, z _ _ (by omega)]
      rfl
    rw [e]
    rfl
  unfold parseNuc
  rw [if_pos h]
  exact ⟨_, rfl⟩

/-- A total that the stored form keeps below the 51 MiB of a slot, and one that it does not. -/
def sized (t : Nat) : Prop := t = 0x2000000 ∨ t = 0x5000000

theorem image_header {t : Nat} (h : sized t) : headerOk (image t) t = true := by
  simp only [headerOk, headerTotal, rd, zeros, bytes_image]
  obtain rfl | rfl := h <;> decide +kernel

theorem image_fpc {t : Nat} (h : sized t) : (parseFpc (image t) 0x200).any (fun x => x.nSets == 2) = true := by
  simp only [parseFpc, rd, rdS, rdList, rdListS, zeros, bytes_image]
  obtain rfl | rfl := h <;> decide +kernel

theorem image_anc {t : Nat} (h : sized t) : (parseAnc (image t) 0x400).isSome = true := by
  simp only [parseAnc, ancOk, rd, rdList, zeros, bytes_image]
  obtain rfl | rfl := h <;> decide +kernel

theorem image_rad {t : Nat} (h : sized t) : (parseRad (image t) 0x800).isSome = true := by
  simp only [parseRad, rd, rdS, rdList, zeros, bytes_image]
  obtain rfl | rfl := h <;> decide +kernel

theorem image_pcv {t : Nat} (h : sized t) : (parsePcv (image t) 0x1200).isSome = true := by
  simp only [parsePcv, parseTable, rd, rdS, zeros, bytes_image]
  obtain rfl | rfl := h <;> decide +kernel

theorem image_cch {t : Nat} (h : sized t) : (parseCch (image t) 0x1800).isSome = true := by
  simp only [parseCch, rd, rdList, rdListS, zeros, bytes_image]
  obtain rfl | rfl := h <;> decide +kernel

/-- The sections of the directory. -/
theorem image_sections {t : Nat} (h : sized t) : section_ (image t) t 1 512 = some 0x200 ∧ section_ (image t) t 2 4096 = some 0x4000 ∧
    section_ (image t) t 3 4096 = some 0x4000 ∧ section_ (image t) t 4 768 = some 0x400 ∧
    section_ (image t) t 5 2304 = some 0x800 ∧ section_ (image t) t 16 (8 * nucEntries) = some 0x4000 ∧
    section_ (image t) t 17 (8 * nucEntries) = some 0x4000 ∧ section_ (image t) t 32 1536 = some 0x1200 ∧
    section_ (image t) t 33 1664 = some 0x1800 := by
  simp only [section_, directory, rd, bytes_image]
  obtain rfl | rfl := h <;> decide +kernel

theorem needed_ok {α : Type} (m : SMap Byte) (t id len o : Nat) (f : Nat → Option α) (x : α) (s : section_ m t id len = some o) (h : f o = some x) :
    needed m t id len f = .ok x := by rw [needed, s]; simp only [h]

theorem nucs_ok (m : SMap Byte) (t o6 o7 : Nat) (x y : NucSet)  (s6 : section_ m t 16 (8 * nucEntries) = some o6) (s7 : section_ m t 17 (8 * nucEntries) = some o7)
    (hx : parseNuc m o6 = some x) (hy : parseNuc m o7 = some y) : parseNucs m t 2 = .ok [x, y] := by
  rw [parseNucs, parseNucs, parseNucs, needed_ok m t 16 (8 * nucEntries) o6 (parseNuc m) x s6 hx, needed_ok m t 17 (8 * nucEntries) o7 (parseNuc m) y s7 hy]
  rfl
theorem bind_ok {ε α β : Type} (e : Except ε α) (x : α) (f : α → Except ε β) (h : e = .ok x) : (e >>= f) = f x := by rw [h]; rfl

theorem bundle_parses (m : SMap Byte) (t o1 o2 o3 o4 o5 o8 o9 : Nat) (f : Fpc) (l : List NucSet) (a : Anc) (r : Rad)
    (p : List (List (Int × Int))) (c : CchSect) (h : headerOk m t = true) (s1 : section_ m t 1 512 = some o1)
    (s2 : section_ m t 2 4096 = some o2) (s3 : section_ m t 3 4096 = some o3) (s4 : section_ m t 4 768 = some o4)
    (s5 : section_ m t 5 2304 = some o5) (s8 : section_ m t 32 1536 = some o8) (s9 : section_ m t 33 1664 = some o9)
    (hf : parseFpc m o1 = some f) (hl : parseNucs m t f.nSets = .ok l) (ha : parseAnc m o4 = some a) (hr : parseRad m o5 = some r)
    (hp : parsePcv m o8 = some p) (hc : parseCch m o9 = some c) : ∃ b, parseBundle m t = .ok b := by
  rw [parseBundle, h]
  refine ⟨_, (bind_ok _ _ _ (needed_ok _ _ _ _ _ _ _ s1 hf)).trans ((bind_ok _ _ _ (needed_ok m t 2 4096 o2 (fun o => some (parseLin m o)) (parseLin m o2) s2 rfl)).trans
    ((bind_ok _ _ _ (needed_ok m t 3 4096 o3 (fun o => some (parseLin m o)) (parseLin m o3) s3 rfl)).trans ((bind_ok _ _ _ hl).trans ((bind_ok _ _ _ (needed_ok _ _ _ _ _ _ _ s4 ha)).trans
    ((bind_ok _ _ _ (needed_ok _ _ _ _ _ _ _ s5 hr)).trans ((bind_ok _ _ _ (needed_ok _ _ _ _ _ _ _ s8 hp)).trans
    ((bind_ok _ _ _ (needed_ok _ _ _ _ _ _ _ s9 hc)).trans rfl)))))))⟩

/-- A staged bundle keeps every rule. -/
theorem image_parses {t : Nat} (h : sized t) : ∃ b, parseBundle (image t) t = .ok b := by
  obtain ⟨s1, s2, s3, s4, s5, s6, s7, s8, s9⟩ := image_sections h
  obtain ⟨f, hf, n⟩ := (Option.any_eq_true _ _).1 (image_fpc h)
  obtain ⟨a, ha⟩ := Option.isSome_iff_exists.1 (image_anc h)
  obtain ⟨r, hr⟩ := Option.isSome_iff_exists.1 (image_rad h)
  obtain ⟨p, hp⟩ := Option.isSome_iff_exists.1 (image_pcv h)
  obtain ⟨c, hc⟩ := Option.isSome_iff_exists.1 (image_cch h)
  obtain ⟨x, hx⟩ := image_nuc t
  have n2 : f.nSets = 2 := by simpa using n
  exact bundle_parses (image t) t _ _ _ _ _ _ _ f [x, x] a r p c (image_header h) s1 s2 s3 s4 s5 s8 s9 hf
    (n2 ▸ nucs_ok (image t) t _ _ x x s6 s7 hx hx) ha hr hp hc

/-- A frame that holds the other bundle. -/
def held (s : State) : State := { s with pa := { s.pa with frames := [{ frame 5 with st := { Settings.reset with bundle := 3 } }] } }


theorem witness_StagingCommands :
    ([(Role.calibration, 0, 224 * 1048576), (.maintenance, 1, 12 * 1048576)].all (fun x =>
      let u := (base .standby x.1).elapse 0
      served u hdr x.1 && decide (x.1 = stageRole x.2.1) && decide (x.2.2 ≤ (if x.2.1 = 0 then 224 else 12) * 1048576) && u.hif.staging.isNone &&
        (staging x.2.1 x.1 [] 8).hif.staging.isSome && served (staging x.2.1 x.1 [] 8) hdr x.1)) ∧
    (let g : Staging := ⟨0, 8, 8, [], 1#32⟩
     (staging 0 .calibration [] 8).hif.staging = some g ∧ Role.calibration = stageRole g.kind ∧ g.session = hdr.session ∧ g.staged = g.total ∧
       served (staging 0 .maintenance [] 8) hdr .maintenance = true ∧ Role.maintenance ≠ stageRole g.kind) ∧
    (let s := staging 0 .calibration [] 8
     let u := { s with hif := { s.hif with staging := some ⟨0, 8, 4, [], 9#32⟩ } }
     let v := { s with hif := { s.hif with staging := some ⟨0, 8, 4, [], 1#32⟩ } }
     served u hdr .calibration = true ∧ (9#32 : Word) ≠ hdr.session ∧ served v hdr .calibration = true) ∧
    (∃ e, parseBundle [] 0 = .error e) ∧ (∃ b, parseBundle (image 0x2000000) 0x2000000 = .ok b) ∧
    (∃ b, parseBundle (image 0x5000000) 0x5000000 = .ok b) ∧ storedBytes (image 0x2000000) 0x2000000 ≤ 53477376 ∧
    53477376 < storedBytes (image 0x5000000) 0x5000000 ∧
    (∀ n ∈ [0x2000000, 0x5000000], let u := staging 0 .calibration (image n) n
     served u hdr .calibration = true ∧ u.hif.staging = some ⟨0, n, n, image n, 1#32⟩ ∧ u.halfHeld = false ∧ (held u).halfHeld = true ∧
       served (held u) hdr .calibration = true ∧ 1 ∉ (u.takeCmd.memRun ⟨[]⟩).2) ∧
    1 ∈ ((staging 0 .calibration [] 8).takeCmd.memRun ⟨[.flip 0x4000000#32 [0, 71], .read .other 0x4000000#32, .serve .other]⟩).2 ∧
    (let u := staging 1 .maintenance [] 4096
     served u hdr .maintenance = true ∧ u.hif.staging = some ⟨1, 4096, 4096, [], 1#32⟩ ∧ u.nv.images.length = 2 ∧ u.sup.slot < 2) ∧
    (let u := { idle with hif := { idle.hif with waiting := some ⟨7#32, 0, false, Bundle.factory⟩ } }
     u.live = true ∧ u.hif.waiting.isSome = true ∧ u.halfHeld = false ∧ (held u).halfHeld = true) :=
  ⟨by decide +kernel, by decide +kernel, by decide +kernel, ⟨0, rfl⟩, image_parses (.inl rfl), image_parses (.inr rfl),
    by simp only [storedBytes, directory, rd, bytes_image]; decide +kernel, by simp only [storedBytes, directory, rd, bytes_image]; decide +kernel,
    fun n hn => by
      obtain rfl | rfl : n = 0x2000000 ∨ n = 0x5000000 := by simpa using hn
      all_goals exact ⟨by decide +kernel, rfl, by decide +kernel, by decide +kernel, by decide +kernel, by decide +kernel⟩,
    by decide +kernel, by decide +kernel, by decide +kernel⟩

/-- Four commands posted in ring 0. -/
def posted : State := idle.modRing 0 (fun r => { r with tail := 4 })

theorem witness_CustomerReadsBack :
    ([(0, 0, 1), (0, 61440, 4096), (3, 196608, 4096), (3, 262143, 1)].all (fun x =>
      decide (x.1 * 65536 ≤ x.2.1) && decide (x.2.1 + x.2.2 ≤ (x.1 + 1) * 65536) && decide (0 < x.2.2) && decide (x.2.2 ≤ 4096) &&
        !(posted.takeCmd.readPw x.1).lockedOut (4 + x.1) && decide ((posted.takeCmd.readPw x.1).passwords x.1 = (noPassword, noPassword)))) ∧
    served posted hdr .maintenance = true ∧ SMap.ok 0#8 posted.nv.customer = true ∧ posted.nv.pw[3]? = some (Rec.both 0 (noPassword, noPassword)) ∧
    ({ idle with nv := { idle.nv with pw := idle.nv.pw.set 3 ⟨some (4, noPassword, noPassword), none⟩ } } : State).nv.pw[3]? =
      some ⟨some (4, noPassword, noPassword), none⟩ ∧
    (let t := after (.ledgerWrite 0 hdr 262143#32 1#32 64#64 (some (List.replicate 17 9#8))) posted
     served t hdr .maintenance = true ∧ (t.elapse 0).lockedOut 7 = false) := by decide +kernel

/-! ### Focal plane, column channels, front pipes -/

/-- A module in IMAGING with PLT_EXP written and perhaps a transfer running. -/
def exposing (m : Mode) (e : Word) (b : Bool) : State := { base m .operator with plt := { Plt.reset with exp := e, busy := b } }

/-- The exposures that R48 admits, as ExposureCommits writes them. -/
def admitsExp (e : Word) : Bool :=
  decide (fld e 1 0 ≠ 3) && decide (32 ≤ fld e 20 8) && decide (80 ≤ (2 ^ (fld e 5 4 + 1) - 1) * fld e 20 8) &&
    decide (2 ^ (fld e 5 4 + 1) * fld e 20 8 + 125 ≤ nRow (fld e 1 0))

/-- A frame being read at row slot `n`, its row `n` on the link. -/
def atSlot (n : Nat) : State :=
  { base .imaging .operator with
    pa := { Pl.reset with reading := true, frameNo := 6, frames := [{ frame 5 with marker := 1250000000 - (n * 1292 + 112 + 8 * 145) }],
                          link := some (n, #[], #[]) }
    plt := { Plt.reset with slot := n } }

theorem witness_ExposureCommits : bit 1#32 0 = true ∧
    (let u := exposing .imaging 0x9120#32 true
     u.live = true ∧ u.plt.busy = true) ∧
    (let u := exposing .standby 0x9120#32 false
     u.live = true ∧ u.plt.busy = false ∧ isRunning u.mode = false) ∧
    (let u := exposing .imaging 0x9120#32 false
     u.live = true ∧ u.plt.busy = false ∧ isRunning u.mode = true) ∧
    [0x2030#32, 0x5000#32, 0x24700#32, 0x9120#32].all admitsExp = true ∧
    [0x1f30#32, 0x4f00#32, 0x24800#32, 0x9123#32].all (fun e => !admitsExp e) = true ∧
    (let u := { atSlot 1547 with plt := { (atSlot 1547).plt with busy := true } }
     u.live = true ∧ u.plt.busy = true ∧ u.pa.prior = none ∧
       u.pa.cur.any (fun f => f.lpTime.isNone && decide (u.now < f.marker + 1548 * nRow (fld f.st.exposure 1 0))) = true) ∧
    (let u := { atSlot 1548 with plt := { (atSlot 1548).plt with busy := true } }
     u.pa.cur.any (fun f => f.lpTime.isNone && decide (f.marker + 1548 * nRow (fld f.st.exposure 1 0) ≤ u.now)) = true) ∧
    (let q : State := atSlot 1548
     let u : State := { q with
       plt := { q.plt with busy := true }
       pa := { q.pa with frames := q.pa.frames.map (fun (f : Frame) => { f with lpTime := some 1249999000 }), snap := { Settings.reset with mode := .imaging } } }
     u.pa.cur.any (fun f => f.lpTime.isSome) = true ∧ isRunning u.pa.snap.mode = true) := by decide +kernel

/-- A slaved frame being read that began `t` clocks ago, its latch point not reached. -/
def slaved (t edges : Nat) (last : Option Nat) (noisy : Bool) : State :=
  { base .imaging .operator with
    pa := { Pl.reset with reading := true, frameNo := 6, frames := [{ frame 5 with marker := 1250000000 - t, st := { Settings.reset with fsync := 0x10001#32 } }] }
    plt := { Plt.reset with edges := edges, lastEdge := last, noisy := noisy } }

theorem witness_FrameSync :
    (let u := slaved 2041049 7 (some (1250000000 - 1000)) false
     u.live = true ∧ u.pa.cur.any (fun f => bit f.st.fsync 0 && decide (f.marker + pMin f.st.exposure ≤ u.now + fld f.st.fsync 31 16)) = true ∧
       u.plt.noisy = false ∧ 1250000000 - 1000 + 1000 ≤ u.now ∧ u.plt.edges < 8 ∧ u.plt.target = none) ∧
    (let u := slaved 2041048 0 none false
     u.pa.cur.any (fun f => bit f.st.fsync 0 && decide (u.now + fld f.st.fsync 31 16 < f.marker + pMin f.st.exposure)) = true) ∧
    (let u := slaved 100 8 none false
     u.pa.cur.any (fun f => bit f.st.fsync 0) = true ∧ u.plt.noisy = false ∧ 8 ≤ u.plt.edges) ∧
    (let u := slaved 100 1 (some (1250000000 - 999)) false
     u.pa.cur.any (fun f => bit f.st.fsync 0) = true ∧ u.plt.noisy = false ∧ u.now < 1250000000 - 999 + 1000) ∧
    (let u := { slaved 100 1 none true with plt := { (slaved 100 1 none true).plt with cleanRun := 16, stuckRun := 4 } }
     u.live = true ∧ u.plt.noisy = true ∧ 16 ≤ u.plt.cleanRun ∧ 4 ≤ u.plt.stuckRun ∧ u.plt.stuckPosted = false) := by decide +kernel

theorem witness_RowsAreTaken : [0, 1547, 1548, 1571, 1572].all (fun n =>
    let u := atSlot n
    u.live && decide (u.plt.slot = n) && u.pa.cur.any (fun f => decide (f.st.mode ≠ .relay) &&
      decide (f.marker + u.plt.slot * nRow (fld f.st.exposure 1 0) + 112 + 2 ^ (fld f.st.exposure 5 4 + 1) * fld f.st.exposure 20 8 ≤ u.now)) &&
      (u.pl .A).link.any (fun x => decide (x.1 = n)) && decide (0 < (u.fill 0).1) && decide ((u.fill 0).2 ≤ 32768) &&
      ((u.pl .A).frame? (u.pl .A).lastNo).isSome) = true := by decide +kernel

theorem witness_ColumnAndPipeControl : bit 0x80000000#32 31 = true ∧ (base .calibration .calibration).mode = .calibration ∧
    fld 0x80400000#32 22 16 = 64 ∧ fld 0x80410000#32 22 16 = 65 ∧ idle.live = true ∧ idle.mode ≠ .calibration ∧ idle.mode ≠ .diagnostic := by
  decide +kernel

/-! ### Frames, pours, anchoring -/

/-- A first marker is due, the snapshot's mode being `m`. -/
def due (m : Mode) : State :=
  { base .imaging .operator with
    pa := { Pl.reset with armed := true, snap := { Settings.reset with mode := m } }, plt := { Plt.reset with firstMarker := some 1250000000 } }

theorem witness_MarkerStartsFrame : [Mode.imaging, .relay, .calibration, .diagnostic].all (fun m =>
      (due m).live && decide ((due m).markerTime = some 1250000000) && isRunning (due m).pa.snap.mode) = true ∧
    (due .standby).markerTime = some 1250000000 ∧ isRunning (due .standby).pa.snap.mode = false := by decide +kernel

theorem witness_LatchPointTakesSnapshot :
    (let u := atSlot 1548
     u.live = true ∧ u.pa.cur.any (fun f => f.lpTime.isNone && decide (f.marker + 1548 * nRow (fld f.st.exposure 1 0) ≤ u.now)) = true ∧
       u.pa.prior = none) ∧
    [1249999000, 0].all (fun t =>
      let u := { atSlot 1548 with pa := { (atSlot 1548).pa with pend := { Settings.reset with mode := .diagnostic }, prior := some (t, Settings.reset) } }
      u.live && u.pa.cur.any (fun f => f.lpTime.isNone && decide (f.marker + 1548 * nRow (fld f.st.exposure 1 0) ≤ u.now) &&
        decide ((f.marker + 1548 * nRow (fld f.st.exposure 1 0) ≤ t) = (t ≠ 0)))) = true := by decide +kernel

/-- Frame 5 after `k` stripes with its silo whole, of a pipeline whose next number is `n`. -/
def worked (k n : Nat) : State :=
  { base .imaging .operator with
    pa := { Pl.reset with reading := true, frameNo := n,
                          frames := [{ frame 5 with placed := true, ptemp := some 0, stripes := k, ready := decide (k = 24), nextRow := 1548,
                                                    silo := [(65, #[0#32]), (1535, #[0#32])] }] } }

theorem witness_StripeAdvances : [0, 23].all (fun k =>
    let u := worked k 6
    u.live && ((u.pl .A).frame? 5).any (fun f => f.alive && decide (f.stripes = k) && f.stripeIn f.stripes) &&
      !(u.pl .A).olderBusy 5) = true := by decide +kernel

theorem witness_FramesPourOrDrop :
    (let u := worked 24 7
     u.live = true ∧ ((u.pl .A).frame? 5).any (fun f => u.mayPour .A f && !(u.pl .A).pastDeadline f u.now) = true) ∧
    (let u := worked 24 8
     u.live = true ∧ ((u.pl .A).frame? 5).any (fun f => (u.pl .A).pastDeadline f u.now) = true) ∧
    ((worked 23 6).pa.frame? 5).any (fun f => !f.ready) = true := by decide +kernel

/-- A shutter event that began 80 ms ago. -/
def event (m : Nat) : ShEvent :=
  { c := 5, start := idle.now - 10000000, closed := false, win := none, sums := [], bad := [], taken := 0, temps := [], bds := [], blades := [],
    asked := 0, fail := none, openDue := false, opens := m, lastOpen := idle.now - 10250000, driven := false, opened := false, formed := false, ended := none,
    anc := Bundle.factory.anc }

/-- Pipeline A with that event. -/
def shut (m : Nat) : State := { base .imaging .operator with pa := { Pl.reset with event := some (event m) } }

/-- Frame 5 of a pipeline began at `k`. -/
def began (k : Nat) : List Frame := [{ frame 5 with marker := k }]

/-- Pipeline A or B with the event of `m` open pulses, the last `t` clocks ago, its frame begun `k` clocks ago. -/
def openings (p : Pipe) (m t k : Nat) : State :=
  { base .imaging .operator with
    pa := if p = .A then { reading with frames := began (idle.now - k), event := some { event m with lastOpen := idle.now - t } } else Pl.reset
    pb := if p = .B then { reading with frames := began (idle.now - k), event := some { event m with lastOpen := idle.now - t } } else Pl.reset }

/-- An opening outside an event, of `n` pulses, the last `t` clocks ago, the shutter CLOSED. -/
def reopening (n t : Nat) : State :=
  { idle with act := { idle.act with opening := some (n, idle.now - t), sense := 3#32, inputs := [⟨some true, [], none⟩, ⟨some false, [], none⟩] } }

theorem witness_AnchoringAndShutterTimers :
    (let u := { idle with
        now := 7500000000
        pa := { Pl.reset with gleanCopy := some ([], 0), request := some ⟨true, 0⟩, grant := some ⟨0, 7500000000, false⟩ }
        sup := { idle.sup with soWrite := some (1, ⟨1, 1, 145, 2, 0, 0, true, []⟩) } }
     u.live = true ∧ (u.pl .A).gleanCopy = some ([], 0) ∧ (u.pl .A).request = some ⟨true, 0⟩ ∧ 0 + 7500000000 ≤ u.now ∧
       (u.pl .A).grant = some ⟨0, 7500000000, false⟩ ∧ 7500000000 ≤ u.now ∧ u.sup.soWrite = some (1, ⟨1, 1, 145, 2, 0, 0, true, []⟩) ∧
       u.sup.soAgain = false) ∧
    (let u := shut 0
     let e := event 0
     u.live = true ∧ (u.pl .A).event = some e ∧ e.closed = false ∧ e.fail = none ∧ e.opens = 0 ∧ e.ended = none ∧
       e.start + 10000000 ≤ u.now) ∧
    [Pipe.A, .B].all (fun p => [(1, 10250000, 0), (2, 10250000, 30000000), (1, 10000000, 0), (1, 10249999, 20000000), (3, 10000000, 0)].all (fun x =>
      let u := openings p x.1 x.2.1 x.2.2
      u.live && (u.pl p).event.any (fun e => !e.opened && decide (e.opens = x.1) && decide (0 < e.opens) && decide (e.lastOpen + 10000000 ≤ u.now)) &&
        (u.pl p).cur.any (fun f => decide (f.marker = idle.now - x.2.2)) && !u.openPending && decide (u.position 0 ≠ 1) &&
        u.act.opening.isNone && decide (u.act.chans.length = 4) && decide (u.nl.comp.pos0 ≠ 1) && decide (u.saf.decided = []) && decide (u.saf.first = 0))) = true ∧
    [(0, 10250000), (2, 10250000), (3, 10000000)].all (fun x =>
      let u := reopening x.1 x.2
      u.live && u.pa.event.isNone && !u.openPending && u.levelClosed && decide (u.saf.decided = []) && decide (u.saf.first = 0)) = true := by
  decide +kernel

/-- An event with all its averaging frames and both blade results. -/
def averaged (b : List (Option Int)) : ShEvent :=
  { event 1 with closed := true, win := some (6, 8, 23), taken := 16, temps := List.replicate 16 (some 0), bds := List.replicate 16 0, blades := b }

/-- A sum of zeros is zero. -/
theorem bandSum_zero (b r0 rows c0 cols : Nat) (x : Nat → Nat → Int) (h : ∀ r c, x r c = 0) : bandSum b r0 rows c0 cols x = 0 := by
  have z : ∀ (n : Nat) (f : Nat → Int), (∀ i, f i = 0) → ((List.range n).map f).sum = 0 := by
    intro n f hf
    have : f = fun _ => 0 := funext hf
    simp [this]
  exact z _ _ (fun i => z _ _ (fun j => by simp [h]))

/-- A sum of what is not negative is not negative. -/
theorem bandSum_nonneg (b r0 rows c0 cols : Nat) (x : Nat → Nat → Int) (h : ∀ r c, 0 ≤ x r c) : 0 ≤ bandSum b r0 rows c0 cols x := by
  have z : ∀ (n : Nat) (f : Nat → Int), (∀ i, 0 ≤ f i) → 0 ≤ ((List.range n).map f).sum := by
    intro n f hf
    exact List.sum_nonneg (by simpa using fun i _ => hf i)
  exact z _ _ (fun i => z _ _ (fun j => by split <;> simp [h]))

/-- An event of level frames and zero blade values breaks no limit of the factory bundle. -/
theorem averaged_passes : anchorReason Bundle.factory.anc (averaged [some 0, some 0]) 0 0 = none := by
  have m : ∀ r c, meanAt (averaged [some 0, some 0]).sums 4 r c = 0 := fun r c => rfl
  have d : ∀ r c, devAt 0 0 (averaged [some 0, some 0]).sums 4 r c = 0 := fun r c => by simp [devAt, m]
  have z : ∀ b, zoneOk Bundle.factory.anc (averaged [some 0, some 0]) b = true := by
    intro b
    have : ∀ r0 c0, bandSum b r0 128 c0 128 (meanAt (averaged [some 0, some 0]).sums 4) = 0 := fun r0 c0 => bandSum_zero _ _ _ _ _ _ m
    show zoneOk Bundle.factory.anc _ b = true
    unfold zoneOk
    simp only [show Bundle.factory.anc.nAvgLog2 = 4 from rfl, this]
    decide +kernel
  have n : ∀ b, meanOk Bundle.factory.anc (averaged [some 0, some 0]) 0 0 b = true := by
    intro b
    unfold meanOk
    simp only [show Bundle.factory.anc.nAvgLog2 = 4 from rfl, d, ite_self]
    rw [bandSum_zero _ _ _ _ _ _ (fun _ _ => rfl)]
    exact decide_eq_true (Int.mul_nonneg (by decide) (bandSum_nonneg _ _ _ _ _ _ (fun r c => by split <;> decide)))
  have c : ∀ b, corrOk Bundle.factory.anc (averaged [some 0, some 0]) 0 0 b = true := by
    intro b
    unfold corrOk
    simp only [show Bundle.factory.anc.nAvgLog2 = 4 from rfl, d]
    rw [bandSum_zero b 0 1536 0 2048 (fun _ _ => if Bundle.factory.anc.corrMax < Int.natAbs 0 then 1 else 0) (fun _ _ => rfl)]
    rfl
  unfold anchorReason
  simp only [z, n, c]
  decide +kernel

theorem witness_AnchorIsJudged : [[some 0, some 0], [some 0, some 27]].all (fun (b : List (Option Int)) => [none, some 24].all (fun (k : Option Nat) =>
      let u : State := { shut 1 with pa := { Pl.reset with event := some { averaged b with ended := k } } }
      let e : ShEvent := { averaged b with ended := k }
      u.live && decide ((u.pl .A).event = some e) && decide (e.win = some (6, 8, 23)) &&
        decide (Bundle.factory.anc = e.anc) && decide (e.fail = none) && !e.formed &&
        decide (e.temps.length = 2 ^ e.anc.nAvgLog2) && decide (e.taken = 2 ^ e.anc.nAvgLog2) &&
        decide (2 ≤ e.blades.length))) = true ∧
    bladeValue Bundle.factory.anc.shutA 0 = 0 ∧ bladeValue Bundle.factory.anc.shutB 0 = 0 ∧
    anchorReason Bundle.factory.anc (averaged [some 0, some 0]) 0 0 = none ∧
    (∀ a b, anchorReason Bundle.factory.anc (averaged [some 0, some 27]) a b = some 6) :=
  ⟨by decide +kernel, by decide +kernel, by decide +kernel, averaged_passes, fun _ _ => rfl⟩

/-! ### Engines, converters, lanes -/

/-- Sheaf 0 as given, `n` sheaves online beside it. -/
def array (x : Sheaf) (n : Nat) : State :=
  { idle with eng := { idle.eng with sheaves := x :: (List.replicate n ⟨.idle, false, 1, .idle, false, false, false, none, [], [], none, none⟩ ++
      List.replicate (15 - n) ⟨.offline, false, 1, .idle, false, false, false, none, [], [], none, none⟩) } }

/-- A sheaf in a state, with its offline request, its former state, whether it has passed, and when it is tested again. -/
def sheafOf (st : UState) (off : Bool) (prev : UState) (passed : Bool) (at_ : Option Nat) : Sheaf :=
  ⟨st, off, 1, prev, passed, passed, false, none, [], [], at_, none⟩

theorem witness_EngineArray :
    (let u := array (sheafOf .idle true .idle false none) 8
     u.live = true ∧ (u.sheaf 0).offReq = true) ∧
    (let u := array (sheafOf .idle false .idle false none) 8
     (u.sheaf 0).st = .idle ∧ (u.sheaf 0).offReq = false ∧ (u.sheaf 0).prior = none ∧
       ∀ ls ∈ [u.loads u.pa.inForce u.pb.inForce, u.pendingLoads], ∀ cool, engineBudget ls cool (u.sOn - 1) = true) ∧
    (let u := array (sheafOf .offline false .idle false none) 8
     (u.sheaf 0).offReq = false ∧ ∀ ls ∈ [u.loads u.pa.inForce u.pb.inForce, u.pendingLoads], ∀ cool, engineBudget ls cool u.sOn = true) ∧
    (let u := array (sheafOf .idle false .idle false none) 7
     (u.sheaf 0).st = .idle ∧ (u.sheaf 0).offReq = false ∧
       ∃ ls ∈ [u.loads u.pa.inForce u.pb.inForce, u.pendingLoads], ∃ cool, engineBudget ls cool (u.sOn - 1) = false) ∧
    (let u := array (sheafOf .offline false .idle false none) 8
     (u.sheaf 0).st ≠ .failed ∧ (u.sheaf 0).st ≠ .test ∧ (u.sheaf 0).st ≠ .draining ∧ (u.sheaf 0).st = .offline) ∧
    (let u := array (sheafOf .test false .failed true none) 8
     (u.sheaf 0).st = .test ∧ (u.sheaf 0).prev = .failed ∧ (u.sheaf 0).passed = true ∧ (u.sheaf 0).sched = true ∧ (u.sheaf 0).prior = none) ∧
    (let u := array (sheafOf .failed false .idle false (some idle.now)) 8
     (u.sheaf 0).st = .failed ∧ (u.sheaf 0).passed = false ∧ (u.sheaf 0).retestAt = some idle.now ∧ idle.now ≤ u.now) ∧
    (let u := array (sheafOf .failed false .idle false (some (idle.now + 1))) 8
     (u.sheaf 0).retestAt = some (idle.now + 1) ∧ u.now < idle.now + 1) ∧
    (let u := array (sheafOf .draining true .idle false none) 8
     (u.sheaf 0).st = .draining ∧ u.sheafInUse 0 = false) ∧
    (let u := array (sheafOf .test false .offline false none) 8
     (u.sheaf 0).st = .test ∧ (u.sheaf 0).sched = false) ∧
    idle.live = true ∧ idle.eng.sheaves.length = 16 ∧ SMap.ok UnitCnt.zero idle.eng.units = true ∧
    (let f := { frame 5 with place := [⟨0, 0, [3, 7]⟩] }
     f.place.any (fun x => decide (x.pipe = pipeNum .A) && x.engines.contains 7) = true ∧ (5#32 : Word).toNat = f.n) := by decide +kernel

/-- Entry 7 configured with a word. -/
def sequenced (w : Word) : State :=
  { idle with pcv := { idle.pcv with entries := modAt idle.pcv.entries 7 (fun e => { e with cfg := w }) } }

theorem witness_ConverterRegisters :
    (idle.live = true ∧ modLoad 3#32 idle.entryRegs 0 ≤ 8000 ∧ modLoad 3#32 idle.entryRegs 1 ≤ 8000) ∧
    (let u := sequenced 0x8060008d#32
     u.live = true ∧ modLoad 0#32 u.entryRegs 0 ≤ 8000 ∧ 8000 < modLoad 1#32 u.entryRegs 0) ∧
    (cfgEn 0x0#32 = false ∧ idle.dropsLens 7 0#32 = false) ∧
    ([0x80600008#32, 0xc0b140b4#32, 0x80b0006a#32].all (fun v => cfgEn v && decide (6 ≤ cfgChan v ∧ cfgChan v ≤ 11) && decide (fld v 16 15 < 3) &&
      decide (cfgExc v < 3) && decide (8 ≤ fld v 12 0 ∧ fld v 12 0 ≤ 4096) &&
      [0, 1].all (fun m => decide (modLoad (idle.pcv.newCtrl.getD idle.pcv.ctrl) (idle.entryRegs.set 15 v) m ≤ 8000)))) ∧
    (cfgEn 0x8060008e#32 = true ∧ 8000 < modLoad (idle.pcv.newCtrl.getD idle.pcv.ctrl) (idle.entryRegs.set 7 0x8060008e#32) 0) ∧
    bit 0#32 31 = false ∧ bit 0x80000007#32 31 = true ∧ fld 0x80000007#32 3 0 = 7 ∧ idle.urgBad 7 = true ∧
    (let u := sequenced 0x80600040#32
     u.live = true ∧ u.urgBad 7 = false ∧ u.pcv.mods.length = 2 ∧ (u.modu 0).now = none ∧ (u.modu 0).queue = [] ∧ (u.modu 0).urg = none ∧
       u.excClash 0 (u.entry 7).cfg = false) := by decide +kernel

/-- The sequencer runs, its last pass began `t` clocks ago; a conversion of entry `e` on modulator 0 ends now. -/
def passing (t : Option Nat) (e : Nat) : State :=
  { idle with pcv := { idle.pcv with
      running := true, passStart := t.map (fun x => idle.now - x), passes := 65535
      mods := [⟨some ⟨e, 0x80600040#32, idle.now - 100, idle.now, false⟩, [], none, none, false, false⟩, ⟨none, [], none, none, false, true⟩] } }

theorem witness_ConverterRuns :
    (idle.live = true ∧ idle.pcv.running = false) ∧
    (let u := passing (some 511999) 7
     u.pcv.passStart = some (idle.now - 511999) ∧ u.now < idle.now - 511999 + 512000) ∧
    (let u := passing none 7
     u.pcv.running = true ∧ u.pcv.passStart = none) ∧
    (let u := passing (some 512000) 7
     u.pcv.running = true ∧ u.pcv.passStart = some (idle.now - 512000) ∧ 512000 ≤ idle.now ∧ idle.now ≤ u.now) ∧
    [0, 15].all (fun e =>
      let u := passing none e
      (u.modu 0).now.any (fun c => decide (c.stop ≤ u.now) && decide (u.pcv.entries.length = 16) && decide (c.entry < 16) &&
        decide (cfgChan c.cfg = 6))) = true := by decide +kernel

/-- A product that waits on NL stream 1, lanes `egr` in service. -/
def streaming (egr : Nat) : State :=
  { idle with nl := { idle.nl with
      lanes := (List.range 4).map (fun l => { Lane.reset with on := decide (egr / 2 ^ l % 2 = 1) }), egrEn := egr
      streams := [none, some ⟨.A, 0, none, some (65536, [7#8], ⟨0, [[1#8], [2#8]], true, 2048, 0⟩), [[], []]⟩], egrReq := some 2 } }

/-- The packet in progress on lane 0, of stream 0, with `r` of its 4 blocks to go. -/
def inFlight : NlPacket := ⟨1, 0, 0, 3, 7, List.replicate 16 1#8, false, 0, none⟩
def carried (r : Nat) : State :=
  { idle with nl := { idle.nl with
      lanes := { Lane.reset with on := true, onAt := idle.now - 1320, blk := 1280, cur := some (inFlight, r) } :: List.replicate 3 Lane.reset
      streams := [some ⟨.A, 0, some (7, [], ⟨0, [], true, 2048, 0⟩), none, [[], []]⟩, none], egrReq := some 2 } }

theorem witness_LanesTransmit :
    ((List.range 4).all (fun k =>
      let u := streaming k
      u.live && (u.nl.streams.getD 1 none).any (fun x => x.waiting.isSome && x.transfer.isNone) && decide ((k ∈ [1, 2, 3]) = (k ≠ 0)) &&
        decide (u.nl.egrEn = k) && decide (u.nl.lanes.length = 4) && decide (u.nl.streams.length = 2) && (u.lane 0).cur.isNone && (u.lane 1).cur.isNone &&
        u.nl.streams.all (fun z => z.all (fun z => z.todo.all List.isEmpty))) = true) ∧
    (let u := { idle with nl := { idle.nl with streams := [some ⟨.A, 0, none, none, [[], []]⟩, none] } }
     (u.nl.streams.getD 0 none).any (fun x => x.waiting.isNone) = true ∧ u.nl.streams.getD 1 none = none ∧ u.nl.egrReq = none) ∧
    (let s := carried 3
     s.live = true ∧ s.nl.lanes.length = 4 ∧ s.nl.quiet = false ∧ (s.lane 0).cur = some (inFlight, 3) ∧ (s.lane 0).prbs = 0 ∧
       3 ≤ othersAmong (s.lane 0).blk ((s.lane 0).blockNow (s.now + 4) - (s.lane 0).blk)) ∧
    (let u := (carried 3).elapse 0
     u.live = true ∧ u.nl.lanes.length = 4 ∧ u.nl.streams.length = 2 ∧ (u.nl.streams.getD 0 none).any (fun x => x.transfer.isSome) = true ∧
       (u.lane 0).cur = some (inFlight, 3) ∧ inFlight.stream = 0 ∧ 3 < inFlight.size ∧ (u.lane 0).prbs = 0 ∧ (∀ j, j < 4 → j ≠ 0 → (u.lane j).cur = none) ∧
       0 < (u.fill 1).1 ∧ u.nl.egrReq = some 2) ∧
    (let u := streaming 1
     u.nl.egrReq = some 2 ∧ (u.lane 0).cur = none ∧ (u.lane 1).cur = none ∧ u.mode ≠ .relay) ∧
    (let u := (base .diagnostic .maintenance).modLane 3 (fun x => { x with cfg := 0x1000308#32, prbsSeen := List.replicate 7 true })
     u.mode = .diagnostic ∧ u.nl.lanes.length = 4 ∧ (u.lane 3).prbs ≠ 0 ∧ (prbsTaps (u.lane 3).prbs).1 ≤ (u.lane 3).prbsSeen.length) ∧
    (let u := { carried 3 with sup := { idle.sup with mode := .calibration } }
     u.mode = .calibration ∧ (u.lane 0).on = true ∧ (u.lane 0).prbs = 0 ∧ (u.lane 0).cur = some (inFlight, 3) ∧ (u.lane 1).on = false) ∧
    (let u := { streaming 1 with sup := { idle.sup with mode := .calibration } }
     (u.lane 0).on = true ∧ (u.lane 0).cur = none) ∧
    (idle.nl.lanes.length = 4 ∧ idle.mode ≠ .diagnostic ∧ idle.mode ≠ .calibration ∧ (idle.lane 0).prbs = 0) ∧
    [1#32, 4#32].all (fun v => decide (1 ≤ fld v 2 0 ∧ fld v 2 0 ≤ 4)) = true ∧ fld 0#32 2 0 = 0 ∧ 4 < fld 5#32 2 0 := by decide +kernel

/-- Pipeline B enabled, lane 2 and 3 in a receiver state, the link in a state. -/
def receiving (st miss comp lanes : Nat) : State :=
  { twin with nl := { twin.nl with lanes := List.replicate 4 { Lane.reset with state := st, missRun := miss, pos := 16384 }
                                   comp := { twin.nl.comp with state := comp, lanes := lanes } } }

/-- `n` times the line bits 1 and 0. -/
def turns : Nat → List Bool
  | 0 => []
  | n + 1 => true :: false :: turns n

/-- No stuff bit falls among them. -/
theorem destuff_turns (n : Nat) : destuff false false 1 (turns n) = (turns n).map (fun b => (b, false)) := by
  induction n with
  | zero => rfl
  | succ n ih => simp [turns, destuff, ih]

theorem turns_add (n m : Nat) : turns (n + m) = turns n ++ turns m := by
  induction n with
  | zero => simp [turns]
  | succ n ih => rw [Nat.succ_add, turns, ih]; rfl

/-- 64 valid blocks. -/
def valid64 : List RxBlock := List.replicate 64 (ctrlBlock 0x5555555555555555#64)

theorem valid64_bits : valid64.flatMap blockBits = turns 2112 := by
  have h : ∀ n, (List.replicate n (ctrlBlock 0x5555555555555555#64)).flatMap blockBits = turns (33 * n) := by
    intro n
    induction n with
    | zero => rfl
    | succ n ih =>
      have e : blockBits (ctrlBlock 0x5555555555555555#64) = turns 33 := by decide +kernel
      rw [List.replicate_succ, List.flatMap_cons, ih, e, Nat.mul_succ, Nat.add_comm, turns_add]
  exact h 64

theorem witness_LanesReceive :
    (idle.live = true ∧ idle.nl.lanes.length = 4 ∧ idle.receives 0 = false ∧ idle.receives 3 = false) ∧
    (let u := receiving 0 0 0 0
     u.live = true ∧ u.nl.lanes.length = 4 ∧ u.receives 2 = true ∧ u.receives 3 = true ∧ (u.lane 2).state = 0 ∧ (u.lane 2).hdrErr < 0xffffffff) ∧
    (valid64.length = 64 ∧ (∀ b ∈ valid64, b.h0 ≠ b.h1) ∧
      destuff false false 1 (turns 2112) = (valid64.flatMap blockBits).map (fun b => (b, false))) ∧
    (let u := receiving 1 0 0 0
     (u.lane 3).state = 1 ∧ u.nl.comp.state ≠ 1 ∧ u.linkLane 3 = false ∧ (((u.lane 3).win.take 63).filter (fun ok => !ok)).length < 16) ∧
    (let u := receiving 2 0 1 0
     (u.lane 2).state = 2 ∧ (u.lane 2).pos = 16384 ∧ u.nl.comp.state = 1 ∧ u.nl.comp.retryAt = none ∧ 0 < 4 ∧ 0 = (2 + 2) % 4 ∧ (1#31 : BitVec 31) ≠ 0#31) ∧
    [0, 1].all (fun k =>
      let u := receiving 2 k 0 0
      decide (lsyncOf (ctrlBlock idleWord) = none) && decide ((u.lane 3).state = 2) && decide ((u.lane 3).pos = 16384) &&
        decide ((u.lane 3).missRun = k) && !((u.lane 3).noteHeader true).drowned && (u.lane 3).asm_.isNone && !u.linkLane 3) = true ∧
    (let b : RxBlock := ⟨true, true, 0#64, false⟩
     blockValid b = false ∧ [(0, false), (3, true)].all (fun k =>
       let u := (receiving 2 0 k.1 3).modLane 3 (fun x => { x with win := List.replicate 15 false })
       decide ((u.lane 3).state ≠ 0) && decide (15 ≤ (((u.lane 3).win.take 63).filter (fun ok => !ok)).length) && (u.lane 3).asm_.isNone &&
         decide (u.linkLane 3 = k.2)) = true) :=
  ⟨by decide +kernel, by decide +kernel, ⟨by decide, by decide +kernel, by rw [valid64_bits, destuff_turns]⟩, by decide +kernel, by decide +kernel,
    by decide +kernel, by decide +kernel⟩

/-- A synchronised lane with a packet of which only EOP is missing. -/
def awaiting (p : RxPacket) : Lane := { Lane.reset with state := 2, pos := 5, scrambler := 1#31, asm_ := some p }

/-- That EOP ends it, whole or discarded. -/
theorem awaiting_takes (p : RxPacket) (h : p.words.length = p.blocks) : ∃ i y, y.state = 2 ∧ y.cfg = Lane.reset.cfg ∧
    (awaiting p).takeItem i = (y, [if p.bad = true then .discarded { p with age := p.age + 1 } else .packet { p with age := p.age + 1 }]) := by
  have q : ((awaiting p).noteHeader true).asm_ = some { p with age := p.age + 1 } := by simp [awaiting, Lane.noteHeader]
  have l : ({ p with age := p.age + 1 } : RxPacket).words.length = ({ p with age := p.age + 1 } : RxPacket).blocks := h
  have e := takeItem_eop (awaiting p) { p with age := p.age + 1 } _ _ rfl (by show 5 ≠ lsyncPeriod; decide) rfl q rfl rfl
  by_cases b : p.bad = true
  · rw [if_pos (Or.inl b)] at e
    refine ⟨_, _, ?_, ?_, by rw [if_pos b]; exact e⟩ <;> rfl
  · rw [if_neg (not_or.2 ⟨b, fun n => n l⟩)] at e
    refine ⟨_, _, ?_, ?_, by rw [if_neg b]; exact e⟩ <;> rfl

/-- A packet whole but for EOP: its kind, line and tag, its words. -/
def rxPacket (kind line tag : Nat) (words : List (BitVec 64)) (bad : Bool) : RxPacket := ⟨kind, 0, words.length, line, tag, words, bad, 3⟩

/-- The companion link in a state since `t` clocks, perhaps waiting to try again. -/
def training (c t : Nat) (r : Option Nat) : State :=
  { receiving 2 0 c 1 with nl := { (receiving 2 0 c 1).nl with comp := { (receiving 2 0 c 1).nl.comp with since := idle.now - t, retryAt := r, lastHeader := idle.now - t } } }

/-- A TRN block on a scrambled lane, and that lane. -/
def trnItem (b : TrnBlock) : RxItem := .block (ctrlBlock (scramble 1#31 (trnWord b)).1)
def synced (l : Nat) : Lane := { Lane.reset with state := 2, pos := 5, scrambler := 1#31, partner := (l + 2) % 4 }

/-- A module in RELAY with a link, a bundle, and perhaps a converter entry for the blade channel. -/
def relaying (c : Nat) (e : Word) : State :=
  { training c 0 none with
    sup := { loaded.sup with mode := .relay }, pcv := (sequenced e).pcv
    pa := { Pl.reset with snap := { Settings.reset with mode := .relay } } }

/-- Every chunk of a bundle of 32 MiB but the last. -/
@[irreducible] def chunksGot (n : Nat) : List Nat := List.range n

theorem mem_chunksGot (n k : Nat) : k ∈ chunksGot n ↔ k < n := by rw [chunksGot, List.mem_range]

/-- Chunk 8191 of that bundle on lane 2, all others there; or none there. -/
def bundling (all bad : Bool) (tag : Nat) : State :=
  ({ training 3 0 none with nl := { (training 3 0 none).nl with comp := { (training 3 0 none).nl.comp with
      chunks := if all then image 0x2000000 else [], got := if all then chunksGot 8191 else [5], retries := [(1, 2), (2, 3)] } } } : State).modLane 2
    (fun _ => awaiting (rxPacket 2 0 tag [] bad))

theorem bundling_got (all bad : Bool) (n : Nat) : (bundling all bad n).nl.comp.got = if all then chunksGot 8191 else [5] := rfl

theorem bundling_chunks (all bad : Bool) (n : Nat) : (bundling all bad n).nl.comp.chunks = if all then image 0x2000000 else [] := rfl

theorem witness_CompanionTrains :
    ([⟨1#2, 0#2, true, true, 5#32⟩, ⟨2#2, 0#2, true, true, 5#32⟩, ⟨2#2, 0#2, true, false, 5#32⟩, ⟨2#2, 0#2, false, false, 5#32⟩].all (fun (b : TrnBlock) =>
      let u := (training 2 0 none).modLane 2 (fun _ => synced 2)
      let r := (u.lane 2).takeItem (trnItem b)
      let v := u.modLane 2 (fun _ => r.1)
      u.live && decide (u.nl.lanes.length = 4) && u.receives 2 && decide (r.2 = [.trn b]) && decide (r.1.state = 2) && decide (r.1.partner = (2 + 2) % 4) &&
        u.nl.comp.retryAt.isNone && decide (u.nl.comp.state = 2) && decide (u.mode ≠ .relay) && decide (u.ownRole = 1) && !u.nl.comp.ready &&
        decide (v.pairedLanes = 1) && decide (u.nl.comp.lanes / 2 ^ (2 % 2) % 2 = 1)) = true) ∧
    (let u := ((training 2 0 none).modLane 2 (fun _ => synced 2)).modLane 3 (fun _ => synced 3)
     u.pairedLanes = 3 ∧ (u.modComp (fun c => { c with ready := true })).nl.comp.ready = true ∧ u.nl.comp.heard / 2 ^ 1 % 2 = 0) ∧
    (let b : TrnBlock := ⟨1#2, 2#2, true, true, 5#32⟩
     let u := (relaying 2 0#32).modLane 0 (fun _ => synced 0)
     let r := (u.lane 0).takeItem (trnItem b)
     u.live = true ∧ u.receives 0 = true ∧ r.2 = [.trn b] ∧ r.1.state = 2 ∧ r.1.partner = (0 + 2) % 4 ∧ u.nl.comp.state = 2 ∧ u.mode = .relay ∧ b.role.toNat = 1 ∧
       b.lane.toNat = (0 + 2) % 4 ∧ (u.modLane 0 (fun _ => r.1)).pairedLanes = 2 ^ (0 % 2)) ∧
    [0, 3, 4].all (fun c => decide ((training c 0 none).nl.comp.state = c) && decide ((training c 0 none).mode ≠ .relay)) = true ∧
    (let u := training 2 1250000 none
     u.nl.comp.retryAt = none ∧ u.nl.comp.state = 2 ∧ u.nl.comp.since + 1250000 ≤ u.now) ∧
    (let u := training 3 250000000 none
     u.nl.comp.state = 3 ∧ u.nl.comp.retryAt = none ∧ u.nl.comp.since + 250000000 ≤ u.now ∧ u.nl.comp.state ≠ 2 ∧ u.nl.comp.state ≠ 4) ∧
    (let u := training 2 1249999 none
     u.now < u.nl.comp.since + 1250000 ∧ u.nl.comp.state ≠ 3) ∧
    (let u := training 1 0 (some idle.now)
     u.nl.comp.retryAt = some idle.now ∧ idle.now ≤ u.now) ∧
    (training 1 0 (some (idle.now + 1))).now < idle.now + 1 := by decide +kernel

/-- Chunks that were lost: one asked for twice, one three times, one never; and one that is whole while others are missing. -/
theorem witness_CompanionTrains_lost : [1, 2, 0].all (fun n =>
      let u := bundling false true n
      u.live && decide (u.nl.lanes.length = 4) && u.receives 2 && u.linkLane 2 && decide (u.nl.comp.state = 3) && u.nl.comp.retryAt.isNone &&
        decide ((3 ≤ SMap.get 0 u.nl.comp.retries n) = (n = 2)) && (List.range 4).all (fun j => decide ((u.lane j).prbs = 0))) = true ∧
    (bundling false false 7).nl.comp.got = [5] ∧ 0 ∉ [7, 5] ∧
    (∀ n bad, (bundling false bad n).lane 2 = awaiting (rxPacket 2 0 n [] bad)) ∧
    ∀ n bad, ∃ i y, y.state = 2 ∧ y.cfg = Lane.reset.cfg ∧ (awaiting (rxPacket 2 0 n [] bad)).takeItem i =
      (y, [if bad = true then .discarded { rxPacket 2 0 n [] bad with age := 4 } else .packet { rxPacket 2 0 n [] bad with age := 4 }]) :=
  ⟨by decide +kernel, rfl, by decide, fun _ _ => rfl, fun n bad => awaiting_takes (rxPacket 2 0 n [] bad) rfl⟩

/-- The last chunk of a bundle comes, a good bundle or, where nothing came before, a bad one. -/
theorem witness_CompanionTrains_bundle :
    (let u := bundling true false 8191
     u.nl.comp.chunks.write (4096 * 8191) ((rxPacket 2 0 8191 [] false).bytes.take 4096) = image 0x2000000 ∧ headerTotal (image 0x2000000) = 0x2000000 ∧
       8191 ∉ u.nl.comp.got ∧ 0 ∈ 8191 :: u.nl.comp.got ∧ (∀ k, k < (0x2000000 + 4095) / 4096 → k ∈ 8191 :: u.nl.comp.got)) ∧
    (∃ b, parseBundle (image 0x2000000) 0x2000000 = .ok b) ∧
    ((bundling false false 0).nl.comp.chunks = [] ∧ headerTotal [] = 0 ∧ 0 ∈ [0, 5] ∧ ∃ e, parseBundle [] 0 = .error e) := by
  have e : (rxPacket 2 0 8191 [] false).bytes.take 4096 = [] := by simp [RxPacket.bytes, rxPacket]
  simp only [e, bundling_got, bundling_chunks, if_true, SMap.write, List.mem_cons, mem_chunksGot]
  refine ⟨⟨trivial, ?_, by omega, by omega, fun k h => by omega⟩, image_parses (.inl rfl), by decide, by decide, by decide, 0, by decide +kernel⟩
  simp only [headerTotal, rd, bytes_image]
  decide +kernel

/-- The link carries frames, `t` clocks after the last HEADER; frame 5 of pipeline B is being read, or none. -/
def linkedTo (m : Mode) (t : Nat) (rd : Bool) : State :=
  { training 4 t none with
    sup := { (training 4 t none).sup with mode := m }
    pb := { Pl.reset with reading := rd, frameNo := 6, snap := { Settings.reset with mode := .imaging },
                          frames := if rd then [{ frame 5 with coeff := some #[] }] else [] } }

/-- The words of a HEADER of a mode, newest first. -/
def headWords (m : Nat) : List (BitVec 64) := List.replicate 5 0#64 ++ [BitVec.ofNat 64 (m * 2 ^ 16), 0#64, 0x912000000005#64]

/-- A packet of pipeline B on lane 2 of a module that reads it, beside what has come of the row. -/
def companion (p : RxPacket) (t : Nat) (rd : Bool) (s l : Option (Nat × Array (BitVec 16))) (lastS : Bool) : State :=
  (({ linkedTo .imaging t rd with nl := { (linkedTo .imaging t rd).nl with comp := { (linkedTo .imaging t rd).nl.comp with rowS := s, rowL := l, lastS := lastS } } } : State)).modLane 2
    (fun _ => awaiting p)

theorem witness_CompanionStreams :
    (let u := twin.modLane 2 (fun _ => awaiting (rxPacket 3 0 0 (headWords 4) false))
     u.live = true ∧ u.receives 2 = true ∧ u.linked = false) ∧
    (let u := linkedTo .imaging 18750000 false
     u.live = true ∧ u.linked = true ∧ u.nl.comp.lastHeader + 18750000 ≤ u.now ∧ (linkedTo .imaging 18749999 true).now < (linkedTo .imaging 18749999 true).nl.comp.lastHeader + 18750000) ∧
    [3, 4].all (fun m =>
      let p := rxPacket 3 0 0 (headWords m) false
      let u := companion p 0 false none none false
      let h := parseHeader p.bytes
      u.live && u.receives 2 && u.linked && u.linkLane 2 && decide (p.kind = 3) && decide (p.blocks = 8) && decide (h.mode = m) && isRunning u.mode &&
        isRunning u.pb.snap.mode && decide (u.pb.snap.mode ≠ .relay) && decide (u.mode ≠ .relay) && u.pb.cur.isNone && u.pb.event.isNone &&
        decide (u.pb.frameNo < 2 ^ 32) && u.pb.frames.all (fun f => decide (f.n ≠ u.pb.frameNo))) = true ∧
    [(4, 1040, 0, none, none, false), (5, 520, 3, none, none, false), (5, 520, 3, none, some (3, #[]), false), (5, 520, 3, none, some (2, #[]), false),
      (6, 520, 3, none, none, false), (6, 520, 3, some (3, #[]), none, false), (6, 520, 1547, some (1547, #[]), none, true)].all
        (fun (x : Nat × Nat × Nat × Option (Nat × Array (BitVec 16)) × Option (Nat × Array (BitVec 16)) × Bool) => [true, false].all (fun bad =>
      let p := rxPacket x.1 x.2.2.1 0 (List.replicate x.2.1 0#64) bad
      let u := companion p 0 true x.2.2.2.1 x.2.2.2.2.1 x.2.2.2.2.2
      u.live && u.linked && u.linkLane 2 && u.pb.cur.any (fun f => f.lpTime.isNone && f.coeff.isSome && f.received.isNone) && decide (p.tag = u.nl.comp.tag) &&
        decide (p.blocks = x.2.1) && decide (u.nl.comp.rowS = x.2.2.2.1) && decide (u.nl.comp.rowL = x.2.2.2.2.1) && decide (u.nl.comp.lastS = x.2.2.2.2.2))) = true ∧
    (∀ p t rd s l b, (companion p t rd s l b).lane 2 = awaiting p) ∧
    ∀ k line tag w bad, ∃ i y, y.state = 2 ∧ y.cfg = Lane.reset.cfg ∧ (awaiting (rxPacket k line tag w bad)).takeItem i =
      (y, [if bad = true then .discarded { rxPacket k line tag w bad with age := 4 } else .packet { rxPacket k line tag w bad with age := 4 }]) :=
  ⟨by decide +kernel, by decide +kernel, by decide +kernel, by decide +kernel, fun _ _ _ _ _ _ => rfl,
    fun k line tag w bad => awaiting_takes (rxPacket k line tag w bad) rfl⟩

/-- A CMD on lane 0 of a module in RELAY. -/
def commanded (c : Nat) (e w : Word) : State := (relaying c e).modLane 0 (fun _ => awaiting (rxPacket 7 0 0 [w.setWidth 64] false))

theorem witness_BackChannel :
    ([0x01#32, 0x60002#32, 0x103#32, 0x003#32, 0x203#32, 0x04#32, 0x05#32, 0x00#32, 0x06#32].all (fun w =>
      let p := rxPacket 7 0 0 [w.setWidth 64] false
      decide (p.kind = 7) && decide (p.blocks = 1) && decide (fieldAt p.bytes 0 1 = w.toNat % 256) && decide (fieldAt p.bytes 1 1 = w.toNat / 256 % 256) &&
        decide (fieldAt p.bytes 2 2 = w.toNat / 65536)) = true) ∧
    (let u := commanded 3 0#32 1#32
     u.live = true ∧ u.receives 0 = true ∧ u.linkLane 0 = true ∧ u.nl.comp.state = 3 ∧ (u.bundleOf u.pa.snap).isSome = true ∧
       u.bladeEntry (u.ancOf u.pa.snap).bladeCh0 = none ∧ (List.range 4).all (fun j => decide ((u.lane j).prbs = 0)) = true) ∧
    (let u := commanded 4 0x80600040#32 4#32
     u.linkLane 0 = true ∧ u.bladeEntry (u.ancOf u.pa.snap).bladeCh0 = some 7 ∧ u.urgBad 7 = false ∧ cfgMod (u.entry 7).cfg = 0 ∧
       u.pcv.mods.length = 2 ∧ (u.modu 0).now = none ∧ (u.modu 0).queue = [] ∧ (u.modu 0).urg = none ∧ u.excClash 0 (u.entry 7).cfg = false) ∧
    (let u := commanded 2 0#32 5#32
     u.linkLane 0 = false ∧ u.nl.comp.lanes ≠ 0 ∧ u.nl.comp.state = 2 ∧ (u.modComp (fun c => { c with lanes := 0 })).linkLane 0 = false) ∧
    (let u := (training 4 0 none).modLane 2 (fun _ => awaiting (rxPacket 7 0 0 [5#64] false))
     u.receives 2 = true ∧ u.linkLane 2 = true) ∧
    (∀ c e w, (commanded c e w).lane 0 = awaiting (rxPacket 7 0 0 [w.setWidth 64] false)) ∧
    ∀ w, ∃ i y, y.state = 2 ∧ y.cfg = Lane.reset.cfg ∧
      (awaiting (rxPacket 7 0 0 w false)).takeItem i = (y, [.packet { rxPacket 7 0 0 w false with age := 4 }]) :=
  ⟨by decide +kernel, by decide +kernel, by decide +kernel, by decide +kernel, by decide +kernel, fun _ _ _ => rfl,
    fun w => awaiting_takes (rxPacket 7 0 0 w false) rfl⟩

theorem witness_LineCarries :
    (let s := streaming 1
     s.live = true ∧ (s.lane 0).prbs = 0 ∧ (s.lane 0).spoils = [] ∧ (s.lane 0).on = true ∧ (s.lane 1).on = false ∧
       inFlight.blocks[3]? = some (ctrlBlock inFlight.eop) ∧ 16384 % 16384 = 0 ∧ 5 % 16384 ≠ 0) ∧
    [true, false].all (fun bad =>
      let p := { inFlight with badCrc := bad }
      let x := synced 2
      p.abort.isNone && decide (p.kind < 16) && decide (p.stream < 16) && decide (p.line < 2048) && decide (p.tag < 65536) &&
        decide (p.payload.length % 8 = 0) && decide (p.payload.length < 32768) && decide (x.state = 2) && x.asm_.isNone &&
        decide (x.pos + p.size ≤ 16384) && decide (x.pos < 16384) && decide ((x.win.filter (fun ok => !ok)).length < 16)) = true := by decide +kernel

/-- 13 R290: what the receiver makes of a packet is what the transmitter sent, and of one with its CRC inverted a discarded packet. -/
theorem test_packet_on_the_line : [true, false].all (fun bad =>
    match (synced 2).takeBlocks (scrambleBlocks 1#31 { inFlight with badCrc := bad }.blocks) with
    | (y, [.packet q]) => !bad && decide (q.bytes = inFlight.payload) && decide (y.crcErr = 0) && decide (q.line = 3) && decide (q.tag = 7)
    | (y, [.discarded _]) => bad && decide (y.crcErr = 1)
    | _ => false) = true := by decide +kernel

/-- 13 R294: an RT1 underrun cuts the packet in progress with ABORT, reason 1, and counts in UNDER1. -/
theorem test_underrun_cuts_packet : (match exec (.refreshInterval 0 0 [(1, ⟨[(0, 0)]⟩)]) (carried 3) with
    | .next t => decide (t.nl.sent.map (fun q => (q.kind, q.line, q.abort)) = [(1, 3, some (1, 0))]) && decide (t.drm.under = [0, 1, 0]) &&
        (t.nl.streams.getD 0 none).any (fun x => x.transfer.isNone) && (t.lane 0).cur.isNone
    | _ => false) = true := by decide +kernel

/-! ### Reset, boot, stops -/

/-- A module in BOOT after step `n`, frame memory in an initialisation state. -/
def booting (n : Nat) (m : Nat := 1) : State := { idle with sup := { Sup.reset with step := n }, drm := { idle.drm with init := m } }

theorem witness_ModuleResets : idle.sup.pwrGood = true ∧ idle.live = true ∧ (base .off .operator).live = false ∧
    ({ idle with sup := { idle.sup with pwrGood := false } } : State).sup.pwrGood = false ∧ 125 ≤ 125 ∧ 124 < 125 ∧
    0 < ({ idle with sup := { idle.sup with resetLeft := 1 } } : State).sup.resetLeft ∧
    ({ idle with sup := { idle.sup with resetLeft := 1 } } : State).live = false ∧
    (∀ x ∈ [0, 0, 0, 0], x = (0 : Fin 3)) ∧ ([0, 1, 2, 0] : List (Fin 3))[2]? = some 2 := by decide +kernel

theorem witness_BootSteps : (idle.live = true ∧ idle.mode ≠ .boot ∧ idle.mode ≠ .safe) ∧ (safe_.mode = .safe ∧ 3 ≤ safe_.sup.step) ∧
    [0, 1, 3, 5, 9, 11].all (fun n => decide ((booting n).mode = .boot) && decide ((booting n).sup.step = n) && (booting n).live &&
      decide ((booting n).saf.decided = [])) = true ∧
    (booting 11).act.opening = none ∧
    ({ booting 11 with act := { idle.act with opening := some (1, 0) } } : State).act.opening ≠ none ∧
    [0, 1, 2, 3].all (fun m => decide ((booting 3 m).drm.init = m) && decide ((booting 3 m).drm.chans.length = 4) && decide ((booting 3 m).mode ≠ .safe)) = true ∧
    (15#4 : BitVec 4) ≠ 0#4 ∧
    [(0, false), (idle.now, true), (idle.now + 1, false)].all (fun x =>
      decide ((0 < ({ idle with sup := { idle.sup with holdUntil := x.1 } } : State).sup.holdUntil ∧ x.1 ≤ idle.now) = x.2)) = true := by decide +kernel

/-- A stop to a mode under way, the table changed or being written. -/
def stopping (m t : Mode) (dirty : Bool) (w : Option (Nat × SoSlot)) : State :=
  { base m .operator with
    sup := { (base m .operator).sup with trans := true, target := t, gleanDirty := dirty, soWrite := w } }

theorem witness_StopsComplete :
    (let u := stopping .imaging .standby false none
     u.live = true ∧ u.sup.target = .standby ∧ u.sup.trans = true ∧ (base .imaging .operator).sup.trans = false ∧ u.pa.reading = false ∧ u.pb.reading = false ∧ u.pa.frames = [] ∧
       u.pb.frames = [] ∧ u.plt.firstMarker = none ∧ u.sup.gleanDirty = false ∧ u.sup.soWrite = none) ∧
    (let u := stopping .imaging .standby true none
     u.sup.stopSo = true ∧ u.sup.soWrite = none ∧ u.sup.gleanDirty = true) ∧
    (let u := stopping .imaging .standby false (some (0, ⟨1, 1, 145, 2, 0, 0, true, []⟩))
     u.sup.stopSo = true ∧ u.sup.soWrite ≠ none) ∧
    (let u := { stopping .imaging .standby false none with pa := reading }
     u.sup.target = .standby ∧ u.pa.reading = true) ∧
    (let u := stopping .standby .off false none
     u.mode = .standby ∧ u.sup.trans = true ∧ u.sup.target = .off ∧ u.sup.soWrite = none ∧ u.sup.trimDue = [] ∧ u.sup.biasWrite = none ∧
       u.sup.logDue = [] ∧ u.act.opening = none ∧ u.position 0 ≠ 2) ∧
    (let u := { stopping .standby .off false none with act := { Act.reset with inputs := [⟨some true, [], none⟩, ⟨some false, [], none⟩], sense := 3#32 } }
     u.act.opening = none ∧ u.position 0 = 2) ∧
    (let u := { stopping .standby .off false none with act := { Act.reset with opening := some (1, 0) } }
     u.act.opening ≠ none) := by decide +kernel

/-! ### Thermal management, idle depths, frame memory -/

/-- A thermal state whose timers are out, sensor 9 converted to `v`. -/
def warm (st : ThState) (v : Int) : State :=
  { idle with thm := { idle.thm with
      state := st, conv := List.replicate 9 none ++ [some v], graceEnd := idle.now, low112 := some (idle.now - 625000000)
      low110 := some (idle.now - 1250000000), fast := true, slowSince := some (idle.now - 12500000) } }

theorem witness_ThermalManagement :
    (idle.live = true ∧ idle.mode ≠ .safe ∧ idle.thm.broken.length = 10 ∧ (∀ n, n < 10 → idle.thm.broken.getD n false = false) ∧
      idle.breaks 9 33279 = false ∧ idle.breaks 0 33280 = false ∧ idle.breaks 9 44800 = false ∧ idle.breaks 9 44801 = true ∧
      idle.breaks 0 (-14081) = true ∧
      (let u := { idle with thm := { idle.thm with conv := [none, some 0, some 0, some 0] ++ List.replicate 6 none } }
       u.live = true ∧ u.thm.broken.length = 10 ∧ u.breaks 0 6400 = false ∧ u.breaks 0 6401 = true ∧ (u.othersOf 0).length = 3 ∧ medianOf (u.othersOf 0) = 0) ∧ 7 ∉ idle.saf.decided) ∧
    [ThState.normal, .grace, .enforced, .stopped].all (fun st => [28160, 28161, 28672, 28673, 29439, 29440, 29952, 29953, 30719, 30720, 31999,
      32000].all (fun v => decide ((warm st v).hottest = some (v, 9)) && decide ((warm st v).thm.state = st))) = true ∧
    idle.hottest = none ∧
    (let u := warm .grace 0
     u.thm.graceEnd ≤ u.now ∧ u.thm.low112 = some (idle.now - 625000000) ∧ idle.now - 625000000 + 625000000 ≤ u.now ∧
       u.thm.low110 = some (idle.now - 1250000000) ∧ idle.now - 1250000000 + 1250000000 ≤ u.now ∧ u.thm.fast = true ∧
       u.thm.slowSince = some (idle.now - 12500000) ∧ idle.now - 12500000 + 12500000 ≤ u.now) := by decide +kernel

/-- A module in STANDBY of a wake latency at a depth. -/
def sleeping (w d : Nat) : State := { idle with thm := { idle.thm with wakeUs := w, depth := d } }

theorem witness_IdleDepths :
    [(20, 1), (400, 2), (5000, 3), (4000000, 4)].all (fun x =>
      let u := sleeping x.1 0
      decide (u.mode = .standby) && u.thm.waking.isNone && decide (x.2 = u.depthTaken) && !u.thm.wakePin &&
        decide (u.thm.activity + 1250000 ≤ u.now) && decide (u.thm.depth < x.2) && u.sup.soWrite.isNone && u.hif.waiting.isNone) = true ∧
    (sleeping 19 0).depthTaken = 0 ∧
    [0, 1, 2, 3, 4].all (fun d => decide ((sleeping 400 d).thm.depth = d) && decide ((sleeping 400 d).mode = .standby)) = true ∧
    busy.mode ≠ .standby ∧
    (let u := { idle with thm := { idle.thm with depth := 4, waking := some (idle.now, 2) } }
     u.live = true ∧ u.thm.waking = some (idle.now, 2) ∧ idle.now ≤ u.now ∧ 3 ≤ u.thm.depth) ∧
    (let u := { idle with thm := { idle.thm with depth := 2, waking := some (idle.now, 0) }, drm := { idle.drm with selfRefresh := true } }
     u.live = true ∧ u.thm.waking = some (idle.now, 0) ∧ u.drm.selfRefresh = true) ∧
    (sleeping 400 0).thm.waking = none ∧ (sleeping 400 0).live = true ∧
    (let u := { idle with thm := { idle.thm with depth := 2, waking := some (idle.now + 1, 0) } }
     u.thm.waking = some (idle.now + 1, 0) ∧ u.now < idle.now + 1 ∧ u.thm.depth < 3) := by decide +kernel

/-- Channel 3 of frame memory with a debt, a rate, forced or not, drift 32, and events at a time; its interval ends now. -/
def memory (debt rate : Nat) (forced : Bool) (t : Option Nat) : State :=
  { idle with drm := { idle.drm with
      init := 3, readyAt := some 0
      chans := List.replicate 3 DramCh.zero ++
        [{ DramCh.zero with trained := true, rate := rate, debt := debt, refAt := idle.now - refreshPeriod rate, refDone := idle.now - 35, forced := forced,
                            drift := 32, ceTime := t, guardTime := t, reported := [7] }] } }

/-- Block `k` with bits turned over. -/
def flipped (k : Nat) (bits : List Nat) : State := (memory 0 0 false none).putBlock k { MBlock.zero with flips := bits }

/-- The queue holds `n` writes of other masters, `m` of their reads are in flight. -/
def crowded (n m : Nat) : State :=
  { memory 0 0 false none with drm := { (memory 0 0 false none).drm with
      queue := List.replicate n ⟨.other, 0, 0, [1#8]⟩, reads := List.replicate m (.other, 0) } }

theorem witness_FrameMemory :
    [(6, 0), (2, 1)].all (fun x =>
      let u := memory x.1 x.2 false none
      u.live && !u.drm.selfRefresh && decide (2 ≤ u.drm.init) && decide (u.drm.chans.length = 4) && !(u.dram 3).forced &&
        decide ((u.dram 3).refAt + (if (u.dram 3).rate = 0 then 488 else if (u.dram 3).rate = 1 then 244 else 122) ≤ u.now) &&
        decide ((u.dram 3).debt + 1 < (if (u.dram 3).rate = 0 then 8 else if (u.dram 3).rate = 1 then 4 else 1))) = true ∧
    [(7, 0), (3, 1), (0, 2)].all (fun x =>
      let u := memory x.1 x.2 false none
      !(u.dram 3).forced && decide ((if (u.dram 3).rate = 0 then 8 else if (u.dram 3).rate = 1 then 4 else 1) ≤ (u.dram 3).debt + 1)) = true ∧
    (let u := memory 1 0 true none
     (u.dram 3).forced = true ∧ 0 < (u.dram 3).debt ∧ u.panicking = false ∧ (u.dram 3).refDone + 35 ≤ u.now) ∧
    (let u := { memory 1 0 false none with drm := { (memory 0 0 false none).drm with selfRefresh := true, fills := [(32768, 16385), (16384, 0), (32768, 0)] } }
     u.drm.selfRefresh = true ∧ (u.dram 3).debt = 0 ∧ (u.dram 3).forced = false ∧ u.panicking = true ∧ (idle.drm.init < 2 ∨ 2 ≤ idle.drm.init)) ∧
    (let d := (memory 0 0 false none).dram 3
     d.rate = 0 ∧ d.debt < 4 ∧ -32 ≤ d.drift + (0 : Int).sign ∧ d.drift + (0 : Int).sign ≤ 32 ∧ 32 < (d.drift + (1 : Int).sign).natAbs) ∧
    4 ≤ ((memory 4 0 false none).dram 3).debt ∧
    (idle.mode ≠ .safe ∧ 8 ∉ idle.saf.decided ∧ 9 ∉ idle.saf.decided ∧ 10 ∉ idle.saf.decided) ∧
    (let u := memory 0 0 false (some (idle.now - 999))
     (u.dram 3).guardTime = some (idle.now - 999) ∧ u.now < idle.now - 999 + 1000 ∧ (u.dram 3).ceTime = some (idle.now - 999) ∧
       u.now < idle.now - 999 + 125000000 ∧ 7 ∈ (u.dram 3).reported ∧ u.drm.blocks = [] ∧ (u.dram 3).limited = [] ∧ (u.dram 3).due = []) ∧
    (let u := memory 0 0 false (some (idle.now - 125000000))
     idle.now - 125000000 + 1000 ≤ u.now ∧ idle.now - 125000000 + 125000000 ≤ u.now) ∧
    (let u := (memory 0 0 false none).modDram 3 (fun d => { d with limited := [(2, idle.now - 124)] })
     (u.dram 3).limited.find? (fun x => x.1 = 2) = some (2, idle.now - 124) ∧ u.now < idle.now - 124 + 125) ∧
    (let u := memory 0 0 false none
     u.drm.readyAt = some 0 ∧ 0 + (u.drm.windows + 1) * 8000000 ≤ u.now ∧ u.now < 0 + (156 + 1) * 8000000) ∧
    ([(0, [], true), (0x12000000 / 64, [], false), (0x12000000 / 64, [0, 1], false)].all (fun x =>
      let u := flipped x.1 x.2.1
      u.live && decide (u.drm.chans.length = 4) && decide (u.drm.answers.length = 4) && decide (u.drm.queue = []) && decide (u.drm.reads = []) &&
        decide (u.drm.stalled = []) && SMap.ok MBlock.zero u.drm.blocks && u.drm.blocks.all (fun e => decide (e.1 = x.1)) && decide (x.1 < 2 ^ 26) &&
        decide ((u.block x.1).flips = x.2.1) && decide ((u.block x.1).data.length = 64) && decide (u.scrubbed x.1 = x.2.2) &&
        (siloOf (64 * x.1)).any (fun i => decide (i = if x.1 = 0 then 0 else 2)) && decide ((u.block x.1).lost = (x.2.1 ≠ []))) = true) ∧
    571 % 72 = 67 ∧ 571 % 72 < 71 := by decide +kernel

/-- Rooms of the queue and of the slots: all free, and taken by other masters. -/
theorem witness_FrameMemory_room : (crowded 0 0).writesOf .rt0 < 256 ∧ (crowded 0 0).readsOf .rt1 < 1024 ∧ 512 ≤ (crowded 512 0).writesOf .other ∧
    5120 ≤ (crowded 0 5120).readsOf .other ∧ (crowded 512 0).drm.stalled = [] ∧ (crowded 512 0).drm.blocks = [] := by
  have w : ∀ n m, (crowded n m).drm.queue = List.replicate n ⟨.other, 0, 0, [1#8]⟩ := fun _ _ => rfl
  have r : ∀ n m, (crowded n m).drm.reads = List.replicate m (.other, 0) := fun _ _ => rfl
  refine ⟨by decide +kernel, by decide +kernel, ?_, ?_, rfl, rfl⟩
  · rw [State.writesOf, w]
    simp only [List.filter_replicate, decide_true, if_true, List.length_replicate, le_refl]
  · rw [State.readsOf, r]
    simp only [List.filter_replicate, decide_true, if_true, List.length_replicate, le_refl]

/-! ### Functional safety, ledger, invariants -/

/-- In SAFE, resting, a command waiting. -/
def resting : State := { safe_ with pending := [.coolingTick 0], saf := { safe_.saf with first := 3, decided := [3] } }

/-- A commanded test `n` that started `t` clocks ago, and the scheduled tests `l`. -/
def testing (n t : Nat) (l : List Nat) : State :=
  { idle with saf := { idle.saf with testResult := 3, test := n, testAt := idle.now - t, sched := l, ran := [0, idle.now, idle.now, 0, idle.now] } }

theorem witness_MonitorsTrip : (idle.live = true ∧ idle.mode ≠ .boot ∧ idle.mode ≠ .safe ∧ idle.saf.decided = [] ∧
      ∀ n, n < 8 → idle.injecting n = false ∧ idle.testPulse n = false) ∧
    ((testing 1 0 []).injecting 1 = true ∧ (testing 1 0 []).commanded 1 = true ∧ 1 ∉ (testing 1 0 []).saf.sched ∧ (testing 1 0 [2]).injecting 2 = true ∧
      (testing 1 0 [2]).commanded 2 = false ∧ 2 ∈ (testing 1 0 [2]).saf.sched) ∧
    ((booting 0).mode = .boot ∧ (booting 0).sup.step = 0 ∧ (booting 0).live = true) ∧
    ((booting 1).mode = .boot ∧ 1 ≤ (booting 1).sup.step) ∧ safe_.mode = .safe ∧ safe_.saf.decided = [] ∧
    (let u := { idle with saf := { idle.saf with decided := [3] } }
     3 ∈ u.saf.decided) ∧
    (resting.mode = .safe ∧ resting.saf.first ≠ 0 ∧ resting.saf.firstAt < resting.now ∧ 5 ∉ resting.saf.decided) ∧
    [6, 7].all (fun n => (testing n 1249 []).testPulse n && (testing n 1249 []).commanded n && !(testing n 1250 []).testPulse n) = true ∧
    (let u := { idle with pcv := { idle.pcv with biasOn := some (idle.now - 125000) }, saf := { idle.saf with ran := [0, 0, idle.now, 0, 0] } }
     u.mode ≠ .boot ∧ u.pcv.biasOn = some (idle.now - 125000) ∧ idle.now - 125000 + 125000 ≤ u.now ∧ 1 ∉ u.saf.sched ∧
       u.saf.ran.getD 1 0 + 125000000 ≤ u.now ∧ u.now < u.saf.ran.getD 2 0 + 125000000) ∧
    idle.pcv.biasOn = none ∧
    (let u := { idle with now := 7500000000, pcv := { idle.pcv with biasOn := some 0 } }
     (u.saf.ran.getD 3 0 + 7500000000 ≤ u.now) ∧ u.saf.sched = []) ∧
    (let u := { testing 5 0 [1, 3] with saf := { (testing 5 0 [1, 3]).saf with ran := [0, idle.now - 125000, 0, idle.now - 562499, 0] } }
     1 ∈ u.saf.sched ∧ u.saf.ran.getD 1 0 + 125000 ≤ u.now ∧ u.commanded 1 = false ∧ 3 ∈ u.saf.sched ∧ u.now < u.saf.ran.getD 3 0 + 562500) ∧
    [(1, 124999), (3, 562499)].all (fun x => decide ((testing x.1 x.2 []).now < (testing x.1 x.2 []).saf.testAt + (if x.1 = 3 then 562500 else 125000)) &&
      decide ((testing x.1 (x.2 + 1) []).saf.testAt + (if x.1 = 3 then 562500 else 125000) ≤ (testing x.1 (x.2 + 1) []).now) &&
      (testing x.1 x.2 []).saf.flagged.isNone && decide ((testing x.1 x.2 []).saf.testResult = 3)) = true ∧
    (let u := { testing 5 0 [] with saf := { (testing 5 0 []).saf with test5 := true } }
     u.saf.test5 = true ∧ u.pa.reading = false ∧ u.pa.armed = false ∧ ({ u with pa := reading } : State).pa.reading = true) ∧
    ((testing 5 0 []).saf.test5 = false ∧ (testing 5 0 []).pa.frames = [] ∧ ({ frame 5 with test5 := true } : Frame).test5 = true) ∧
    idle.saf.testResult ≠ 3 := by
  refine ⟨?_, ?_, ?_, ?_, ?_, ?_, ?_, ?_, ?_, ?_⟩ <;> decide +kernel

/-- A request of the safety channel with the right CRC. -/
def request (sel : Sel) (op arg : Nat) (rsv : BitVec 4) (data : Word) : SpiReq :=
  ⟨sel, BitVec.ofNat 8 arg, 3#4, rsv, data, crc8 (frameBytes op (arg % 256) (3 * 16 + rsv.toNat) data)⟩

/-- A safety session, open or not, the watchdog in a state since `t` clocks; the last SEQ was 2. -/
def guarded (o : Bool) (w t : Nat) : State :=
  { keyed with saf := { keyed.saf with ports := [⟨some 2, ⟨0, 0, 0, 0#32⟩, none, 0#64⟩, ⟨some 2, ⟨0, 0, 0, 0#32⟩, none, 0#64⟩], sessOpen := o, key := [1#8],
                                       wdState := w, wdTime := keyed.now - t } }

/-- A nonce drawn `t` clocks ago, `n` words received. -/
def nonced (t n : Nat) : State :=
  { guarded false 0 0 with saf := { (guarded false 0 0).saf with nonce := some ⟨5#128, idle.now - t, [1#8], List.replicate n 0#32⟩ } }

/-- The MAC is complete and compared. -/
def comparing : State := { nonced 0 8 with saf := { (nonced 0 8).saf with comparing := some 2 } }

theorem witness_SpiFramesChecked :
    (let u := { guarded false 0 0 with now := 2499999 }
     u.live = true ∧ u.now < 2500000) ∧
    (let u := guarded false 0 0
     u.live = true ∧ 2500000 ≤ u.now ∧ u.saf.ports.length = 2 ∧
       crc8 (frameBytes 0 0 (3 * 16 + 0) 0#32) ≠ crc8 (frameBytes 0 0 (3 * 16 + 0) 0#32) + 1#8 ∧
       (u.port 0).seq = some 2 ∧ 4 ≠ (2 + 1) % 16 ∧
       admitted u (request .maint 0x10 0 0#4 0#32) 0x10 = true ∧ admitted u (request .safe 0x40 0 15#4 0#32) 0x40 = true ∧
       admitted u (request .maint 0x01 0 1#4 0#32) 0x01 = true ∧ admitted u (request .safe 0x20 0 0#4 0#32) 0x20 = true ∧ u.saf.sessOpen = false) ∧
    (let u := { guarded false 0 0 with saf := { (guarded false 0 0).saf with anomalies := List.replicate 7 (idle.now - 124999999) } }
     7 ≤ (u.saf.anomalies.filter (fun a => decide (u.now < a + 125000000))).length) ∧
    (let u := comparing
     u.live = true ∧ 2500000 ≤ u.now ∧ u.saf.ports.length = 2 ∧ u.saf.comparing = some 2 ∧ (u.port 0).seq = some 2 ∧
       (request .safe 0 0 0#4 0#32).seq.toNat = (2 + 1) % 16) := by decide +kernel

theorem witness_SpiCommandsServed :
    (let u := guarded true 1 0
     u.live = true ∧ u.mode ≠ .safe ∧ u.saf.sessOpen = true ∧ 18 ∉ u.saf.decided ∧
       [(Sel.safe, 0x00, 0, 0#32), (.maint, 0x01, 255, 0#32), (.maint, 0x02, 0, 0#32), (.safe, 0x30, 0, 0x2fff#32), (.safe, 0x31, 0, 0x5a5a#32),
         (.safe, 0x31, 0, 0x5a5b#32), (.safe, 0x32, 0, 0xa5a5#32), (.safe, 0x40, 4, 0#32), (.safe, 0x40, 8, 0#32)].all (fun x =>
           admitted u (request x.1 x.2.1 x.2.2.1 0#4 x.2.2.2) x.2.1) = true ∧
       knownOps.contains 0x02 = false ∧ knownOps.contains 0xff = false ∧ knownOps.contains 0x40 = true ∧ u.testStatus 8 ≠ 0 ∧ u.testStatus 0 ≠ 0 ∧ u.testStatus 5 ≠ 0 ∧
       u.testStatus 1 = 0 ∧ u.testStatus 7 = 0) := by decide +kernel

theorem witness_SafetySessionOpens :
    (let u := guarded false 0 0
     u.live = true ∧ u.sup.ledgerReady = true ∧ u.nv.keys[3]? = some (Rec.both 0 (List.replicate 32 0x4d#8)) ∧ u.keyOf 3 ≠ [] ∧ u.saf.sessOpen = false ∧ u.lockedOut 3 = false ∧ u.saf.nonce = none ∧
       admitted u (request .safe 0x10 0 0#4 0#32) 0x10 = true ∧ admitted u (request .safe 0x11 3 0#4 0#32) 0x11 = true ∧
       admitted u (request .safe 0x11 4 0#4 0#32) 0x11 = true ∧ admitted u (request .safe 0x12 0 0#4 0#32) 0x12 = true) ∧
    (let u := { guarded false 0 0 with sup := { keyed.sup with lockEnd := keyed.sup.lockEnd.set 3 (some (keyed.now + 1)) } }
     u.lockedOut 3 = true ∧ admitted u (request .safe 0x10 0 0#4 0#32) 0x10 = true) ∧
    (idle.keyOf 3 = [] ∧ (guarded true 1 0).saf.sessOpen = true) ∧
    (let u := { guarded false 0 0 with nv := { keyed.nv with keys := keyed.nv.keys.set 3 ⟨none, some (4, [1#8])⟩ } }
     admitted u (request .safe 0x10 0 0#4 0#32) 0x10 = true ∧ u.nv.keys[3]? = some ⟨none, some (4, [1#8])⟩ ∧ u.lockedOut 3 = false) ∧
    (let u := nonced 125000001 0
     u.saf.nonce = some ⟨5#128, idle.now - 125000001, [1#8], []⟩ ∧ idle.now - 125000001 + 125000000 < u.now) ∧
    (let u := nonced 125000000 6
     admitted u (request .safe 0x12 6 0#4 0#32) 0x12 = true ∧ u.saf.nonce = some ⟨5#128, idle.now - 125000000, [1#8], List.replicate 6 0#32⟩ ∧
       (request .safe 0x12 6 0#4 0#32).arg.toNat = 6 ∧ u.now ≤ idle.now - 125000000 + 125000000) ∧
    (let u := nonced 125000000 7
     admitted u (request .safe 0x12 7 0#4 0#32) 0x12 = true ∧ (request .safe 0x12 7 0#4 0#32).arg.toNat = 7 ∧ u.saf.comparing = none) ∧
    (let u := comparing
     u.live = true ∧ u.saf.ports.length = 2 ∧ u.saf.comparing = some 2 ∧ u.saf.nonce = some ⟨5#128, idle.now - 0, [1#8], List.replicate 8 0#32⟩ ∧
       u.sup.lockFails.length = 8 ∧ u.nv.guard.a.isSome = true ∧ u.nv.guard.b.isSome = true ∧
       (List.replicate 8 0#32).flatMap (fun w => le 4 w.toNat) ≠ hmac [1#8] (le 16 5 ++ le 8 u.nv.serial.toNat)) := by decide +kernel

/-- The right last word of the MAC of a nonce for which the words before it are already right. -/
theorem witness_SafetySessionOpens_mac :
    let mac := hmac [1#8] (le 16 5 ++ le 8 1)
    let ws := (List.range 8).map (fun k => word (unle ((mac.drop (4 * k)).take 4)))
    mac = ws.flatMap (fun w => le 4 w.toNat) ∧ ws.length = 8 := by decide +kernel

theorem witness_WatchdogJudges :
    (let u := guarded true 2 0
     u.live = true ∧ u.saf.sessOpen = true ∧ u.saf.wdState = 2 ∧ admitted u (request .safe 0x20 0 0#4 0#32) 0x20 = true ∧
       admitted u (request .safe 0x21 0 0#4 0#32) 0x21 = true) ∧
    [1250000, 2500000].all (fun t =>
      let u := guarded true 1 t
      decide (u.saf.wdState ≠ 2) && decide (u.saf.wdTime + 1250000 ≤ u.now) && decide (u.now ≤ u.saf.wdTime + 2500000) &&
        decide (u.mode ≠ .safe) && decide (16 ∉ u.saf.decided ∧ 17 ∉ u.saf.decided)) = true ∧
    (let u := guarded true 1 0
     let d := word (unle ((hmac u.saf.key (le 16 u.saf.sessNonce.toNat ++ le 4 u.saf.wdChal.toNat ++ le 2 u.saf.wdN)).take 4))
     admitted u (request .safe 0x21 0 0#4 d) 0x21 = true ∧ (request .safe 0x21 0 0#4 d).data = d ∧ d ≠ 0#32) ∧
    (let u := guarded true 1 1249999
     u.now ≤ u.saf.wdTime + 2500000 ∧ u.now < u.saf.wdTime + 1250000) ∧
    (let u := guarded true 1 2500001
     u.saf.wdTime + 2500000 < u.now) ∧
    (let u := guarded true 1 2500000
     u.saf.wdState = 1 ∧ u.saf.wdTime + 2500000 ≤ u.now) ∧
    (let u := guarded true 1 2499999
     u.now < u.saf.wdTime + 2500000) := by decide +kernel

/-- The ledger has work to do. -/
def writing : State :=
  { idle with
    now := 45000000000
    sup := { idle.sup with trimDue := [0, 64], biasWrite := some (1, 2), logDue := [(1, 2, [3])], lockEnd := List.replicate 7 none ++ [some 45000000001],
                           guardAt := 43000000000 } }

theorem witness_LedgerWrites : writing.live = true ∧ writing.sup.trimDue.Nodup ∧ SMap.ok (Rec.both 0 TrimGroup.zero) writing.nv.trim = true ∧
    (∀ g ∈ writing.sup.trimDue, (writing.nv.trimRec g).a.isSome = true ∧ (writing.nv.trimRec g).b.isSome = true) ∧
    writing.nv.bias.a.isSome = true ∧ writing.nv.bias.b.isSome = true ∧ writing.nv.guard.a.isSome = true ∧ writing.nv.guard.b.isSome = true ∧
    (writing.tally 4).high.a.isSome = true ∧ (writing.tally 4).high.b.isSome = true ∧
    (let r : Rec TrimGroup := ⟨none, some (4, TrimGroup.zero)⟩
     let u := { writing with sup := { writing.sup with trimDue := [64] }, nv := { writing.nv with
       trim := SMap.put (Rec.both 0 TrimGroup.zero) writing.nv.trim 64 r, bias := ⟨some (5, (3, 4)), none⟩, guard := ⟨none, none⟩ } }
     u.live = true ∧ u.sup.trimDue = [64] ∧ SMap.ok (Rec.both 0 TrimGroup.zero) u.nv.trim = true ∧ u.nv.trimRec 64 = r ∧ u.sup.biasWrite = some (1, 2) ∧
       u.nv.bias = ⟨some (5, (3, 4)), none⟩ ∧ u.nv.guard = ⟨none, none⟩ ∧ u.lockedOut 7 = true ∧ u.sup.guardAt + 2000000000 ≤ u.now) ∧
    writing.sup.biasWrite = some (1, 2) ∧ writing.sup.logDue = [(1, 2, [3])] ∧ writing.sup.ledgerReady = true ∧ SMap.ok none writing.nv.log = true ∧
    writing.lockedOut 7 = true ∧ writing.sup.guardAt + 2000000000 ≤ writing.now ∧ writing.sup.residSince + 7500000000 ≤ (writing.now : Int) ∧
    writing.sup.opSince + 45000000000 ≤ (writing.now : Int) ∧ idle.sup.biasWrite = none ∧ idle.sup.logDue = [] ∧
    (∀ w, w < 8 → idle.lockedOut w = false) ∧ (idle.now : Int) < idle.sup.opSince + 45000000000 ∧
    (let u := { idle with sup := { idle.sup with lockEnd := List.replicate 7 none ++ [some idle.now] } }
     u.live = true ∧ u.sup.lockEnd.getD 7 none = some idle.now ∧ idle.now ≤ u.now ∧ u.nv.guard.a.isSome = true ∧ u.nv.guard.b.isSome = true) := by decide +kernel

theorem witness_SafeStays : resting.mode = .safe ∧ resting.SafeInv ∧ step resting = .next (after (.coolingTick 0) { resting with pending := [] }) := by
  refine ⟨by decide +kernel, fun _ => ?_, rfl⟩
  exact ⟨by decide +kernel, by decide +kernel, by decide +kernel, by decide +kernel, by decide +kernel⟩

theorem witness_SafeLeftByReset : resting.mode = .safe ∧ resting.rests ∧
    exec (.moduleReset 0 (.pin 125) false []) resting = .next (after (.moduleReset 0 (.pin 125) false []) resting) := by
  refine ⟨by decide +kernel, ?_, rfl⟩
  exact ⟨by decide +kernel, by decide +kernel, by decide +kernel, by decide +kernel, by decide +kernel⟩

theorem witness_FirstFaultLatched : idle.FaultInv ∧ step idle = .next idle ∧ resting.saf.first ≠ 0 ∧
    exec (.lockstep 0) resting = .next (after (.lockstep 0) resting) :=
  ⟨fun _ => by decide +kernel, rfl, by decide +kernel, rfl⟩

end Sys2Proof.Tests
end

namespace Sys2Proof.Machine

/-! ## Register accesses (00 R10 to R14, R197) -/

theorem exec_registerWrite_of_live {s : State} {dt : Nat} (hl : (s.elapse dt).live = true) (off : BitVec 20) (v : Word)
    (poisoned : Bool) :
    exec (.registerWrite dt off v poisoned) s = .next (if poisoned then s.elapse dt
      else if off.toNat % 4 = 0 then (s.elapse dt).writeReg off.toNat v else (s.elapse dt).badAccess off.toNat true) :=
  congrArg Host.Outcome.next (State.run_of_live hl _)

theorem exec_loRead_of_live {s : State} {dt : Nat} (hl : (s.elapse dt).live = true) (off : BitVec 20) :
    exec (.loRead dt off) s = .next (if off.toNat % 4 = 0 then (s.elapse dt).read off.toNat
      else (s.elapse dt).badAccess off.toNat false) :=
  congrArg Host.Outcome.next (State.run_of_live hl _)

theorem exec_accessSize_of_live {s : State} {dt : Nat} (hl : (s.elapse dt).live = true) (off : BitVec 20) (write : Bool) :
    exec (.accessSize dt off write) s = .next ((s.elapse dt).badAccess off.toNat write) :=
  congrArg Host.Outcome.next (State.run_of_live hl _)

/-- A write of an aligned register that the host has not poisoned. -/
theorem exec_registerWrite_aligned {s : State} {dt : Nat} (hl : (s.elapse dt).live = true) {off : BitVec 20} (v : Word)
    (ha : off.toNat % 4 = 0) : exec (.registerWrite dt off v false) s = .next ((s.elapse dt).writeReg off.toNat v) := by
  rw [exec_registerWrite_of_live hl, if_neg Bool.false_ne_true, if_pos ha]

theorem State.badAccess_write (s : State) (off : Nat) : s.badAccess off true = s.post0 0x0002 [word off] := rfl

theorem State.badAccess_read (s : State) (off : Nat) :
    s.badAccess off false = ({ s with hif := { s.hif with rdata := 0xffffffff#32 } } : State).post0 0x0002 [word off] := rfl

/-- Settles O6: each wrong access, named as such or told by its offset, is `badAccess`, whose two branches are the two answers. -/
theorem accessSize : Obligations.AccessSize := by
  unfold Obligations.AccessSize
  rintro dt off v s u rfl hl
  refine ⟨?_, ?_, fun ha => ⟨?_, ?_⟩⟩
  · rw [exec_accessSize_of_live hl, State.badAccess_write]
  · rw [exec_accessSize_of_live hl, State.badAccess_read]
  · rw [exec_registerWrite_of_live hl, if_neg Bool.false_ne_true, if_neg ha, State.badAccess_write]
  · rw [exec_loRead_of_live hl, if_neg ha, State.badAccess_read]

/-! ## Which block takes a write (R197) -/

theorem State.writeReg_hif (s : State) (o : Nat) (v : Word) (h : o < 0x4000) : s.writeReg (0x4000 + o) v = s.writeHif o v := by
  unfold State.writeReg
  rw [if_neg (by omega), if_neg (by omega), if_neg (by omega), if_pos (by omega), Nat.add_sub_cancel_left]

theorem State.writeReg_plt (s : State) (o : Nat) (v : Word) (h : o < 0x1000) : s.writeReg (0x8000 + o) v = s.writePlt o v := by
  unfold State.writeReg
  iterate 4 rw [if_neg (by omega)]
  rw [if_pos (by omega), Nat.add_sub_cancel_left]

theorem State.writeReg_act (s : State) (o : Nat) (v : Word) (h : o < 0x1000) : s.writeReg (0xd000 + o) v = s.writeAct o v := by
  unfold State.writeReg
  iterate 9 rw [if_neg (by omega)]
  rw [if_pos (by omega), Nat.add_sub_cancel_left]

theorem State.writeReg_sup (s : State) (o : Nat) (v : Word) (h : o < 0x1000) :
    s.writeReg o v = s.writeRo 0 [(0x000, 0x018)] o := if_pos h

theorem State.writeReg_drm (s : State) (o : Nat) (v : Word) (h : o < 0x4000) : s.writeReg (0x10000 + o) v = s.writeDrm o := by
  unfold State.writeReg
  iterate 11 rw [if_neg (by omega)]
  rw [if_pos (by omega), Nat.add_sub_cancel_left]

theorem State.writeReg_eng (s : State) (o : Nat) (v : Word) (h : o < 0xc000) : s.writeReg (0x14000 + o) v = s.writeEng o v := by
  unfold State.writeReg
  iterate 12 rw [if_neg (by omega)]
  rw [if_pos (by omega), Nat.add_sub_cancel_left]

theorem State.writeReg_saf (s : State) (o : Nat) (v : Word) (h : o < 0x1000) :
    s.writeReg (0x21000 + o) v = s.writeRo 0x21000 [(0x000, 0x034), (0x040, 0x050)] o := by
  unfold State.writeReg
  iterate 14 rw [if_neg (by omega)]
  rw [if_pos (by omega), Nat.add_sub_cancel_left]

theorem State.writeReg_reserved (s : State) (off : Nat) (v : Word) (h : 0x22000 ≤ off) : s.writeReg off v = s := by
  unfold State.writeReg
  iterate 15 rw [if_neg (by omega)]

/-! ## What the registers of a block do with a write (R11, R12, R14) -/

theorem State.writeRo_of_mem (s : State) (base : Nat) (rs : List (Nat × Nat)) (o : Nat) (h : ∃ r ∈ rs, r.1 ≤ o ∧ o < r.2) :
    s.writeRo base rs o = s.post0 0x0003 [word (base + o)] :=
  if_pos (by simpa [inAny] using h)

theorem State.writeDrm_low (s : State) (o : Nat) (h : o < 0x020) : s.writeDrm o = s.post0 0x0003 [word (0x10000 + o)] := by
  unfold State.writeDrm
  rw [if_neg (by simp; omega), State.writeRo_of_mem _ _ _ _ ⟨_, .head _, Nat.zero_le _, h⟩]

theorem State.writeEng_beyond (s : State) (o : Nat) (v : Word) (h : 0x2540 ≤ o) : s.writeEng o v = s := by
  unfold State.writeEng
  exact if_pos (by simp [h])

theorem State.writeHif_ring (s : State) (x o : Nat) (v : Word) (hx : x < 23) (ho : o < 32) :
    s.writeHif (0x100 + 32 * x + o) v = s.writeRing x o v := by
  unfold State.writeHif
  rw [if_neg (by omega), if_pos (by simp; omega)]
  congr 1 <;> omega

theorem State.writeAct_channel (s : State) (c o : Nat) (v : Word) (hc : c < 4) (ho : o < 16) :
    s.writeAct (0x40 + 16 * c + o) v = s.writeActCh c o v := by
  unfold State.writeAct
  split
  · omega
  · omega
  · omega
  · rw [if_pos (by simp; omega)]
    congr 1 <;> omega

theorem State.writePlt_readOnly (s : State) (o : Nat) (v : Word) (h : 0x00c ≤ o) (h' : o < 0x038) :
    s.writePlt o v = s.post0 0x0003 [word (0x8000 + o)] := by
  unfold State.writePlt
  split
  · omega
  · omega
  · omega
  · exact if_pos h'

theorem State.writePlt_reserved (s : State) (o : Nat) (v : Word) (h : 0x038 ≤ o) : s.writePlt o v = s := by
  unfold State.writePlt
  split
  · omega
  · omega
  · omega
  · exact if_neg (by omega)

/-- Registers whose fields are all RO: identity and boot state, plate status, frame memory, the mirror of the safety channel (R14). -/
theorem State.writeReg_readOnly (s : State) (off : Nat) (v : Word)
    (h : off < 0x18 ∨ (0x0800c ≤ off ∧ off < 0x08038) ∨ (0x10000 ≤ off ∧ off < 0x10020) ∨ (0x21000 ≤ off ∧ off < 0x21034)) :
    s.writeReg off v = s.post0 0x0003 [word off] := by
  obtain h | ⟨lo, hi⟩ | ⟨lo, hi⟩ | ⟨lo, hi⟩ := h
  · rw [State.writeReg_sup _ _ _ (by omega), State.writeRo_of_mem _ _ _ _ ⟨_, .head _, Nat.zero_le _, h⟩, Nat.zero_add]
  · obtain ⟨o, rfl⟩ := Nat.exists_eq_add_of_le (show 0x8000 ≤ off by omega)
    rw [State.writeReg_plt _ _ _ (by omega), State.writePlt_readOnly _ _ _ (by omega) (by omega)]
  · obtain ⟨o, rfl⟩ := Nat.exists_eq_add_of_le lo
    rw [State.writeReg_drm _ _ _ (by omega), State.writeDrm_low _ _ (by omega)]
  · obtain ⟨o, rfl⟩ := Nat.exists_eq_add_of_le lo
    rw [State.writeReg_saf _ _ _ (by omega), State.writeRo_of_mem _ _ _ _ ⟨_, .head _, Nat.zero_le _, by omega⟩]

theorem State.writeReg_unused (s : State) (off : Nat) (v : Word)
    (h : 0x22000 ≤ off ∨ (0x08038 ≤ off ∧ off < 0x09000) ∨ (0x16540 ≤ off ∧ off < 0x20000)) : s.writeReg off v = s := by
  obtain h | ⟨lo, hi⟩ | ⟨lo, hi⟩ := h
  · exact s.writeReg_reserved off v h
  · obtain ⟨o, rfl⟩ := Nat.exists_eq_add_of_le (show 0x8000 ≤ off by omega)
    rw [State.writeReg_plt _ _ _ (by omega), State.writePlt_reserved _ _ _ (by omega)]
  · obtain ⟨o, rfl⟩ := Nat.exists_eq_add_of_le (show 0x14000 ≤ off by omega)
    rw [State.writeReg_eng _ _ _ (by omega), State.writeEng_beyond _ _ _ (by omega)]

theorem State.writeReg_pltExp (s : State) (v : Word) :
    s.writeReg 0x08000 v = { s with plt := { s.plt with exp := v &&& 0x001fff33#32 } } := s.writeReg_plt 0 v (by decide)

theorem State.writeReg_pltFsync (s : State) (v : Word) :
    s.writeReg 0x08004 v = { s with plt := { s.plt with fsync := v &&& 0xffff0003#32 } } := s.writeReg_plt 4 v (by decide)

theorem State.writeReg_thmCtrl (s : State) (v : Word) :
    s.writeReg 0x02000 v = { s with thm := { s.thm with ctrl := v &&& 0x00001fff#32 } } := rfl

theorem State.writeReg_cchSel (s : State) (v : Word) :
    s.writeReg 0x09010 v = { s with cch := { s.cch with sel := v &&& 0x007f003f#32 } } := rfl

theorem State.readReg_pltExp (s : State) : s.readReg 0x08000 = s.plt.exp := rfl
theorem State.readReg_pltFsync (s : State) : s.readReg 0x08004 = s.plt.fsync := rfl
theorem State.readReg_thmCtrl (s : State) : s.readReg 0x02000 = s.thm.ctrl := rfl
theorem State.readReg_cchSel (s : State) : s.readReg 0x09010 = s.cch.sel := rfl

/-- The W1C fields of RING_ERR of ring `x` (R12). -/
theorem State.writeReg_ringErr (s : State) (x : Nat) (v : Word) (hx : x < 23) :
    s.writeReg (0x4118 + 32 * x) v = s.modRing x (fun r =>
      { r with cfgErr := r.cfgErr && !bit v 3, overflow := r.overflow && !bit v 2, dmaErr := r.dmaErr && !bit v 1,
               dbInvalid := r.dbInvalid && !bit v 0 }) := by
  rw [show 0x4118 + 32 * x = 0x4000 + (0x100 + 32 * x + 0x18) by omega, State.writeReg_hif _ _ _ (by omega),
    State.writeHif_ring _ _ _ _ hx (by omega)]
  rfl

theorem State.writeRing_base (s : State) (x : Nat) (v : Word) :
    s.writeRing x 0x00 v = s.writeRwl (0x4100 + 32 * x) (s.ring x).baseLo (v &&& 0xffffffc0#32)
      (fun s => s.modRing x (fun r => { r with baseLo := v &&& 0xffffffc0#32 })) := rfl

/-- RING_BASE_LO of ring `x` is one RWL word. -/
theorem State.writeReg_ringBase (s : State) (x : Nat) (v : Word) (hx : x < 23) :
    s.writeReg (0x4100 + 32 * x) v = s.writeRwl (0x4100 + 32 * x) (s.ring x).baseLo (v &&& 0xffffffc0#32)
      (fun s => s.modRing x (fun r => { r with baseLo := v &&& 0xffffffc0#32 })) := by
  rw [← State.writeRing_base, ← State.writeHif_ring s x 0 v hx (by omega), ← State.writeReg_hif _ _ _ (by omega)]
  congr 1
  omega

theorem State.writeReg_channelFaults (s : State) (c : Nat) (v : Word) (hc : c < 4) :
    s.writeReg (0xd04c + 16 * c) v = s.modCh c (fun y => { y with ol := y.ol && !bit v 1, oc := y.oc && !bit v 0 }) := by
  rw [show 0xd04c + 16 * c = 0xd000 + (0x40 + 16 * c + 0xc) by omega, State.writeReg_act _ _ _ (by omega),
    State.writeAct_channel _ _ _ _ hc (by omega)]
  rfl

theorem State.writeReg_pcvStat (s : State) (v : Word) :
    s.writeReg 0xc004 v = { s with pcv := { s.pcv with cfgErr := s.pcv.cfgErr && !bit v 0 } } := by
  show (if bit v 0 = true then _ else s) = _
  cases bit v 0 <;> simp

/-! ## RWL words (R11) -/

theorem State.writeRwl_locked (s : State) (off : Nat) (cur new : Word) (f : State → State) (h : s.locked = true) :
    s.writeRwl off cur new f = if cur = new then s else s.post0 0x0003 [word off] := by
  unfold State.writeRwl
  rw [if_pos h]
  rfl

theorem State.writeRwl_unlocked (s : State) (off : Nat) (cur new : Word) (f : State → State) (h : s.locked = false) :
    s.writeRwl off cur new f = if cur = new then s else f s := by
  unfold State.writeRwl
  rw [h, if_neg Bool.false_ne_true]

/-- A free RWL word of a ring takes the value: that ring alone changes, in that word alone. -/
theorem State.writeReg_ringBase_unlocked (s : State) (x : Nat) (v : Word) (hx : x < 23) (h : s.locked = false)
    (hr : x < s.hif.rings.length) :
    (s.writeReg (0x4100 + 32 * x) v).ring x = { s.ring x with baseLo := v &&& 0xffffffc0#32 } ∧
      (∀ y, y ≠ x → (s.writeReg (0x4100 + 32 * x) v).ring y = s.ring y) ∧
      { s.writeReg (0x4100 + 32 * x) v with hif := s.hif } = s := by
  rw [State.writeReg_ringBase _ _ _ hx, State.writeRwl_unlocked _ _ _ _ _ h]
  split
  · next e => exact ⟨by rw [← e], fun _ _ => rfl, rfl⟩
  · exact ⟨by rw [State.ring_modRing, if_pos ⟨rfl, hr⟩], fun y hy => State.ring_modRing_ne _ _ _ _ hy.symm, rfl⟩

/-- A step known as one state, with what a register reads there. -/
theorem next_of_eq {s t : State} {off : Nat} {w : Word} (e : s = t) (hr : t.readReg off = w) :
    ∃ x, (Host.Outcome.next s : Host.Outcome State Fault Refusal) = .next x ∧ x.readReg off = w ∧ x = t :=
  ⟨s, rfl, e ▸ hr, e⟩

/-- Settles O5: every clause is what the block that holds the register does with an aligned write. -/
theorem registerWrite : Obligations.RegisterWrite := by
  unfold Obligations.RegisterWrite
  rintro dt off v s u rfl hl ha
  rw [exec_registerWrite_of_live hl, exec_registerWrite_aligned hl v ha]
  refine ⟨rfl, ?_, ?_, ?_, ?_, ?_, ?_, ?_, ?_, ?_, ?_⟩
  · rintro rfl
    exact next_of_eq (State.writeReg_pltExp _ v) (State.readReg_pltExp _)
  · rintro rfl
    exact next_of_eq (State.writeReg_pltFsync _ v) (State.readReg_pltFsync _)
  · rintro rfl
    exact next_of_eq (State.writeReg_thmCtrl _ v) (State.readReg_thmCtrl _)
  · rintro rfl
    exact next_of_eq (State.writeReg_cchSel _ v) (State.readReg_cchSel _)
  · intro x hx e
    rw [e, State.writeReg_ringErr _ _ _ hx]
  · rintro rfl
    exact congrArg Host.Outcome.next (State.writeReg_pcvStat _ v)
  · intro c hc e
    rw [e, State.writeReg_channelFaults _ _ _ hc]
  · intro x hx e
    rw [e]
    refine ⟨fun hu hr => ⟨_, rfl, State.writeReg_ringBase_unlocked _ _ _ hx hu hr⟩, fun hk => ?_⟩
    rw [State.writeReg_ringBase _ _ _ hx, State.writeRwl_locked _ _ _ _ _ hk]
  · intro h
    rw [State.writeReg_readOnly _ _ _ h]
  · intro h
    rw [State.writeReg_unused _ _ _ h]

/-! ## What a drop leaves (01 R30, 14 R312) -/

/-- What the drop of a frame, and the entry to SAFE that it may cause, leave of a pipeline but for its frames: the generation, the
last frame poured, the tables; with the buffers delivered and the ledger. -/
structure Remains where
  frames : List Frame
  gen : Nat
  lastPoured : Option Settings
  tables : List SoTable
  deliveries : List Delivery
  nv : Nv

/-- That part of a state. -/
def State.remains (s : State) (p : Pipe) : Remains :=
  ⟨(s.pl p).frames, (s.pl p).gen, (s.pl p).lastPoured, (s.pl p).tables, s.hif.deliveries, s.nv⟩

theorem State.remains_congr {s t : State} (p : Pipe) (ha : t.pa = s.pa) (hb : t.pb = s.pb)
    (hd : t.hif.deliveries = s.hif.deliveries) (hn : t.nv = s.nv) : t.remains p = s.remains p := by
  cases p <;> simp [State.remains, State.pl, ha, hb, hd, hn]

/-- A change of a pipeline that keeps those four fields of it keeps what remains. -/
theorem State.modPl_remains (s : State) (p q : Pipe) (f : Pl → Pl)
    (h : (f (s.pl q)).frames = (s.pl q).frames ∧ (f (s.pl q)).gen = (s.pl q).gen ∧ (f (s.pl q)).lastPoured = (s.pl q).lastPoured ∧
      (f (s.pl q)).tables = (s.pl q).tables) : (s.modPl q f).remains p = s.remains p := by
  obtain ⟨hf, hg, hl, ht⟩ := h
  match p, q with
  | .A, .A | .B, .B => simp only [State.remains, State.pl_modPl, State.modPl_hif, State.modPl_nv, hf, hg, hl, ht]
  | .A, .B | .B, .A => rfl

section
variable (s : State) (p : Pipe)

@[simp] theorem State.modRing_remains (x : Nat) (f : Ring → Ring) : (s.modRing x f).remains p = s.remains p := rfl
@[simp] theorem State.modCh_remains (c : Nat) (f : ActCh → ActCh) : (s.modCh c f).remains p = s.remains p := rfl
@[simp] theorem State.nl_remains (x : Nl) : State.remains { s with nl := x } p = s.remains p := rfl
@[simp] theorem State.act_remains (x : Act) : State.remains { s with act := x } p = s.remains p := rfl
@[simp] theorem State.sup_remains (x : Sup) : State.remains { s with sup := x } p = s.remains p := rfl
@[simp] theorem State.saf_remains (x : Saf) : State.remains { s with saf := x } p = s.remains p := rfl
theorem State.idle_remains (a : Saf) (b : Pcv) (c : Plt) (d : Thm) (e : Drm) :
    State.remains { s with saf := a, pcv := b, plt := c, thm := d, drm := e } p = s.remains p := rfl
@[simp] theorem State.endCycles_remains : s.endCycles.remains p = s.remains p := rfl
@[simp] theorem State.dropDue_remains : s.dropDue.remains p = s.remains p := rfl
@[simp] theorem State.logCutBoot_remains : s.logCutBoot.remains p = s.remains p := by
  unfold State.logCutBoot; split <;> rfl
@[simp] theorem State.post_remains (c : Nat) (f : Word) (g k : Nat) (a : List Word) : (s.post c f g k a).remains p = s.remains p :=
  State.remains_congr p (by simp) (by simp) (by simp) (by simp)
@[simp] theorem State.post0_remains (c : Nat) (a : List Word) : (s.post0 c a).remains p = s.remains p := s.post_remains p ..
@[simp] theorem State.postP_remains (q : Pipe) (c : Nat) (a : List Word) : (s.postP q c a).remains p = s.remains p :=
  s.post_remains p ..
@[simp] theorem State.postF_remains (q : Pipe) (f : Frame) (c : Nat) (a : List Word) : (s.postF q f c a).remains p = s.remains p :=
  s.post_remains p ..
@[simp] theorem State.warnBit_remains (b : Nat) : (s.warnBit b).remains p = s.remains p := by
  unfold State.warnBit; split
  · rfl
  · rw [State.post0_remains, State.saf_remains]
@[simp] theorem State.modLane_remains (l : Nat) (f : Lane → Lane) : (s.modLane l f).remains p = s.remains p := rfl
@[simp] theorem State.noteSent_remains (l : Nat) (ps : List NlPacket) : (s.noteSent l ps).remains p = s.remains p := by
  unfold State.noteSent; split <;> rfl
@[simp] theorem State.sendCmd_remains (o a b : Nat) : (s.sendCmd o a b).remains p = s.remains p := by
  simp [State.sendCmd, State.sendPacket]
@[simp] theorem State.shutterPulse_remains (q : Pipe) (o : Owner) : (s.shutterPulse q o).remains p = s.remains p := by
  cases q <;> simp [State.shutterPulse, State.duePulse]
@[simp] theorem State.dropWait_remains (w r : Nat) : (s.dropWait w r).remains p = s.remains p := by
  unfold State.dropWait; split <;> simp
@[simp] theorem State.abortOn_remains (i r l : Nat) : (s.abortOn i r l).remains p = s.remains p := by
  unfold State.abortOn; dsimp only; (repeat' split) <;> simp
@[simp] theorem State.abortStreams_remains : s.abortStreams.remains p = s.remains p := by
  simp [State.abortStreams, State.sendAbort]
@[simp] theorem State.relayLink_remains (m : Mode) : (s.relayLink m).remains p = s.remains p := by
  unfold State.relayLink; (repeat' split) <;> simp [State.serveLanes]
@[simp] theorem State.postSafe_remains : s.postSafe.remains p = s.remains p := by
  unfold State.postSafe; split <;> simp

/-! ### Shutter events that end -/

@[simp] theorem State.countFailure_remains (q : Pipe) : (s.countFailure q).remains p = s.remains p := by
  unfold State.countFailure; dsimp only; split
  · rw [State.warnBit_remains, State.postP_remains, State.modPl_remains _ _ _ _ ⟨rfl, rfl, rfl, rfl⟩,
      State.modPl_remains _ _ _ _ ⟨rfl, rfl, rfl, rfl⟩]
  · rw [State.modPl_remains _ _ _ _ ⟨rfl, rfl, rfl, rfl⟩]
@[simp] theorem State.closeEvent_remains (q : Pipe) : (s.closeEvent q).remains p = s.remains p := by
  unfold State.closeEvent; (repeat' split) <;> simp [State.modPl_remains]
@[simp] theorem State.failEvent_remains (q : Pipe) (r : Nat) : (s.failEvent q r).remains p = s.remains p := by
  unfold State.failEvent; (repeat' split) <;> simp [State.modPl_remains]
@[simp] theorem State.issueOpen_remains (q : Pipe) : (s.issueOpen q).remains p = s.remains p := by
  unfold State.issueOpen; (repeat' split) <;> simp [State.modPl_remains]
@[simp] theorem State.abortEvent_remains (q : Pipe) : (s.abortEvent q).remains p = s.remains p := by simp [State.abortEvent]

/-! ### Entry to SAFE -/

@[simp] theorem State.impose_remains (q : Pipe) (f : Settings → Settings) : (s.impose q f).remains p = s.remains p :=
  s.modPl_remains p q _ ⟨rfl, rfl, rfl, rfl⟩
@[simp] theorem State.leaveMode_remains (m : Mode) : (s.leaveMode m).remains p = s.remains p := by
  unfold State.leaveMode; dsimp only; split <;> simp
@[simp] theorem State.enterMode_remains (m : Mode) : (s.enterMode m).remains p = s.remains p := by simp [State.enterMode]
@[simp] theorem State.returnClaims_remains (f : Frame) : (s.returnClaims f).remains p = s.remains p := by
  unfold State.returnClaims
  induction f.claims with
  | nil => rfl
  | cons c l ih => simpa using ih

theorem State.returnAllClaims_remains (fs : List Frame) : (fs.foldl State.returnClaims s).remains p = s.remains p :=
  foldl_keeps (State.remains · p) State.returnClaims (fun t f => t.returnClaims_remains p f) fs s

/-- A stopped pipeline has let go of its frames, and of nothing else that remains. -/
theorem State.stopPipe_remains_self : (s.stopPipe p).remains p = { s.remains p with frames := [] } := by
  have h := s.returnAllClaims_remains p (s.pl p).frames
  simp only [State.remains, Remains.mk.injEq] at h
  simp [State.stopPipe, State.remains, h]
theorem State.stopPipe_remains_other (q : Pipe) (hq : q ≠ p) : (s.stopPipe q).remains p = s.remains p := by
  have h := s.returnAllClaims_remains p (s.pl q).frames
  unfold State.stopPipe
  match p, q with
  | .A, .B | .B, .A => exact h
  | .A, .A | .B, .B => exact absurd rfl hq
theorem State.stopPipes_remains : ((s.stopPipe .A).stopPipe .B).remains p = { s.remains p with frames := [] } := by
  cases p with
  | A => rw [State.stopPipe_remains_other _ _ _ (by decide), State.stopPipe_remains_self]
  | B => rw [State.stopPipe_remains_self, State.stopPipe_remains_other _ _ _ (by decide)]

/-- Entry to SAFE lets the frames go. -/
theorem State.enterSafe_remains : s.enterSafe.remains p = { s.remains p with frames := [] } := by
  unfold State.enterSafe
  dsimp only
  rw [State.postSafe_remains, State.enterMode_remains, State.idle_remains]
  simp [State.stopPipes_remains]

end

/-! ### Frames that have left -/

/-- What remains of a pipeline is what `u` has of it, but for some frames, of which frame `n` is none. -/
def State.Dropped (u : State) (p : Pipe) (n : Nat) (t : State) : Prop :=
  ∃ l, t.remains p = { u.remains p with frames := l } ∧ ∀ g ∈ l, g.n ≠ n

theorem State.Dropped.of_remains_eq {u s t : State} {p : Pipe} {n : Nat} (h : u.Dropped p n s) (e : t.remains p = s.remains p) :
    u.Dropped p n t := by
  obtain ⟨l, hs, hl⟩ := h
  exact ⟨l, e.trans hs, hl⟩

theorem State.Dropped.ite {u s t : State} {p : Pipe} {n : Nat} {c : Prop} [Decidable c] (hs : u.Dropped p n s)
    (ht : u.Dropped p n t) : u.Dropped p n (if c then s else t) := by
  split
  · exact hs
  · exact ht

theorem State.Dropped.enterSafe {u s : State} {p : Pipe} {n : Nat} (h : u.Dropped p n s) : u.Dropped p n s.enterSafe := by
  obtain ⟨l, hs, -⟩ := h
  exact ⟨[], by rw [State.enterSafe_remains, hs], fun _ hg => absurd hg List.not_mem_nil⟩

/-- A dangerous fault takes no frame back. -/
theorem State.Dropped.fault {u s : State} {p : Pipe} {n : Nat} (h : u.Dropped p n s) (id : Nat) : u.Dropped p n (s.fault id) := by
  unfold State.fault
  extract_lets recorded sup logged
  have hr : u.Dropped p n recorded := h.of_remains_eq (s.saf_remains p _)
  have hl : u.Dropped p n logged := .ite (hr.of_remains_eq rfl) hr
  exact .ite h (.ite hl hl.enterSafe)

/-! ### The counts of R312 -/

theorem State.Dropped.countFault {u s : State} {p : Pipe} {n : Nat} (h : u.Dropped p n s) (q : Pipe) (k : Nat) :
    u.Dropped p n (s.countFault q k) := by
  unfold State.countFault
  extract_lets w counted
  have hc : u.Dropped p n counted := h.of_remains_eq (s.modPl_remains p q _ ⟨rfl, rfl, rfl, rfl⟩)
  exact .ite (hc.fault 13) hc

theorem State.countRef_remains (s : State) (p : Pipe) (k : Nat) : (s.countRef k).remains p = s.remains p := by
  unfold State.countRef
  dsimp only
  split
  · rw [State.warnBit_remains, State.modPl_remains _ _ _ _ ⟨rfl, rfl, rfl, rfl⟩]
  · rw [State.modPl_remains _ _ _ _ ⟨rfl, rfl, rfl, rfl⟩]

theorem State.Dropped.countRuns {u s : State} {p : Pipe} {n : Nat} (h : u.Dropped p n s) (q : Pipe) (f : Frame) (r : Nat) :
    u.Dropped p n (s.countRuns q f r) := by
  unfold State.countRuns
  extract_lets x noTemp late runs faulted
  have hr : u.Dropped p n runs := h.of_remains_eq (s.modPl_remains p q _ ⟨rfl, rfl, rfl, rfl⟩)
  have hf : u.Dropped p n faulted := .ite (hr.fault 14) hr
  exact .ite (hf.of_remains_eq ((State.warnBit_remains ..).trans (State.saf_remains ..))) hf

theorem State.Dropped.countDrop {u s : State} {p : Pipe} {n : Nat} (h : u.Dropped p n s) (q : Pipe) (f : Frame) (r : Nat) :
    u.Dropped p n (s.countDrop q f r) := by
  unfold State.countDrop
  extract_lets refA counted refs
  have hc : u.Dropped p n counted := .ite (h.countFault q f.n) h
  have hr : u.Dropped p n refs := .ite (hc.of_remains_eq (State.countRef_remains ..)) hc
  exact hr.countRuns q f r

/-! ### A frame done -/

theorem Pl.mem_noteDone {x : Pl} {f g : Frame} (h : g ∈ (x.noteDone f).frames) : g.n ≠ f.n := by
  simpa using (List.mem_filter.mp h).2

theorem Pl.noteDone_frame? (x : Pl) (f : Frame) : (x.noteDone f).frame? f.n = none :=
  List.find?_eq_none.mpr fun _ hg => by simpa using Pl.mem_noteDone hg

theorem Pl.frame?_n {x : Pl} {n : Nat} {f : Frame} (h : x.frame? n = some f) : f.n = n := by
  simpa using List.find?_some h

theorem State.noteDone_dropped (u : State) (p : Pipe) (f : Frame) :
    u.Dropped p f.n ((u.returnClaims f).modPl p (fun x => x.noteDone f)) := by
  refine ⟨(((u.returnClaims f).pl p).noteDone f).frames, ?_, fun g hg => Pl.mem_noteDone hg⟩
  have h := u.returnClaims_remains p f
  simp only [State.remains, Remains.mk.injEq] at h
  obtain ⟨-, hg, hl, ht, hd, hn⟩ := h
  simp [State.remains, Pl.noteDone, hg, hl, ht, hd, hn]

theorem State.dropFrame_dropped (u : State) (p : Pipe) (f : Frame) : u.Dropped p f.n (u.dropFrame p f) := by
  have h := u.noteDone_dropped p f
  unfold State.dropFrame
  dsimp only
  split
  · exact h
  · exact (h.of_remains_eq (State.postF_remains ..)).countDrop p f _

theorem State.Dropped.keeps {u t : State} {p : Pipe} {n : Nat} (h : u.Dropped p n t) :
    (t.pl p).gen = (u.pl p).gen ∧ (t.pl p).lastPoured = (u.pl p).lastPoured ∧ (t.pl p).tables = (u.pl p).tables ∧
      t.hif.deliveries = u.hif.deliveries ∧ t.nv = u.nv := by
  obtain ⟨l, e, -⟩ := h
  simp only [State.remains, Remains.mk.injEq] at e
  exact e.2

theorem State.Dropped.frame?_eq_none {u t : State} {p : Pipe} {n : Nat} (h : u.Dropped p n t) : (t.pl p).frame? n = none := by
  obtain ⟨l, e, hl⟩ := h
  have hf : (t.pl p).frames = l := congrArg Remains.frames e
  exact List.find?_eq_none.mpr fun g hg => by simpa using hl g (hf ▸ hg)

/-! ### When a frame drops (R30) -/

theorem State.pourDeadline_of_past {s : State} {p : Pipe} {n : Nat} {f : Frame} (hf : (s.pl p).frame? n = some f)
    (hp : (s.pl p).pastDeadline f s.now = true) : s.pourDeadline p n = s.dropFrame p f := by
  unfold State.pourDeadline
  rw [hf]
  exact if_pos hp

theorem State.pourDeadline_of_not_past {s : State} {p : Pipe} {n : Nat} {f : Frame} (hf : (s.pl p).frame? n = some f)
    (hp : (s.pl p).pastDeadline f s.now = false) : s.pourDeadline p n = s := by
  unfold State.pourDeadline
  rw [hf]
  exact if_neg (by simp [hp])

/-! ## What a pour leaves (00 R16, 01 R30, R31) -/

/-- The other pipeline. -/
def State.otherPl (s : State) : Pipe → Pl
  | .A => s.pb
  | .B => s.pa

/-- What the bookkeeping of a pour writes for a pipeline, and what a pour leaves alone: the other pipeline, the mode, the plate. -/
structure PourRecord where
  gen : Nat
  lastPoured : Option Settings
  lastSeq : Option Nat
  noTemp : Nat
  lateRun : Nat
  pourA : Nat
  pourB : Nat
  other : Pl
  mode : Mode
  plt : Plt

/-- That part of a state. -/
def State.pourRecord (s : State) (p : Pipe) : PourRecord :=
  ⟨(s.pl p).gen, (s.pl p).lastPoured, (s.pl p).lastSeq, (s.pl p).noTemp, (s.pl p).lateRun, s.saf.pourA, s.saf.pourB, s.otherPl p,
    s.sup.mode, s.plt⟩

theorem State.pourRecord_congr {s t : State} (p : Pipe) (ha : t.pa = s.pa) (hb : t.pb = s.pb) (hs : t.saf = s.saf)
    (hm : t.sup.mode = s.sup.mode) (hp : t.plt = s.plt) : t.pourRecord p = s.pourRecord p := by
  cases p <;> simp [State.pourRecord, State.pl, State.otherPl, ha, hb, hs, hm, hp]

/-- A pipeline replaced by one that has the same of what a pour writes. -/
theorem State.setPl_pourRecord (s : State) (p : Pipe) (x : Pl)
    (h : x.gen = (s.pl p).gen ∧ x.lastPoured = (s.pl p).lastPoured ∧ x.lastSeq = (s.pl p).lastSeq ∧ x.noTemp = (s.pl p).noTemp ∧
      x.lateRun = (s.pl p).lateRun) : (s.setPl p x).pourRecord p = s.pourRecord p := by
  obtain ⟨hg, hl, hq, hn, hr⟩ := h
  have hx : (s.setPl p x).pl p = x := by cases p <;> rfl
  have ho : (s.setPl p x).otherPl p = s.otherPl p := by cases p <;> rfl
  simp [State.pourRecord, hx, ho, hg, hl, hq, hn, hr]

/-- A change of the pipeline that keeps what a pour writes into it. -/
theorem State.modPl_pourRecord (s : State) (p : Pipe) (f : Pl → Pl)
    (h : (f (s.pl p)).gen = (s.pl p).gen ∧ (f (s.pl p)).lastPoured = (s.pl p).lastPoured ∧ (f (s.pl p)).lastSeq = (s.pl p).lastSeq ∧
      (f (s.pl p)).noTemp = (s.pl p).noTemp ∧ (f (s.pl p)).lateRun = (s.pl p).lateRun) :
    (s.modPl p f).pourRecord p = s.pourRecord p := s.setPl_pourRecord p _ h

/-- The host interface changed alone. -/
theorem State.pourRecord_of_hif {s t : State} (p : Pipe) (h : t = { s with hif := t.hif }) : t.pourRecord p = s.pourRecord p := by
  rw [h]
  rfl

section
variable (s : State) (p : Pipe)

@[simp] theorem State.nl_pourRecord (x : Nl) : State.pourRecord { s with nl := x } p = s.pourRecord p := rfl
@[simp] theorem State.modRing_pourRecord (x : Nat) (f : Ring → Ring) : (s.modRing x f).pourRecord p = s.pourRecord p := rfl
@[simp] theorem State.sendMessage_pourRecord (v : Nat) : (s.sendMessage v).pourRecord p = s.pourRecord p :=
  State.pourRecord_of_hif p (s.sendMessage_eq v)
@[simp] theorem State.post_pourRecord (c : Nat) (f : Word) (g k : Nat) (a : List Word) :
    (s.post c f g k a).pourRecord p = s.pourRecord p :=
  State.pourRecord_congr p (by simp) (by simp) (by simp) (by simp) (by simp)
@[simp] theorem State.post0_pourRecord (c : Nat) (a : List Word) : (s.post0 c a).pourRecord p = s.pourRecord p := s.post_pourRecord p ..
@[simp] theorem State.postP_pourRecord (q : Pipe) (c : Nat) (a : List Word) : (s.postP q c a).pourRecord p = s.pourRecord p :=
  s.post_pourRecord p ..
@[simp] theorem State.postF_pourRecord (q : Pipe) (f : Frame) (c : Nat) (a : List Word) :
    (s.postF q f c a).pourRecord p = s.pourRecord p := s.post_pourRecord p ..

/-! ### Deliveries and streams (R163, R164, R292) -/

@[simp] theorem State.deliverClaim_pourRecord (f : Frame) (i : PourInfo) (c : Claim) :
    (s.deliverClaim p f i c).pourRecord p = s.pourRecord p := rfl
@[simp] theorem State.signalShared_pourRecord (xs : List Nat) : (s.signalShared xs).pourRecord p = s.pourRecord p := by
  unfold State.signalShared
  extract_lets held free vectors heldDone freeDone
  calc (vectors.foldl State.sendMessage freeDone).pourRecord p
      = freeDone.pourRecord p := foldl_keeps (State.pourRecord · p) _ (fun t v => t.sendMessage_pourRecord p v) _ _
    _ = heldDone.pourRecord p := foldl_keeps (State.pourRecord · p) _ (fun t x => t.modRing_pourRecord p x _) _ _
    _ = s.pourRecord p := foldl_keeps (State.pourRecord · p) _ (fun t x => t.modRing_pourRecord p x _) _ _
@[simp] theorem State.offerStream_pourRecord (f : Frame) (info : PourInfo) (i : Nat) :
    (s.offerStream p f info i).pourRecord p = s.pourRecord p := by
  unfold State.offerStream; dsimp only; (repeat' split) <;> simp

/-! ### Services (R187 to R190) -/

@[simp] theorem State.radiometry_pourRecord (f : Frame) (b : Rad) : (s.radiometry p f b).pourRecord p = s.pourRecord p := by
  refine foldl_keeps (State.pourRecord · p) _ (fun t r => ?_) _ _
  unfold State.radiometryRect
  dsimp only
  split <;> simp [State.modPl_pourRecord]
@[simp] theorem State.washPulse_pourRecord (n : Nat) : (s.washPulse p n).pourRecord p = s.pourRecord p := by
  unfold State.washPulse
  extract_lets js ok
  rw [State.modPl_pourRecord _ _ _ ⟨rfl, rfl, rfl, rfl, rfl⟩]
  split <;> rfl
@[simp] theorem State.wash_pourRecord (f : Frame) (zs : List ZoneObs) : (s.wash p f zs).pourRecord p = s.pourRecord p := by
  unfold State.wash; dsimp only; (repeat' split) <;> simp [State.modPl_pourRecord]
@[simp] theorem State.obscuration_pourRecord (f : Frame) (x : Stats) : (s.obscuration p f x).pourRecord p = s.pourRecord p := by
  have hp (t : State) (zs : List ZoneObs) : (t.postObscuration p f zs).pourRecord p = t.pourRecord p :=
    foldl_keeps (State.pourRecord · p) _ (fun t _ => t.postF_pourRecord p ..) _ _
  unfold State.obscuration
  dsimp only
  rw [State.wash_pourRecord]
  split <;> simp [State.modPl_pourRecord, hp]
@[simp] theorem State.services_pourRecord (f : Frame) : (s.services p f).pourRecord p = s.pourRecord p := by
  unfold State.services; dsimp only; (repeat' split) <;> simp

/-! ### Commits and the glean (R107, R110, R112, R126) -/

@[simp] theorem State.persist_pourRecord : s.persist.pourRecord p = s.pourRecord p := by
  unfold State.persist; split <;> rfl
@[simp] theorem State.commitAnchor_pourRecord (t : NextTable) (a b : Int) : (s.commitAnchor p t a b).pourRecord p = s.pourRecord p := by
  unfold State.commitAnchor
  extract_lets anchored posted
  have ha : anchored.pourRecord p = s.pourRecord p := s.modPl_pourRecord p _ ⟨rfl, rfl, rfl, rfl, rfl⟩
  have hp : posted.pourRecord p = s.pourRecord p := (anchored.postP_pourRecord p ..).trans ha
  cases p with
  | A => exact (posted.persist_pourRecord .A).trans hp
  | B => exact hp
@[simp] theorem State.commitGlean_pourRecord (t : NextTable) : (s.commitGlean p t).pourRecord p = s.pourRecord p := by
  unfold State.commitGlean
  extract_lets ok committed
  have hc : committed.pourRecord p = s.pourRecord p := s.modPl_pourRecord p _ (by cases ok <;> exact ⟨rfl, rfl, rfl, rfl, rfl⟩)
  split
  · exact hc
  · exact hc
@[simp] theorem State.commitAtPour_pourRecord : (s.commitAtPour p).pourRecord p = s.pourRecord p := by
  unfold State.commitAtPour; (repeat' split) <;> simp
@[simp] theorem State.gleanFrame_pourRecord (f : Frame) : (s.gleanFrame p f).pourRecord p = s.pourRecord p := by
  unfold State.gleanFrame
  extract_lets x a runs idle
  split
  · rfl
  · extract_lets fits rows n g counted cleared z
    split
    · rfl
    · split
      · rfl
      · refine s.setPl_pourRecord p z ?_
        unfold z
        split <;> exact ⟨rfl, rfl, rfl, rfl, rfl⟩

/-! ### The whole of a pour -/

/-- The bookkeeping of a pour. -/
theorem State.notePour_pourRecord (f : Frame) (g : Nat) :
    (s.notePour p f g).pourRecord p =
      { s.pourRecord p with
        gen := g, lastPoured := some f.st, lastSeq := some f.soSeq, noTemp := 0, lateRun := 0
        pourA := if p = .A then f.n else s.saf.pourA
        pourB := if p = .B then f.n else s.saf.pourB } := by
  cases p <;> rfl

/-- What follows the bookkeeping keeps its record; what comes before it does not write it. -/
theorem State.release_pourRecord (f : Frame) :
    (s.release p f).pourRecord p =
      { s.pourRecord p with
        gen := (s.pl p).genOf f.st, lastPoured := some f.st, lastSeq := some f.soSeq, noTemp := 0, lateRun := 0
        pourA := if p = .A then f.n else s.saf.pourA
        pourB := if p = .B then f.n else s.saf.pourB } := by
  unfold State.release
  extract_lets x gen i claims delivered signalled noted offered served committed
  have hs : signalled.pourRecord p = s.pourRecord p :=
    (delivered.signalShared_pourRecord p _).trans
      (foldl_keeps (State.pourRecord · p) _ (fun t c => t.deliverClaim_pourRecord p f i c) _ _)
  have hc : committed.pourRecord p = noted.pourRecord p := by
    simp only [committed, served, offered, State.gleanFrame_pourRecord, State.commitAtPour_pourRecord, State.services_pourRecord,
      State.offerStream_pourRecord]
  have ha : signalled.saf.pourA = s.saf.pourA := congrArg PourRecord.pourA hs
  have hb : signalled.saf.pourB = s.saf.pourB := congrArg PourRecord.pourB hs
  rw [State.modPl_pourRecord _ _ _ ⟨rfl, rfl, rfl, rfl, rfl⟩, hc, State.notePour_pourRecord, hs, ha, hb]

theorem State.release_frame? (f : Frame) : ((s.release p f).pl p).frame? f.n = none := by
  unfold State.release
  rw [State.pl_modPl, Pl.noteDone_frame?]

end

/-! ### When a frame pours (R30) -/

theorem State.pour_of_mayPour {s : State} {p : Pipe} {n : Nat} {f : Frame} (hf : (s.pl p).frame? n = some f)
    (hm : s.mayPour p f = true) : s.pour p n = s.release p f := by
  unfold State.pour
  rw [hf]
  exact if_pos hm

theorem State.pour_of_not_mayPour {s : State} {p : Pipe} {n : Nat} {f : Frame} (hf : (s.pl p).frame? n = some f)
    (hm : s.mayPour p f = false) : s.pour p n = s := by
  unfold State.pour
  rw [hf]
  exact if_neg (by simp [hm])

/-- Each of these keeps a frame from pouring. -/
theorem State.mayPour_eq_false {s : State} {p : Pipe} {f : Frame}
    (h : f.ready = false ∨ f.shutter = true ∨ f.refFail = true ∨ f.tileFail = true ∨ f.memFail = true ∨ f.tainted = true ∨
      (s.pl p).pastDeadline f s.now = true) : s.mayPour p f = false := by
  unfold State.mayPour Frame.checkFail
  obtain h | h | h | h | h | h | h := h <;> simp [h]

/-! ## Pours and drops -/

theorem exec_pour_of_live {s : State} {dt : Nat} (hl : (s.elapse dt).live = true) (p : Pipe) (n : Word) :
    exec (.pour dt p n) s = .next ((s.elapse dt).pour p n.toNat) :=
  congrArg Host.Outcome.next (State.run_of_live hl _)

theorem exec_pourDeadline_of_live {s : State} {dt : Nat} (hl : (s.elapse dt).live = true) (p : Pipe) (n : Word) :
    exec (.pourDeadline dt p n) s = .next ((s.elapse dt).pourDeadline p n.toNat) :=
  congrArg Host.Outcome.next (State.run_of_live hl _)

/-- Settles O33: the record that `release` leaves gives a pour, `Dropped` gives a drop through the counts and faults of R312. -/
theorem framesPourOrDrop : Obligations.FramesPourOrDrop := by
  unfold Obligations.FramesPourOrDrop
  refine ⟨?_, ?_⟩
  · rintro dt p n f s u rfl hl hf
    rw [exec_pour_of_live hl]
    have hn := Pl.frame?_n hf
    refine ⟨fun hm => ?_, fun hk => by rw [State.pour_of_not_mayPour hf (State.mayPour_eq_false hk)]⟩
    rw [State.pour_of_mayPour hf hm]
    have hr := State.release_pourRecord (s.elapse dt) p f
    simp only [State.pourRecord, PourRecord.mk.injEq] at hr
    obtain ⟨hgen, hpoured, hseq, htemp, hlate, hA, hB, hother, hmode, hplt⟩ := hr
    refine ⟨_, rfl, hn ▸ State.release_frame? _ p f, hgen, hpoured, hseq, htemp, hlate, ?_, ?_, hmode, hplt⟩
    · rintro rfl
      exact ⟨hA, hother⟩
    · rintro rfl
      exact ⟨hB, hother⟩
  · rintro dt p n f s u rfl hl hf
    rw [exec_pourDeadline_of_live hl]
    have hn := Pl.frame?_n hf
    refine ⟨fun hp => ?_, fun hp => by rw [State.pourDeadline_of_not_past hf hp]⟩
    rw [State.pourDeadline_of_past hf hp]
    have hd := (s.elapse dt).dropFrame_dropped p f
    exact ⟨_, rfl, hn ▸ hd.frame?_eq_none, hd.keeps⟩

end Sys2Proof.Machine

namespace Sys2Proof.Machine

/-! ## What the work on a stripe leaves (01 R28, 08 R181) -/

/-- What the engines' work on a frame leaves alone, but for the other frames. -/
structure Aside where
  mode : Mode
  nv : Nv
  plt : Plt
  act : Act
  saf : Saf

/-- That part of a state. -/
def State.aside (s : State) : Aside := ⟨s.sup.mode, s.nv, s.plt, s.act, s.saf⟩

/-- `t` is `u` after work on frame `n` of a pipeline, which has left that frame with the property `P`. -/
structure State.WorkOn (u : State) (p : Pipe) (n : Nat) (P : Frame → Prop) (t : State) : Prop where
  frame : ∃ g, (t.pl p).frame? n = some g ∧ P g
  others : ∀ k, k ≠ n → (t.pl p).frame? k = (u.pl p).frame? k
  aside : t.aside = u.aside

/-- `g` is frame `f` with `k` stripes worked on: what the engines read of it stands. -/
structure Frame.WorkedTo (f : Frame) (k : Nat) (g : Frame) : Prop where
  n : g.n = f.n
  st : g.st = f.st
  silo : g.silo = f.silo
  stripes : g.stripes = k

theorem Frame.workedTo_self (f : Frame) : f.WorkedTo f.stripes f := ⟨rfl, rfl, rfl, rfl⟩

/-! ### A frame changed in its pipeline -/

/-- What a frame that is found reads after a change of the frames of one number. -/
theorem Pl.modFrame_frame? (x : Pl) (n k : Nat) (φ : Frame → Frame) (hφ : ∀ g, g.n = n → (φ g).n = n) :
    (x.modFrame n φ).frame? k = if k = n then (x.frame? k).map φ else x.frame? k := by
  have key (l : List Frame) : (l.map (fun g => if g.n = n then φ g else g)).find? (fun g => g.n = k) =
      if k = n then (l.find? (fun g => g.n = k)).map φ else l.find? (fun g => g.n = k) := by
    induction l with
    | nil => simp
    | cons g l ih =>
      by_cases hg : g.n = n
      · by_cases hk : k = n
        · simp [hg, hk, hφ g hg]
        · have hne : ¬ n = k := fun e => hk e.symm
          simpa [hg, hφ g hg, hk, hne] using ih
      · by_cases hk : k = n
        · simpa [hg, hk] using ih
        · by_cases hgk : g.n = k
          · simp [hk, hgk]
          · simpa [hg, hk, hgk] using ih
  exact key x.frames

section
variable {u s t : State} {p : Pipe} {n : Nat} {P Q : Frame → Prop}

theorem State.workOn_self {f : Frame} (h : (u.pl p).frame? n = some f) (hf : P f) : u.WorkOn p n P u :=
  ⟨⟨f, h, hf⟩, fun _ _ => rfl, rfl⟩

theorem State.WorkOn.mono (h : u.WorkOn p n P s) (hPQ : ∀ g, P g → Q g) : u.WorkOn p n Q s := by
  obtain ⟨g, hg, hP⟩ := h.frame
  exact ⟨⟨g, hg, hPQ g hP⟩, h.others, h.aside⟩

/-- A step that leaves both pipelines and what stands aside. -/
theorem State.WorkOn.of_eq (h : u.WorkOn p n P s) (ha : t.pa = s.pa) (hb : t.pb = s.pb) (he : t.aside = s.aside) :
    u.WorkOn p n P t := by
  have hp : t.pl p = s.pl p := by cases p with
    | A => exact ha
    | B => exact hb
  exact ⟨hp ▸ h.frame, fun k hk => by rw [hp, h.others k hk], he.trans h.aside⟩

@[simp] theorem State.modPl_aside (s : State) (p : Pipe) (f : Pl → Pl) : (s.modPl p f).aside = s.aside := by simp [State.aside]

/-- A change of the frame worked on: the pipeline becomes `x`, of the same frames, with that frame changed. -/
theorem State.WorkOn.modFrame (h : u.WorkOn p n P s) {F : Pl → Pl} {x : Pl} {m : Nat} {φ : Frame → Frame}
    (hF : F (s.pl p) = x.modFrame m φ) (hx : x.frames = (s.pl p).frames) (hm : m = n)
    (hn : ∀ g, g.n = n → (φ g).n = n) (hφ : ∀ g, P g → Q (φ g)) : u.WorkOn p n Q (s.modPl p F) := by
  subst hm
  have hf (k : Nat) : x.frame? k = (s.pl p).frame? k := congrArg (List.find? _) hx
  obtain ⟨g, hg, hP⟩ := h.frame
  refine ⟨⟨φ g, ?_, hφ g hP⟩, fun k hk => ?_, (s.modPl_aside p _).trans h.aside⟩
  · rw [State.pl_modPl, hF, Pl.modFrame_frame? _ _ _ _ hn, if_pos rfl, hf, hg]
    rfl
  · rw [State.pl_modPl, hF, Pl.modFrame_frame? _ _ _ _ hn, if_neg hk, hf, h.others k hk]

/-! ### Partner checks that find nothing (R181) -/

theorem State.WorkOn.checkPassed (h : u.WorkOn p n P s) (c : Check) : u.WorkOn p n P (s.checkPassed c) :=
  List.foldlRecOn _ _ h fun _ ht _ _ => ht.of_eq rfl rfl rfl

theorem State.WorkOn.stripeChecks (h : u.WorkOn p n P s) (f : Frame) (k : Nat) : u.WorkOn p n P (s.stripeChecks p f k []) := by
  refine List.foldlRecOn _ _ h fun t ht c _ => ?_
  split
  · exact ht
  · exact ht.checkPassed c

/-! ### The stages on a frame (R133, R137, R195) -/

variable {f g : Frame} {k : Nat}

theorem Frame.WorkedTo.stripeStages (h : f.WorkedTo k g) (b : Rad) (j : Nat) (zA zB : SMap (Array Int)) :
    f.WorkedTo k (stripeStages b j g zA zB).1 :=
  List.foldlRecOn (motive := fun (a : Frame × SMap (Array Int) × SMap (Array Int)) => f.WorkedTo k a.1) _ _ h
    fun _ ha _ _ => ⟨ha.n, ha.st, ha.silo, ha.stripes⟩

theorem Frame.WorkedTo.compatStripe (h : f.WorkedTo k g) (b : Rad) (j : Nat) (z : SMap (Array Int)) :
    f.WorkedTo k (compatStripe b j g z).1 :=
  List.foldlRecOn (motive := fun (a : Frame × SMap (Array Int)) => f.WorkedTo k a.1) _ _ h
    fun _ ha _ _ => ⟨ha.n, ha.st, ha.silo, ha.stripes⟩

theorem Frame.WorkedTo.tempMap (h : f.WorkedTo k g) (b : Rad) (draw : Nat) : f.WorkedTo k (g.tempMap b draw) := by
  dsimp only [Frame.tempMap]
  exact ⟨h.n, h.st, h.silo, h.stripes⟩

theorem Frame.WorkedTo.windowed (h : f.WorkedTo k g) (lo hi : Int) : f.WorkedTo k (g.windowed lo hi) := by
  dsimp only [Frame.windowed]
  exact ⟨h.n, h.st, h.silo, h.stripes⟩

theorem State.WorkOn.beginFilter (h : u.WorkOn p f.n (f.WorkedTo k) s) :
    u.WorkOn p f.n (f.WorkedTo k) (s.modPl p (fun x => x.beginFilter f)) :=
  h.modFrame rfl rfl rfl (fun _ hg => hg) fun _ hg => ⟨hg.n, hg.st, hg.silo, hg.stripes⟩

/-- The stages on a stripe change the filter states and replace the frame by itself with one stripe more. -/
theorem Pl.runStripe_eq (x : Pl) (b : Bundle) (j : Nat) (hg : f.WorkedTo k g) :
    ∃ (y : Pl) (g' : Frame), x.runStripe b g j = y.modFrame g.n (fun _ => { g' with stripes := j + 1 }) ∧ y.frames = x.frames ∧
      f.WorkedTo k g' := by
  by_cases hc : g.st.compat
  · exact ⟨{ x with zA := (compatStripe b.rad j g x.zA).2 }, _, by simp only [Pl.runStripe, if_pos hc], rfl,
      hg.compatStripe b.rad j x.zA⟩
  · exact ⟨{ x with zA := (stripeStages b.rad j g x.zA x.zB).2.1, zB := (stripeStages b.rad j g x.zA x.zB).2.2 }, _,
      by simp only [Pl.runStripe, if_neg hc], rfl, hg.stripeStages b.rad j x.zA x.zB⟩

theorem State.WorkOn.runStripe (h : u.WorkOn p f.n (f.WorkedTo k) s) (hg : f.WorkedTo k g) (b : Bundle) (j : Nat) :
    u.WorkOn p f.n (f.WorkedTo (j + 1)) (s.modPl p (fun x => x.runStripe b g j)) := by
  obtain ⟨y, g', hF, hy, hg'⟩ := (s.pl p).runStripe_eq b j hg
  exact h.modFrame hF hy hg.n (fun _ _ => hg'.n) fun _ _ => ⟨hg'.n, hg'.st, hg'.silo, rfl⟩

/-! ### What follows the last stripe (R152, R153, R163) -/

/-- A buffer claimed for the frame. -/
theorem State.WorkOn.claim (h : u.WorkOn p f.n (f.WorkedTo k) s) (hg : g.n = f.n) (r : Nat × Nat × Nat) :
    u.WorkOn p f.n (f.WorkedTo k) (s.claim p g r) := by
  have posted (args : List Word) : u.WorkOn p f.n (f.WorkedTo k) (s.postF p g 0x0011 args) :=
    h.of_eq (by simp) (by simp) (by simp [State.aside])
  unfold State.claim
  dsimp only
  split
  · split
    · split
      · exact h.of_eq (by simp [State.deliver]) (by simp [State.deliver]) (by simp [State.deliver, State.aside])
      · have taken (φ : Ring → Ring) : u.WorkOn p f.n (f.WorkedTo k) (s.modRing r.1 φ) := h.of_eq rfl rfl rfl
        exact (taken _).modFrame rfl rfl hg (fun _ hn => hn) fun _ hn => ⟨hn.n, hn.st, hn.silo, hn.stripes⟩
    · exact posted _
  · exact posted _

/-- Temperatures, statistics, window, claims and products leave the frame ready. -/
theorem State.WorkOn.finishStripes (h : u.WorkOn p f.n (f.WorkedTo k) s) (hg : f.WorkedTo k g) (b : Bundle) :
    u.WorkOn p f.n (fun g => f.WorkedTo k g ∧ g.ready = true) (s.finishStripes p b g) := by
  unfold State.finishStripes
  extract_lets x mapped formed _ drawn placed claimed stats products
  have hm : f.WorkedTo k mapped := by
    unfold mapped
    split
    · exact hg.tempMap _ _
    · exact hg
  have hf : f.WorkedTo k formed := hm.windowed _ _
  have hd : u.WorkOn p f.n (f.WorkedTo k) drawn := h.of_eq rfl rfl rfl
  have hp : u.WorkOn p f.n (f.WorkedTo k) placed := hd.modFrame rfl rfl hf.n (fun _ _ => hf.n) fun _ _ => hf
  split
  · exact hp.modFrame rfl rfl hf.n (fun _ hn => hn) fun _ hn => ⟨⟨hn.n, hn.st, hn.silo, hn.stripes⟩, rfl⟩
  · have hc : u.WorkOn p f.n (f.WorkedTo k) claimed := List.foldlRecOn _ _ hp fun _ ht r _ => ht.claim hf.n r
    exact hc.modFrame rfl rfl hf.n (fun _ hn => hn) fun _ hn => ⟨⟨hn.n, hn.st, hn.silo, hn.stripes⟩, rfl⟩

/-! ### The whole of a stripe (R28, R181) -/

/-- The next stripe of a frame, with no partner check that fails. -/
theorem State.stripeWork_workOn (hf : (s.pl p).frame? f.n = some f) :
    s.WorkOn p f.n (fun g => f.WorkedTo (f.stripes + 1) g ∧ (f.stripes = 23 → g.ready = true)) (s.stripeWork p f []) := by
  unfold State.stripeWork
  extract_lets b k _ noted begun
  have hw : s.WorkOn p f.n (f.WorkedTo f.stripes) noted := (State.workOn_self hf f.workedTo_self).of_eq rfl rfl rfl
  have hb : s.WorkOn p f.n (f.WorkedTo f.stripes) begun := by
    unfold begun
    split
    · exact hw.beginFilter
    · exact hw
  obtain ⟨g, hg, hgk⟩ := hb.frame
  rw [hg]
  dsimp -zeta only
  extract_lets ran checked
  have hr : s.WorkOn p f.n (f.WorkedTo (f.stripes + 1)) ran := hb.runStripe hgk b k
  have hc : s.WorkOn p f.n (f.WorkedTo (f.stripes + 1)) checked := hr.stripeChecks g k
  obtain ⟨g', hg', hgk'⟩ := hc.frame
  rw [hgk.n, hg']
  dsimp only
  split
  · exact (hc.finishStripes hgk' b).mono fun _ hq => ⟨hq.1, fun _ => hq.2⟩
  · next hne =>
    have hlast : f.stripes ≠ 23 := fun e => hne (by rw [hgk'.stripes, e])
    exact hc.mono fun _ hq => ⟨hq, fun e => absurd e hlast⟩

end

/-- A stripe that the engines take up, its memory accesses without error, goes to the stages. -/
theorem State.stripeStart_of_clean {s : State} {p : Pipe} {n : Nat} {f : Frame} (hf : (s.pl p).frame? n = some f)
    (ha : f.alive = true) (hk : f.stripes < 24) (hi : f.stripeIn f.stripes = true) (ho : (s.pl p).olderBusy n = false) :
    s.stripeStart p n [] ⟨[]⟩ [] = s.stripeWork p f [] := by
  unfold State.stripeStart
  have hgo : (!f.alive || decide (24 ≤ f.stripes) || !f.stripeIn f.stripes || (s.pl p).olderBusy n) = false := by
    simp [ha, hi, ho, hk]
  simp [hf, hgo, State.memRun, State.sramCorrected, failsFrame]

theorem exec_stripeStart_of_live {s : State} {dt : Nat} (hl : (s.elapse dt).live = true) (p : Pipe) (n : Word)
    (bad : List (Fin 16)) (o : MemObs) (ce : List (Fin 128)) :
    exec (.stripeStart dt p n bad o ce) s = .next ((s.elapse dt).stripeStart p n.toNat bad o ce) :=
  congrArg Host.Outcome.next (State.run_of_live hl _)

/-- Settles O32: the stages, the checks and what follows the last stripe change the frame worked on alone. -/
theorem stripeAdvances : Obligations.StripeAdvances := by
  unfold Obligations.StripeAdvances
  rintro dt p n f s u rfl hl hf ha hk hi ho
  rw [exec_stripeStart_of_live hl, State.stripeStart_of_clean hf ha hk hi ho]
  have hn := Pl.frame?_n hf
  have hw := State.stripeWork_workOn (hn.symm ▸ hf)
  obtain ⟨g, hg, hgk, hready⟩ := hw.frame
  have he := hw.aside
  simp only [State.aside, Aside.mk.injEq] at he
  exact ⟨_, g, rfl, hn ▸ hg, hgk.stripes, hgk.st, hgk.silo, hready, fun k hne => by rw [hw.others k (hn ▸ hne)], he⟩

end Sys2Proof.Machine

namespace Sys2Proof.Machine

/-! ## What a marker of pipeline A is seen by (01 R24, 02 R56, 03 R63) -/

/-- What begins or ends with a marker of pipeline A, and what no step of it touches but for that. -/
structure MarkerView where
  reading : Bool
  armed : Bool
  frameNo : Nat
  frames : List Frame
  snap : Settings
  pb : Pl
  plt : Plt
  mode : Mode
  nv : Nv

/-- That part of a state. -/
def State.markerView (s : State) : MarkerView :=
  ⟨s.pa.reading, s.pa.armed, s.pa.frameNo, s.pa.frames, s.pa.snap, s.pb, s.plt, s.sup.mode, s.nv⟩

theorem State.markerView_congr {s t : State} (ha : t.pa = s.pa) (hb : t.pb = s.pb) (hp : t.plt = s.plt)
    (hm : t.sup.mode = s.sup.mode) (hn : t.nv = s.nv) : t.markerView = s.markerView := by
  simp [State.markerView, ha, hb, hp, hm, hn]

/-- A change of pipeline A that neither begins nor ends a frame of it. -/
theorem State.modPl_A_markerView (s : State) (f : Pl → Pl)
    (h : (f s.pa).reading = s.pa.reading ∧ (f s.pa).armed = s.pa.armed ∧ (f s.pa).frameNo = s.pa.frameNo ∧
      (f s.pa).frames = s.pa.frames ∧ (f s.pa).snap = s.pa.snap) : (s.modPl .A f).markerView = s.markerView := by
  simp [State.markerView, h]

section
variable (s : State)

@[simp] theorem State.modSheaf_markerView (i : Nat) (f : Sheaf → Sheaf) : (s.modSheaf i f).markerView = s.markerView := rfl
@[simp] theorem State.modLane_markerView (l : Nat) (f : Lane → Lane) : (s.modLane l f).markerView = s.markerView := rfl
@[simp] theorem State.setGrp_markerView (g : Nat) (x : Group) : (s.setGrp g x).markerView = s.markerView := rfl
@[simp] theorem State.setChan_markerView (g j : Nat) (x : Chan) : (s.setChan g j x).markerView = s.markerView := rfl
@[simp] theorem State.setModu_markerView (m : Nat) (x : Modulator) : (s.setModu m x).markerView = s.markerView := rfl
@[simp] theorem State.post_markerView (c : Nat) (f : Word) (g k : Nat) (a : List Word) :
    (s.post c f g k a).markerView = s.markerView :=
  State.markerView_congr (by simp) (by simp) (by simp) (by simp) (by simp)
@[simp] theorem State.post0_markerView (c : Nat) (a : List Word) : (s.post0 c a).markerView = s.markerView := s.post_markerView ..
@[simp] theorem State.postP_markerView (p : Pipe) (c : Nat) (a : List Word) : (s.postP p c a).markerView = s.markerView :=
  s.post_markerView ..
@[simp] theorem State.warnBit_markerView (b : Nat) : (s.warnBit b).markerView = s.markerView := by
  unfold State.warnBit; split
  · rfl
  · exact State.post0_markerView _ _ _
@[simp] theorem State.noteSent_markerView (l : Nat) (ps : List NlPacket) : (s.noteSent l ps).markerView = s.markerView := by
  unfold State.noteSent; split <;> rfl
@[simp] theorem State.sendPacket_markerView (k t l n g : Nat) (q : List Byte) : (s.sendPacket k t l n g q).markerView = s.markerView := by
  simp [State.sendPacket]
@[simp] theorem State.shutterPulse_A_markerView (o : Owner) : (s.shutterPulse .A o).markerView = s.markerView := rfl

/-! ### Shutter events (R120 to R123, R127) -/

@[simp] theorem State.countFailure_markerView : (s.countFailure .A).markerView = s.markerView := by
  have hc : (s.modPl .A (fun x => { x with fails := x.fails + 1 })).markerView = s.markerView :=
    s.modPl_A_markerView _ ⟨rfl, rfl, rfl, rfl, rfl⟩
  unfold State.countFailure
  dsimp only
  split
  · rw [State.warnBit_markerView, State.postP_markerView, State.modPl_A_markerView _ _ ⟨rfl, rfl, rfl, rfl, rfl⟩, hc]
  · exact hc
@[simp] theorem State.closeEvent_markerView : (s.closeEvent .A).markerView = s.markerView := by
  unfold State.closeEvent; (repeat' split) <;> simp [State.modPl_A_markerView]
@[simp] theorem State.failEvent_markerView (r : Nat) : (s.failEvent .A r).markerView = s.markerView := by
  unfold State.failEvent; (repeat' split) <;> simp [State.modPl_A_markerView]
@[simp] theorem State.issueOpen_markerView : (s.issueOpen .A).markerView = s.markerView := by
  unfold State.issueOpen; (repeat' split) <;> simp [State.modPl_A_markerView]
@[simp] theorem State.abortEvent_markerView : (s.abortEvent .A).markerView = s.markerView := by simp [State.abortEvent]
@[simp] theorem State.endIdleEvent_markerView : (s.endIdleEvent .A).markerView = s.markerView := by
  unfold State.endIdleEvent; dsimp only; (repeat' split) <;> simp [State.modPl_A_markerView]
@[simp] theorem State.leaveImaging_markerView : (s.leaveImaging .A).markerView = s.markerView := by
  unfold State.leaveImaging
  extract_lets anch was
  split
  · rw [State.modPl_A_markerView _ _ ⟨rfl, rfl, rfl, rfl, rfl⟩, State.abortEvent_markerView]
  · rfl

/-! ### Urgent conversions (R261, R262) -/

@[simp] theorem State.urgStat_markerView (n x : Nat) : (s.urgStat n x).markerView = s.markerView := by
  unfold State.urgStat; split <;> rfl
@[simp] theorem State.preempted_markerView (u : Urg) : (s.preempted u).markerView = s.markerView := by
  unfold State.preempted; split <;> simp
@[simp] theorem State.nextConv_markerView (m t : Nat) : (s.nextConv m t).markerView = s.markerView := by
  unfold State.nextConv; dsimp only; (repeat' split) <;> rfl
@[simp] theorem State.kickUrgent_markerView (m : Nat) : (s.kickUrgent m).markerView = s.markerView := by
  unfold State.kickUrgent; dsimp only; (repeat' split) <;> simp
theorem State.putUrgent_markerView (m : Nat) (r : Urg) : ∀ t ∈ s.putUrgent m r, t.markerView = s.markerView := by
  unfold State.putUrgent; dsimp only; (repeat' split) <;> simp
@[simp] theorem State.bladeResult_markerView (t : Option Int) : (s.bladeResult t).markerView = s.markerView :=
  s.modPl_A_markerView _ ⟨rfl, rfl, rfl, rfl, rfl⟩
@[simp] theorem State.refusedBlade_markerView : s.refusedBlade.markerView = s.markerView := s.bladeResult_markerView none
@[simp] theorem State.moduleUrgent_markerView (c : Nat) : (s.moduleUrgent c).markerView = s.markerView := by
  unfold State.moduleUrgent
  dsimp only
  split
  · simp
  · split
    · simp
    · split
      · next h => rw [State.kickUrgent_markerView, s.putUrgent_markerView _ _ _ h]
      · simp
@[simp] theorem State.askBlade_markerView : (s.askBlade .A).markerView = s.markerView := by
  unfold State.askBlade
  dsimp only
  rw [State.moduleUrgent_markerView, State.modPl_A_markerView _ _ ⟨rfl, rfl, rfl, rfl, rfl⟩]

/-! ### Events at a marker (R120, R121) -/

@[simp] theorem State.eventMarker_markerView (n : Nat) (st : Settings) (prev : Option Settings) :
    (s.eventMarker .A n st prev).markerView = s.markerView := by
  unfold State.eventMarker
  dsimp only
  (repeat' split) <;> simp [State.modPl_A_markerView]
@[simp] theorem State.beginEvent_markerView (n : Nat) (slaved : Bool) : (s.beginEvent .A n slaved).markerView = s.markerView := by
  unfold State.beginEvent
  dsimp only
  (repeat' split) <;> simp [State.modPl_A_markerView]

/-! ### Calibration cycles (R68 to R79) -/

@[simp] theorem State.rejectedPhase_markerView : s.rejectedPhase.markerView = s.markerView := rfl
@[simp] theorem State.countRejection_markerView (g : Nat) (c : Cycle) (n : Nat) : (s.countRejection g c n).markerView = s.markerView := rfl
@[simp] theorem State.showErr_markerView (g j : Nat) (a b : Int) : (s.showErr g j a b).markerView = s.markerView := rfl
@[simp] theorem State.channelFailed_markerView (g : Nat) (c : Cycle) : (s.channelFailed g c).markerView = s.markerView := by
  unfold State.channelFailed
  extract_lets x n _ failed _ counted posted y
  have hp : posted.markerView = s.markerView := counted.postP_markerView ..
  split
  · split <;> simp [hp]
  · exact hp
@[simp] theorem State.endCycle_markerView (g : Nat) (c : Cycle) (b : Bool) : (s.endCycle g c b).markerView = s.markerView := by
  unfold State.endCycle
  extract_lets y run starved ended
  split
  · exact State.postP_markerView _ _ _ _
  · rfl
@[simp] theorem State.commitCycle_markerView (g : Nat) (c : Cycle) (ts : List Int) : (s.commitCycle g c ts).markerView = s.markerView := by
  unfold State.commitCycle
  dsimp only
  rw [State.endCycle_markerView]
  rfl
@[simp] theorem State.evaluate1_markerView (g : Nat) (c : Cycle) (ts : List Int) : (s.evaluate1 g c ts).markerView = s.markerView := by
  unfold State.evaluate1; dsimp only; split <;> simp
@[simp] theorem State.evaluate2_markerView (g : Nat) (c : Cycle) (ts : List Int) : (s.evaluate2 g c ts).markerView = s.markerView := by
  unfold State.evaluate2; dsimp only; split <;> simp
@[simp] theorem State.phaseEnd_markerView (g : Nat) (c : Cycle) (ts : List Int) (n : Nat) :
    (s.phaseEnd g c ts n).markerView = s.markerView := by
  unfold State.phaseEnd; dsimp only; (repeat' split) <;> simp
@[simp] theorem State.clearTurns_markerView (g n : Nat) : (s.clearTurns g n).markerView = s.markerView := by
  unfold State.clearTurns
  exact foldl_keeps State.markerView _ (fun t j => t.setChan_markerView g j _) _ _
@[simp] theorem State.startCycle_markerView (g : Nat) (st : Settings) (n : Nat) (b : Bool) :
    (s.startCycle g st n b).markerView = s.markerView := by
  unfold State.startCycle; dsimp only; (repeat' split) <;> simp
@[simp] theorem State.stepCycle_markerView (g : Nat) (c : Cycle) (ts : List Int) (n : Nat) :
    (s.stepCycle g c ts n).markerView = s.markerView := by
  unfold State.stepCycle; dsimp only; (repeat' split) <;> simp
@[simp] theorem State.groupMarker_markerView (st : Settings) (prev : Option Frame) (n : Nat) (b : Bool) (g : Nat) :
    (s.groupMarker st prev n b g).markerView = s.markerView := by
  unfold State.groupMarker
  extract_lets _ closed spared due failed y set _ noted ts
  have hn : noted.markerView = s.markerView := by
    unfold noted
    split <;> rfl
  split
  · split <;> simp [hn]
  · dsimp only
    (repeat' split) <;> simp [hn]
@[simp] theorem State.spareErrors_markerView (f : Frame) : (s.spareErrors f).markerView = s.markerView := by
  unfold State.spareErrors
  split
  · exact foldl_keeps State.markerView _ (fun t g => t.setGrp_markerView g _) _ _
  · rfl
/-- The column channels show the marker in the spares' samples alone. -/
theorem State.columnsMarker_markerView (st : Settings) (prev : Option Frame) (n : Nat) (b : Bool) :
    (s.columnsMarker st prev n b).markerView = { s.markerView with plt := { s.plt with spareSeen := [] } } := by
  unfold State.columnsMarker
  extract_lets judged _ cleared
  have hj : judged.markerView = s.markerView := by
    unfold judged
    split
    · exact State.spareErrors_markerView _ _
    · rfl
  have hp : judged.plt = s.plt := congrArg MarkerView.plt hj
  calc _ = cleared.markerView := foldl_keeps State.markerView _ (fun t g => t.groupMarker_markerView st prev n b g) _ _
    _ = { judged.markerView with plt := { judged.plt with spareSeen := [] } } := rfl
    _ = _ := by rw [hj, hp]

/-! ### FSYNC_IN and the mode (R57, R58, R381) -/

theorem State.unlock_markerView (c : Nat) : (s.unlock c).markerView = { s.markerView with plt := (s.unlock c).plt } := by
  unfold State.unlock
  split
  · simp [State.markerView]
  · rfl
theorem State.judgePlacement_markerView (f : Frame) :
    (s.judgePlacement f).markerView = { s.markerView with plt := (s.judgePlacement f).plt } := by
  unfold State.judgePlacement
  split
  · rfl
  · split
    · exact State.unlock_markerView _ _
    · split
      · rfl
      · exact State.unlock_markerView _ _
theorem State.judgeEdges_markerView (f : Frame) : (s.judgeEdges f).markerView = { s.markerView with plt := (s.judgeEdges f).plt } := by
  unfold State.judgeEdges
  split <;> rfl
theorem State.fsyncBegin_markerView (a b : Bool) :
    (s.fsyncBegin a b).markerView = { s.markerView with plt := (s.fsyncBegin a b).plt } := by
  unfold State.fsyncBegin
  dsimp only
  split <;> rfl

@[simp] theorem State.relayLink_markerView (m : Mode) : (s.relayLink m).markerView = s.markerView := by
  unfold State.relayLink; (repeat' split) <;> rfl
/-- A mode left changes the pending settings, those of pipeline B in sight. -/
theorem State.leaveMode_markerView (m : Mode) :
    (s.leaveMode m).markerView = { s.markerView with pb := (s.impose .B (fun st => st.heldIn m)).pb } := by
  unfold State.leaveMode
  dsimp only
  split <;> rfl
theorem State.enterMode_markerView (m : Mode) :
    (s.enterMode m).markerView = { s.markerView with mode := m, pb := (s.impose .B (fun st => st.heldIn m)).pb } := by
  unfold State.enterMode
  dsimp only
  rw [State.post0_markerView]
  have h := (State.relayLink_markerView (s.leaveMode m) m).trans (State.leaveMode_markerView s m)
  simp only [State.markerView, MarkerView.mk.injEq] at h ⊢
  simp [h]

/-! ### A RELAY module, partner checks, an uncommanded closure (R180, R279, R299, R301) -/

@[simp] theorem State.relayFrame_markerView (f : Frame) : (s.relayFrame f).markerView = s.markerView := by simp [State.relayFrame]
@[simp] theorem State.relayMarker_markerView (f : Frame) : (s.relayMarker f).markerView = s.markerView := by
  unfold State.relayMarker
  extract_lets c _ _ _ noted pulsed
  have hp : pulsed.markerView = s.markerView := by
    unfold pulsed
    split <;> rfl
  split <;> simp [hp]
@[simp] theorem State.notePartners_markerView (f : Frame) : (s.notePartners f).markerView = s.markerView := by
  unfold State.notePartners
  exact foldl_keeps State.markerView _ (fun t i => t.modSheaf_markerView i _) _ _
@[simp] theorem State.uncommandedMarker_markerView : s.uncommandedMarker.markerView = s.markerView := by
  unfold State.uncommandedMarker State.startOpening State.openingPulse
  dsimp only
  (repeat' split) <;> rfl

/-! ### A frame begins, or reading ends (R24, R56, R63, R383) -/

/-- The part of a pipeline that a marker begins a frame in. -/
def Pl.markerPart (x : Pl) : Bool × Bool × Nat × List Frame × Settings := (x.reading, x.armed, x.frameNo, x.frames, x.snap)

theorem Pl.contextMarker_markerPart (x : Pl) (st : Settings) (held : Bool) : (x.contextMarker st held).markerPart = x.markerPart := by
  unfold Pl.contextMarker
  dsimp only
  (repeat' split) <;> simp only [Pl.markerPart, Pl.contextChange, Pl.clearGlean, Pl.raiseFloor]

/-- The context of a frame that starts touches the anchoring alone. -/
@[simp] theorem State.contextMarker_markerView (st : Settings) (held : Bool) :
    (s.modPl .A (fun x => x.contextMarker st held)).markerView = s.markerView :=
  s.modPl_A_markerView _ (by simpa only [Pl.markerPart, Prod.mk.injEq] using s.pa.contextMarker_markerPart st held)

theorem State.beginFrame_markerView (f : Frame) (slaved : Bool) : ∃ shut, (s.beginFrame .A f slaved).markerView =
    { s.markerView with
      reading := true, armed := false, frameNo := (f.n + 1) % 2 ^ 32, frames := s.pa.frames ++ [{ f with shutter := shut }] } := by
  unfold State.beginFrame
  extract_lets prev left context begun shut
  have hb : begun.markerView = s.markerView := by
    simp only [begun, context, left, State.beginEvent_markerView, State.eventMarker_markerView, State.contextMarker_markerView,
      State.leaveImaging_markerView]
  have hf : begun.pa.frames = s.pa.frames := congrArg MarkerView.frames hb
  exact ⟨shut, calc
    _ = { begun.markerView with
          reading := true, armed := false, frameNo := (f.n + 1) % 2 ^ 32, frames := begun.pa.frames ++ [{ f with shutter := shut }] } := rfl
    _ = _ := by rw [hb, hf]⟩

theorem State.stopReading_markerView : (s.stopReading .A).markerView =
    { s.markerView with reading := false, armed := false, plt := { s.plt with firstMarker := none } } := by
  unfold State.stopReading
  extract_lets stopped
  have hl := s.leaveImaging_markerView
  have hs : stopped.markerView = { s.markerView with reading := false, armed := false } := by
    rw [State.endIdleEvent_markerView, ← hl]
    rfl
  have hp : stopped.plt = s.plt := congrArg MarkerView.plt hs
  calc _ = { stopped.markerView with plt := { stopped.plt with firstMarker := none } } := rfl
    _ = _ := by rw [hs, hp]

/-- Frame `f` of pipeline A as it begins at `m` in state `s`: the next of its number, its snapshot but for the substitutions. -/
structure Frame.BeginsIn (f : Frame) (s : State) (m : Nat) : Prop where
  n : f.n = s.pa.frameNo
  st : f.st = { s.pa.snap with subst := f.st.subst }
  marker : f.marker = m
  nextRow : f.nextRow = 0
  stripes : f.stripes = 0

/-- The plate has taken a frame of these settings at `m`. -/
structure Plt.Began (x : Plt) (st : Settings) (m : Nat) : Prop where
  marker : x.marker = m
  slot : x.slot = 0
  firstMarker : x.firstMarker = none
  activeExp : x.activeExp = st.exposure
  bias : x.bias = st.bias

/-- Pipeline B reads and holds what it did. -/
structure Pl.SameFrames (x y : Pl) : Prop where
  snap : x.snap = y.snap
  frames : x.frames = y.frames
  frameNo : x.frameNo = y.frameNo

theorem State.startFrameA_markerView (t : Nat) (prev : Option Frame) : ∃ f b q, f.BeginsIn s t ∧ Pl.SameFrames b s.pb ∧
    Plt.Began q s.pa.snap t ∧ (s.startFrameA t prev).markerView =
      ⟨true, false, (s.pa.frameNo + 1) % 2 ^ 32, s.pa.frames ++ [f], f.st, b, q, s.pa.snap.mode, s.nv⟩ := by
  unfold State.startFrameA
  dsimp -zeta only
  extract_lets x lens slaved changed synced r _ entered marked _ shown mapped made f _ cleared begun
  have hs : synced.markerView = { s.markerView with plt := synced.plt } := s.fsyncBegin_markerView ..
  obtain ⟨b, hb, he⟩ : ∃ b, Pl.SameFrames b s.pb ∧
      entered.markerView = { synced.markerView with mode := x.snap.mode, pb := b } := by
    have hpb : synced.pb = s.pb := congrArg MarkerView.pb hs
    unfold entered
    split
    · next hm => exact ⟨synced.pb, hpb ▸ ⟨rfl, rfl, rfl⟩, by rw [← hm]; rfl⟩
    · exact ⟨_, hpb ▸ ⟨rfl, rfl, rfl⟩, synced.enterMode_markerView x.snap.mode⟩
  obtain ⟨q, hq, hm⟩ : ∃ q, Plt.Began q x.snap t ∧ marked.markerView = { entered.markerView with plt := q } :=
    ⟨_, ⟨rfl, rfl, rfl, rfl, rfl⟩, State.columnsMarker_markerView ..⟩
  clear_value synced entered marked
  have hv : marked.markerView = { s.markerView with mode := x.snap.mode, pb := b, plt := q } := by rw [hm, he, hs]
  have hsnap : marked.pa.snap = x.snap := congrArg MarkerView.snap hv
  have hp : mapped.markerView = { marked.markerView with snap := { x.snap with subst := shown.substMap } } := by
    rw [← hsnap]
    rfl
  have hst : f.st = { x.snap with subst := shown.substMap } := congrArg MarkerView.snap hp
  have hframes : mapped.pa.frames = s.pa.frames := congrArg MarkerView.frames hv
  obtain ⟨shut, hbeg⟩ := cleared.beginFrame_markerView f slaved
  refine ⟨{ f with shutter := shut }, b, q, ⟨rfl, by rw [hst], rfl, rfl, rfl⟩, hb, hq, ?_⟩
  calc _ = begun.markerView := by split <;> simp
    _ = { cleared.markerView with
          reading := true, armed := false, frameNo := (f.n + 1) % 2 ^ 32, frames := mapped.pa.frames ++ [{ f with shutter := shut }] } :=
      (State.uncommandedMarker_markerView _).trans hbeg
    _ = { mapped.markerView with
          reading := true, armed := false, frameNo := (f.n + 1) % 2 ^ 32, frames := s.pa.frames ++ [{ f with shutter := shut }] } := by
      rw [hframes]
      rfl
    _ = _ := by rw [hp, hv, hst]; rfl

/-! ### The marker (R24, R383) -/

/-- What the marker says of the frame just read. -/
def State.frameJudged : Option Frame → State
  | some f => (s.judgePlacement f).judgeEdges f
  | none => s

theorem State.frameJudged_markerView (prev : Option Frame) :
    (s.frameJudged prev).markerView = { s.markerView with plt := (s.frameJudged prev).plt } := by
  cases prev with
  | none => rfl
  | some f =>
    calc _ = { (s.judgePlacement f).markerView with plt := ((s.judgePlacement f).judgeEdges f).plt } := State.judgeEdges_markerView _ f
      _ = _ := by rw [s.judgePlacement_markerView f]; rfl

theorem State.frameJudged_snap (prev : Option Frame) : (s.frameJudged prev).pa.snap = s.pa.snap :=
  congrArg MarkerView.snap (s.frameJudged_markerView prev)

theorem State.frameMarker_of_due {m : Nat} (h : s.markerTime = some m) : s.frameMarker =
    if isRunning s.pa.snap.mode then (s.frameJudged s.pa.cur).startFrameA m s.pa.cur else (s.frameJudged s.pa.cur).stopReading .A := by
  unfold State.frameMarker
  rw [h, ← s.frameJudged_snap s.pa.cur]
  cases s.pa.cur <;> rfl

end

theorem exec_frameStartMarker_of_live {s : State} {dt : Nat} (hl : (s.elapse dt).live = true) :
    exec (.frameStartMarker dt) s = .next (s.elapse dt).frameMarker :=
  congrArg Host.Outcome.next (State.run_of_live hl _)

/-- Settles O30: `startFrameA` and `stopReading` give the whole of the marker's view; judging the frame before changes the
plate alone. -/
theorem markerStartsFrame : Obligations.MarkerStartsFrame := by
  unfold Obligations.MarkerStartsFrame
  rintro dt m s u rfl hl ht
  rw [exec_frameStartMarker_of_live hl, State.frameMarker_of_due _ ht]
  generalize s.elapse dt = u
  have hj := u.frameJudged_markerView u.pa.cur
  refine ⟨fun hr => ?_, fun hr => ?_⟩
  · obtain ⟨f, b, q, hf, hb, hq, h⟩ := (u.frameJudged u.pa.cur).startFrameA_markerView m u.pa.cur
    simp only [State.markerView, MarkerView.mk.injEq] at hj h
    obtain ⟨-, -, hno, hframes, hsnap, hpb, -, -, hnv⟩ := hj
    obtain ⟨hread, harmed, hno', hframes', hsnap', hpb', hplt, hmode, hnv'⟩ := h
    rw [if_pos hr]
    rw [hsnap] at hq hmode
    refine ⟨_, f, rfl, hread, harmed, by rw [hno', hno], by rw [hframes', hframes], by rw [hf.n, hno],
      by rw [← hsnap]; exact hf.st, hsnap', hf.marker, hf.nextRow, hf.stripes, ?_⟩
    rw [hplt, hpb', hnv', hnv, ← hpb]
    exact ⟨hq.marker, hq.slot, hq.firstMarker, hq.activeExp, hq.bias, hmode, hb.snap, hb.frames, hb.frameNo, rfl⟩
  · have h := (u.frameJudged u.pa.cur).stopReading_markerView
    simp only [State.markerView, MarkerView.mk.injEq] at hj h
    obtain ⟨-, -, hno, hframes, -, hpb, -, hmode, hnv⟩ := hj
    obtain ⟨hread, -, hno', hframes', -, hpb', hplt, hmode', hnv'⟩ := h
    rw [if_neg (by simp [hr])]
    exact ⟨_, rfl, hread, hframes'.trans hframes, hno'.trans hno, by rw [hplt], hmode'.trans hmode, hpb'.trans hpb, hnv'.trans hnv⟩

end Sys2Proof.Machine

namespace Sys2Proof.Machine

/-! ## Commits of an exposure (02 R48 to R51, R54, R55) -/

theorem validExposure_iff (e : Word) : validExposure e = true ↔ fld e 1 0 ≠ 3 ∧ 32 ≤ fld e 20 8 ∧
    80 ≤ (2 ^ (fld e 5 4 + 1) - 1) * fld e 20 8 ∧ 2 ^ (fld e 5 4 + 1) * fld e 20 8 + 125 ≤ nRow (fld e 1 0) := by
  simp [validExposure, and_assoc]

/-- What PLT_COMMIT with GO does, answer by answer. -/
theorem State.commit_of_go {v : Word} (hv : bit v 0 = true) (s : State) : s.commit v =
    if s.plt.busy then (s.commitResult 2).post0 0x0021 []
    else if isRunning s.mode = false then s.commitResult 3
    else if validExposure s.plt.exp = false then (s.commitResult 1).post0 0x0020 []
    else { s with plt := { s.plt with busy := true, result := 0, sent := (s.plt.exp, s.plt.fsync) } } := by
  simp [State.commit, hv]

theorem Pl.reading_of_cur {x : Pl} {f : Frame} (h : x.cur = some f) : x.reading = true := by
  by_contra hr
  simp [Pl.cur, hr] at h

/-- The latch point of the frame being read of pipeline A is due at the start of row slot 1548 (R50). -/
theorem State.latchDue_A_of_cur {s : State} {f : Frame} (h : s.pa.cur = some f) (hf : f.lpTime = none) : s.latchDue .A =
    if f.marker + 1548 * nRow (fld f.st.exposure 1 0) ≤ s.now then some (f.marker + 1548 * nRow (fld f.st.exposure 1 0)) else none := by
  simp [State.latchDue, State.latchTime, State.pl, h, hf]

/-- While a frame is read a setting applies after the next one where the next one's snapshot is taken, or due (R51). -/
theorem State.applyFrame_A_of_cur {s : State} {f : Frame} (h : s.pa.cur = some f) : s.applyFrame .A =
    if (f.lpTime.isSome && isRunning s.pa.snap.mode) || (s.latchDue .A).isSome then (s.pa.frameNo + 1) % 2 ^ 32 else s.pa.frameNo := by
  simp [State.applyFrame, State.pl, h, Pl.reading_of_cur h]

/-- The transfer to the plate done: the settings sent are accepted for pipeline A (R51, R54). -/
theorem State.commitDone_of_busy {s : State} (h : s.plt.busy = true) : ∃ q, s.commitDone = { s with
      plt := { s.plt with busy := false, pending := true, applyFrame := s.applyFrame .A, acceptAt := s.now }
      pa := { s.pa with pend := { s.pa.pend with exposure := s.plt.sent.1, fsync := s.plt.sent.2 }, prior := some q } } ∧
    (s.pa.prior = none → q = (s.now, s.pa.pend)) := by
  unfold State.commitDone
  rw [h]
  exact ⟨_, rfl, fun hp => by simp [State.priorNow, State.pl, hp]⟩

theorem exec_commit_of_live {s : State} {dt : Nat} (hl : (s.elapse dt).live = true) (v : Word) :
    exec (.commit dt v) s = .next ((s.elapse dt).commit v) :=
  congrArg Host.Outcome.next (State.run_of_live hl _)

theorem exec_commitTransferDone_of_live {s : State} {dt : Nat} (hl : (s.elapse dt).live = true) :
    exec (.commitTransferDone dt) s = .next (s.elapse dt).commitDone :=
  congrArg Host.Outcome.next (State.run_of_live hl _)

/-- Settles O26: each answer is a branch of `commit`; APPLY follows from whether the latch point of the frame being read is
taken, due or still to come. -/
theorem exposureCommits : Obligations.ExposureCommits := by
  unfold Obligations.ExposureCommits
  refine ⟨?_, ?_⟩
  · rintro dt v s u rfl hl hv
    rw [exec_commit_of_live hl, State.commit_of_go hv]
    generalize s.elapse dt = u
    refine ⟨fun hb => ?_, fun hb hm => ?_, fun hb hm he => ?_, fun hb hm h1 h2 h3 h4 => ?_⟩
    · rw [if_pos hb]; rfl
    · rw [if_neg (by simp [hb]), if_pos hm]; rfl
    · rw [if_neg (by simp [hb]), if_neg (by simp [hm]), if_pos (by simpa [← validExposure_iff] using he)]; rfl
    · rw [if_neg (by simp [hb]), if_neg (by simp [hm]), if_neg (by simp [(validExposure_iff _).mpr ⟨h1, h2, h3, h4⟩])]
  · rintro dt s u rfl hl hb
    rw [exec_commitTransferDone_of_live hl]
    generalize s.elapse dt = u at hb ⊢
    obtain ⟨q, hq, hprior⟩ := State.commitDone_of_busy hb
    refine ⟨_, u.applyFrame .A, q, rfl, hq, hprior, fun f hf hlp hn => ?_, fun f hf hlp hn => ?_, fun f hf hlp hr => ?_⟩
    · simp [State.applyFrame_A_of_cur hf, State.latchDue_A_of_cur hf hlp, hlp, Nat.not_le.mpr hn]
    · simp [State.applyFrame_A_of_cur hf, State.latchDue_A_of_cur hf hlp, hn]
    · simp [State.applyFrame_A_of_cur hf, Option.isSome_iff_ne_none, hlp, hr]

end Sys2Proof.Machine

namespace Sys2Proof.Machine

/-! ## FSYNC_IN (02 R57, R58, 12 R281) -/

/-- An edge now lies within 8 µs of the one before (R281). -/
def Plt.nearEdge (x : Plt) (now : Nat) : Bool := x.lastEdge.any (fun l => decide (now < l + 1000))

theorem Plt.nearEdge_iff (x : Plt) (now : Nat) : x.nearEdge now = true ↔ ∃ l, x.lastEdge = some l ∧ now < l + 1000 := by
  simp [Plt.nearEdge, Option.any_eq_true]

/-- `t` is `s` with an edge of a slaved frame noted, before it is judged. -/
def State.EdgeNoted (s t : State) : Prop :=
  ∃ p b, t = { s with plt := { s.plt with period := p, lastEdge := some s.now, edges := s.plt.edges + 1, closeEdge := b } }

/-- The parts of the state that an edge of FSYNC_IN leaves alone. -/
structure OffSync where
  sup : Sup
  pa : Pl
  pb : Pl
  act : Act
  saf : Saf
  nv : Nv

/-- Those parts of a state. -/
def State.offSync (s : State) : OffSync := ⟨s.sup, s.pa, s.pb, s.act, s.saf, s.nv⟩

theorem State.EdgeNoted.reads {s t : State} (h : s.EdgeNoted t) : t.now = s.now ∧ t.plt.edges = s.plt.edges + 1 ∧
    t.plt.lastEdge = some s.now ∧ t.plt.noisy = s.plt.noisy ∧ t.plt.target = s.plt.target ∧ t.plt.extra = s.plt.extra ∧
    t.plt.fsyncState = s.plt.fsyncState ∧ t.offSync = s.offSync := by
  obtain ⟨p, b, rfl⟩ := h
  exact ⟨rfl, rfl, rfl, rfl, rfl, rfl, rfl, rfl⟩

section
variable {s : State} {f : Frame}

/-- An edge of a slaved frame shows the input noisy, or is placed. -/
theorem State.fsyncEdge_of_slaved (hf : s.pa.cur = some f) (hs : bit f.st.fsync 0 = true) (hn : s.plt.noisy = false) :
    ∃ t, s.EdgeNoted t ∧ s.fsyncEdge = if s.plt.nearEdge s.now = true ∨ 8 ≤ s.plt.edges
      then ({ t with plt := { t.plt with noisy := true, cleanRun := 0 } } : State).post0 0x00a6 [word (s.plt.edges + 1)]
      else t.placeEdge f := by
  unfold State.fsyncEdge
  extract_lets near period _ timed n _ noted _
  have hnear : near = s.plt.nearEdge s.now := by
    unfold near Plt.nearEdge
    cases s.plt.lastEdge <;> rfl
  have ht : timed.pa.cur = some f := hf
  rw [ht]
  refine ⟨noted, ⟨period, _, rfl⟩, ?_⟩
  have hquiet : noted.plt.noisy = false := hn
  have hnine : (8 < n) = (8 ≤ s.plt.edges) := propext Nat.lt_add_one_iff
  simp [Settings.slaved, hs, hquiet, hnear, hnine]
  rfl

/-- What an extra edge ends is the lock alone (R58). -/
theorem State.unlock_eq (s : State) (c : Nat) : ∃ n,
    (s.unlock c).plt = { s.plt with fsyncState := if s.plt.fsyncState = 2 then 1 else s.plt.fsyncState, exactRun := n } ∧
      (s.unlock c).offSync = s.offSync := by
  unfold State.unlock
  split
  · exact ⟨0, by simp, by simp [State.offSync]⟩
  · exact ⟨s.plt.exactRun, rfl, rfl⟩

/-- The target is free and the edge not too early: the next marker is set (R57). -/
theorem State.placeEdge_of_free (ht : s.plt.target = none) (he : f.marker + pMin f.st.exposure ≤ s.now + fld f.st.fsync 31 16) :
    ∃ b, s.placeEdge f = { s with plt := { s.plt with
      target := some (min (s.now + fld f.st.fsync 31 16) (f.marker + pMax f.st.exposure)), targetExact := b } } := by
  simp [State.placeEdge, ht, Nat.not_lt.mpr he]

/-- The edge comes too early, or after one that has set the target: it is extra (R57). -/
theorem State.placeEdge_of_extra (h : s.plt.target ≠ none ∨ s.now + fld f.st.fsync 31 16 < f.marker + pMin f.st.exposure) :
    ∃ n, (s.placeEdge f).plt = { s.plt with
        extra := satInc s.plt.extra 1 65535
        fsyncState := if s.plt.fsyncState = 2 then 1 else s.plt.fsyncState
        exactRun := n } ∧
      (s.placeEdge f).offSync = s.offSync := by
  have hx : s.placeEdge f = ({ s with plt := { s.plt with extra := satInc s.plt.extra 1 65535 } } : State).unlock 3 := by
    simp only [State.placeEdge]
    exact if_pos (by simpa [Option.isSome_iff_ne_none] using h)
  rw [hx]
  exact State.unlock_eq _ 3

/-- What a placed edge leaves of the plate's registers, and of the rest of the state. -/
theorem State.placeEdge_keeps (s : State) (f : Frame) : (s.placeEdge f).plt.edges = s.plt.edges ∧
    (s.placeEdge f).plt.lastEdge = s.plt.lastEdge ∧ (s.placeEdge f).plt.noisy = s.plt.noisy ∧
    (s.placeEdge f).offSync = s.offSync := by
  by_cases h : s.plt.target ≠ none ∨ s.now + fld f.st.fsync 31 16 < f.marker + pMin f.st.exposure
  · obtain ⟨n, hp, ho⟩ := State.placeEdge_of_extra h
    rw [hp]
    exact ⟨rfl, rfl, rfl, ho⟩
  · rw [not_or, not_not, Nat.not_lt] at h
    obtain ⟨b, hp⟩ := State.placeEdge_of_free h.1 h.2
    rw [hp]
    exact ⟨rfl, rfl, rfl, rfl⟩

end

theorem State.noisyEnd_of_clean {s : State} (hn : s.plt.noisy = true) (hc : 16 ≤ s.plt.cleanRun) :
    s.noisyEnd = { s with plt := { s.plt with noisy := false } } := if_pos (by simp [hn, hc])

theorem State.fsyncStuck_of_run {s : State} (hr : 4 ≤ s.plt.stuckRun) (hp : s.plt.stuckPosted = false) (level : Bool) :
    s.fsyncStuck level = ({ s with plt := { s.plt with stuckPosted := true } } : State).post0 0x00a5 [if level then 1#32 else 0#32] :=
  if_pos (by simp [hr, hp])

section
variable {s : State} {dt : Nat} (hl : (s.elapse dt).live = true)
include hl

theorem exec_fsyncInEdge_of_live : exec (.fsyncInEdge dt) s = .next (s.elapse dt).fsyncEdge :=
  congrArg Host.Outcome.next (State.run_of_live hl _)

theorem exec_fsyncNoisyEnd_of_live : exec (.fsyncNoisyEnd dt) s = .next (s.elapse dt).noisyEnd :=
  congrArg Host.Outcome.next (State.run_of_live hl _)

theorem exec_fsyncStuck_of_live (b : Bool) : exec (.fsyncStuck dt b) s = .next ((s.elapse dt).fsyncStuck b) :=
  congrArg Host.Outcome.next (State.run_of_live hl _)

end

/-- Settles O27: an edge is noted and then shows the input noisy or is placed, where it sets the target or is extra. -/
theorem frameSync : Obligations.FrameSync := by
  unfold Obligations.FrameSync
  refine ⟨?_, ?_, ?_, ?_⟩
  · rintro dt f s u rfl hl hf hs hn hfar he
    rw [exec_fsyncInEdge_of_live hl]
    generalize s.elapse dt = u at hf hn hfar he ⊢
    have hclear : ¬(u.plt.nearEdge u.now = true ∨ 8 ≤ u.plt.edges) := by
      rw [Plt.nearEdge_iff]
      rintro (⟨l, h, hlt⟩ | h)
      · exact absurd (hfar l h) (Nat.not_le.mpr hlt)
      · omega
    obtain ⟨t, ht, h⟩ := State.fsyncEdge_of_slaved hf hs hn
    obtain ⟨now, edges, last, noisy, target, extra, state, off⟩ := ht.reads
    obtain ⟨hedges, hlast, hnoisy, hk⟩ := t.placeEdge_keeps f
    rw [off, State.offSync, State.offSync, OffSync.mk.injEq] at hk
    rw [h, if_neg hclear]
    refine ⟨_, rfl, hedges.trans edges, hlast.trans last, hnoisy.trans (noisy.trans hn), fun ht hm => ?_, fun hx => ?_, hk⟩
    · rw [← target] at ht
      rw [← now] at hm ⊢
      obtain ⟨b, hp⟩ := State.placeEdge_of_free ht hm
      rw [hp]
      exact ⟨rfl, extra, state⟩
    · rw [← target, ← now] at hx
      rw [← target, ← extra, ← state]
      obtain ⟨n, hp, -⟩ := State.placeEdge_of_extra hx
      rw [hp]
      exact ⟨rfl, rfl, rfl⟩
  · rintro dt f s u rfl hl hf hs hn hnoise
    rw [exec_fsyncInEdge_of_live hl]
    generalize s.elapse dt = u at hf hn hnoise ⊢
    obtain ⟨_, ⟨p, b, rfl⟩, h⟩ := State.fsyncEdge_of_slaved hf hs hn
    rw [← Plt.nearEdge_iff, or_comm] at hnoise
    rw [if_pos hnoise] at h
    exact ⟨p, b, congrArg Host.Outcome.next h⟩
  · rintro dt s u rfl hl hn hc
    rw [exec_fsyncNoisyEnd_of_live hl]
    rw [State.noisyEnd_of_clean hn hc]
  · rintro dt b s u rfl hl hr hp
    rw [exec_fsyncStuck_of_live hl]
    rw [State.fsyncStuck_of_run hr hp]

end Sys2Proof.Machine

namespace Sys2Proof.Machine

/-! ## Row slots (02 R44, R45, 03 R63) -/

/-- `t` is `s` but for the column channels and the lanes. -/
def State.BesideLink (s t : State) : Prop := ∃ c n, t = { s with cch := c, nl := n }

theorem State.BesideLink.refl (s : State) : s.BesideLink s := ⟨_, _, rfl⟩

theorem State.BesideLink.trans {s t r : State} (h : s.BesideLink t) (g : t.BesideLink r) : s.BesideLink r := by
  obtain ⟨c, n, rfl⟩ := h
  obtain ⟨d, m, rfl⟩ := g
  exact ⟨d, m, rfl⟩

theorem State.noteSent_besideLink (s : State) (l : Nat) (ps : List NlPacket) : s.BesideLink (s.noteSent l ps) := by
  unfold State.noteSent
  split
  · exact ⟨_, _, rfl⟩
  · exact .refl s

theorem State.sendPacket_besideLink (s : State) (k t l n g : Nat) (q : List Byte) : s.BesideLink (s.sendPacket k t l n g q) :=
  .trans ⟨_, _, rfl⟩ (State.noteSent_besideLink _ l _)

/-- A row of a RELAY module goes to the lanes. -/
theorem State.relayRow_besideLink (s : State) (n j : Nat) (a b : Array (BitVec 16)) : s.BesideLink (s.relayRow n j a b) :=
  (State.sendPacket_besideLink ..).trans (State.sendPacket_besideLink ..)

/-- The samples of a calibration cycle go to its channel. -/
theorem State.collect_besideLink (s : State) (x : SlotSamples) : s.BesideLink (s.collect x) := ⟨_, _, rfl⟩

/-- The instant at which the conversions of the row slot of a frame are complete (R44, R45). -/
def Plt.slotDone (x : Plt) (f : Frame) : Nat :=
  f.marker + x.slot * nRow (fld f.st.exposure 1 0) + 112 + 2 ^ (fld f.st.exposure 5 4 + 1) * fld f.st.exposure 20 8

/-- A row slot done: a row on the link, or the spares' levels, and the next slot. -/
theorem State.rowSlot_of_done {s : State} {f : Frame} (hf : s.pa.cur = some f) (hd : s.plt.slotDone f ≤ s.now) (x : SlotSamples) :
    ∃ c n, s.rowSlot x = { s with
      cch := c
      nl := n
      pa := if s.plt.slot < 1548 then { s.pa with link := some (s.plt.slot, s.linkRow x) } else s.pa
      plt := { s.plt with
        slot := s.plt.slot + 1
        spareSeen := if 1548 ≤ s.plt.slot ∧ s.plt.slot < 1572 then s.plt.spareSeen ++ [(s.plt.slot, x)] else s.plt.spareSeen } } := by
  unfold State.rowSlot
  rw [hf]
  dsimp -zeta only
  extract_lets j e done _ slotted row collected relayed
  have hnow : ¬s.now < done := Nat.not_lt.mpr hd
  rw [if_neg hnow]
  by_cases hj : s.plt.slot < 1548
  · have hb : ¬(1548 ≤ s.plt.slot ∧ s.plt.slot < 1572) := fun h => absurd hj (Nat.not_lt.mpr h.1)
    have hc : slotted.BesideLink collected := by
      unfold collected
      split
      · exact slotted.collect_besideLink x
      · exact .refl slotted
    have hr : slotted.BesideLink relayed := by
      unfold relayed
      split
      · exact hc.trans (collected.relayRow_besideLink ..)
      · exact hc
    obtain ⟨c, n, hcn⟩ := hr
    rw [if_pos (c := j < 1548) hj, if_pos hj, if_neg hb, hcn]
    exact ⟨c, n, rfl⟩
  · rw [if_neg (c := j < 1548) hj, if_neg hj]
    split
    · next h => rw [if_pos ⟨Nat.not_lt.mp hj, h⟩]; exact ⟨_, _, rfl⟩
    · next h => rw [if_neg (fun e => h e.2)]; exact ⟨_, _, rfl⟩

/-- A column that no spare stands in for takes its own channel's sample (R62, R63). -/
theorem State.linkRow_own (s : State) (x : SlotSamples) {q : Nat} (hq : q < 2080) (hs : (s.grp (q / 32)).standsIn ≠ some (q % 32))
    (hx : q < x.s.size) : (s.linkRow x).1[q]? = x.s[q]? := by
  have hr : (s.linkRow x).1[q]? = some (s.columnSample x.s x.spareS q) := by simp [State.linkRow, hq]
  rw [hr, State.columnSample, if_neg hs]
  simp [hx]

/-! ## A row through the front pipe (04 R83, R90, 10 R237, R239) -/

/-- What a front pipe works on: its link, the number of the frame that began last, the frames; with what it leaves alone. -/
structure FrontView where
  link : Option (Nat × Array (BitVec 16) × Array (BitVec 16))
  lastNo : Nat
  frame : Nat → Option Frame
  sup : Sup
  nv : Nv
  plt : Plt
  act : Act

/-- That part of a state. -/
def State.frontView (s : State) (p : Pipe) : FrontView :=
  ⟨(s.pl p).link, (s.pl p).lastNo, (s.pl p).frame?, s.sup, s.nv, s.plt, s.act⟩

/-- The same with another frame of a number. -/
def FrontView.put (v : FrontView) (n : Nat) (f : Frame) : FrontView :=
  { v with frame := fun k => if k = n then some f else v.frame k }

@[simp] theorem FrontView.put_frame (v : FrontView) (n : Nat) (f : Frame) : (v.put n f).frame n = some f := if_pos rfl

@[simp] theorem FrontView.put_put (v : FrontView) (n : Nat) (f g : Frame) : (v.put n f).put n g = v.put n g := by
  simp only [FrontView.put, FrontView.mk.injEq, true_and, and_true]
  funext k
  split <;> rfl

theorem FrontView.put_self {v : FrontView} {n : Nat} {f : Frame} (h : v.frame n = some f) : v.put n f = v := by
  have hk : (fun k => if k = n then some f else v.frame k) = v.frame := by
    funext k
    split
    · next e => rw [e, h]
    · rfl
  unfold FrontView.put
  rw [hk]

/-- The same with nothing on the link. -/
def FrontView.unlink (v : FrontView) : FrontView := { v with link := none }

theorem FrontView.put_unlink (v : FrontView) (n : Nat) (f : Frame) : v.unlink.put n f = (v.put n f).unlink := rfl

theorem State.frontView_congr {s t : State} (p : Pipe) (ha : t.pa = s.pa) (hb : t.pb = s.pb) (hs : t.sup = s.sup) (hn : t.nv = s.nv)
    (hp : t.plt = s.plt) (hc : t.act = s.act) : t.frontView p = s.frontView p := by
  cases p <;> simp [State.frontView, State.pl, ha, hb, hs, hn, hp, hc]

/-- A change of the pipeline that touches neither its link nor its frames. -/
theorem State.modPl_frontView (s : State) (p : Pipe) (f : Pl → Pl)
    (h : (f (s.pl p)).link = (s.pl p).link ∧ (f (s.pl p)).frameNo = (s.pl p).frameNo ∧ (f (s.pl p)).frames = (s.pl p).frames) :
    (s.modPl p f).frontView p = s.frontView p := by
  obtain ⟨hl, hn, hf⟩ := h
  have hq : (f (s.pl p)).frame? = (s.pl p).frame? := funext fun k => congrArg (List.find? _) hf
  simp [State.frontView, Pl.lastNo, hl, hn, hq]

theorem State.modFrame_frontView {s : State} {p : Pipe} {n : Nat} {f : Frame} (h : (s.frontView p).frame n = some f)
    (φ : Frame → Frame) (hφ : ∀ g, g.n = n → (φ g).n = n) :
    (s.modPl p (fun x => x.modFrame n φ)).frontView p = (s.frontView p).put n (φ f) := by
  have hq : ((s.pl p).modFrame n φ).frame? = fun k => if k = n then some (φ f) else (s.pl p).frame? k := by
    funext k
    rw [Pl.modFrame_frame? _ _ _ _ hφ]
    split
    · next e =>
      have hk : (s.pl p).frame? n = some f := h
      rw [e, hk]
      rfl
    · rfl
  simp only [State.frontView, FrontView.put, State.pl_modPl, State.modPl_sup, State.modPl_nv, State.modPl_plt, State.modPl_act, hq]
  rfl

section
variable (s : State) (p : Pipe)

@[simp] theorem State.saf_frontView (x : Saf) : State.frontView { s with saf := x } p = s.frontView p := rfl
@[simp] theorem State.drm_frontView (x : Drm) : State.frontView { s with drm := x } p = s.frontView p := rfl
@[simp] theorem State.post_frontView (c : Nat) (f : Word) (g k : Nat) (a : List Word) :
    (s.post c f g k a).frontView p = s.frontView p :=
  State.frontView_congr p (by simp) (by simp) (by simp) (by simp) (by simp) (by simp)
@[simp] theorem State.post0_frontView (c : Nat) (a : List Word) : (s.post0 c a).frontView p = s.frontView p := s.post_frontView p ..
@[simp] theorem State.postP_frontView (q : Pipe) (c : Nat) (a : List Word) : (s.postP q c a).frontView p = s.frontView p :=
  s.post_frontView p ..
@[simp] theorem State.postF_frontView (q : Pipe) (f : Frame) (c : Nat) (a : List Word) :
    (s.postF q f c a).frontView p = s.frontView p := s.post_frontView p ..
@[simp] theorem State.warnBit_frontView (b : Nat) : (s.warnBit b).frontView p = s.frontView p := by
  unfold State.warnBit; split
  · rfl
  · rw [State.post0_frontView, State.saf_frontView]
@[simp] theorem State.testRan_frontView (n : Nat) (b : Bool) : (s.testRan n b).frontView p = s.frontView p := by
  unfold State.testRan; dsimp only; split <;> simp
@[simp] theorem State.injected_frontView (n : Nat) (b : Bool) : (s.injected n b).frontView p = s.frontView p := by
  unfold State.injected
  extract_lets _ noted
  have hn : noted.frontView p = s.frontView p := by
    unfold noted
    split <;> rfl
  split
  · rw [State.testRan_frontView, State.saf_frontView, hn]
  · exact hn
@[simp] theorem State.countFailure_frontView : (s.countFailure p).frontView p = s.frontView p := by
  unfold State.countFailure; dsimp only; split <;> simp [State.modPl_frontView]
@[simp] theorem State.closeEvent_frontView : (s.closeEvent p).frontView p = s.frontView p := by
  unfold State.closeEvent; (repeat' split) <;> simp [State.modPl_frontView]
@[simp] theorem State.failEvent_frontView (r : Nat) : (s.failEvent p r).frontView p = s.frontView p := by
  unfold State.failEvent; (repeat' split) <;> simp [State.modPl_frontView]
@[simp] theorem State.takeFrame_frontView (f : Frame) (b : Bool) : (s.takeFrame p f b).frontView p = s.frontView p := by
  unfold State.takeFrame; dsimp only; (repeat' split) <;> simp [State.modPl_frontView]

end

/-! ### The fills of a port (R237 to R239) -/

theorem runsDry_iff {port : Nat} (h : port ≠ 1) (fill : Nat × Nat) : runsDry port fill = true ↔ fill.1 = 0 ∨ 32768 < fill.2 := by
  simp [runsDry, h]

theorem portDry_iff {port : Nat} (h : port ≠ 1) (o : PortObs) : portDry o port = true ↔ ∃ x ∈ o.fills, x.1 = 0 ∨ 32768 < x.2 := by
  simp [portDry, runsDry_iff h]

/-- An underrun of its port marks the frame that began last, of a pipeline's frames no other. -/
theorem State.underrun_frontView {s : State} {p : Pipe} {n : Nat} {f : Frame} (hn : (s.frontView p).lastNo = n)
    (h : (s.frontView p).frame n = some f) : ∃ g, (s.modPl p Pl.underrun).frontView p = (s.frontView p).put n g := by
  have hl : (s.pl p).lastNo = n := hn
  by_cases hr : (s.pl p).reading || (s.pl p).link.isSome
  · refine ⟨{ f with underrun := true }, ?_⟩
    rw [← State.modFrame_frontView h (fun g => { g with underrun := true }) fun _ hg => hg]
    simp only [State.modPl, Pl.underrun, if_pos hr, hl]
  · refine ⟨f, ?_⟩
    rw [FrontView.put_self h]
    exact s.modPl_frontView p _ (by simp only [Pl.underrun, if_neg hr, and_self])

/-- A fill of its own port. -/
theorem State.fillSeen_frontView {s : State} {p : Pipe} {n : Nat} {f : Frame} (hn : (s.frontView p).lastNo = n)
    (h : (s.frontView p).frame n = some f) (fill : Nat × Nat) :
    ∃ g, (s.fillSeen (2 * pipeNum p) fill).frontView p = (s.frontView p).put n g := by
  unfold State.fillSeen
  extract_lets old _ seen _ counted
  have hs : seen.frontView p = s.frontView p := rfl
  have hc : counted.frontView p = s.frontView p := State.post0_frontView _ p _ _
  split
  · rw [← hc] at h hn ⊢
    cases p with
    | A => exact State.underrun_frontView hn h
    | B => exact State.underrun_frontView hn h
  · exact ⟨f, by rw [hs, FrontView.put_self h]⟩

theorem State.portSeen_frontView {s : State} {p : Pipe} {n : Nat} {f : Frame} (hn : (s.frontView p).lastNo = n)
    (h : (s.frontView p).frame n = some f) (o : PortObs) :
    ∃ g, (s.portSeen (2 * pipeNum p) o).frontView p = (s.frontView p).put n g := by
  refine List.foldlRecOn (motive := fun (t : State) => ∃ g, t.frontView p = (s.frontView p).put n g) _ _
    ⟨f, (FrontView.put_self h).symm⟩ fun t ⟨g, hg⟩ fill _ => ?_
  have hl : (t.frontView p).lastNo = n := by rw [hg]; exact hn
  obtain ⟨g', hg'⟩ := State.fillSeen_frontView hl (by rw [hg, FrontView.put_frame]) fill
  exact ⟨g', by rw [hg', hg, FrontView.put_put]⟩

/-! ### The row taken (R83, R90) -/

/-- What the front pipe notes of a row in its frame. -/
structure RowNote where
  n : Nat
  st : Settings
  nextRow : Nat
  underrun : Bool
  incomplete : Bool
  raw : SMap (Array (BitVec 16) × Array (BitVec 16))

/-- That part of a frame. -/
def Frame.rowNote (f : Frame) : RowNote := ⟨f.n, f.st, f.nextRow, f.underrun, f.incomplete, f.raw⟩

/-- The stages on a row write none of it. -/
theorem State.pipeRow_rowNote (s : State) (p : Pipe) (f : Frame) (t : Int) (r : Nat) (a b : Array (BitVec 16)) :
    (s.pipeRow p f t r a b).rowNote = f.rowNote := by
  unfold State.pipeRow
  extract_lets bd x c h shown sum blind checked dNew k row up won
  have hb : blind.rowNote = f.rowNote := by
    unfold blind
    split <;> simp only [Frame.rowNote, shown]
  have hc : checked.rowNote = blind.rowNote := by
    unfold checked
    split <;> simp only [Frame.rowNote]
  have hw : won.rowNote = checked.rowNote := by
    unfold won
    split <;> simp only [Frame.rowNote]
  rw [← hb, ← hc, ← hw]
  simp only [Frame.rowNote]

/-- A frame out of the front pipe: the check's result and the excess are noted in it. -/
theorem State.endFrontPipe_frontView {s : State} {p : Pipe} {f g : Frame} (h : (s.frontView p).frame f.n = some g) :
    ∃ a b, (s.endFrontPipe p f).frontView p = (s.frontView p).put f.n { g with refFail := a, excess := b } := by
  unfold State.endFrontPipe
  extract_lets fail shown excess noted judged taken
  have hs : shown.frontView p = s.frontView p := s.modPl_frontView p _ ⟨rfl, rfl, rfl⟩
  have hn : noted.frontView p = (s.frontView p).put f.n { g with refFail := fail, excess := excess } := by
    rw [← hs] at h ⊢
    exact State.modFrame_frontView h _ fun _ hg => hg
  have hj : judged.frontView p = noted.frontView p := by
    unfold judged
    split <;> simp
  refine ⟨fail, excess, ?_⟩
  rw [← hn, ← hj, ← judged.takeFrame_frontView p f fail]
  split
  · exact State.postF_frontView ..
  · rfl

/-- The frame as the row on the link enters it. -/
def Frame.takeRow (f : Frame) (row : Nat) (a b : Array (BitVec 16)) (dry : Bool) : Frame :=
  { f with underrun := f.underrun || dry, incomplete := f.incomplete || decide (row ≠ f.nextRow), nextRow := row + 1,
           raw := SMap.insert f.raw row (a, b) }

/-- The row on the link leaves it for the frame that began last, and for no other. -/
theorem State.frontRow_frontView {s : State} {p : Pipe} {row : Nat} {a b : Array (BitVec 16)} {f : Frame}
    (hl : (s.pl p).link = some (row, a, b)) (hf : (s.pl p).frame? (s.pl p).lastNo = some f) (hm : f.st.mode ≠ .relay) (o : PortObs) :
    ∃ g, (s.frontRow p o).frontView p = ((s.frontView p).put f.n g).unlink ∧
      g.rowNote = (f.takeRow row a b (portDry o (2 * pipeNum p) || runsDry (2 * pipeNum p) (s.fill (2 * pipeNum p)))).rowNote := by
  have hn : (s.pl p).lastNo = f.n := (Pl.frame?_n hf).symm
  unfold State.frontRow
  rw [hl, hf]
  dsimp -zeta only
  rw [if_neg hm]
  extract_lets port dry freed noted taken put
  have hport : port = 2 * pipeNum p := by
    unfold port
    cases p <;> rfl
  clear_value port
  subst hport
  obtain ⟨g, hg⟩ := State.portSeen_frontView (s := s) hn (hn ▸ hf) o
  have hfreed : freed.frontView p = ((s.frontView p).put f.n g).unlink := by
    rw [← hg]
    cases p <;> rfl
  have hnote : taken.rowNote = (f.takeRow row a b dry).rowNote := by
    unfold taken
    split
    · exact State.pipeRow_rowNote ..
    · rfl
  have htn : taken.n = f.n := congrArg RowNote.n hnote
  clear_value taken
  have hput : put.frontView p = ((s.frontView p).put f.n taken).unlink := by
    have h : (freed.frontView p).frame taken.n = some g := by rw [hfreed, htn]; exact FrontView.put_frame ..
    have hf := State.modFrame_frontView h (fun _ => taken) fun _ _ => rfl
    rw [hfreed, htn, FrontView.put_unlink, FrontView.put_put] at hf
    rw [← hf, ← htn]
  split
  · obtain ⟨c, e, he⟩ := State.endFrontPipe_frontView (s := put) (p := p) (f := taken) (g := taken) (by
      rw [hput, htn]; exact FrontView.put_frame ..)
    refine ⟨{ taken with refFail := c, excess := e }, ?_, hnote⟩
    rw [he, hput, htn, FrontView.put_unlink, FrontView.put_put]
  · exact ⟨taken, hput, hnote⟩

/-! ## Rows -/

theorem exec_rowSlot_of_live {s : State} {dt : Nat} (hl : (s.elapse dt).live = true) (x : SlotSamples) :
    exec (.rowSlot dt x) s = .next ((s.elapse dt).rowSlot x) :=
  congrArg Host.Outcome.next (State.run_of_live hl _)

theorem exec_frontPipeRow_of_live {s : State} {dt : Nat} (hl : (s.elapse dt).live = true) (p : Pipe) (o : PortObs) :
    exec (.frontPipeRow dt p o) s = .next ((s.elapse dt).frontRow p o) :=
  congrArg Host.Outcome.next (State.run_of_live hl _)

/-- Settles O28: `rowSlot` puts the row on the link, `frontRow` takes it from there into its frame and into no other. -/
theorem rowsAreTaken : Obligations.RowsAreTaken := by
  unfold Obligations.RowsAreTaken
  refine ⟨?_, ?_⟩
  · rintro dt x f s u rfl hl hf hd
    rw [exec_rowSlot_of_live hl]
    generalize s.elapse dt = u at hf hd ⊢
    obtain ⟨c, n, h⟩ := State.rowSlot_of_done hf hd x
    rw [h]
    refine ⟨_, rfl, rfl, fun hj => ?_, fun h1 h2 => ?_, fun hj => ?_, fun q hq hs hx => u.linkRow_own x hq hs hx, rfl, rfl, rfl, rfl, rfl⟩
    · exact ⟨if_pos hj, if_neg (by omega)⟩
    · exact ⟨if_neg (by omega), if_pos ⟨h1, h2⟩⟩
    · exact ⟨if_neg (by omega), if_neg (by omega)⟩
  · rintro dt p o row a b f s u rfl hl hlink hf hm
    rw [exec_frontPipeRow_of_live hl]
    generalize s.elapse dt = u at hlink hf ⊢
    obtain ⟨g, hv, hg⟩ := State.frontRow_frontView hlink hf hm o
    have hport : 2 * pipeNum p ≠ 1 := by omega
    simp only [State.frontView, FrontView.put, FrontView.unlink, FrontView.mk.injEq] at hv
    obtain ⟨hlink', -, hframe, hsup, hnv, hplt, hact⟩ := hv
    simp only [Frame.rowNote, Frame.takeRow, RowNote.mk.injEq] at hg
    obtain ⟨-, hst, hnext, hunder, hinc, hraw⟩ := hg
    refine ⟨_, g, rfl, hlink', (congrFun hframe f.n).trans (if_pos rfl), hnext, hinc, fun hfills h0 h1 => ?_, fun hx => ?_, hst, ?_,
      fun k hk => (congrFun hframe k).trans (if_neg hk), hsup, hnv, hplt, hact⟩
    · have hp : portDry o (2 * pipeNum p) = false := by
        rw [Bool.eq_false_iff, ne_eq, portDry_iff hport]
        rintro ⟨x, hx, hd⟩
        have hok := hfills x hx
        omega
      have hr : runsDry (2 * pipeNum p) (u.fill (2 * pipeNum p)) = false := by
        rw [Bool.eq_false_iff, ne_eq, runsDry_iff hport]
        omega
      rw [hunder, hp, hr, Bool.or_false, Bool.or_false]
    · rw [hunder, (portDry_iff hport o).mpr hx, Bool.true_or, Bool.or_true]
    · rw [hraw, SMap.get_insert, if_pos rfl]

end Sys2Proof.Machine

namespace Sys2Proof.Machine

/-! ## What a latch point of pipeline A is seen by (02 R50 to R52, R54) -/

/-- What a latch point of pipeline A takes or leaves: the settings, those pending and whether some wait, the number of the next
frame, the tables, the snapshot of pipeline B, the mode, the ledger and PENDING of the commit. -/
structure LatchView where
  snap : Settings
  pend : Settings
  waits : Bool
  frameNo : Nat
  tables : List SoTable
  snapB : Settings
  mode : Mode
  nv : Nv
  pending : Bool

/-- That part of a state. -/
def State.latchView (s : State) : LatchView :=
  ⟨s.pa.snap, s.pa.pend, s.pa.prior.isSome, s.pa.frameNo, s.pa.tables, s.pb.snap, s.sup.mode, s.nv, s.plt.pending⟩

theorem State.latchView_congr {s t : State} (ha : t.pa = s.pa) (hb : t.pb = s.pb) (hm : t.sup.mode = s.sup.mode) (hn : t.nv = s.nv)
    (hp : t.plt = s.plt) : t.latchView = s.latchView := by
  simp [State.latchView, ha, hb, hm, hn, hp]

/-- A change of a pipeline that keeps its settings, its frame count and its tables. -/
theorem State.modPl_latchView (s : State) (p : Pipe) (f : Pl → Pl)
    (h : (f (s.pl p)).snap = (s.pl p).snap ∧ (f (s.pl p)).pend = (s.pl p).pend ∧ (f (s.pl p)).prior = (s.pl p).prior ∧
      (f (s.pl p)).frameNo = (s.pl p).frameNo ∧ (f (s.pl p)).tables = (s.pl p).tables) : (s.modPl p f).latchView = s.latchView := by
  obtain ⟨hs, hd, hr, hn, ht⟩ := h
  cases p with
  | A =>
    simp only [State.pl] at hs hd hr hn ht
    simp [State.latchView, hs, hd, hr, hn, ht]
  | B =>
    simp only [State.pl] at hs
    simp [State.latchView, hs]

section
variable (s : State)

@[simp] theorem State.nl_latchView (x : Nl) : State.latchView { s with nl := x } = s.latchView := rfl
@[simp] theorem State.act_latchView (x : Act) : State.latchView { s with act := x } = s.latchView := rfl
@[simp] theorem State.pcv_latchView (x : Pcv) : State.latchView { s with pcv := x } = s.latchView := rfl
@[simp] theorem State.saf_latchView (x : Saf) : State.latchView { s with saf := x } = s.latchView := rfl
@[simp] theorem State.eng_latchView (x : Eng) : State.latchView { s with eng := x } = s.latchView := rfl
@[simp] theorem State.modCh_latchView (c : Nat) (f : ActCh → ActCh) : (s.modCh c f).latchView = s.latchView := rfl
@[simp] theorem State.modRing_latchView (x : Nat) (f : Ring → Ring) : (s.modRing x f).latchView = s.latchView := rfl
@[simp] theorem State.modLane_latchView (l : Nat) (f : Lane → Lane) : (s.modLane l f).latchView = s.latchView := rfl
@[simp] theorem State.modSheaf_latchView (i : Nat) (f : Sheaf → Sheaf) : (s.modSheaf i f).latchView = s.latchView := rfl
@[simp] theorem State.setGrp_latchView (g : Nat) (x : Group) : (s.setGrp g x).latchView = s.latchView := rfl
@[simp] theorem State.setModu_latchView (m : Nat) (x : Modulator) : (s.setModu m x).latchView = s.latchView := rfl
@[simp] theorem State.logCause_latchView (k c : Nat) (a : List Nat) : (s.logCause k c a).latchView = s.latchView := rfl
@[simp] theorem State.post_latchView (c : Nat) (f : Word) (g k : Nat) (a : List Word) : (s.post c f g k a).latchView = s.latchView :=
  State.latchView_congr (by simp) (by simp) (by simp) (by simp) (by simp)
@[simp] theorem State.post0_latchView (c : Nat) (a : List Word) : (s.post0 c a).latchView = s.latchView := s.post_latchView ..
@[simp] theorem State.postP_latchView (p : Pipe) (c : Nat) (a : List Word) : (s.postP p c a).latchView = s.latchView :=
  s.post_latchView ..
@[simp] theorem State.warnBit_latchView (b : Nat) : (s.warnBit b).latchView = s.latchView := by
  unfold State.warnBit; split
  · rfl
  · exact State.post0_latchView _ _ _
@[simp] theorem State.noteSent_latchView (l : Nat) (ps : List NlPacket) : (s.noteSent l ps).latchView = s.latchView := by
  unfold State.noteSent; split <;> rfl
@[simp] theorem State.sendCmd_latchView (o a b : Nat) : (s.sendCmd o a b).latchView = s.latchView := by
  simp [State.sendCmd, State.sendPacket]
@[simp] theorem State.shutterPulse_latchView (p : Pipe) (o : Owner) : (s.shutterPulse p o).latchView = s.latchView := by
  cases p <;> simp [State.shutterPulse, State.duePulse]

/-! ### Shutter events (R121 to R123, R127) -/

@[simp] theorem State.countFailure_latchView (p : Pipe) : (s.countFailure p).latchView = s.latchView := by
  unfold State.countFailure; dsimp only; split <;> simp [State.modPl_latchView]
@[simp] theorem State.closeEvent_latchView (p : Pipe) : (s.closeEvent p).latchView = s.latchView := by
  unfold State.closeEvent; (repeat' split) <;> simp [State.modPl_latchView]
@[simp] theorem State.failEvent_latchView (p : Pipe) (r : Nat) : (s.failEvent p r).latchView = s.latchView := by
  unfold State.failEvent; (repeat' split) <;> simp [State.modPl_latchView]
@[simp] theorem State.issueOpen_latchView (p : Pipe) : (s.issueOpen p).latchView = s.latchView := by
  unfold State.issueOpen; (repeat' split) <;> simp [State.modPl_latchView]
@[simp] theorem State.abortEvent_latchView (p : Pipe) : (s.abortEvent p).latchView = s.latchView := by simp [State.abortEvent]

/-! ### Entry to SAFE (R315) -/

@[simp] theorem State.logCutBoot_latchView : s.logCutBoot.latchView = s.latchView := by
  unfold State.logCutBoot; split <;> rfl
@[simp] theorem State.endCycles_latchView : s.endCycles.latchView = s.latchView := rfl
@[simp] theorem State.dropDue_latchView : s.dropDue.latchView = s.latchView := rfl
@[simp] theorem State.dropWait_latchView (w r : Nat) : (s.dropWait w r).latchView = s.latchView := by
  unfold State.dropWait; split <;> simp
@[simp] theorem State.abortOn_latchView (i r l : Nat) : (s.abortOn i r l).latchView = s.latchView := by
  unfold State.abortOn; dsimp only; (repeat' split) <;> simp
@[simp] theorem State.abortStreams_latchView : s.abortStreams.latchView = s.latchView := by
  simp [State.abortStreams, State.sendAbort]
@[simp] theorem State.returnClaims_latchView (f : Frame) : (s.returnClaims f).latchView = s.latchView := by
  unfold State.returnClaims
  induction f.claims with
  | nil => rfl
  | cons c l ih => simpa using ih
@[simp] theorem State.stopPipe_latchView (p : Pipe) : (s.stopPipe p).latchView = s.latchView := by
  unfold State.stopPipe
  dsimp only
  rw [State.modPl_latchView _ _ _ ⟨rfl, rfl, rfl, rfl, rfl⟩]
  exact foldl_keeps State.latchView _ State.returnClaims_latchView _ s
@[simp] theorem State.relayLink_latchView (m : Mode) : (s.relayLink m).latchView = s.latchView := by
  unfold State.relayLink; (repeat' split) <;> simp [State.serveLanes]
@[simp] theorem State.postSafe_latchView : s.postSafe.latchView = s.latchView := by
  unfold State.postSafe; split
  · simp
  · rfl

/-- A mode left changes the pending settings alone, as far as a latch point sees. -/
theorem State.leaveMode_latchView (m : Mode) : (s.leaveMode m).latchView = { s.latchView with pend := (s.leaveMode m).pa.pend } := by
  unfold State.leaveMode
  dsimp only
  split <;> simp [State.latchView, State.impose]
theorem State.enterMode_latchView (m : Mode) :
    (s.enterMode m).latchView = { s.latchView with pend := (s.leaveMode m).pa.pend, mode := m } := by
  have h := (State.relayLink_latchView (s.leaveMode m) m).trans (State.leaveMode_latchView s m)
  unfold State.enterMode
  dsimp only
  rw [State.post0_latchView]
  simp only [State.latchView, LatchView.mk.injEq] at h ⊢
  simp [h]
theorem State.idle_latchView (a : Saf) (b : Pcv) (d : Thm) (e : Drm) : State.latchView
    { s with saf := a, pcv := b, plt := { s.plt with firstMarker := none, busy := false }, thm := d, drm := e } = s.latchView := rfl
theorem State.enterSafe_latchView : ∃ q, s.enterSafe.latchView = { s.latchView with pend := q, mode := .safe } := by
  unfold State.enterSafe
  dsimp only
  rw [State.postSafe_latchView, State.enterMode_latchView, State.idle_latchView]
  exact ⟨_, by simp; rfl⟩

end

/-- `t` is seen as `s` is, but for an entry to SAFE. -/
def State.SameOrSafe (s t : State) : Prop :=
  t.latchView = s.latchView ∨ s.sup.mode ≠ .safe ∧ ∃ q, t.latchView = { s.latchView with pend := q, mode := .safe }

/-- Only where the mode changes do the pending settings. -/
theorem State.SameOrSafe.but_pend {s t : State} (h : s.SameOrSafe t) : ∃ q, (t.sup.mode = s.sup.mode → q = s.pa.pend) ∧
    t.latchView = { s.latchView with pend := q, mode := t.sup.mode } := by
  obtain h | ⟨hm, q, h⟩ := h
  · have hmode : t.sup.mode = s.sup.mode := congrArg LatchView.mode h
    exact ⟨s.pa.pend, fun _ => rfl, by rw [h, hmode]; rfl⟩
  · have hmode : t.sup.mode = .safe := congrArg LatchView.mode h
    exact ⟨q, fun e => absurd (e.symm.trans hmode) hm, by rw [h, hmode]⟩

theorem State.SameOrSafe.trans {s t r : State} (h : s.SameOrSafe t) (g : t.SameOrSafe r) : s.SameOrSafe r := by
  obtain h | ⟨hm, q, h⟩ := h
  · have hmode : t.sup.mode = s.sup.mode := congrArg LatchView.mode h
    rw [State.SameOrSafe, h, hmode] at g
    exact g
  · obtain g | ⟨gm, -⟩ := g
    · exact .inr ⟨hm, q, g.trans h⟩
    · exact absurd (congrArg LatchView.mode h) gm

/-- A dangerous fault leads to SAFE, or changes nothing that a latch point sees (R313). -/
theorem State.fault_sameOrSafe (s : State) (id : Nat) : s.SameOrSafe (s.fault id) := by
  unfold State.fault
  extract_lets recorded sup logged
  have hl : logged.latchView = s.latchView := by
    unfold logged
    split <;> rfl
  have hm : logged.mode = s.sup.mode := congrArg LatchView.mode hl
  split
  · exact .inl rfl
  · split
    · exact .inl hl
    · next hsafe =>
      obtain ⟨q, hq⟩ := logged.enterSafe_latchView
      exact .inr ⟨hm ▸ hsafe, q, by rw [hq, hl]⟩

theorem State.SameOrSafe.foldl {α : Type} {s : State} (f : State → α → State) (h : ∀ (t : State) a, t.SameOrSafe (f t a)) (l : List α) :
    s.SameOrSafe (l.foldl f s) :=
  List.foldlRecOn (motive := fun (t : State) => s.SameOrSafe t) _ _ (.inl rfl) fun t ht a _ => ht.trans (h t a)

section
variable (s : State)

/-! ### Urgent conversions (R262) -/

@[simp] theorem State.urgStat_latchView (n x : Nat) : (s.urgStat n x).latchView = s.latchView := by
  unfold State.urgStat; split <;> rfl
@[simp] theorem State.preempted_latchView (u : Urg) : (s.preempted u).latchView = s.latchView := by
  unfold State.preempted; split <;> simp
@[simp] theorem State.nextConv_latchView (m t : Nat) : (s.nextConv m t).latchView = s.latchView := by
  unfold State.nextConv; dsimp only; (repeat' split) <;> rfl
@[simp] theorem State.kickUrgent_latchView (m : Nat) : (s.kickUrgent m).latchView = s.latchView := by
  unfold State.kickUrgent; dsimp only; (repeat' split) <;> simp
theorem State.putUrgent_latchView (m : Nat) (r : Urg) : ∀ t ∈ s.putUrgent m r, t.latchView = s.latchView := by
  unfold State.putUrgent; dsimp only; (repeat' split) <;> simp
@[simp] theorem State.bladeResult_latchView (t : Option Int) : (s.bladeResult t).latchView = s.latchView := rfl
@[simp] theorem State.refusedBlade_latchView : s.refusedBlade.latchView = s.latchView := rfl
@[simp] theorem State.moduleUrgent_latchView (c : Nat) : (s.moduleUrgent c).latchView = s.latchView := by
  unfold State.moduleUrgent
  dsimp only
  split
  · simp
  · split
    · simp
    · split
      · next h => rw [State.kickUrgent_latchView, s.putUrgent_latchView _ _ _ h]
      · simp
@[simp] theorem State.askBlade_latchView : (s.askBlade .A).latchView = s.latchView := by
  unfold State.askBlade
  dsimp only
  rw [State.moduleUrgent_latchView, State.modPl_latchView _ _ _ ⟨rfl, rfl, rfl, rfl, rfl⟩]

/-! ### The sheaves and the placement (R178, R179, R184, R185) -/

@[simp] theorem State.failSheaf_latchView (i : Nat) : (s.failSheaf i).latchView = s.latchView := by simp [State.failSheaf]
@[simp] theorem State.sheafLatch_latchView (l i : Nat) : (s.sheafLatch l i).latchView = s.latchView := by
  unfold State.sheafLatch; dsimp only; (repeat' split) <;> simp

/-- A placement that leaves less than two sheaves is a dangerous fault (R179). -/
theorem State.latchPlacement_sameOrSafe (l : Nat) : s.SameOrSafe (s.latchPlacement .A l) := by
  unfold State.latchPlacement
  extract_lets latched online free stA stB
  have hl : latched.latchView = s.latchView := foldl_keeps State.latchView _ (fun t i => t.sheafLatch_latchView l i) _ s
  clear_value latched
  split
  extract_lets placed ok posted _ marked
  have hm : marked.latchView = s.latchView := by
    have hp : placed.latchView = s.latchView := by
      unfold placed
      rw [State.modPl_latchView _ _ _ ⟨rfl, rfl, rfl, rfl, rfl⟩, hl]
    have hq : posted.latchView = placed.latchView := by
      unfold posted
      split
      · rfl
      · exact State.post0_latchView ..
    exact hq.trans hp
  split
  · exact .trans (.inl hm) (marked.fault_sameOrSafe 12)
  · exact .inl hm

/-! ### What follows the placement (R68, R114, R120, R190) -/

/-- A spare found failed while it stands in for a channel for good is a dangerous fault (R69). -/
theorem State.spareLatch_sameOrSafe (st : Settings) (g : Nat) : s.SameOrSafe (s.spareLatch st g) := by
  unfold State.spareLatch
  extract_lets y
  split
  · exact .inl rfl
  · extract_lets _ ovr next failed
    have hf : failed.latchView = s.latchView := by simp [failed]
    split
    · split
      · exact .trans (.inl (by rw [State.postP_latchView, hf])) (State.fault_sameOrSafe _ 2)
      · exact .inl (by rw [State.warnBit_latchView, State.postP_latchView, hf])
      · exact .inl hf
    · exact .inl rfl

theorem State.columnsLatch_sameOrSafe (st : Settings) : s.SameOrSafe (s.columnsLatch st) :=
  .foldl _ (fun t g => t.spareLatch_sameOrSafe st g) _

/-- The part of a pipeline that a latch point of it is seen by. -/
def Pl.latchPart (x : Pl) : Settings × Settings × Option (Nat × Settings) × Nat × List SoTable :=
  (x.snap, x.pend, x.prior, x.frameNo, x.tables)

theorem State.setPl_A_latchView (x : Pl) (h : x.latchPart = s.pa.latchPart) : (s.setPl .A x).latchView = s.latchView := by
  simp only [Pl.latchPart, Prod.mk.injEq] at h
  exact s.modPl_latchView .A (fun _ => x) h

@[simp] theorem State.estimate_latchView (f : Frame) : (s.estimate .A f).latchView = s.latchView := by
  unfold State.estimate
  extract_lets a x drifted timed far raised checked e anchor since counted noted
  have hd : drifted.latchPart = x.latchPart := by
    unfold drifted
    split <;> rfl
  have hc : checked.latchPart = x.latchPart := by
    unfold checked raised
    split
    · split <;> exact hd
    · exact hd
  exact s.setPl_A_latchView noted hc
@[simp] theorem State.eventLatch_latchView (f : Frame) : (s.eventLatch .A f).latchView = s.latchView := by
  unfold State.eventLatch
  dsimp only
  (repeat' split) <;> simp [State.modPl_latchView]
@[simp] theorem State.postRequest_latchView (p : Pipe) (b : Bool) : (s.postRequest p b).latchView = s.latchView := by
  unfold State.postRequest
  dsimp only
  rw [State.modPl_latchView _ _ _ ⟨rfl, rfl, rfl, rfl, rfl⟩, State.postP_latchView]
@[simp] theorem State.shutterDecision_latchView (f : Frame) : (s.shutterDecision .A f).latchView = s.latchView := by
  unfold State.shutterDecision
  extract_lets x st a urgent routine offered asked
  have ha : asked.latchView = s.latchView := by
    unfold asked
    (repeat' split) <;> simp
  split
  · rfl
  · dsimp only
    split
    · exact ha
    · rw [State.modPl_latchView _ _ _ ⟨rfl, rfl, rfl, rfl, rfl⟩, ha]
@[simp] theorem State.washLatch_latchView (p : Pipe) : (s.washLatch p).latchView = s.latchView := by
  unfold State.washLatch State.washPulse
  dsimp only
  (repeat' split) <;> simp [State.modPl_latchView, State.duePulse]

end

theorem State.latchWork_sameOrSafe (s : State) : s.SameOrSafe (s.latchWork .A) := by
  unfold State.latchWork
  extract_lets columns
  have hc : s.SameOrSafe columns := by
    unfold columns
    split
    · exact s.columnsLatch_sameOrSafe _
    · exact .inl rfl
  split
  · exact hc
  · exact hc.trans (.inl (by simp))

/-! ### The snapshot (R51, R52, R54) -/

/-- The settings that hold in a mode, field by field (R43, R106). -/
theorem Settings.heldIn_eq (st : Settings) (m : Mode) : st.heldIn m = { st with
    hostLvl := if m = .diagnostic then st.hostLvl else none
    fp := if m = .diagnostic ∨ m = .calibration then st.fp else word (st.fp.toNat % 16) } := by
  by_cases hd : m = .diagnostic <;> by_cases hc : m = .calibration <;> simp [Settings.heldIn, hd, hc]

/-- The snapshot that pipeline A takes at a latch point, and what stays pending of it and of a commit. -/
theorem State.takeSnapshot_latchView (s : State) (l : Nat) : (s.takeSnapshot .A l).latchView =
    { s.latchView with
      snap := ({ s.pa.acceptedBefore l with cams := promoteFirst (s.pa.acceptedBefore l).cams } : Settings).heldIn
        (s.pa.acceptedBefore l).mode
      pend := if s.pa.acceptedBefore l = s.pa.pend then { s.pa.pend with cams := promoteFirst s.pa.pend.cams } else s.pa.pend
      waits := false
      pending := s.plt.pending && decide (l ≤ s.plt.acceptAt) } := rfl

theorem State.takeSnapshot_pend (s : State) (l : Nat) : (s.takeSnapshot .A l).pa.pend =
    if s.pa.acceptedBefore l = s.pa.pend then { s.pa.pend with cams := promoteFirst s.pa.pend.cams } else s.pa.pend :=
  congrArg LatchView.pend (s.takeSnapshot_latchView l)

/-- The latch point of pipeline A: the snapshot, the placement, and what follows them. -/
theorem State.latchPoint_A_of_due {s : State} {f : Frame} {l : Nat} (hf : s.pa.cur = some f) (hn : f.lpTime = none)
    (hl : l = f.marker + 1548 * nRow (fld f.st.exposure 1 0)) (hd : l ≤ s.now) :
    ∃ m : State, m.latchView = s.latchView ∧ m.pa.acceptedBefore l = s.pa.acceptedBefore l ∧ m.plt = s.plt ∧
      s.latchPoint .A = ((m.takeSnapshot .A l).latchPlacement .A l).latchWork .A := by
  have ht : s.latchTime .A f = some l := by
    subst hl
    exact if_pos hd
  have hc : (s.pl .A).cur = some f := hf
  unfold State.latchPoint
  simp only [hc, hn, ht]
  refine ⟨_, ?_, ?_, ?_, rfl⟩
  · exact State.modPl_latchView _ _ _ ⟨rfl, rfl, rfl, rfl, rfl⟩
  · rfl
  · rfl

theorem exec_latchPoint_of_live {s : State} {dt : Nat} (hl : (s.elapse dt).live = true) (p : Pipe) :
    exec (.latchPoint dt p) s = .next ((s.elapse dt).latchPoint p) :=
  congrArg Host.Outcome.next (State.run_of_live hl _)

/-- Settles O31: the snapshot stands after all that follows it, an entry to SAFE included, which changes the mode. -/
theorem latchPointTakesSnapshot : Obligations.LatchPointTakesSnapshot := by
  unfold Obligations.LatchPointTakesSnapshot
  rintro dt l f st s u rfl hlive hf hn hl hd hst
  rw [exec_latchPoint_of_live hlive]
  generalize s.elapse dt = u at hf hd hst ⊢
  obtain ⟨m, hm, hacc, hplt, h⟩ := State.latchPoint_A_of_due hf hn hl hd
  have hk : (m.takeSnapshot .A l).SameOrSafe (u.latchPoint .A) := by
    rw [h]
    exact (State.latchPlacement_sameOrSafe _ l).trans (State.latchWork_sameOrSafe _)
  have hacc' : m.pa.acceptedBefore l = st := hacc.trans hst.symm
  have hmode : (m.takeSnapshot .A l).sup.mode = u.mode := congrArg LatchView.mode hm
  have hpend : m.pa.pend = u.pa.pend := congrArg LatchView.pend hm
  obtain ⟨q, hq, hv⟩ := hk.but_pend
  rw [State.takeSnapshot_latchView, hm, hacc', hplt, hpend, Settings.heldIn_eq] at hv
  rw [State.takeSnapshot_pend, hacc', hpend, hmode] at hq
  simp only [State.latchView, LatchView.mk.injEq] at hv
  obtain ⟨hsnap, hp, hwaits, hno, htables, hb, -, hnv, hpending⟩ := hv
  exact ⟨_, rfl, hsnap, by simpa using hwaits, fun e => hp.trans (hq e), hno, htables, hb, hnv, hpending⟩

end Sys2Proof.Machine

namespace Sys2Proof.Machine

/-! ## An uncorrectable error of an engine's SRAM (08 R174, R183, R184) -/

/-- What an error of an engine's SRAM leaves alone. -/
structure BesideEng where
  sup : Sup
  thm : Thm
  plt : Plt
  cch : Cch
  pcv : Pcv
  act : Act
  nl : Nl
  drm : Drm
  saf : Saf
  nv : Nv

/-- That part of a state. -/
def State.besideEng (s : State) : BesideEng := ⟨s.sup, s.thm, s.plt, s.cch, s.pcv, s.act, s.nl, s.drm, s.saf, s.nv⟩

/-- The counters of a unit. -/
def State.unit (s : State) (k : Nat) : UnitCnt := SMap.get UnitCnt.zero s.eng.units k

/-- The canonical form of the units' counters. -/
def State.unitsOk (s : State) : Prop := SMap.ok UnitCnt.zero s.eng.units = true

/-! ### Counters of units -/

theorem State.modUnit_unitsOk {s : State} (h : s.unitsOk) (i : Nat) (φ : UnitCnt → UnitCnt) : (s.modUnit i φ).unitsOk :=
  SMap.ok_put _ _ _ _ h

theorem State.unit_modUnit {s : State} (h : s.unitsOk) (i k : Nat) (φ : UnitCnt → UnitCnt) :
    (s.modUnit i φ).unit k = if k = i then φ (s.unit k) else s.unit k := by
  have hp : (s.modUnit i φ).unit k = if k = i then φ (s.unit i) else s.unit k := SMap.get_put _ _ _ _ _ h
  rw [hp]
  split
  · next e => rw [e]
  · rfl

/-- Units counted once each. -/
theorem State.unit_foldl_modUnit {s : State} (h : s.unitsOk) (φ : UnitCnt → UnitCnt) (us : List Nat) (hu : us.Nodup) (k : Nat) :
    (us.foldl (fun s u => s.modUnit u φ) s).unitsOk ∧
      (us.foldl (fun s u => s.modUnit u φ) s).unit k = if k ∈ us then φ (s.unit k) else s.unit k := by
  induction us generalizing s with
  | nil => exact ⟨h, by simp⟩
  | cons i us ih =>
    obtain ⟨hi, hus⟩ := List.nodup_cons.mp hu
    obtain ⟨hok, hk⟩ := ih (s.modUnit_unitsOk h i φ) hus
    refine ⟨hok, hk.trans ?_⟩
    rw [State.unit_modUnit h]
    by_cases e : k = i
    · simp [e, hi]
    · simp [e]

/-! ### The frames that the error fails (R183) -/

/-- A frame placed on the engine fails by its error. -/
def State.failOnEngine (s : State) (p : Pipe) (engine : Nat) (f : Frame) (stage : Nat) : State :=
  let counted := ([21 + engine, 5 + engine / 8] ++ unitsAbove (engine / 8)).foldl
    (fun s u => s.modUnit u (fun x => { x with mismatch := satInc x.mismatch 1 0xffffffff, frame := f.n })) s
  (counted.modPl p (fun x => (x.modFrame f.n (fun g => { g with tileFail := true })).taint f.n)).postF p f 0x0061
    [word (engine / 8), 0xff#32, word stage, 0#32]

/-- The stage by which a frame of a pipeline fails: it places the frame, held there, on the engine. -/
def Frame.failedStage (f : Frame) (p : Pipe) (engine : Nat) (held : List Word) : Option Placed :=
  if held.any (fun h => h.toNat = f.n) then f.place.find? (fun x => x.pipe = pipeNum p && x.engines.contains engine) else none

theorem Frame.failedStage_isSome {f : Frame} {p : Pipe} {engine : Nat} {held : List Word} (hh : ∃ w ∈ held, w.toNat = f.n)
    (hp : ∃ x ∈ f.place, x.pipe = pipeNum p ∧ engine ∈ x.engines) : ∃ st, f.failedStage p engine held = some st := by
  rw [Frame.failedStage, if_pos (by simpa using hh), ← Option.isSome_iff_exists, List.find?_isSome]
  simpa using hp

/-- What an error does frame by frame. -/
theorem State.sramFails_eq (s : State) (p : Pipe) (engine : Nat) (held : List Word) :
    s.sramFails p engine held = (s.pl p).frames.foldl
      (fun s f => (f.failedStage p engine held).elim s (fun st => s.failOnEngine p engine f st.stage)) s := by
  unfold State.sramFails
  congr 1
  funext s f
  unfold Frame.failedStage
  by_cases hh : held.any (fun h => h.toNat = f.n)
  · simp only [if_pos hh]
    cases f.place.find? (fun x => x.pipe = pipeNum p && x.engines.contains engine) <;> rfl
  · simp only [if_neg hh]
    cases f.place.find? (fun x => x.pipe = pipeNum p && x.engines.contains engine) <;> rfl

/-- What every failing of a frame keeps, the error keeps. -/
theorem State.sramFails_keeps {P : State → Prop} {s : State} {p : Pipe} {engine : Nat} (hs : P s)
    (h : ∀ (t : State) (f : Frame) (n : Nat), P t → P (t.failOnEngine p engine f n)) (held : List Word) : P (s.sramFails p engine held) := by
  rw [State.sramFails_eq]
  refine List.foldlRecOn _ _ hs fun t ht f _ => ?_
  cases f.failedStage p engine held with
  | none => exact ht
  | some st => exact h t f st.stage ht

/-- What the failing of one frame brings about and that of the others keeps, the error brings about. -/
theorem State.sramFails_reaches {P : State → Prop} {s : State} {p : Pipe} {engine : Nat} {f : Frame} {held : List Word}
    (hf : f ∈ (s.pl p).frames) (hst : ∃ st, f.failedStage p engine held = some st)
    (hits : ∀ (t : State) (n : Nat), P (t.failOnEngine p engine f n))
    (h : ∀ (t : State) (g : Frame) (n : Nat), P t → P (t.failOnEngine p engine g n)) : P (s.sramFails p engine held) := by
  rw [State.sramFails_eq]
  obtain ⟨before, after, hl⟩ := List.append_of_mem hf
  obtain ⟨st, hst⟩ := hst
  rw [hl, List.foldl_append, List.foldl_cons, hst]
  refine List.foldlRecOn _ _ (hits _ st.stage) fun t ht g _ => ?_
  cases g.failedStage p engine held with
  | none => exact ht
  | some st => exact h t g st.stage ht

/-- Every frame of a number in a pipeline has failed. -/
def State.TileFailed (s : State) (p : Pipe) (n : Nat) : Prop := ∀ g ∈ (s.pl p).frames, g.n = n → g.tileFail = true

theorem Pl.mem_taint {x : Pl} {m : Nat} {g : Frame} (h : g ∈ (x.taint m).frames) : ∃ k ∈ x.frames, g.n = k.n ∧ g.tileFail = k.tileFail := by
  obtain ⟨k, hk, rfl⟩ := List.mem_map.mp h
  refine ⟨k, hk, ?_⟩
  split <;> exact ⟨rfl, rfl⟩

theorem Pl.mem_modFrame {x : Pl} {m : Nat} {φ : Frame → Frame} {g : Frame} (h : g ∈ (x.modFrame m φ).frames) :
    ∃ k ∈ x.frames, g = if k.n = m then φ k else k := by
  obtain ⟨k, hk, rfl⟩ := List.mem_map.mp h
  exact ⟨k, hk, rfl⟩

theorem State.failOnEngine_pl (s : State) (p : Pipe) (engine : Nat) (f : Frame) (n : Nat) : (s.failOnEngine p engine f n).pl p =
    ((s.pl p).modFrame f.n (fun g => { g with tileFail := true })).taint f.n := by
  cases p <;> simp [State.failOnEngine, State.pl, unitsAbove]

/-- The frame that fails, and each that has failed. -/
theorem State.failOnEngine_tileFailed {s : State} {p : Pipe} {n : Nat} {f : Frame} (h : s.TileFailed p n ∨ f.n = n) (engine k : Nat) :
    (s.failOnEngine p engine f k).TileFailed p n := by
  intro g hg hn
  rw [State.failOnEngine_pl] at hg
  obtain ⟨g1, hg1, hn1, ht1⟩ := Pl.mem_taint hg
  obtain ⟨g2, hg2, rfl⟩ := Pl.mem_modFrame hg1
  rw [ht1]
  split
  · rfl
  · next hne =>
    rw [hn1, if_neg hne] at hn
    obtain h | h := h
    · exact h g2 hg2 hn
    · exact absurd (hn.trans h.symm) hne

theorem State.failOnEngine_pl_other (s : State) {p q : Pipe} (hq : q ≠ p) (engine : Nat) (f : Frame) (n : Nat) :
    (s.failOnEngine q engine f n).pl p = s.pl p := by
  match p, q with
  | .A, .B | .B, .A => simp [State.failOnEngine, State.pl, unitsAbove]
  | .A, .A | .B, .B => exact absurd rfl hq

/-- The error fails the frames it held that are placed on the engine. -/
theorem State.sramFails_tileFailed {s : State} {p : Pipe} {engine : Nat} {f : Frame} {held : List Word} (hf : f ∈ (s.pl p).frames)
    (hst : ∃ st, f.failedStage p engine held = some st) : (s.sramFails p engine held).TileFailed p f.n :=
  State.sramFails_reaches (P := fun t => t.TileFailed p f.n) hf hst (fun _ _ => State.failOnEngine_tileFailed (.inr rfl) _ _)
    fun _ _ _ ht => State.failOnEngine_tileFailed (.inl ht) _ _

theorem State.sramFails_pl_other (s : State) {p q : Pipe} (hq : q ≠ p) (engine : Nat) (held : List Word) :
    (s.sramFails q engine held).pl p = s.pl p :=
  State.sramFails_keeps (P := fun t => t.pl p = s.pl p) rfl (fun t f n ht => (t.failOnEngine_pl_other hq engine f n).trans ht) held

/-! ### What the error leaves alone -/

/-- `t` has the sheaves, the error counts and the blocks beside the engines that `s` has. -/
structure State.SameEngines (s t : State) : Prop where
  sheaves : t.eng.sheaves = s.eng.sheaves
  ok : s.unitsOk → t.unitsOk
  ue : s.unitsOk → ∀ k, (t.unit k).ue = (s.unit k).ue
  beside : t.besideEng = s.besideEng

theorem State.SameEngines.refl (s : State) : s.SameEngines s := ⟨rfl, id, fun _ _ => rfl, rfl⟩

theorem State.SameEngines.trans {s t r : State} (h : s.SameEngines t) (g : t.SameEngines r) : s.SameEngines r :=
  ⟨g.sheaves.trans h.sheaves, fun hs => g.ok (h.ok hs), fun hs k => (g.ue (h.ok hs) k).trans (h.ue hs k), g.beside.trans h.beside⟩

theorem State.SameEngines.of_eq {s t : State} (he : t.eng = s.eng) (hb : t.besideEng = s.besideEng) : s.SameEngines t := by
  refine ⟨by rw [he], fun hs => ?_, fun _ k => ?_, hb⟩
  · rw [State.unitsOk, he]
    exact hs
  · rw [State.unit, he]
    rfl

theorem State.modUnit_sameEngines (s : State) (i : Nat) (φ : UnitCnt → UnitCnt) (hφ : ∀ x, (φ x).ue = x.ue) :
    s.SameEngines (s.modUnit i φ) := by
  refine ⟨rfl, fun hs => State.modUnit_unitsOk hs i φ, fun hs k => ?_, rfl⟩
  rw [State.unit_modUnit hs]
  split
  · exact hφ _
  · rfl

theorem State.failOnEngine_sameEngines (s : State) (p : Pipe) (engine : Nat) (f : Frame) (n : Nat) :
    s.SameEngines (s.failOnEngine p engine f n) := by
  unfold State.failOnEngine
  extract_lets counted
  have hc : s.SameEngines counted :=
    List.foldlRecOn _ _ (.refl s) fun t ht i _ => ht.trans (t.modUnit_sameEngines i _ fun _ => rfl)
  exact hc.trans (.of_eq (by simp) (by simp [State.besideEng]))

theorem State.sramFails_sameEngines (s : State) (p : Pipe) (engine : Nat) (held : List Word) :
    s.SameEngines (s.sramFails p engine held) :=
  State.sramFails_keeps (.refl s) (fun t f n ht => ht.trans (t.failOnEngine_sameEngines p engine f n)) held

/-- The error counted in its units (R174). -/
def State.sramCounted (s : State) (engine : Nat) : State :=
  ([21 + engine, 5 + engine / 8] ++ unitsAbove (engine / 8)).foldl
    (fun s u => s.modUnit u (fun x => { x with ue := satInc x.ue 1 0xffffffff })) s

/-- What counting in a unit keeps. -/
theorem State.sramCounted_keeps {β : Type} (s : State) (v : State → β) (h : ∀ (t : State) i φ, v (t.modUnit i φ) = v t) (engine : Nat) :
    v (s.sramCounted engine) = v s := by
  unfold State.sramCounted
  exact foldl_keeps v _ (fun t u => h t u _) _ s

/-- The error counts in the engine, its sheaf, its stook and the array (R174). -/
theorem State.sramCounted_ue {s : State} (h : s.unitsOk) (engine k : Nat) : (s.sramCounted engine).unitsOk ∧
    ((s.sramCounted engine).unit k).ue = if k ∈ [21 + engine, 5 + engine / 8, 0, 1 + engine / 32]
      then satInc (s.unit k).ue 1 0xffffffff else (s.unit k).ue := by
  have hlist : [21 + engine, 5 + engine / 8] ++ unitsAbove (engine / 8) = [21 + engine, 5 + engine / 8, 0, 1 + engine / 32] := by
    simp [unitsAbove, Nat.div_div_eq_div_mul]
  have hnd : [21 + engine, 5 + engine / 8, 0, 1 + engine / 32].Nodup := by
    simp
    omega
  unfold State.sramCounted
  rw [hlist]
  obtain ⟨hok, hk⟩ := State.unit_foldl_modUnit h (fun x => { x with ue := satInc x.ue 1 0xffffffff }) _ hnd k
  refine ⟨hok, ?_⟩
  rw [hk]
  split <;> rfl

/-- The error counted and noted for its sheaf, before the frames it fails. -/
def State.sramNoted (s : State) (engine : Nat) : State :=
  (s.sramCounted engine).modSheaf (engine / 8)
    (fun x => { x with ues := (s.sramCounted engine).pa.lastNo :: x.ues.filter (near64 (s.sramCounted engine).pa.lastNo) })

theorem State.sramNoted_pl (s : State) (engine : Nat) (p : Pipe) : (s.sramNoted engine).pl p = s.pl p :=
  s.sramCounted_keeps (State.pl · p) (fun _ _ _ => by cases p <;> rfl) engine

theorem State.sramNoted_besideEng (s : State) (engine : Nat) : (s.sramNoted engine).besideEng = s.besideEng :=
  s.sramCounted_keeps State.besideEng (fun _ _ _ => rfl) engine

/-- The error is noted for its sheaf (R184). -/
theorem State.sramNoted_sheaf (s : State) (engine j : Nat) : (s.sramNoted engine).sheaf j =
    if engine / 8 = j ∧ j < s.eng.sheaves.length
    then { s.sheaf j with ues := s.pa.lastNo :: (s.sheaf j).ues.filter (near64 s.pa.lastNo) } else s.sheaf j := by
  have hpa : (s.sramCounted engine).pa = s.pa := s.sramCounted_keeps State.pa (fun _ _ _ => rfl) engine
  have hsh : (s.sramCounted engine).eng.sheaves = s.eng.sheaves := s.sramCounted_keeps (fun t => t.eng.sheaves) (fun _ _ _ => rfl) engine
  rw [State.sramNoted, State.sheaf_modSheaf, hpa, hsh, State.sheaf, hsh]
  rfl

theorem State.engineSramUe_eq (s : State) (engine : Nat) (heldA heldB : List Word) :
    s.engineSramUe engine heldA heldB = ((s.sramNoted engine).sramFails .A engine heldA).sramFails .B engine heldB := rfl

theorem State.engineSramUe_sameEngines (s : State) (engine : Nat) (heldA heldB : List Word) :
    (s.sramNoted engine).SameEngines (s.engineSramUe engine heldA heldB) :=
  (State.sramFails_sameEngines _ .A engine heldA).trans (State.sramFails_sameEngines _ .B engine heldB)

/-- The frames that the error held and that are placed on its engine fail, on either pipeline. -/
theorem State.engineSramUe_tileFailed {s : State} {p : Pipe} {engine : Nat} {f : Frame} (heldA heldB : List Word)
    (hf : f ∈ (s.pl p).frames) (hst : ∃ st, f.failedStage p engine (if p = .A then heldA else heldB) = some st) :
    (s.engineSramUe engine heldA heldB).TileFailed p f.n := by
  have hn : f ∈ ((s.sramNoted engine).pl p).frames := by rw [State.sramNoted_pl]; exact hf
  rw [State.engineSramUe_eq]
  cases p with
  | A =>
    have ha := State.sramFails_tileFailed hn hst
    rw [State.TileFailed, State.sramFails_pl_other _ (by decide)]
    exact ha
  | B =>
    rw [← State.sramFails_pl_other (p := .B) (q := .A) _ (by decide) engine heldA] at hn
    exact State.sramFails_tileFailed hn hst

end Sys2Proof.Machine

namespace Sys2Proof.Machine

/-! ## Sheaves offline, back and tested (02 R51, 08 R177, R185, R186, 14 R311, R314) -/

theorem State.modSheaf_modSheaf (s : State) (i : Nat) (f g : Sheaf → Sheaf) : (s.modSheaf i f).modSheaf i g = s.modSheaf i (g ∘ f) := by
  simp [State.modSheaf, modAt, List.modify_modify_eq]

section
variable {s : State} {i : Nat}

/-- A request accepted now, with the requests that stood before it (R51). -/
theorem State.requestSheaf_eq (s : State) (i : Nat) (off ret : Bool) : ∃ q,
    s.requestSheaf i off ret = s.modSheaf i (fun x => { x with offReq := off, ret := ret, prior := some q }) ∧
      ((s.sheaf i).prior = none → q = (s.now, (s.sheaf i).offReq, (s.sheaf i).ret)) :=
  ⟨s.requestsBefore (s.sheaf i), rfl, fun h => by simp [State.requestsBefore, h]⟩

/-- The demand of the settings in force and of the pending ones fits in a number of sheaves (R177). -/
def State.fitsIn (s : State) (n : Nat) : Prop :=
  ∀ ls ∈ [s.loads s.pa.inForce s.pb.inForce, s.pendingLoads], ∀ cool, engineBudget ls cool n = true

/-- The sheaves that are left without one (R177, R185). -/
def State.onWithout (s : State) (i : Nat) : Nat := if (s.sheaf i).st = .idle then s.sOn - 1 else s.sOn

theorem State.offlineReq_of_asked (h : (s.sheaf i).offReq = true) : s.offlineReq i = s := by
  simp [State.offlineReq, h]

theorem State.offlineReq_of_fits (h : (s.sheaf i).offReq = false) (hf : s.fitsIn (s.onWithout i)) :
    s.offlineReq i = s.requestSheaf i true false := by
  have hb (ls : List Load) (hl : ls ∈ [s.loads s.pa.inForce s.pb.inForce, s.pendingLoads]) (cool : Bool) :
      engineBudget ls cool (if (s.sheaf i).online then s.sOn - 1 else s.sOn) = true := by
    simpa [Sheaf.online, State.onWithout] using hf ls hl cool
  unfold State.offlineReq
  simp [h, hb]

/-- Some demand exceeds the sheaves that are left (R177). -/
theorem State.offlineReq_of_exceeds (h : (s.sheaf i).offReq = false) {ls : List Load}
    (hls : ls ∈ [s.loads s.pa.inForce s.pb.inForce, s.pendingLoads]) {cool : Bool}
    (hb : engineBudget ls cool (s.onWithout i) = false) : s.offlineReq i = s.post0 0x0063 [word i] := by
  have hon : (if (s.sheaf i).online then s.sOn - 1 else s.sOn) = s.onWithout i := by simp [Sheaf.online, State.onWithout]
  have hcool : (engineBudget ls false (s.onWithout i) && engineBudget ls true (s.onWithout i)) = false := by
    cases cool <;> simp [hb]
  unfold State.offlineReq
  simp only [h, hon]
  obtain rfl | rfl : ls = s.loads s.pa.inForce s.pb.inForce ∨ ls = s.pendingLoads := by simpa using hls
  · simp [hcool, State.refuseOffline]
  · simp [hcool, State.refuseOffline]

/-- A sheaf failed, or tested after a failure (R185). -/
def Sheaf.hasFailed (x : Sheaf) : Prop := x.st = .failed ∨ x.st = .test ∧ x.prev = .failed

theorem State.returnReq_of_sound (h : ¬(s.sheaf i).hasFailed) : s.returnReq i = s.requestSheaf i false (s.sheaf i).ret := by
  have hf : (decide ((s.sheaf i).st = .failed) || (decide ((s.sheaf i).st = .test) && decide ((s.sheaf i).prev = .failed))) = false := by
    simpa [Sheaf.hasFailed] using h
  simp only [State.returnReq, hf, Bool.or_false, Bool.false_and]
  rfl

theorem State.returnReq_of_failed (h : (s.sheaf i).hasFailed) :
    s.returnReq i = if (s.sheaf i).passed then s.requestSheaf i false true else s.post0 0x0063 [word i] := by
  have hf : (decide ((s.sheaf i).st = .failed) || (decide ((s.sheaf i).st = .test) && decide ((s.sheaf i).prev = .failed))) = true := by
    simpa [Sheaf.hasFailed] using h
  cases hp : (s.sheaf i).passed <;> simp [State.returnReq, hf, hp, State.refuseOffline]

theorem State.sheafDrained_eq (s : State) (i : Nat) : s.sheafDrained i =
    if (s.sheaf i).st = .draining ∧ s.sheafInUse i = false then s.modSheaf i (fun x => { x with st := .offline }) else s := by
  simp [State.sheafDrained]

theorem State.testReq_eq (s : State) (i : Nat) : s.testReq i =
    if (s.sheaf i).st = .offline ∨ (s.sheaf i).st = .failed
    then s.modSheaf i (fun y => { y with prev := y.st, st := .test, sched := false }) else s.post0 0x0063 [word i] := by
  simp [State.testReq, State.startTest, State.refuseOffline]

theorem State.sheafRetest_of_due {t : Nat} (h : (s.sheaf i).st = .failed) (hr : (s.sheaf i).retestAt = some t) (ht : t ≤ s.now) :
    s.sheafRetest i = s.modSheaf i (fun y => { y with retestAt := none, prev := y.st, st := .test, sched := true }) := by
  simp only [State.sheafRetest, hr, h, ht, State.startTest, State.modSheaf_modSheaf]
  rfl

theorem State.sheafRetest_of_not_due (h : (s.sheaf i).st ≠ .failed ∨ ∀ t, (s.sheaf i).retestAt = some t → s.now < t) :
    s.sheafRetest i = s := by
  unfold State.sheafRetest
  dsimp only
  split
  · next t hr =>
    have hno : ¬((s.sheaf i).st = .failed ∧ t ≤ s.now) := by
      rintro ⟨hf, ht⟩
      obtain h | h := h
      · exact h hf
      · exact absurd (h t hr) (Nat.not_lt.mpr ht)
    exact if_neg (by simpa using hno)
  · rfl

/-! ### Self-tests and warning bit 9 (R186, R311) -/

theorem State.warnBit_warn (s : State) (b : Nat) : (s.warnBit b).saf.warn / 2 ^ b % 2 = 1 := by
  unfold State.warnBit
  split
  · assumption
  · next h =>
    rw [State.post0_saf]
    have hd : (s.saf.warn + 2 ^ b) / 2 ^ b = s.saf.warn / 2 ^ b + 1 := Nat.add_div_right _ (Nat.two_pow_pos b)
    dsimp only
    omega

theorem State.warnBit_keeps (s : State) (b : Nat) : (s.warnBit b).saf.testFail = s.saf.testFail ∧ (s.warnBit b).eng = s.eng ∧
    (s.warnBit b).sup = s.sup ∧ (s.warnBit b).pa = s.pa ∧ (s.warnBit b).pb = s.pb := by
  unfold State.warnBit
  split <;> simp

/-- The sheaf after a self-test (R186). -/
def Sheaf.tested (x : Sheaf) (pass : Bool) : Sheaf :=
  { x with st := x.prev, result := if pass then 1 else 2, passed := x.passed || (pass && decide (x.prev = .failed)),
           history := if pass then [] else x.history, ues := if pass then [] else x.ues, sched := false }

theorem State.sheafTest_of_test (h : (s.sheaf i).st = .test) (pass : Bool) : s.sheafTest i pass =
    if (s.sheaf i).sched
    then ((s.modSheaf i (fun x => x.tested pass)).post0 0x0064 [word i, if pass then 1#32 else 2#32]).testRan (8 + i) pass
    else (s.modSheaf i (fun x => x.tested pass)).post0 0x0064 [word i, if pass then 1#32 else 2#32] := by
  simp [State.sheafTest, h]
  rfl

theorem State.testRan_pass (s : State) (n : Nat) : s.testRan n true =
    { s with saf := { s.saf with testFail := s.saf.testFail.filter (fun k => decide (k ≠ n)) } } := rfl

/-- A failed test stands among the failed ones and sets bit 9. -/
theorem State.testRan_fail (s : State) (n : Nat) :
    (s.testRan n false).saf.testFail = n :: s.saf.testFail.filter (fun k => decide (k ≠ n)) ∧
    (s.testRan n false).saf.warn / 2 ^ 9 % 2 = 1 ∧ (s.testRan n false).eng = s.eng ∧ (s.testRan n false).sup = s.sup ∧
    (s.testRan n false).pa = s.pa ∧ (s.testRan n false).pb = s.pb := by
  unfold State.testRan
  extract_lets l _ s1
  obtain ⟨htf, heng, hsup, hpa, hpb⟩ := s1.warnBit_keeps 9
  exact ⟨htf, s1.warnBit_warn 9, heng, hsup, hpa, hpb⟩

end

end Sys2Proof.Machine

namespace Sys2Proof.Machine

/-! ## The array's commands (O36) -/

section
variable {s : State} {dt : Nat} (hl : (s.elapse dt).live = true)
include hl

theorem exec_offlineReq_of_live (i : Fin 16) : exec (.offlineReq dt i) s = .next ((s.elapse dt).offlineReq i.val) :=
  congrArg Host.Outcome.next (State.run_of_live hl _)

theorem exec_returnRequest_of_live (i : Fin 16) : exec (.returnRequest dt i) s = .next ((s.elapse dt).returnReq i.val) :=
  congrArg Host.Outcome.next (State.run_of_live hl _)

theorem exec_sheafDrained_of_live (i : Fin 16) : exec (.sheafDrained dt i) s = .next ((s.elapse dt).sheafDrained i.val) :=
  congrArg Host.Outcome.next (State.run_of_live hl _)

theorem exec_testReq_of_live (i : Fin 16) : exec (.testReq dt i) s = .next ((s.elapse dt).testReq i.val) :=
  congrArg Host.Outcome.next (State.run_of_live hl _)

theorem exec_sheafTest_of_live (i : Fin 16) (pass : Bool) :
    exec (.sheafTest dt i pass) s = .next ((s.elapse dt).sheafTest i.val pass) :=
  congrArg Host.Outcome.next (State.run_of_live hl _)

theorem exec_sheafRetest_of_live (i : Fin 16) : exec (.sheafRetest dt i) s = .next ((s.elapse dt).sheafRetest i.val) :=
  congrArg Host.Outcome.next (State.run_of_live hl _)

theorem exec_engineSramUe_of_live (e : Fin 128) (heldA heldB : List Word) :
    exec (.engineSramUe dt e heldA heldB) s = .next ((s.elapse dt).engineSramUe e.val heldA heldB) :=
  congrArg Host.Outcome.next (State.run_of_live hl _)

end

section
variable {s : State} {i : Nat}

/-- An unscheduled self-test that fails (R186). -/
theorem State.sheafTest_fail (h : (s.sheaf i).st = .test) (hs : (s.sheaf i).sched = false) : s.sheafTest i false =
    (s.modSheaf i (fun x => { x with st := x.prev, result := 2, sched := false })).post0 0x0064 [word i, 2#32] := by
  rw [State.sheafTest_of_test h, hs]
  simp [Sheaf.tested]

/-- A self-test that passes (R186): a scheduled one also leaves the failed tests. -/
theorem State.sheafTest_pass {v : State} (h : (s.sheaf i).st = .test)
    (hv : v = (s.modSheaf i (fun x => { x with
        st := x.prev, result := 1, passed := x.passed || decide (x.prev = .failed), history := [], ues := [], sched := false })).post0
      0x0064 [word i, 1#32]) : s.sheafTest i true =
    if (s.sheaf i).sched = true
    then { v with saf := { v.saf with testFail := s.saf.testFail.filter (fun k => decide (k ≠ 8 + i)) } } else v := by
  have hv' : v = (s.modSheaf i (fun x => x.tested true)).post0 0x0064 [word i, 1#32] := by simpa [Sheaf.tested] using hv
  have hsaf : v.saf = s.saf := by rw [hv, State.post0_saf]; rfl
  rw [State.sheafTest_of_test h, State.testRan_pass, if_pos rfl, ← hv', hsaf]

/-- A scheduled self-test that fails sets warning bit 9 (R186, R311). -/
theorem State.sheafTest_sched_fail (h : (s.sheaf i).st = .test) (hs : (s.sheaf i).sched = true) :
    (s.sheafTest i false).sheaf i = (s.modSheaf i (fun x => { x with st := x.prev, result := 2, sched := false })).sheaf i ∧
    (s.sheafTest i false).saf.testFail = (8 + i) :: s.saf.testFail.filter (fun k => decide (k ≠ 8 + i)) ∧
    (s.sheafTest i false).saf.warn / 2 ^ 9 % 2 = 1 ∧ (s.sheafTest i false).sup = s.sup ∧
    (s.sheafTest i false).pa = s.pa ∧ (s.sheafTest i false).pb = s.pb := by
  rw [State.sheafTest_of_test h, if_pos hs]
  obtain ⟨htf, hwarn, heng, hsup, hpa, hpb⟩ :=
    State.testRan_fail ((s.modSheaf i (fun x => x.tested false)).post0 0x0064 [word i, 2#32]) (8 + i)
  simp only [State.post0_saf, State.post0_eng, State.post0_sup, State.post0_pa, State.post0_pb] at htf heng hsup hpa hpb
  refine ⟨?_, htf, hwarn, hsup, hpa, hpb⟩
  rw [State.sheaf, if_neg Bool.false_ne_true, heng]
  simp [Sheaf.tested, State.sheaf]

end

/-- The error of an engine's SRAM counted, noted and told to the frames that it held, and nothing else (R174, R183). -/
theorem State.engineSramUe_spec {u : State} (e : Fin 128) (heldA heldB : List Word) (hlen : u.eng.sheaves.length = 16) (hok : u.unitsOk)
    {t : State} (ht : t = u.engineSramUe e.val heldA heldB) :
    (∀ k, (t.unit k).ue = if k ∈ [21 + e.val, 5 + e.val / 8, 0, 1 + e.val / 32]
      then satInc (u.unit k).ue 1 0xffffffff else (u.unit k).ue) ∧
    (∀ j, t.sheaf j = if e.val / 8 = j
      then { u.sheaf j with ues := u.pa.lastNo :: (u.sheaf j).ues.filter (near64 u.pa.lastNo) } else u.sheaf j) ∧
    t.besideEng = u.besideEng := by
  have hsame : (u.sramNoted e.val).SameEngines t := ht ▸ u.engineSramUe_sameEngines e.val heldA heldB
  have hcnt : (u.sramNoted e.val).unitsOk := (State.sramCounted_ue hok e.val 0).1
  refine ⟨fun k => ?_, fun j => ?_, hsame.beside.trans (u.sramNoted_besideEng e.val)⟩
  · exact (hsame.ue hcnt k).trans (State.sramCounted_ue hok e.val k).2
  · have hj : t.sheaf j = (u.sramNoted e.val).sheaf j := by rw [State.sheaf, hsame.sheaves]; rfl
    have hlt : e.val / 8 = j ∧ j < u.eng.sheaves.length ↔ e.val / 8 = j := by omega
    rw [hj, State.sramNoted_sheaf]
    simp only [hlt]

/-- Settles O36: each request by what the sheaf is, and the error as counted, noted and told to the frames that it held. -/
theorem engineArray : Obligations.EngineArray := by
  unfold Obligations.EngineArray
  constructor
  · rintro dt i x n s u rfl hl rfl rfl
    rw [exec_offlineReq_of_live hl, exec_returnRequest_of_live hl, exec_sheafDrained_of_live hl, exec_testReq_of_live hl,
      exec_sheafTest_of_live hl, exec_sheafTest_of_live hl, exec_sheafRetest_of_live hl]
    generalize s.elapse dt = u
    obtain ⟨q, hq, hq0⟩ := u.requestSheaf_eq i.val true false
    obtain ⟨r, hr, -⟩ := u.requestSheaf_eq i.val false (u.sheaf i.val).ret
    obtain ⟨p, hp, hp0⟩ := u.requestSheaf_eq i.val false true
    refine ⟨fun h => ?_, fun h hf => ⟨q, ?_, hq0⟩, fun h ⟨ls, hls, cool, hb⟩ => ?_, fun h ht => ⟨r, ?_⟩, fun h hpass => ⟨p, ?_, hp0⟩,
      fun h hpass => ?_, fun h hu => ?_, fun h => ?_, fun h => ?_, fun h h' => ?_, fun v hv h => ?_, fun h hs => ?_, fun h hs => ?_,
      fun t h hr ht => ?_, fun h => ?_⟩
    · rw [State.offlineReq_of_asked h]
    · rw [State.offlineReq_of_fits h hf, hq]
    · rw [State.offlineReq_of_exceeds h hls hb]
    · rw [State.returnReq_of_sound (fun hf => hf.elim h fun ⟨ht1, ht2⟩ => ht ht1 ht2), hr]
    · rw [State.returnReq_of_failed h, if_pos hpass, hp]
    · rw [State.returnReq_of_failed h, hpass]
      rfl
    · rw [State.sheafDrained_eq, if_pos ⟨h, hu⟩]
    · rw [State.sheafDrained_eq, if_neg (fun ⟨hd, hu⟩ => h.elim (fun hn => hn hd) fun ht => by simp [hu] at ht)]
    · rw [State.testReq_eq, if_pos h]
    · rw [State.testReq_eq, if_neg (fun hd => hd.elim h h')]
    · rw [State.sheafTest_pass h hv]
    · rw [State.sheafTest_fail h hs]
    · exact ⟨_, rfl, State.sheafTest_sched_fail h hs⟩
    · rw [State.sheafRetest_of_due h hr ht]
    · rw [State.sheafRetest_of_not_due h]
  · rintro dt e heldA heldB s u rfl hl hlen hok
    rw [exec_engineSramUe_of_live hl]
    generalize s.elapse dt = u at hlen hok ⊢
    obtain ⟨hue, hsh, hbeside⟩ := State.engineSramUe_spec e heldA heldB hlen hok rfl
    simp only [State.besideEng, BesideEng.mk.injEq] at hbeside
    refine ⟨_, rfl, hue, (hsh _).trans (if_pos rfl), fun j hj => (hsh j).trans (if_neg hj.symm), fun p f hf hheld hplace => ?_, hbeside⟩
    have hstage : ∃ st, f.failedStage p e.val (if p = .A then heldA else heldB) = some st := Frame.failedStage_isSome hheld hplace
    exact State.engineSramUe_tileFailed heldA heldB hf hstage

end Sys2Proof.Machine

namespace Sys2Proof.Machine

/-! ## Control of the column channels and of the front pipes (03 R70, R77, 04 R106) -/

theorem State.writeCchReq_of_go {v : Word} (hv : bit v 31 = true) (s : State) : s.writeCchReq v =
    if s.mode = .calibration ∧ fld v 22 16 ≤ 64
    then s.setGrp (fld v 22 16) { s.grp (fld v 22 16) with request := some (fld v 4 0) } else s.post0 0x0036 [] := by
  unfold State.writeCchReq
  rw [hv, if_neg (by simp)]
  by_cases h : s.mode = .calibration ∧ fld v 22 16 ≤ 64
  · rw [if_neg (by simp [h]), if_pos h]
  · rw [if_pos (by simpa [imp_iff_not_or] using h), if_neg h]

theorem fld_lt (w : Word) (hi lo : Nat) : fld w hi lo < 2 ^ (hi + 1 - lo) := Nat.mod_lt _ (Nat.two_pow_pos _)

/-- The word of CCH_CTRL that keeps a write's fields and drops its reserved bits. -/
def cchCtrlWord (v : Word) : Word := word (v.toNat % 2 + at_ (fld v 11 8) 8 + at_ (fld v 19 16) 16 + at_ (fld v 27 24) 24)

theorem cchCtrlWord_fields (v : Word) : bit (cchCtrlWord v) 0 = bit v 0 ∧ fld (cchCtrlWord v) 11 8 = fld v 11 8 ∧
    fld (cchCtrlWord v) 19 16 = fld v 19 16 ∧ fld (cchCtrlWord v) 27 24 = fld v 27 24 := by
  have ha : v.toNat % 2 < 2 := Nat.mod_lt _ (by decide)
  have hb : fld v 11 8 < 16 := fld_lt v 11 8
  have hc : fld v 19 16 < 16 := fld_lt v 19 16
  have hd : fld v 27 24 < 16 := fld_lt v 27 24
  have hbit : bit v 0 = decide (v.toNat % 2 = 1) := by simp [bit]
  rw [hbit, cchCtrlWord]
  generalize v.toNat % 2 = a at ha ⊢
  generalize fld v 11 8 = b at hb ⊢
  generalize fld v 19 16 = c at hc ⊢
  generalize fld v 27 24 = d at hd ⊢
  have hw : (word (a + at_ b 8 + at_ c 16 + at_ d 24)).toNat = a + b * 256 + c * 65536 + d * 16777216 := by
    simp only [word, at_, BitVec.toNat_ofNat, Nat.reducePow]
    omega
  simp only [bit, fld, hw, Nat.reducePow, Nat.reduceAdd, Nat.reduceSub, decide_eq_decide]
  omega

theorem State.writeCchCtrl_eq (s : State) (v : Word) : s.writeCchCtrl v = s.accept .A (fun st => { st with cchCtrl := cchCtrlWord v }) := rfl

theorem State.writeFpCtrl_of_bypass {s : State} (h : s.mode = .calibration ∨ s.mode = .diagnostic) (p : Pipe) (v : Word) :
    s.writeFpCtrl p v = s.accept p (fun st => { st with fp := word (v.toNat % 2 + fld v 7 4 * 16) }) := by
  have hok : (decide (s.mode = .calibration) || decide (s.mode = .diagnostic)) = true := by simpa using h
  simp [State.writeFpCtrl, hok, at_]

theorem State.writeFpCtrl_of_no_bypass {s : State} (hc : s.mode ≠ .calibration) (hd : s.mode ≠ .diagnostic) (p : Pipe) (v : Word) :
    s.writeFpCtrl p v = if fld v 7 4 = 0 then s.accept p (fun st => { st with fp := word (v.toNat % 2) })
      else (s.accept p (fun st => { st with fp := word (v.toNat % 2) })).postP p 0x0014 [] := by
  simp [State.writeFpCtrl, hc, hd, at_, State.postP]

section
variable {s : State} {dt : Nat} (hl : (s.elapse dt).live = true)
include hl

theorem exec_cchReq_of_live (v : Word) : exec (.cchReq dt v) s = .next ((s.elapse dt).writeCchReq v) :=
  congrArg Host.Outcome.next (State.run_of_live hl _)

theorem exec_cchCtrl_of_live (v : Word) : exec (.cchCtrl dt v) s = .next ((s.elapse dt).writeCchCtrl v) :=
  congrArg Host.Outcome.next (State.run_of_live hl _)

theorem exec_fpCtrl_of_live (p : Pipe) (v : Word) : exec (.fpCtrl dt p v) s = .next ((s.elapse dt).writeFpCtrl p v) :=
  congrArg Host.Outcome.next (State.run_of_live hl _)

end

/-- Settles O29: a request by mode and group, the word that CCH_CTRL takes by its fields, and FP_CTRL with and without its bypass bits. -/
theorem columnAndPipeControl : Obligations.ColumnAndPipeControl := by
  unfold Obligations.ColumnAndPipeControl
  refine ⟨?_, ?_, ?_⟩
  · rintro dt v s u rfl hl hv
    rw [exec_cchReq_of_live hl, State.writeCchReq_of_go hv]
  · rintro dt v s u rfl hl
    exact ⟨_, cchCtrlWord v, exec_cchCtrl_of_live hl v, State.writeCchCtrl_eq _ v, cchCtrlWord_fields v⟩
  · rintro dt p v s u rfl hl
    rw [exec_fpCtrl_of_live hl]
    exact ⟨fun h => by rw [State.writeFpCtrl_of_bypass h], fun hc hd => by rw [State.writeFpCtrl_of_no_bypass hc hd]⟩

end Sys2Proof.Machine

namespace Sys2Proof.Machine

/-! ## Records with one valid copy and with none (15 R340 to R342) -/

/-- One copy of the record is valid, with this SEQ and content. -/
def Rec.OneCopy {α : Type} (r : Rec α) (n : Nat) (x : α) : Prop := r = ⟨none, some (n, x)⟩ ∨ r = ⟨some (n, x), none⟩

theorem Rec.write_both {α : Type} (n : Nat) (x y : α) : (Rec.both n x).write y = Rec.both ((n + 1) % 2 ^ 32) y := by
  simp [Rec.write, Rec.resolve, Rec.both]

/-- No copy is taken only where none is valid. -/
theorem Rec.resolve_isNone {α : Type} (r : Rec α) : r.resolve.isNone = (r.a.isNone && r.b.isNone) := by
  obtain ⟨_ | a, _ | b⟩ := r
  case some.some =>
    simp only [Rec.resolve]
    (repeat' split) <;> rfl
  all_goals rfl

theorem Rec.OneCopy.settled {α : Type} {r : Rec α} {n : Nat} {x : α} (h : r.OneCopy n x) (d : α) : r.settled d = Rec.both n x := by
  obtain rfl | rfl := h <;> rfl

/-- What stands of a state once a wrong copy of a record has been reported (R341): all that a record's content is taken from,
with warning bit 13 set. -/
structure State.Reported (s t : State) : Prop where
  now : t.now = s.now
  sup : t.sup = s.sup
  cch : t.cch = s.cch
  nv : t.nv = s.nv
  warned : t.saf.warn / 2 ^ 13 % 2 = 1

theorem State.warnBit_now (s : State) (b : Nat) : (s.warnBit b).now = s.now := by
  unfold State.warnBit
  split <;> simp

theorem State.warnBit_cch (s : State) (b : Nat) : (s.warnBit b).cch = s.cch := by
  unfold State.warnBit
  split <;> simp

theorem State.warnBit_nv (s : State) (b : Nat) : (s.warnBit b).nv = s.nv := by
  unfold State.warnBit
  split <;> simp

theorem State.warnBit_sup (s : State) (b : Nat) : (s.warnBit b).sup = s.sup := by
  obtain ⟨-, -, hsup, -⟩ := s.warnBit_keeps b
  exact hsup

/-- The warning of a wrong copy after reports that leave the rest. -/
theorem State.warnBit_reported {s t : State} (hn : t.now = s.now) (hs : t.sup = s.sup) (hc : t.cch = s.cch) (hv : t.nv = s.nv) :
    s.Reported (t.warnBit 13) :=
  ⟨(t.warnBit_now 13).trans hn, (t.warnBit_sup 13).trans hs, (t.warnBit_cch 13).trans hc, (t.warnBit_nv 13).trans hv, t.warnBit_warn 13⟩

theorem State.recovered_reported (s : State) (offset : Nat) (tookA : Bool) : s.Reported (s.recovered offset tookA true) :=
  State.warnBit_reported (by simp) (by simp) (by simp) (by simp)

/-- A record found lost is logged too. -/
theorem State.lost_reported (s : State) (offset : Nat) : (s.logCause 3 0x00e1 [offset, 0, 0]).Reported (s.lost offset) :=
  State.warnBit_reported (by simp) (by simp [State.logCause]) (by simp) (by simp)

section
variable {α : Type} {r : Rec α} {n : Nat} {x : α} (s : State) (d : α) (offset : Nat) (put : Nv → Rec α → Nv)

theorem State.resolveRec_reported (h : r.OneCopy n x) : s.Reported (s.resolveRec r offset) := by
  obtain rfl | rfl := h
  · exact s.recovered_reported offset false
  · exact s.recovered_reported offset true

theorem State.readRec_of_valid (ha : r.a.isSome = true) (hb : r.b.isSome = true) : s.readRec r d offset put = s := by
  simp [State.readRec, ha, hb]

/-- A record with a wrong copy is reported, and settled to the valid one. -/
theorem State.readRec_of_oneCopy (h : r.OneCopy n x) :
    ∃ v, s.Reported v ∧ s.readRec r d offset put = { v with nv := put s.nv (Rec.both n x) } := by
  have hv := s.resolveRec_reported offset h
  refine ⟨_, hv, ?_⟩
  have hbad : (r.a.isSome && r.b.isSome) = false := by obtain rfl | rfl := h <;> rfl
  rw [State.readRec, hbad, if_neg Bool.false_ne_true, h.settled, ← hv.nv]

end

/-! ## The TRIM records (03 R81, 15 R343) -/

/-- The TRIM records are listed in their canonical form. -/
def State.trimsOk (s : State) : Prop := SMap.ok (Rec.both 0 TrimGroup.zero) s.nv.trim = true

/-- Both copies of the TRIM record of a group are valid. -/
def State.trimValid (s : State) (g : Nat) : Prop := (s.nv.trimRec g).a.isSome = true ∧ (s.nv.trimRec g).b.isSome = true

section
variable {m : Nv} (h : SMap.ok (Rec.both 0 TrimGroup.zero) m.trim = true)
include h

theorem Nv.trimRec_putTrim (g k : Nat) (r : Rec TrimGroup) : (m.putTrim g r).trimRec k = if k = g then r else m.trimRec k :=
  SMap.get_put _ _ _ _ _ h

theorem Nv.ok_putTrim (g : Nat) (r : Rec TrimGroup) : SMap.ok (Rec.both 0 TrimGroup.zero) (m.putTrim g r).trim = true :=
  SMap.ok_put _ _ _ _ h

end

/-- The ledger after the next version of the TRIM record of a group. -/
def Nv.changeTrim (m : Nv) (g : Nat) (x : TrimGroup) : Nv := m.putTrim g ((m.trimRec g).write x)

theorem State.writeTrim_of_valid {s : State} {g : Nat} (h : s.trimValid g) :
    s.writeTrim g = { s with nv := s.nv.changeTrim g (s.trimNow g) } := by
  unfold State.writeTrim
  rw [s.readRec_of_valid _ _ _ h.1 h.2]
  rfl

/-- The records of several groups written: each group's own as its next version, and nothing else. -/
theorem State.foldl_writeTrim (gs : List Nat) (hgs : gs.Nodup) (s : State) (hok : s.trimsOk) (hval : ∀ g ∈ gs, s.trimValid g) :
    ∃ m, gs.foldl State.writeTrim s = { s with nv := { s.nv with trim := m } } ∧
      ∀ k, Nv.trimRec { s.nv with trim := m } k = if k ∈ gs then (s.nv.trimRec k).write (s.trimNow k) else s.nv.trimRec k := by
  induction gs generalizing s with
  | nil => exact ⟨s.nv.trim, rfl, fun k => by simp⟩
  | cons g gs ih =>
    obtain ⟨hg, hgs⟩ := List.nodup_cons.mp hgs
    have hput (k : Nat) : (s.nv.changeTrim g (s.trimNow g)).trimRec k = _ := Nv.trimRec_putTrim hok g k _
    have hsame : ∀ k ∈ gs, (s.nv.changeTrim g (s.trimNow g)).trimRec k = s.nv.trimRec k := fun k hk => by
      rw [hput, if_neg (ne_of_mem_of_not_mem hk hg)]
    obtain ⟨m, hm, hrec⟩ := ih hgs { s with nv := s.nv.changeTrim g (s.trimNow g) } (Nv.ok_putTrim hok _ _) fun k hk => by
      rw [State.trimValid, hsame k hk]
      exact hval k (.tail _ hk)
    refine ⟨m, ?_, fun k => (hrec k).trans ?_⟩
    · rw [List.foldl_cons, State.writeTrim_of_valid (hval g (.head _)), hm]
      rfl
    · by_cases hk : k ∈ gs
      · rw [if_pos hk, if_pos (.tail _ hk), hsame k hk]
        rfl
      · rw [if_neg hk, hput]
        simp only [List.mem_cons, hk, or_false]
        split
        · next e => rw [e]
        · rfl

/-- The records that are due, all of them valid. -/
theorem State.writeTrims_of_valid {s : State} (hnd : s.sup.trimDue.Nodup) (hok : s.trimsOk) (hval : ∀ g ∈ s.sup.trimDue, s.trimValid g) :
    ∃ m, s.writeTrims = { s with nv := { s.nv with trim := m }, sup := { s.sup with trimDue := [] } } ∧
      ∀ k, Nv.trimRec { s.nv with trim := m } k =
        if k ∈ s.sup.trimDue then (s.nv.trimRec k).write (s.trimNow k) else s.nv.trimRec k := by
  obtain ⟨m, hm, hrec⟩ := State.foldl_writeTrim s.sup.trimDue hnd s hok hval
  exact ⟨m, by rw [State.writeTrims, hm], hrec⟩

/-- One record that is due, with a wrong copy: settled, reported, and then written. -/
theorem State.writeTrims_of_oneCopy {s : State} {g n : Nat} {x : TrimGroup} (hd : s.sup.trimDue = [g]) (hok : s.trimsOk)
    (h : (s.nv.trimRec g).OneCopy n x) : s.writeTrims.sup = { s.sup with trimDue := [] } ∧
      (∀ k, s.writeTrims.nv.trimRec k = if k = g then Rec.both ((n + 1) % 2 ^ 32) (s.trimNow g) else s.nv.trimRec k) ∧
      s.writeTrims.saf.warn / 2 ^ 13 % 2 = 1 := by
  obtain ⟨v, hv, hr⟩ := s.readRec_of_oneCopy TrimGroup.zero (trimOffset g) (fun n r => n.putTrim g r) h
  have hnow : v.trimNow g = s.trimNow g := by simp only [State.trimNow, State.grp, State.chan, hv.cch]
  have hput (k : Nat) := Nv.trimRec_putTrim hok g k (Rec.both n x)
  have heq : s.writeTrims = { v with nv := (s.nv.putTrim g (Rec.both n x)).putTrim g (Rec.both ((n + 1) % 2 ^ 32) (s.trimNow g)),
                                     sup := { s.sup with trimDue := [] } } := by
    simp only [State.writeTrims, hd, List.foldl_cons, List.foldl_nil, State.writeTrim, hr, hput, if_true, Rec.write_both, hv.sup]
    rw [← hnow]
    rfl
  rw [heq]
  refine ⟨rfl, fun k => ?_, hv.warned⟩
  refine (Nv.trimRec_putTrim (Nv.ok_putTrim hok _ _) g k _).trans ?_
  rw [hput]
  split <;> rfl

end Sys2Proof.Machine

namespace Sys2Proof.Machine

/-! ## The bias record (02 R59) and the log (15 R347, R348) -/

section
variable {s : State}

theorem State.writeBias_of_none (h : s.sup.biasWrite = none) : s.writeBias = s := by
  rw [State.writeBias, h]

theorem State.writeBias_of_valid {b : Nat × Nat} (h : s.sup.biasWrite = some b) (ha : s.nv.bias.a.isSome = true)
    (hb : s.nv.bias.b.isSome = true) :
    s.writeBias = { s with nv := { s.nv with bias := s.nv.bias.write b }, sup := { s.sup with biasWrite := none } } := by
  simp only [State.writeBias, h, s.readRec_of_valid _ _ _ ha hb]

theorem State.writeBias_of_oneCopy {b x : Nat × Nat} {n : Nat} (h : s.sup.biasWrite = some b) (hr : s.nv.bias.OneCopy n x) :
    s.writeBias.nv = { s.nv with bias := Rec.both ((n + 1) % 2 ^ 32) b } ∧ s.writeBias.sup = { s.sup with biasWrite := none } ∧
      s.writeBias.saf.warn / 2 ^ 13 % 2 = 1 := by
  obtain ⟨v, hv, hread⟩ := s.readRec_of_oneCopy s.nv.identBias biasOffset (fun n r => { n with bias := r }) hr
  simp only [State.writeBias, h, hread, Rec.write_both, hv.sup]
  exact ⟨trivial, trivial, hv.warned⟩

/-- SEQ of the entry that follows the newest (R347). -/
def State.nextLogSeq (s : State) : Nat :=
  match newestLog s.nv.log with
  | some q => (q + 1) % 2 ^ 32
  | none => 0

theorem State.writeLog_of_idle (h : s.sup.logDue = [] ∨ s.sup.ledgerReady = false) : s.writeLog = s := by
  unfold State.writeLog
  split
  · rfl
  · next hd =>
    obtain he | hr := h
    · simp [he] at hd
    · simp [hr]

/-- The entry that a cause gets when it is written. -/
def State.logEntry (s : State) (k c : Nat) (a : List Nat) : LogEntry :=
  ⟨s.nextLogSeq, (s.tally 5).value, s.now / 125000, k, c, (a ++ [0, 0, 0]).take 3⟩

theorem State.writeLog_of_due {k c : Nat} {a : List Nat} {rest : List (Nat × Nat × List Nat)} (h : s.sup.logDue = (k, c, a) :: rest)
    (hr : s.sup.ledgerReady = true) : s.writeLog = { s with
      nv := { s.nv with log := SMap.put none s.nv.log (s.nextLogSeq % 2048) (some (s.logEntry k c a)) }
      sup := { s.sup with logDue := rest } } := by
  simp only [State.writeLog, h, hr, Bool.not_true, Bool.false_eq_true, if_false]
  rfl

/-! ## Lockouts and the guard record (09 R219, 15 R351, R352) -/

/-- Both copies of the guard record are valid. -/
def State.guardValid (s : State) : Prop := s.nv.guard.a.isSome = true ∧ s.nv.guard.b.isSome = true

theorem State.writeGuard_of_valid (h : s.guardValid) : s.writeGuard = { s with
    nv := { s.nv with guard := s.nv.guard.write ⟨s.sup.lockFails, (List.range 8).map s.lockLeft⟩ }
    sup := { s.sup with guardAt := s.now } } := by
  obtain ⟨ha, hb⟩ := h
  have hread : s.readGuard = s := by
    simp [State.readGuard, s.readRec_of_valid _ _ _ ha hb, Rec.resolve_isNone, Option.isNone_eq_false_iff.mpr ha]
  rw [State.writeGuard, hread]
  rfl

theorem State.lockFrom_zero_lockEnd (s : State) (j : Nat) (hj : j < s.sup.lockEnd.length) :
    ∃ e, (s.lockFrom 0).sup.lockEnd[j]? = some (some e) ∧ s.now + 3750000000 ≤ e := by
  refine ⟨max ((s.sup.lockEnd[j]).getD 0) (s.now + 30 * sec), ?_, ?_⟩
  · simp [State.lockFrom, hj]
  · exact le_max_right _ _

/-- A lost guard record (R342): counts 0, and everybody locked out for 30 s at least. -/
theorem State.writeGuard_of_lost (h : s.nv.guard = ⟨none, none⟩) : s.writeGuard.sup.lockFails = List.replicate 8 0 ∧
    s.writeGuard.sup.guardAt = s.now ∧
    (∀ j, j < s.sup.lockEnd.length → ∃ e, s.writeGuard.sup.lockEnd[j]? = some (some e) ∧ s.now + 3750000000 ≤ e) ∧
    s.writeGuard.saf.warn / 2 ^ 13 % 2 = 1 := by
  have hl := s.lost_reported guardOffset
  have hnow : (s.lost guardOffset).now = s.now := hl.now
  have hends : (s.lost guardOffset).sup.lockEnd = s.sup.lockEnd := by rw [hl.sup]; rfl
  have hwrite : s.writeGuard = State.putGuard (State.lockFrom { s.lost guardOffset with
      nv := { (s.lost guardOffset).nv with guard := Rec.both 1 ⟨List.replicate 8 0, List.replicate 8 30⟩ }
      sup := { (s.lost guardOffset).sup with lockFails := List.replicate 8 0 } } 0) := by
    simp [State.writeGuard, State.readGuard, State.readRec, State.resolveRec, h, Rec.resolve, Rec.settled]
  rw [hwrite]
  refine ⟨rfl, hnow, fun j hj => ?_, hl.warned⟩
  rw [← hnow]
  exact State.lockFrom_zero_lockEnd _ j (by simpa [hends] using hj)

/-- The rewrite falls due 16 s after the last write while a lockout runs. -/
theorem State.rewriteGuard_of_due {w : Nat} (hw : w < 8) (hl : s.lockedOut w = true) (ht : s.sup.guardAt + 2000000000 ≤ s.now) :
    s.rewriteGuard = s.writeGuard := by
  have hany : (List.range 8).any s.lockedOut = true := List.any_eq_true.mpr ⟨w, List.mem_range.mpr hw, hl⟩
  have hdue : s.sup.guardAt + 16 * sec ≤ s.now := ht
  simp [State.rewriteGuard, hany, hdue]

theorem State.rewriteGuard_of_not_due (h : (∀ w, w < 8 → s.lockedOut w = false) ∨ s.now < s.sup.guardAt + 2000000000) :
    s.rewriteGuard = s := by
  unfold State.rewriteGuard
  refine if_neg fun hd => ?_
  simp only [Bool.and_eq_true, List.any_eq_true, List.mem_range, decide_eq_true_eq] at hd
  obtain ⟨⟨w, hw, hl⟩, hdue⟩ := hd
  obtain hfree | hearly := h
  · simp [hfree w hw] at hl
  · exact absurd (show s.sup.guardAt + 2000000000 ≤ s.now from hdue) (Nat.not_le.mpr hearly)

theorem State.lockoutEnd_of_running {w e : Nat} (h : s.sup.lockEnd.getD w none = some e) (ht : s.now < e) : s.lockoutEnd w = s := by
  simp only [State.lockoutEnd, h]
  exact if_neg (Nat.not_le.mpr ht)

/-- The lockout of `w` taken out of the table, the record not yet rewritten. -/
def State.lockoutCleared (s : State) (w : Nat) : State := { s with sup := { s.sup with lockEnd := s.sup.lockEnd.set w none } }

theorem State.lockoutEnd_of_over {w e : Nat} (h : s.sup.lockEnd.getD w none = some e) (ht : e ≤ s.now) :
    s.lockoutEnd w = (s.lockoutCleared w).writeGuard := by
  simp only [State.lockoutEnd, h]
  exact if_pos ht

/-- Who has no time in the table is not locked out. -/
theorem State.lockedOut_of_none {w : Nat} (h : s.sup.lockEnd.getD w none = none) : s.lockedOut w = false := by
  rw [State.lockedOut, State.lockLeft, h]
  rfl

theorem State.lockoutCleared_lockEnd (s : State) (w : Nat) : (s.lockoutCleared w).sup.lockEnd.getD w none = none := by
  rw [State.lockoutCleared, List.getD_eq_getElem?_getD, List.getElem?_set_self']
  cases s.sup.lockEnd[w]? <;> rfl

/-! ## Operating time (15 R344) -/

/-- Nothing is counted before the ledger is ready, nor before the time has come. -/
theorem not_ready_and_due {ready : Bool} {due now : Int} (h : ready = false ∨ now < due) : ¬(ready && decide (due ≤ now)) = true := by
  obtain rfl | hearly := h
  · simp
  · simp [hearly]

theorem State.rewriteResid_of_due (hr : s.sup.ledgerReady = true) (ht : s.sup.residSince + 7500000000 ≤ (s.now : Int)) :
    s.rewriteResid = { s with
      nv := { s.nv with resid := min 359 ((s.sup.residSince + 7500000000 - s.sup.opSince) / 125000000).toNat }
      sup := { s.sup with residSince := s.sup.residSince + 7500000000 } } := by
  unfold State.rewriteResid
  exact if_pos (by rw [hr]; exact decide_eq_true ht)

theorem State.rewriteResid_of_not_due (h : s.sup.ledgerReady = false ∨ (s.now : Int) < s.sup.residSince + 7500000000) :
    s.rewriteResid = s := by
  unfold State.rewriteResid
  exact if_neg (not_ready_and_due h)

theorem State.countTally_of_valid {t : Nat} (ha : (s.tally t).high.a.isSome = true) (hb : (s.tally t).high.b.isSome = true) :
    s.countTally t = { s with nv := { s.nv with tally := modAt s.nv.tally t Tally.count } } := by
  simp only [State.countTally, s.readRec_of_valid _ _ _ ha hb]

theorem State.operating_of_due (hr : s.sup.ledgerReady = true) (ht : s.sup.opSince + 45000000000 ≤ (s.now : Int))
    (ha : (s.tally 4).high.a.isSome = true) (hb : (s.tally 4).high.b.isSome = true) : s.operating = { s with
      nv := { s.nv with tally := modAt s.nv.tally 4 Tally.count, resid := 0 }
      sup := { s.sup with opSince := s.sup.opSince + 45000000000, residSince := s.sup.opSince + 45000000000 } } := by
  unfold State.operating
  rw [State.countTally_of_valid ha hb]
  exact if_pos (by rw [hr]; exact decide_eq_true ht)

theorem State.operating_of_not_due (h : s.sup.ledgerReady = false ∨ (s.now : Int) < s.sup.opSince + 45000000000) :
    s.operating = s := by
  unfold State.operating
  exact if_neg (not_ready_and_due h)

end

/-! ## The commands -/

section
variable {s : State} {dt : Nat} (hl : (s.elapse dt).live = true)
include hl

theorem exec_trimRecordWrite_of_live : exec (.trimRecordWrite dt) s = .next (s.elapse dt).writeTrims :=
  congrArg Host.Outcome.next (State.run_of_live hl _)

theorem exec_biasRecordWrite_of_live : exec (.biasRecordWrite dt) s = .next (s.elapse dt).writeBias :=
  congrArg Host.Outcome.next (State.run_of_live hl _)

theorem exec_logEntryWrite_of_live : exec (.logEntryWrite dt) s = .next (s.elapse dt).writeLog :=
  congrArg Host.Outcome.next (State.run_of_live hl _)

theorem exec_guardRecordRewrite_of_live : exec (.guardRecordRewrite dt) s = .next (s.elapse dt).rewriteGuard :=
  congrArg Host.Outcome.next (State.run_of_live hl _)

theorem exec_residRewrite_of_live : exec (.residRewrite dt) s = .next (s.elapse dt).rewriteResid :=
  congrArg Host.Outcome.next (State.run_of_live hl _)

theorem exec_operatingTime_of_live : exec (.operatingTime dt) s = .next (s.elapse dt).operating :=
  congrArg Host.Outcome.next (State.run_of_live hl _)

theorem exec_lockoutEnd_of_live (w : Fin 8) : exec (.lockoutEnd dt w) s = .next ((s.elapse dt).lockoutEnd w.val) :=
  congrArg Host.Outcome.next (State.run_of_live hl _)

end

end Sys2Proof.Machine

namespace Sys2Proof.Machine

/-- Settles O55: each write by whether it is due and by the copies of its record that are valid. -/
theorem ledgerWrites : Obligations.LedgerWrites := by
  unfold Obligations.LedgerWrites
  refine ⟨?_, ?_, ?_, ?_⟩
  · rintro dt s u rfl hl hnd hok hval
    rw [exec_trimRecordWrite_of_live hl]
    obtain ⟨m, hm, hrec⟩ := State.writeTrims_of_valid hnd hok hval
    rw [hm]
    exact ⟨_, rfl, rfl, fun g hg => (hrec g).trans (if_pos hg), fun g hg => (hrec g).trans (if_neg hg)⟩
  · rintro dt g n x r s u rfl hl hd hok rfl hone
    obtain ⟨hsup, hrec, hwarn⟩ := State.writeTrims_of_oneCopy hd hok hone
    exact ⟨_, exec_trimRecordWrite_of_live hl, hsup, (hrec g).trans (if_pos rfl), fun h hh => (hrec h).trans (if_neg hh), hwarn⟩
  · rintro dt s u rfl hl
    rw [exec_biasRecordWrite_of_live hl, exec_logEntryWrite_of_live hl, exec_guardRecordRewrite_of_live hl,
      exec_residRewrite_of_live hl, exec_operatingTime_of_live hl]
    generalize s.elapse dt = u
    refine ⟨fun b hb h1 h2 => ?_, fun b n x hb hone => ?_, fun h => ?_, fun k c a rest q hd hr hok hq => ?_, fun h => ?_,
      fun w hw hlock ht h1 h2 => ?_, fun w hw hlock ht hlost => ?_, fun h => ?_, fun hr ht => ?_, fun h => ?_,
      fun hr ht h1 h2 => ?_, fun h => ?_⟩
    · rw [State.writeBias_of_valid hb h1 h2]
    · exact ⟨_, rfl, State.writeBias_of_oneCopy hb hone⟩
    · rw [State.writeBias_of_none h]
    · have hseq : q = u.nextLogSeq := hq
      have hput (i : Nat) := SMap.get_put none u.nv.log (q % 2048) i (some (u.logEntry k c a)) hok
      rw [hseq] at hput ⊢
      rw [State.writeLog_of_due hd hr]
      exact ⟨_, rfl, rfl, (hput _).trans (if_pos rfl), fun i hi => (hput i).trans (if_neg hi)⟩
    · rw [State.writeLog_of_idle h]
    · rw [State.rewriteGuard_of_due hw hlock ht, State.writeGuard_of_valid ⟨h1, h2⟩]
    · rw [State.rewriteGuard_of_due hw hlock ht]
      exact ⟨_, rfl, State.writeGuard_of_lost hlost⟩
    · rw [State.rewriteGuard_of_not_due h]
    · rw [State.rewriteResid_of_due hr ht]
    · rw [State.rewriteResid_of_not_due h]
    · rw [State.operating_of_due hr ht h1 h2]
    · rw [State.operating_of_not_due h]
  · rintro dt w e s u rfl hl he
    rw [exec_lockoutEnd_of_live hl]
    refine ⟨fun ht => by rw [State.lockoutEnd_of_running he ht], fun ht h1 h2 => ?_⟩
    have hval : ((s.elapse dt).lockoutCleared w.val).guardValid := ⟨h1, h2⟩
    rw [State.lockoutEnd_of_over he ht, State.writeGuard_of_valid hval]
    exact ⟨_, rfl, State.lockedOut_of_none (State.lockoutCleared_lockEnd _ w.val), rfl, rfl, rfl, rfl, rfl⟩

end Sys2Proof.Machine

namespace Sys2Proof.Machine

/-! ## A failed shutter event (05 R122, R123, R127) -/

theorem State.modPl_modPl (s : State) (p : Pipe) (f g : Pl → Pl) : (s.modPl p f).modPl p g = s.modPl p (fun x => g (f x)) := by
  cases p <;> rfl
theorem State.postP_pl (s : State) (p q : Pipe) (c : Nat) (a : List Word) : (s.postP p c a).pl q = s.pl q := by
  cases q <;> simp [State.pl]
theorem State.warnBit_pl (s : State) (b : Nat) (p : Pipe) : (s.warnBit b).pl p = s.pl p := by
  obtain ⟨-, -, -, ha, hb⟩ := s.warnBit_keeps b
  cases p
  · exact ha
  · exact hb
theorem State.warnBit_act (s : State) (b : Nat) : (s.warnBit b).act = s.act := by
  unfold State.warnBit
  split <;> simp

/-- The count of failed events, with ANCHOR_DEGRADED from the third in a row on (R127). -/
theorem State.countFailure_pl (s : State) (p : Pipe) : (s.countFailure p).pl p =
    { s.pl p with fails := (s.pl p).fails + 1, degraded := (s.pl p).degraded || decide ((s.pl p).fails = 2) } := by
  unfold State.countFailure
  dsimp only
  rw [State.pl_modPl]
  split
  · next h =>
    have h2 : (s.pl p).fails = 2 := Nat.succ.inj h
    rw [State.warnBit_pl, State.postP_pl, State.pl_modPl, State.pl_modPl]
    simp [h2]
  · next h =>
    have h2 : (s.pl p).fails ≠ 2 := fun e => h (congrArg (· + 1) e)
    rw [State.pl_modPl]
    simp [h2]

theorem State.countFailure_keeps (s : State) (p : Pipe) :
    (s.countFailure p).sup = s.sup ∧ (s.countFailure p).act = s.act ∧ (s.countFailure p).nv = s.nv := by
  unfold State.countFailure
  dsimp only
  split
  · simp [State.warnBit_sup, State.warnBit_act, State.warnBit_nv]
  · simp

section
variable {s : State} {p : Pipe} {e : ShEvent}

theorem State.closeEvent_of_none (h : (s.pl p).event = none) : s.closeEvent p = s := by simp [State.closeEvent, h]

theorem State.closeEvent_of_running (h : (s.pl p).event = some e) (hk : e.ended = none) : s.closeEvent p = s := by
  simp [State.closeEvent, h, hk]

theorem State.closeEvent_of_judged {k : Nat} (h : (s.pl p).event = some e) (hk : e.ended = some k)
    (hj : (e.fail.isSome || e.formed) = true) : s.closeEvent p =
      (s.modPl p (fun x => { x with event := none })).postP p 0x0042 [word e.c, word (k + 0xffffffff), word (e.fail.getD 0)] := by
  simp only [State.closeEvent, h, hk]
  exact if_pos hj

theorem State.closeEvent_keeps (s : State) (p : Pipe) :
    (s.closeEvent p).sup = s.sup ∧ (s.closeEvent p).act = s.act ∧ (s.closeEvent p).nv = s.nv := by
  unfold State.closeEvent
  (repeat' split) <;> simp

/-- An event with its failure noted: the open pulse falls due where none has been issued (R123). -/
def ShEvent.failed (e : ShEvent) (r : Nat) : ShEvent := { e with fail := some r, openDue := decide (e.opens = 0) }

/-- A pipeline whose event has failed: an event that has ended is over, an anchor formed is given up (R122, R127). -/
def Pl.failed (x : Pl) (e : ShEvent) (r : Nat) : Pl :=
  { x with event := if e.ended = none then some (e.failed r) else none, anchorNext := none, fails := x.fails + 1,
           degraded := x.degraded || decide (x.fails = 2) }

theorem State.failEvent_pl (h : (s.pl p).event = some e) (hf : e.fail = none) (r : Nat) :
    (s.failEvent p r).pl p = (s.pl p).failed e r := by
  simp only [State.failEvent, h, hf, Option.isSome_none, Bool.false_eq_true, if_false]
  generalize hu : State.countFailure _ p = u
  have hpl : u.pl p = { (s.pl p).failed e r with event := some (e.failed r) } := by
    rw [← hu, State.countFailure_pl, State.postP_pl, State.pl_modPl]
    rfl
  have hev : (u.pl p).event = some (e.failed r) := congrArg Pl.event hpl
  cases hk : e.ended with
  | none =>
    rw [State.closeEvent_of_running hev hk, hpl]
    simp [Pl.failed, hk]
  | some k =>
    rw [State.closeEvent_of_judged hev hk rfl, State.postP_pl, State.pl_modPl, hpl]
    simp [Pl.failed, hk]

theorem State.failEvent_keeps (s : State) (p : Pipe) (r : Nat) :
    (s.failEvent p r).sup = s.sup ∧ (s.failEvent p r).act = s.act ∧ (s.failEvent p r).nv = s.nv := by
  unfold State.failEvent
  split
  · exact ⟨rfl, rfl, rfl⟩
  · split
    · exact ⟨rfl, rfl, rfl⟩
    · simp [State.closeEvent_keeps, State.countFailure_keeps]

/-- An event that has failed has nothing more to close: where it has ended it is over. -/
theorem State.failEvent_closeEvent (h : (s.pl p).event = some e) (hf : e.fail = none) (r : Nat) :
    (s.failEvent p r).closeEvent p = s.failEvent p r := by
  have hev := congrArg Pl.event (State.failEvent_pl h hf r)
  cases hk : e.ended with
  | none => exact State.closeEvent_of_running (e := e.failed r) (hev.trans (by simp [Pl.failed, hk])) hk
  | some k => exact State.closeEvent_of_none (hev.trans (by simp [Pl.failed, hk]))

/-! ## The anchor (05 R122, R125, R126) -/

/-- The temperature of the blades, from both their results (R125). -/
def ShEvent.bladeTemp (e : ShEvent) : Int := rnd ((e.blades.getD 0 none).getD 0 + (e.blades.getD 1 none).getD 0) 1

/-- The reason of R126 for which the anchor of an event is not committed. -/
def ShEvent.reason (e : ShEvent) : Option Nat :=
  anchorReason e.anc e (bladeValue e.anc.shutA e.bladeTemp) (bladeValue e.anc.shutB e.bladeTemp)

/-- The table that the anchor of an event forms over the one in force, with the averages that a commit takes (R125, R126). -/
def ShEvent.nextTable (e : ShEvent) (x : Pl) : NextTable :=
  ⟨anchorTable e.anc e (bladeValue e.anc.shutA e.bladeTemp) (bladeValue e.anc.shutB e.bladeTemp) x.table.table, x.table.seq,
    some (avg e.bds, avg (e.temps.filterMap id))⟩

/-- The anchor is due: both blade results and every averaging frame are in, and it has not been judged. -/
structure ShEvent.AnchorDue (e : ShEvent) : Prop where
  window : e.win.isSome = true
  unfailed : e.fail = none
  unformed : e.formed = false
  temps : e.temps.length = 2 ^ e.anc.nAvgLog2
  taken : e.taken = 2 ^ e.anc.nAvgLog2
  blades : 2 ≤ e.blades.length

theorem State.formAnchor_of_refused (h : (s.pl p).event = some e) (hd : e.AnchorDue) {r : Nat} (hr : e.reason = some r) :
    s.formAnchor p = s.failEvent p r := by
  obtain ⟨w, hw⟩ := Option.isSome_iff_exists.mp hd.window
  rw [← State.failEvent_closeEvent h hd.unfailed r]
  unfold ShEvent.reason ShEvent.bladeTemp at hr
  simp [-List.getD_eq_getElem?_getD, State.formAnchor, h, hw, hd.unfailed, hd.unformed, hd.temps, hd.taken, hd.blades, hr]

theorem State.formAnchor_of_passed (h : (s.pl p).event = some e) (hd : e.AnchorDue) (hr : e.reason = none) : s.formAnchor p =
    (s.modPl p (fun x => { x with
      event := some { e with formed := true }, anchorNext := some (e.nextTable (s.pl p)) })).closeEvent p := by
  obtain ⟨w, hw⟩ := Option.isSome_iff_exists.mp hd.window
  unfold ShEvent.reason ShEvent.bladeTemp at hr
  simp [-List.getD_eq_getElem?_getD, State.formAnchor, h, hw, hd.unfailed, hd.unformed, hd.temps, hd.taken, hd.blades, hr,
    ShEvent.nextTable, ShEvent.bladeTemp]

end

theorem exec_anchorFormed_of_live {s : State} {dt : Nat} (hl : (s.elapse dt).live = true) (p : Pipe) :
    exec (.anchorFormed dt p) s = .next ((s.elapse dt).formAnchor p) :=
  congrArg Host.Outcome.next (State.run_of_live hl _)

/-- Settles O35: the anchor is due, so it is formed or refused by its reason; the event then closes where it has ended. -/
theorem anchorIsJudged : Obligations.AnchorIsJudged := by
  unfold Obligations.AnchorIsJudged
  rintro dt p e w _ _ _ s u rfl hl he hw rfl hf hformed htemps htaken hblades rfl rfl
  have hdue : e.AnchorDue := ⟨by rw [hw]; rfl, hf, hformed, htemps, htaken, hblades⟩
  rw [exec_anchorFormed_of_live hl]
  generalize s.elapse dt = u at he
  refine ⟨fun hr => ?_, fun r hr => ⟨_, rfl, ?_⟩⟩
  · have hev (t : State) (x : Option NextTable) :
        ((t.modPl p (fun y => { y with event := some { e with formed := true }, anchorNext := x })).pl p).event =
          some { e with formed := true } := by rw [State.pl_modPl]
    rw [State.formAnchor_of_passed he hdue hr]
    refine ⟨fun hk => by rw [State.closeEvent_of_running (hev u _) hk]; rfl, fun k hk => ?_⟩
    rw [State.closeEvent_of_judged (hev u _) hk (Bool.or_true _), State.modPl_modPl, hf]
    rfl
  · obtain ⟨hsup, -, -⟩ := u.failEvent_keeps p r
    rw [State.formAnchor_of_refused he hdue hr, State.failEvent_pl he hf, hsup]
    exact ⟨rfl, rfl, rfl, rfl, rfl⟩

end Sys2Proof.Machine

namespace Sys2Proof.Machine

/-! ## Glean updates, requests, grants, persist writes (05 R112, R116, R117, R130) -/

section
variable {s : State} {p : Pipe}

theorem State.gleanUpdate_of_copy {acc : SMap (Array (Nat × Int))} {base : Nat} (h : (s.pl p).gleanCopy = some (acc, base)) :
    s.gleanUpdate p = s.modPl p (fun x => { x with
      gleanCopy := none, gleanNext := some ⟨gleanTable (s.ancOf (s.pl p).snap) acc (s.pl p).table.table, base, none⟩ }) := by
  simp [State.gleanUpdate, h]

theorem State.sinceEvent_iff {t : Nat} : s.sinceEvent p t = true ↔ ∀ l, (s.pl p).lastEvent = some l → l + t ≤ s.now := by
  unfold State.sinceEvent
  split
  · next l h => simp [h]
  · next h => simp [h]

/-- Urgency as R116 and R120 have it. -/
theorem State.urgentNow_iff : s.urgentNow p = true ↔ (s.ancOf (s.pl p).snap).eUrg ≤ (s.pl p).e ∧
    ∀ l, (s.pl p).lastEvent = some l → l + 60 * sec ≤ s.now := by
  rw [State.urgentNow, Bool.and_eq_true, decide_eq_true_eq, State.sinceEvent_iff]

theorem State.postRequest_eq (s : State) (p : Pipe) (urgent : Bool) : s.postRequest p urgent =
    (s.postP p 0x0040 [if urgent then 1#32 else 0#32, word (s.pl p).e,
      word (durMs (s.ancOf (s.pl p).snap) (s.pl p).snap.exposure)]).modPl p
        (fun x => { x with request := some ⟨urgent, s.now⟩ }) := by
  simp [State.postRequest]

theorem State.repostRequest_of_open {r : Req} (h : (s.pl p).request = some r) :
    s.repostRequest p = if r.posted + 60 * sec ≤ s.now then s.postRequest p (s.urgentNow p) else s := by
  simp [State.repostRequest, h]

theorem State.grantLapse_of_ended {g : Grant} (h : (s.pl p).grant = some g) (ht : g.end_ ≤ s.now) :
    s.grantLapse p = (s.modPl p (fun x => { x with grant := none })).postP p 0x0041 [] := by
  simp [State.grantLapse, h, ht]

theorem State.persisted_of_last {i : Nat} {slot : SoSlot} (h : s.sup.soWrite = some (i, slot)) (ha : s.sup.soAgain = false) :
    s.persisted = ({ s with nv := { s.nv with soSlots := s.nv.soSlots.set i slot }, sup := { s.sup with soWrite := none } }
      : State).post0 0x0046 [word slot.pseq] := by
  simp [State.persisted, h, ha]

end

/-! ## CLOSED not reported in time (05 R123) -/

section
variable {s : State} {p : Pipe} {e : ShEvent}

theorem State.noClose_of_closing (h : (s.pl p).event = some e) (hc : e.closed = false) (hf : e.fail = none) (ho : e.opens = 0) :
    s.noClose p = if e.start + 80 * ms ≤ s.now then s.failEvent p 1 else s := by
  simp [State.noClose, h, hc, hf, ho]

/-! ## Open pulses repeated (05 R124) -/

theorem repeatDue_iff {now last : Nat} {x : Pl} : repeatDue now last x.lastMarker = true ↔
    last + 82 * ms ≤ now ∨ ∃ f, x.cur = some f ∧ last + 80 * ms ≤ f.marker ∧ f.marker ≤ now := by
  unfold repeatDue Pl.lastMarker
  cases x.cur <;> simp

theorem not_repeatDue {now last : Nat} {x : Pl} (h82 : now < last + 82 * ms)
    (hm : ∀ f, x.cur = some f → f.marker < last + 80 * ms ∨ now < f.marker) : ¬repeatDue now last x.lastMarker = true := by
  rw [repeatDue_iff]
  rintro (h | ⟨f, hf, hfrom, hto⟩)
  · omega
  · have := hm f hf
    omega

theorem State.repeatEvent_of_none (h : (s.pl p).event = none) : s.repeatEvent p = s := by simp [State.repeatEvent, h]

theorem State.endIdleEvent_of_none (h : (s.pl p).event = none) : s.endIdleEvent p = s := by simp [State.endIdleEvent, h]

theorem State.endIdleEvent_of_unopened (h : (s.pl p).event = some e) (ho : e.opened = false) : s.endIdleEvent p = s := by
  simp [State.endIdleEvent, h, ho]

theorem State.endIdleEvent_kept (s : State) (p : Pipe) : (s.endIdleEvent p).kept = s.kept := by
  unfold State.endIdleEvent
  dsimp only
  (repeat' split) <;> simp

theorem State.repeatOpening_of_none (h : s.act.opening = none) (m : Option Nat) : s.repeatOpening m = s := by
  simp [State.repeatOpening, h]

/-- An opening whose pulse has not opened the shutter for 80 ms. -/
theorem State.repeatOpening_of_closed {n last : Nat} (h : s.act.opening = some (n, last)) (hp : s.openPending = false)
    (ht : last + 80 * ms ≤ s.now) (hc : s.levelClosed = true) (m : Option Nat) : s.repeatOpening m =
      if 3 ≤ n then ({ s with act := { s.act with opening := none } } : State).fault 15
      else if repeatDue s.now last m then s.openingPulse (n + 1) .startup else s := by
  simp [State.repeatOpening, h, hp, hc, Nat.not_lt.mpr ht]

theorem State.fault_of_decided {id : Nat} (h : id ∈ s.saf.decided) : s.fault id = s := by
  unfold State.fault
  rw [if_pos (by simp [h])]

/-- Once SHUTTER_STUCK has been decided an opening decides nothing more. -/
theorem State.repeatOpening_kept (h : 15 ∈ s.saf.decided) (m : Option Nat) : (s.repeatOpening m).kept = s.kept := by
  unfold State.repeatOpening
  (repeat' split)
  · rfl
  · rfl
  · exact s.act_kept _
  · rw [State.fault_of_decided (s := { s with act := { s.act with opening := none } }) h, State.act_kept]
  · simp [State.openingPulse, State.duePulse]
  · rfl

/-- A fault decided where there has been none is the first, and leads to SAFE (R313). -/
theorem State.fault_first (hl : s.live = true) (hd : s.saf.decided = []) (hf : s.saf.first = 0) (id : Nat) :
    (s.fault id).saf.first = id ∧ (s.fault id).mode = .safe ∧ id ∈ (s.fault id).saf.decided := by
  have hm : s.mode ≠ .off := by
    rintro h
    simp [State.live, show s.sup.mode = .off from h] at hl
  obtain ⟨hmode, hdec, hfirst, -⟩ := s.fault_decides id (by simp [hd]) hm
  exact ⟨by simp [hfirst, hf], hmode, by simp [hdec]⟩

/-- What follows the rule on the event leaves a fault that it decided. -/
theorem State.openRepeat_of_fault (hl : s.live = true) (hd : s.saf.decided = []) (hf : s.saf.first = 0)
    (h : s.repeatEvent p = s.fault 15) : (s.openRepeat p).saf.first = 15 ∧ (s.openRepeat p).mode = .safe := by
  obtain ⟨hfirst, hmode, hdec⟩ := State.fault_first hl hd hf 15
  have hidle := (s.fault 15).endIdleEvent_kept p
  have hidleDec : ((s.fault 15).endIdleEvent p).saf.decided = (s.fault 15).saf.decided := congrArg Kept.decided hidle
  have hk : (s.openRepeat p).kept = (s.fault 15).kept := by
    unfold State.openRepeat
    rw [h]
    cases p with
    | A => exact (State.repeatOpening_kept (hidleDec ▸ hdec) _).trans hidle
    | B => exact hidle
  exact ⟨(congrArg Kept.first hk).trans hfirst, (congrArg Kept.mode hk).trans hmode⟩

/-- With no opening outside the event and the event not opened, the rule on the event is all. -/
theorem State.openRepeat_of_repeatEvent {t : State} (h : s.repeatEvent p = t) (he : (t.pl p).event = some e) (ho : e.opened = false)
    (hn : p = .A → t.act.opening = none) : s.openRepeat p = t := by
  unfold State.openRepeat
  rw [h, State.endIdleEvent_of_unopened he ho]
  cases p with
  | A => exact State.repeatOpening_of_none (hn rfl) _
  | B => rfl

/-- Without an event pipeline A's rule is that on an opening. -/
theorem State.openRepeat_A_of_none (h : s.pa.event = none) : s.openRepeat .A = s.repeatOpening s.pa.lastMarker := by
  unfold State.openRepeat
  rw [State.repeatEvent_of_none (p := .A) h, State.endIdleEvent_of_none (p := .A) h]

/-- An open pulse of an event has been issued, and the shutter has not opened for 80 ms. -/
structure State.Overdue (s : State) (p : Pipe) (e : ShEvent) : Prop where
  event : (s.pl p).event = some e
  unopened : e.opened = false
  issued : 0 < e.opens
  late : e.lastOpen + 80 * ms ≤ s.now
  notOpen : s.shutterPos p ≠ 1
  started : p = .A → s.openPending = false
  noOpening : p = .A → s.act.opening = none

theorem State.Overdue.repeatEvent (h : s.Overdue p e) : s.repeatEvent p =
    if 3 ≤ e.opens then s.fault 15
    else if repeatDue s.now e.lastOpen (s.pl p).lastMarker then
      (s.modPl p (fun x => { x with event := some { e with opens := e.opens + 1, lastOpen := s.now } })).shutterPulse p .open_
    else s := by
  have hissued : e.opens ≠ 0 := h.issued.ne'
  have hlate : ¬s.now < e.lastOpen + 80 * ms := Nat.not_lt.mpr h.late
  cases p with
  | A => simp [State.repeatEvent, h.event, h.unopened, h.notOpen, h.started rfl, hissued, hlate]
  | B => simp [State.repeatEvent, h.event, h.unopened, h.notOpen, hissued, hlate]

theorem State.shutterPulse_pl (s : State) (p : Pipe) (o : Owner) : (s.shutterPulse p o).pl p = s.pl p := by
  cases p with
  | A => rfl
  | B => simp [State.shutterPulse, State.sendCmd, State.sendPacket, State.pl]

theorem State.shutterPulse_A_due (h : 0 < s.act.chans.length) (o : Owner) :
    ((s.shutterPulse .A o).ch 0).due = some ⟨o, s.shutterSteps, s.now⟩ := by
  unfold State.shutterPulse State.duePulse
  dsimp only
  rw [State.ch_modCh, if_pos ⟨rfl, h⟩]

theorem State.Overdue.openRepeat_of_due (h : s.Overdue p e) (hn : e.opens < 3)
    (hd : repeatDue s.now e.lastOpen (s.pl p).lastMarker = true) : s.openRepeat p =
      (s.modPl p (fun x => { x with event := some { e with opens := e.opens + 1, lastOpen := s.now } })).shutterPulse p .open_ := by
  have hrepeat := h.repeatEvent
  rw [if_neg (Nat.not_le.mpr hn), if_pos hd] at hrepeat
  refine State.openRepeat_of_repeatEvent (e := { e with opens := e.opens + 1, lastOpen := s.now }) hrepeat ?_ h.unopened ?_
  · rw [State.shutterPulse_pl, State.pl_modPl]
  · rintro rfl
    exact h.noOpening rfl

theorem State.Overdue.openRepeat_of_not_due (h : s.Overdue p e) (hn : e.opens < 3)
    (hd : ¬repeatDue s.now e.lastOpen (s.pl p).lastMarker = true) : s.openRepeat p = s := by
  have hrepeat := h.repeatEvent
  rw [if_neg (Nat.not_le.mpr hn), if_neg hd] at hrepeat
  exact State.openRepeat_of_repeatEvent hrepeat h.event h.unopened h.noOpening

theorem State.Overdue.openRepeat_of_third (h : s.Overdue p e) (hn : 3 ≤ e.opens) (hl : s.live = true) (hd : s.saf.decided = [])
    (hf : s.saf.first = 0) : (s.openRepeat p).saf.first = 15 ∧ (s.openRepeat p).mode = .safe :=
  State.openRepeat_of_fault hl hd hf (h.repeatEvent.trans (if_pos hn))

end

/-! ## The commands -/

section
variable {s : State} {dt : Nat} (hl : (s.elapse dt).live = true) (p : Pipe)
include hl

theorem exec_gleanUpdate_of_live : exec (.gleanUpdate dt p) s = .next ((s.elapse dt).gleanUpdate p) :=
  congrArg Host.Outcome.next (State.run_of_live hl _)

theorem exec_shutterRequestRepost_of_live : exec (.shutterRequestRepost dt p) s = .next ((s.elapse dt).repostRequest p) :=
  congrArg Host.Outcome.next (State.run_of_live hl _)

theorem exec_shutterGrantLapsed_of_live : exec (.shutterGrantLapsed dt p) s = .next ((s.elapse dt).grantLapse p) :=
  congrArg Host.Outcome.next (State.run_of_live hl _)

theorem exec_soPersisted_of_live : exec (.soPersisted dt) s = .next (s.elapse dt).persisted :=
  congrArg Host.Outcome.next (State.run_of_live hl _)

theorem exec_noClose_of_live : exec (.noClose dt p) s = .next ((s.elapse dt).noClose p) :=
  congrArg Host.Outcome.next (State.run_of_live hl _)

theorem exec_openRepeat_of_live : exec (.openRepeat dt p) s = .next ((s.elapse dt).openRepeat p) :=
  congrArg Host.Outcome.next (State.run_of_live hl _)

end

/-- Settles O34: each command is one step of its timer, before the instant and from it on; the open pulses of both pipelines are
one argument over `Overdue`, and the opening outside an event has its own rule. -/
theorem anchoringAndShutterTimers : Obligations.AnchoringAndShutterTimers := by
  unfold Obligations.AnchoringAndShutterTimers
  refine ⟨⟨?_, ?_, ?_, ?_⟩, ?_, ?_, ?_, ?_⟩
  · rintro dt base acc p s u rfl hl hcopy
    rw [exec_gleanUpdate_of_live hl, State.gleanUpdate_of_copy hcopy]
  · rintro dt p r urgent s u rfl hl hreq hurgent
    have hnow : (s.elapse dt).urgentNow p = urgent := Bool.eq_iff_iff.mpr (State.urgentNow_iff.trans hurgent.symm)
    rw [exec_shutterRequestRepost_of_live hl, State.repostRequest_of_open hreq, hnow]
    exact ⟨fun ht => congrArg Host.Outcome.next ((if_pos ht).trans (State.postRequest_eq ..)),
      fun ht => congrArg Host.Outcome.next (if_neg (Nat.not_le.mpr ht))⟩
  · rintro dt p g s u rfl hl hgrant hended
    rw [exec_shutterGrantLapsed_of_live hl, State.grantLapse_of_ended hgrant hended]
  · rintro dt i slot s u rfl hl hwrite hagain
    rw [exec_soPersisted_of_live hl, State.persisted_of_last hwrite hagain]
  · rintro dt p e s u rfl hl he hclosed hfail hopens hended
    rw [exec_noClose_of_live hl, State.noClose_of_closing he hclosed hfail hopens]
    refine ⟨fun ht => congrArg Host.Outcome.next (if_neg (Nat.not_le.mpr ht)),
      fun ht => ⟨_, congrArg Host.Outcome.next (if_pos ht), ?_⟩⟩
    rw [State.failEvent_pl he hfail]
    refine ⟨?_, rfl, ?_, rfl, (s.elapse dt).failEvent_keeps p 1⟩
    · simp [Pl.failed, ShEvent.failed, hended, hopens]
    · simp [Pl.failed]
  · rintro dt e s u rfl hl he hopened hissued hpending hlate hpos hopening hlen
    have h : (s.elapse dt).Overdue .A e := ⟨he, hopened, hissued, hlate, hpos, fun _ => hpending, fun _ => hopening⟩
    rw [exec_openRepeat_of_live hl]
    generalize s.elapse dt = u at *
    refine ⟨fun hn hd => ⟨_, rfl, ?_⟩, fun hn h82 hm => ?_,
      fun hn hdec hfirst => ⟨_, rfl, h.openRepeat_of_third hn hl hdec hfirst⟩⟩
    · rw [h.openRepeat_of_due hn (repeatDue_iff.mpr hd)]
      exact ⟨rfl, State.shutterPulse_A_due (by rw [State.modPl_act]; omega) _, rfl, rfl⟩
    · rw [h.openRepeat_of_not_due hn (not_repeatDue h82 hm)]
  · rintro dt e s u rfl hl he hopened hissued hlate hpos
    have h : (s.elapse dt).Overdue .B e := ⟨he, hopened, hissued, hlate, hpos, nofun, nofun⟩
    rw [exec_openRepeat_of_live hl]
    refine ⟨fun hn hd => ?_, fun hn h82 hm => ?_, fun hn hdec hfirst => ⟨_, rfl, h.openRepeat_of_third hn hl hdec hfirst⟩⟩
    · rw [h.openRepeat_of_due hn (repeatDue_iff.mpr hd)]
      rfl
    · rw [h.openRepeat_of_not_due hn (not_repeatDue h82 hm)]
  · rintro dt n last s u rfl hl he hopening hpending hlate hclosed
    rw [exec_openRepeat_of_live hl, State.openRepeat_A_of_none he, State.repeatOpening_of_closed hopening hpending hlate hclosed]
    generalize s.elapse dt = u at *
    refine ⟨fun hn h82 => ?_, fun hn hdec hfirst => ⟨_, congrArg Host.Outcome.next (if_pos hn), ?_⟩⟩
    · rw [if_neg (Nat.not_le.mpr hn), if_pos (repeatDue_iff.mpr (.inl h82))]
      rfl
    · obtain ⟨hf, hm, -⟩ := State.fault_first (s := { u with act := { u.act with opening := none } }) hl hdec hfirst 15
      exact ⟨hf, hm⟩

end Sys2Proof.Machine

namespace Sys2Proof.Machine

/-! ## A host command of a session served (09 R203, R205, R206, R217) -/

theorem State.takes.live {u : State} {h : Hdr} {r : Role} (ht : u.takes h r) : u.live = true := by
  obtain ⟨hfetch, -⟩ := ht
  by_contra hl
  simp [State.mayFetch, hl] at hfetch

/-- A command of the session, its position taken, comes to its own meaning, with the session's role. -/
theorem State.fetch_of_takes {u : State} {h : Hdr} {r : Role} (ht : u.takes h r) (c : HostCmd) :
    u.fetch (Fetched.of h c) = State.finish (u.takeCmd.runCmd h.session r c) (Fetched.of h c) (u.ring 0).head := by
  obtain ⟨hfetch, hsafe, hawake, hcompat, hrsv, x, hx, rfl⟩ := ht
  have hserve : u.takeCmd.serve (Fetched.of h c) = u.takeCmd.runCmd h.session x.role c := by
    have hmode : u.takeCmd.mode ≠ .safe := hsafe
    have hcompatA : u.takeCmd.pa.pend.compat = false := hcompat
    have hsession : u.takeCmd.sessionOf h.session = some x := hx
    unfold State.serve Fetched.of
    dsimp only
    rw [hsession, hcompatA, hrsv]
    simp [hmode]
  rw [← hserve]
  simp [State.fetch, hfetch, hawake]

/-- An answer that neither waits nor read host memory in vain, and that no module reset follows, is its completion. -/
theorem State.finish_answer (s : State) (status : Nat) (result : List Word) (f : Fetched) (pos : Nat) :
    State.finish ⟨s, status, result, none, false, false⟩ f pos = s.complete f.tag f.opcode status pos result := by
  simp [State.finish]

/-- APPLY depends on what the pipeline reads and on the frames it counts, not on its pending settings or its grant (R51, R416). -/
theorem State.applyOf_modPl (s : State) (p : Pipe) (f : Pl → Pl) (h : (f (s.pl p)).cur = (s.pl p).cur ∧
    (f (s.pl p)).reading = (s.pl p).reading ∧ (f (s.pl p)).armed = (s.pl p).armed ∧ (f (s.pl p)).snap = (s.pl p).snap ∧
    (f (s.pl p)).frameNo = (s.pl p).frameNo) : (s.modPl p f).applyOf p = s.applyOf p := by
  obtain ⟨hc, hr, ha, hs, hn⟩ := h
  have hlatch : (s.modPl p f).latchDue p = s.latchDue p := by
    have ht (g : Frame) : (s.modPl p f).latchTime p g = s.latchTime p g := by cases p <;> rfl
    simp only [State.latchDue, State.pl_modPl, hc, ht]
  have hframe : (s.modPl p f).applyFrame p = s.applyFrame p := by
    simp only [State.applyFrame, State.pl_modPl, hlatch, hc, hr, ha, hs, hn]
  cases p <;> simp only [State.applyOf, hframe]

theorem State.accept_applyOf (s : State) (p : Pipe) (f : Settings → Settings) : (s.accept p f).applyOf p = s.applyOf p :=
  s.applyOf_modPl p _ ⟨rfl, rfl, rfl, rfl, rfl⟩

theorem State.takeCmd_mode (s : State) : s.takeCmd.mode = s.mode := rfl
theorem State.takeCmd_notPrimary (s : State) (p : Pipe) (h : Word) : s.takeCmd.notPrimary p h = s.notPrimary p h := by
  cases p <;> rfl
theorem State.takeCmd_applyOf (s : State) (p : Pipe) : s.takeCmd.applyOf p = s.applyOf p := by cases p <;> rfl

/-! ## Grants and the shutter policy (05 R117, R118) -/

section
variable {s : State} {h : Word} {b : Byte} {p : Pipe} (hp : pipeOfByte b = some p)
include hp

section
variable {f st len : Nat} (hf : f ≤ 1) (hst : st ≤ 60000) (hlo : 100 ≤ len) (hhi : len ≤ 10000)
include hf hst hlo hhi

/-- A grant in range is refused for its session or its mode, or else replaces the one before. -/
theorem State.cmdShutterGrant_of_inRange : s.cmdShutterGrant h b f st len =
    if s.notPrimary p h then Machine.answer s 6
    else if f = 1 ∧ s.mode ≠ .calibration then Machine.answer s 3
    else answerOk (s.modPl p (fun x => { x with
      grant := some ⟨s.now + st * ms, s.now + (st + len) * ms, decide (f = 1)⟩ })) (s.applyOf p) := by
  have happly (g : Grant) : (s.modPl p (fun x => { x with grant := some g })).applyOf p = s.applyOf p :=
    s.applyOf_modPl p _ ⟨rfl, rfl, rfl, rfl, rfl⟩
  simp [State.cmdShutterGrant, hp, happly, Nat.not_lt.mpr hf, Nat.not_lt.mpr hst, Nat.not_lt.mpr hlo, Nat.not_lt.mpr hhi]

end

/-- The primary's policy becomes a setting where it is in range. -/
theorem State.cmdShutterPolicy_of_primary {x m : Nat} (hn : s.notPrimary p h = false) : s.cmdShutterPolicy h b x m =
    if x ≤ 2 ∧ 20 ≤ m ∧ m ≤ 240
    then answerOk (s.accept p (fun st => { st with policy := x, minInterval := m })) (s.applyOf p)
    else Machine.answer s 2 := by
  by_cases hr : x ≤ 2 ∧ 20 ≤ m ∧ m ≤ 240
  · obtain ⟨hx, hlo, hhi⟩ := hr
    simp [State.cmdShutterPolicy, hp, hn, State.accept_applyOf, hx, hlo, hhi, Nat.not_lt.mpr]
  · have hout : 2 < x ∨ m < 20 ∨ 240 < m := by omega
    rw [if_neg hr]
    simp only [State.cmdShutterPolicy, hp]
    exact if_pos (by simpa [or_assoc] using hout)

end

section
variable {s : State} {dt : Nat} {h : Hdr} {r : Role} (ht : (s.elapse dt).takes h r) (b : Byte)
include ht

theorem exec_shutterGrant_of_takes (f : Byte) (st len : Word) : exec (.shutterGrant dt h b f st len) s =
    .next (State.finish ((s.elapse dt).takeCmd.cmdShutterGrant h.session b f.toNat st.toNat len.toNat)
      (Fetched.of h (.shutterGrant b f.toNat st.toNat len.toNat)) ((s.elapse dt).ring 0).head) :=
  congrArg Host.Outcome.next ((State.run_of_live ht.live _).trans (State.fetch_of_takes ht _))

theorem exec_shutterPolicy_of_takes (x : Byte) (m : BitVec 16) : exec (.shutterPolicy dt h b x m) s =
    .next (State.finish ((s.elapse dt).takeCmd.cmdShutterPolicy h.session b x.toNat m.toNat)
      (Fetched.of h (.shutterPolicy b x.toNat m.toNat)) ((s.elapse dt).ring 0).head) :=
  congrArg Host.Outcome.next ((State.run_of_live ht.live _).trans (State.fetch_of_takes ht _))

end

/-- Settles O23: a served command answers as its own meaning has it, and neither a grant nor a setting changes its APPLY. -/
theorem shutterCommands : Obligations.ShutterCommands := by
  unfold Obligations.ShutterCommands
  constructor
  · rintro dt h b f st len p r s u rfl ht hp hf hst hlo hhi
    rw [exec_shutterGrant_of_takes ht, State.cmdShutterGrant_of_inRange hp hf hst hlo hhi, State.takeCmd_notPrimary,
      State.takeCmd_mode, State.takeCmd_applyOf]
    generalize s.elapse dt = u
    refine ⟨fun hn => ?_, fun hn => ?_⟩
    · rw [if_pos hn]
      exact congrArg Host.Outcome.next (State.finish_answer ..)
    · rw [if_neg (hn ▸ Bool.false_ne_true)]
      split <;> exact congrArg Host.Outcome.next (State.finish_answer ..)
  · rintro dt h b x m p r s u rfl ht hp hn
    rw [exec_shutterPolicy_of_takes ht, State.cmdShutterPolicy_of_primary hp ((State.takeCmd_notPrimary ..).trans hn),
      State.takeCmd_applyOf]
    generalize s.elapse dt = u
    split <;> exact congrArg Host.Outcome.next (State.finish_answer ..)

end Sys2Proof.Machine

namespace Sys2Proof.Machine

/-! ## A command's position and its completion (09 R203, R206, R209, R228) -/

theorem State.takes.takeCmd_compat {u : State} {h : Hdr} {r : Role} (ht : u.takes h r) : u.takeCmd.pa.pend.compat = false := by
  obtain ⟨-, -, -, hcompat, -⟩ := ht
  exact hcompat

theorem State.takeCmd_pl (s : State) (p : Pipe) : s.takeCmd.pl p = s.pl p := by cases p <;> rfl
theorem State.takeCmd_converts (s : State) : s.takeCmd.converts = s.converts := rfl

/-- The answer to a command whose read of host memory failed: the failure is reported before the completion. -/
theorem State.finish_answerDma (s : State) (addr : BitVec 64) (f : Fetched) (pos : Nat) :
    State.finish (answerDma s addr) f pos = (s.dmaError pos addr).complete f.tag f.opcode 12 pos [] := by
  simp [State.finish, answerDma]

/-- A ring that is enabled is one of the module's. -/
theorem State.ring_lt_length {s : State} {x : Nat} (h : (s.ring x).enable = true) : x < s.hif.rings.length := by
  by_contra hx
  rw [State.ring, List.getD_eq_default _ _ (Nat.not_lt.mp hx)] at h
  exact Bool.false_ne_true h

/-- What only changed state beside the host interface since the position was taken, and then completes with OK, answered. -/
theorem State.answered_of_complete {u v : State} {h : Hdr} {r : Role} (ht : u.takes h r) (hv : v.hif = u.takeCmd.hif)
    (tag : Word) (op : Nat) (result : List Word) : u.answered (v.complete tag op 0 (u.ring 0).head result) tag op 0 result := by
  have hring (x : Nat) : v.ring x = u.takeCmd.ring x := by rw [State.ring, hv, State.ring]
  have h1 : v.ring 1 = u.ring 1 := (hring 1).trans (State.ring_modRing_ne _ _ _ _ Nat.zero_ne_one)
  obtain ⟨hf, -⟩ := ht
  simp only [State.mayFetch, Bool.and_eq_true] at hf
  obtain ⟨⟨⟨⟨-, h0⟩, -⟩, he1⟩, -⟩ := hf
  constructor
  · rw [State.complete_completions _ _ _ _ _ _ (h1 ▸ he1), h1, hv, if_pos rfl]
    rfl
  · rw [State.ring_complete_ne _ _ _ _ _ _ _ Nat.zero_ne_one, hring, State.takeCmd, State.ring_modRing,
      if_pos ⟨rfl, State.ring_lt_length h0⟩]
    rfl

/-! ## Who may set a group, and when (09 R167, R211) -/

/-- The status that the session, its role and the mode give a PARAM_SET before its block is read; 0 where they allow it. -/
def State.paramStatus (s : State) (h : Word) (r : Role) (p : Pipe) (g : Nat) : Nat :=
  if 7 ≤ g then s.groupStatus p r g else if s.notPrimary p h then 6 else 0

theorem State.takeCmd_paramStatus (s : State) (h : Word) (r : Role) (p : Pipe) (g : Nat) :
    s.takeCmd.paramStatus h r p g = s.paramStatus h r p g := by
  rw [State.paramStatus, State.takeCmd_notPrimary]
  rfl

theorem State.paramStatus_of_primary {s : State} {h : Word} {p : Pipe} {g : Nat} (hg : g < 7) (r : Role) :
    s.paramStatus h r p g = if s.notPrimary p h then 6 else 0 :=
  if_neg (Nat.not_le.mpr hg)

/-- Groups 7 and 8 ask for pipeline A, for a mode and for a role, in this order. -/
theorem State.paramStatus_of_mem {g : Nat} {m : Mode} {q : Role}
    (hg : (g, m, q) ∈ [(7, Mode.calibration, Role.calibration), (8, Mode.diagnostic, Role.maintenance)])
    (s : State) (h : Word) (r : Role) (p : Pipe) :
    s.paramStatus h r p g = if p = .B then 2 else if s.mode ≠ m then 3 else if r ≠ q then 5 else 0 := by
  obtain ⟨rfl, rfl, rfl⟩ | ⟨rfl, rfl, rfl⟩ : g = 7 ∧ m = .calibration ∧ q = .calibration ∨
      g = 8 ∧ m = .diagnostic ∧ q = .maintenance := by simpa using hg
  · rfl
  · rfl

theorem groupLength_of_lt {g : Nat} (h : 8 < g) : groupLength g = none := by
  obtain ⟨k, rfl⟩ := Nat.exists_eq_add_of_le' h
  rfl

section
variable {s : State} {h : Word} {r : Role} {b : Byte} {g n : Nat}

/-- A pipeline or a group that does not exist, or another length than the group's, is a bad argument. -/
theorem State.cmdParamSet_of_badArg (hbad : pipeOfByte b = none ∨ groupLength g = none ∨ ∃ k, groupLength g = some k ∧ n ≠ k)
    (addr : BitVec 64) (block : Option (List Byte)) : s.cmdParamSet h r b g n addr block = Machine.answer s 2 := by
  unfold State.cmdParamSet
  split
  · next p k hp hk =>
    have hn : k ≠ n := by
      rcases hbad with hb | hg | ⟨j, hj, hn⟩
      · simp [hb] at hp
      · simp [hg] at hk
      · exact fun e => hn (e.symm.trans (Option.some.inj (hk.symm.trans hj)))
    rw [if_pos hn]
  · rfl
  · rfl

/-- A PARAM_SET in form is refused for its session, role or mode, or else its block is read and applied. -/
theorem State.cmdParamSet_of_form {p : Pipe} (hp : pipeOfByte b = some p) (hg : groupLength g = some n)
    (hc : s.pa.pend.compat = false) (addr : BitVec 64) (block : Option (List Byte)) :
    s.cmdParamSet h r b g n addr block = if s.paramStatus h r p g ≠ 0 then Machine.answer s (s.paramStatus h r p g)
      else block.elim (answerDma s addr) (fun l => s.applyBlock p g (takeBytes n l)) := by
  unfold State.cmdParamSet State.paramStatus
  rw [hp, hg]
  cases block <;> simp [hc]

end

/-! ## Blocks that become settings (06 R149, 02 R43, R59) -/

theorem biasKeep_of_map {α : Type} {o : Option α} {φ : α → Settings → Settings} {f : Settings → Settings} (h : o.map φ = some f)
    (hφ : ∀ x st, (φ x st).biasKeep = st.biasKeep) (st : Settings) : (f st).biasKeep = st.biasKeep := by
  obtain ⟨x, -, rfl⟩ := Option.map_eq_some_iff.mp h
  exact hφ x st

/-- No block says by its own change of the settings whether the bias codes are kept. -/
theorem parseBlock_biasKeep {g : Nat} {l : List Byte} {conv : Nat → Bool} {old : Settings} {f : Settings → Settings}
    (h : parseBlock g l conv old = some f) (st : Settings) : (f st).biasKeep = st.biasKeep := by
  unfold parseBlock at h
  split at h
  case h_3 =>
    cases h
    rfl
  case h_10 => cases h
  all_goals exact biasKeep_of_map h (fun _ _ => rfl) st

/-- The bias block: both codes at most 4000, PERSIST 0 or 1, the reserved bytes 0. -/
def biasInRange (l : List Byte) : Prop :=
  fieldAt l 0 2 ≤ 4000 ∧ fieldAt l 2 2 ≤ 4000 ∧ fieldAt l 4 1 ≤ 1 ∧ fieldAt l 5 3 = 0

theorem parseBias_of_inRange {l : List Byte} (h : biasInRange l) :
    parseBias l = some (fieldAt l 0 2, fieldAt l 2 2, decide (fieldAt l 4 1 = 1)) := by
  obtain ⟨ha, hc, he, hz⟩ := h
  simp [parseBias, ha, hc, he, hz]

theorem parseBias_of_not_inRange {l : List Byte} (h : ¬biasInRange l) : parseBias l = none := by
  unfold parseBias
  exact if_neg (by simpa [biasInRange, and_assoc] using h)

section
variable {s : State} {p : Pipe} {g : Nat} {l : List Byte}

theorem State.applyBlock_of_none (h : parseBlock g l s.converts (s.pl p).pend = none) :
    s.applyBlock p g l = Machine.answer s 2 := by
  unfold State.applyBlock
  rw [h]

/-- The status for the budgets of groups 0 and 1 where the settings break them: 0 where they were broken already
(notes/assumptions/94), and for the groups that touch no budget. -/
def State.budgetStatus (s v : State) (g : Nat) : Nat :=
  if g ≤ 1 ∧ s.budgetCode s.pendingLoads = 0 then v.budgetCode v.pendingLoads else 0

theorem State.budgetStatus_of_kept {v : State}
    (h : 2 ≤ g ∨ v.budgetCode v.pendingLoads = 0 ∨ s.budgetCode s.pendingLoads ≠ 0) : s.budgetStatus v g = 0 := by
  unfold State.budgetStatus
  split
  · next hs =>
    obtain ⟨hg, hold⟩ := hs
    exact (h.resolve_left (by omega)).resolve_right (not_not_intro hold)
  · rfl

theorem State.budgetStatus_of_within {v : State} (hg : g ≤ 1) (hold : s.budgetCode s.pendingLoads = 0) :
    s.budgetStatus v g = v.budgetCode v.pendingLoads :=
  if_pos ⟨hg, hold⟩

/-- A block in range becomes a setting, unless the budgets are against it. -/
theorem State.applyBlock_of_parsed {f : Settings → Settings} {v : State} (h : parseBlock g l s.converts (s.pl p).pend = some f)
    (hv : v = s.accept p (fun st => { f st with biasKeep := keepBias g l s.now st.biasKeep })) :
    s.applyBlock p g l = if s.budgetStatus v g ≠ 0 then Machine.answer s (s.budgetStatus v g) else answerOk v (v.applyOf p) := by
  subst hv
  unfold State.applyBlock State.budgetStatus
  rw [h]
  by_cases hg : g ≤ 1
  · by_cases ho : s.budgetCode s.pendingLoads = 0 <;> simp [hg, ho]
  · simp [hg]

/-- Group 7 alone settles whether the bias codes are kept: any other block is its own change of the settings. -/
theorem State.accept_of_parsed {f : Settings → Settings} (h : parseBlock g l s.converts (s.pl p).pend = some f) (hg : g ≠ 7) :
    s.accept p (fun st => { f st with biasKeep := keepBias g l s.now st.biasKeep }) = s.accept p f := by
  congr 1
  funext st
  rw [keepBias, if_neg hg, ← parseBlock_biasKeep h st]

/-- Pipeline A with the codes of a bias block as its setting, and the instant where they are to be kept. -/
def State.setBiasCodes (s : State) (l : List Byte) : State :=
  s.accept .A (fun st => { st with
    bias := (fieldAt l 0 2, fieldAt l 2 2), biasKeep := if fieldAt l 4 1 = 1 then some s.now else none })

theorem State.applyBlock_of_bias (h : biasInRange l) : s.applyBlock .A 7 l = answerOk (s.setBiasCodes l) (s.applyOf .A) := by
  have hkeep (old : Option Nat) : keepBias 7 l s.now old = if fieldAt l 4 1 = 1 then some s.now else none := by
    by_cases he : fieldAt l 4 1 = 1 <;> simp [keepBias, parseBias_of_inRange h, he]
  have hparse : parseBlock 7 l s.converts (s.pl .A).pend =
      some (fun st => { st with bias := (fieldAt l 0 2, fieldAt l 2 2) }) :=
    congrArg (Option.map _) (parseBias_of_inRange h)
  rw [State.applyBlock_of_parsed hparse rfl, if_neg (not_not_intro (State.budgetStatus_of_kept (.inl (by decide)))),
    State.accept_applyOf]
  simp only [hkeep, State.setBiasCodes]

end

/-! ## PARAM_SET -/

section
variable {s : State} {dt : Nat} {h : Hdr} {r : Role} (ht : (s.elapse dt).takes h r) {b g : Byte} {len : BitVec 16}
  (addr : BitVec 64) (block : Option (List Byte))
include ht

theorem exec_paramSet_of_takes : exec (.paramSet dt h b g len addr block) s =
    .next (State.finish ((s.elapse dt).takeCmd.cmdParamSet h.session r b g.toNat len.toNat addr block)
      (Fetched.of h (.paramSet b g.toNat len.toNat addr block)) ((s.elapse dt).ring 0).head) :=
  congrArg Host.Outcome.next ((State.run_of_live ht.live _).trans (State.fetch_of_takes ht _))

theorem exec_paramSet_of_badArg
    (hbad : pipeOfByte b = none ∨ groupLength g.toNat = none ∨ ∃ n, groupLength g.toNat = some n ∧ len.toNat ≠ n) :
    exec (.paramSet dt h b g len addr block) s =
      .next ((s.elapse dt).takeCmd.complete h.tag 0x0040 2 ((s.elapse dt).ring 0).head []) := by
  rw [exec_paramSet_of_takes ht, State.cmdParamSet_of_badArg hbad]
  exact congrArg Host.Outcome.next (State.finish_answer ..)

variable {p : Pipe} (hp : pipeOfByte b = some p) (hg : groupLength g.toNat = some len.toNat)
include hp hg

theorem exec_paramSet_of_refused {k : Nat} (hk : (s.elapse dt).paramStatus h.session r p g.toNat = k) (h0 : k ≠ 0) :
    exec (.paramSet dt h b g len addr block) s =
      .next ((s.elapse dt).takeCmd.complete h.tag 0x0040 k ((s.elapse dt).ring 0).head []) := by
  rw [exec_paramSet_of_takes ht, State.cmdParamSet_of_form hp hg ht.takeCmd_compat, State.takeCmd_paramStatus, hk, if_pos h0]
  exact congrArg Host.Outcome.next (State.finish_answer ..)

variable (hk : (s.elapse dt).paramStatus h.session r p g.toNat = 0)
include hk

theorem exec_paramSet_of_unread : exec (.paramSet dt h b g len addr none) s =
    .next (((s.elapse dt).takeCmd.dmaError ((s.elapse dt).ring 0).head addr).complete h.tag 0x0040 12
      ((s.elapse dt).ring 0).head []) := by
  rw [exec_paramSet_of_takes ht, State.cmdParamSet_of_form hp hg ht.takeCmd_compat, State.takeCmd_paramStatus, hk,
    if_neg (not_not_intro rfl)]
  exact congrArg Host.Outcome.next (State.finish_answerDma ..)

theorem exec_paramSet_of_applied {l : List Byte} {v : State} {status : Nat} {result : List Word}
    (ha : (s.elapse dt).takeCmd.applyBlock p g.toNat (takeBytes len.toNat l) = ⟨v, status, result, none, false, false⟩) :
    exec (.paramSet dt h b g len addr (some l)) s =
      .next (v.complete h.tag 0x0040 status ((s.elapse dt).ring 0).head result) := by
  rw [exec_paramSet_of_takes ht, State.cmdParamSet_of_form hp hg ht.takeCmd_compat, State.takeCmd_paramStatus, hk,
    if_neg (not_not_intro rfl), Option.elim_some, ha]
  exact congrArg Host.Outcome.next (State.finish_answer ..)

end

/-- What allows a PARAM_SET: the primary's session for groups 0 to 6, the group's own pipeline, mode and role for 7 and 8. -/
theorem State.paramStatus_of_allowed {s : State} {h : Word} {r : Role} {p : Pipe} {g : Nat}
    (hallow : (g < 7 ∧ s.notPrimary p h = false) ∨ (g = 7 ∧ p = .A ∧ s.mode = .calibration ∧ r = .calibration) ∨
      (g = 8 ∧ p = .A ∧ s.mode = .diagnostic ∧ r = .maintenance)) : s.paramStatus h r p g = 0 := by
  obtain ⟨hg, hn⟩ | ⟨rfl, rfl, hm, rfl⟩ | ⟨rfl, rfl, hm, rfl⟩ := hallow
  · rw [State.paramStatus_of_primary hg, hn, if_neg Bool.false_ne_true]
  · simp [State.paramStatus_of_mem (List.mem_cons_self ..), hm]
  · simp [State.paramStatus_of_mem (List.mem_cons_of_mem _ (List.mem_cons_self ..)), hm]

/-- Settles O22: a served PARAM_SET is refused for its form, then for its session, role and mode, and then its block is read;
what a block does is one argument for the groups that are settings alone, and one for the bias codes. -/
theorem paramSets : Obligations.ParamSets := by
  unfold Obligations.ParamSets
  constructor
  · rintro dt h b g len addr block n p r s u rfl ht hp hg rfl hallow
    have hk := State.paramStatus_of_allowed hallow
    refine ⟨?_, ?_, ?_, ?_⟩
    · rintro rfl
      exact exec_paramSet_of_unread ht addr hp hg hk
    · rintro l rfl hparse
      rw [← State.takeCmd_converts, ← State.takeCmd_pl] at hparse
      exact exec_paramSet_of_applied ht addr hp hg hk (State.applyBlock_of_none hparse)
    · rintro l f v rfl hparse h7 rfl
      rw [← State.takeCmd_converts, ← State.takeCmd_pl] at hparse
      have ha := State.applyBlock_of_parsed hparse (State.accept_of_parsed hparse h7).symm
      refine ⟨fun hfits => ?_, fun hg1 hover hold => ?_⟩
      · rw [State.budgetStatus_of_kept hfits, if_neg (not_not_intro rfl)] at ha
        exact exec_paramSet_of_applied ht addr hp hg hk ha
      · rw [State.budgetStatus_of_within hg1 hold, if_pos hover] at ha
        exact exec_paramSet_of_applied ht addr hp hg hk ha
    · rintro l a c e rfl h7 rfl rfl rfl
      obtain rfl : p = .A := by
        obtain ⟨hlt, -⟩ | ⟨-, hA, -⟩ | ⟨-, hA, -⟩ := hallow
        · omega
        · exact hA
        · exact hA
      refine ⟨fun ha hc he hz => ?_, fun hout => ?_⟩
      · have hset := (s.elapse dt).takeCmd.applyBlock_of_bias ⟨ha, hc, he, hz⟩
        refine ⟨_, exec_paramSet_of_applied ht addr hp hg hk (h7 ▸ hset), ?_⟩
        simp only [State.complete_pa, State.complete_pb, State.complete_plt, State.complete_sup, State.complete_nv]
        exact ⟨rfl, rfl, rfl, rfl, rfl, rfl, rfl,
          State.takeCmd_applyOf .. ▸ State.answered_of_complete ht (State.accept_hif ..) ..⟩
      · have hparse : parseBlock g.toNat (takeBytes len.toNat l) (s.elapse dt).takeCmd.converts
            ((s.elapse dt).takeCmd.pl .A).pend = none := by
          have hbias : ¬biasInRange (takeBytes len.toNat l) := by unfold biasInRange; omega
          rw [h7]
          exact congrArg (Option.map _) (parseBias_of_not_inRange hbias)
        exact exec_paramSet_of_applied ht addr hp hg hk (State.applyBlock_of_none hparse)
  · rintro dt h b g len addr block r s u rfl ht
    refine ⟨fun hbad => ?_, fun p hp hg hlt hn => ?_, fun p m q k hp hg hmem hk => ?_⟩
    · exact exec_paramSet_of_badArg ht addr block (hbad.imp_right (Or.imp_left groupLength_of_lt))
    · refine exec_paramSet_of_refused ht addr block hp hg ?_ (by decide)
      rw [State.paramStatus_of_primary hlt, if_pos hn]
    · have hstatus := State.paramStatus_of_mem hmem (s.elapse dt) h.session r p
      obtain ⟨rfl, rfl⟩ | ⟨rfl, hm, rfl⟩ | ⟨rfl, hm, hr, rfl⟩ := hk
      · exact exec_paramSet_of_refused ht addr block hp hg (hstatus.trans (if_pos rfl)) (by decide)
      · refine exec_paramSet_of_refused ht addr block hp hg (hstatus.trans ?_) (by decide)
        rw [if_neg nofun, if_pos hm]
      · refine exec_paramSet_of_refused ht addr block hp hg (hstatus.trans ?_) (by decide)
        rw [if_neg nofun, if_neg (not_not_intro hm), if_pos hr]

end Sys2Proof.Machine

namespace Sys2Proof.Machine

/-! ## A host command and its answer (09 R203, R205, R206, R210) -/

/-- A command that a session of any role may give, 1210 mode or not, comes to its own meaning. -/
theorem State.fetch_of_session {u : State} {h : Hdr} {x : Session} (hfetch : u.mayFetch = true) (hsafe : u.mode ≠ .safe)
    (hawake : u.asleep = false) (hrsv : h.rsv = false) (hx : u.sessionOf h.session = some x) {c : HostCmd}
    (hc : (u.pa.pend.compat && c.outside1210) = false) :
    u.fetch (Fetched.of h c) = State.finish (u.takeCmd.runCmd h.session x.role c) (Fetched.of h c) (u.ring 0).head := by
  have hserve : u.takeCmd.serve (Fetched.of h c) = u.takeCmd.runCmd h.session x.role c := by
    have hmode : u.takeCmd.mode ≠ .safe := hsafe
    have hcompat : (u.takeCmd.pa.pend.compat && c.outside1210) = false := hc
    have hsession : u.takeCmd.sessionOf h.session = some x := hx
    unfold State.serve Fetched.of
    dsimp only
    rw [hsession, hcompat, hrsv]
    simp [hmode]
  rw [← hserve]
  simp [State.fetch, hfetch, hawake]

/-- A command that is taken and answers at once leaves its completion. -/
theorem State.run_fetch_of_answer {s v : State} {dt : Nat} {h : Hdr} {r : Role} (ht : (s.elapse dt).takes h r) {c : HostCmd}
    {status : Nat} {result : List Word}
    (ha : (s.elapse dt).takeCmd.runCmd h.session r c = ⟨v, status, result, none, false, false⟩) :
    Host.Outcome.next (s.run dt (fun s => s.fetch (Fetched.of h c))) =
      (.next (v.complete h.tag c.opcode status ((s.elapse dt).ring 0).head result) : Host.Outcome State Fault Refusal) := by
  rw [State.run_of_live ht.live, State.fetch_of_takes ht, ha, State.finish_answer]
  rfl

theorem State.takeCmd_cams (s : State) (p : Pipe) : s.takeCmd.cams p = s.cams p := by rw [State.cams, State.takeCmd_pl, State.cams]
theorem State.takeCmd_cameraOf (s : State) (id : Nat) (h : Word) : s.takeCmd.cameraOf id h = s.cameraOf id h := by
  simp only [State.cameraOf, State.takeCmd_cams]

/-! ## Cameras bound (07 R166) -/

section
variable {s : State} {h : Word} {b : Byte} {p : Pipe} (hp : pipeOfByte b = some p)
include hp

theorem State.cmdCameraBind_of_full (hfull : 2 ≤ (s.cams p).length) : s.cmdCameraBind h b = Machine.answer s 10 := by
  simp [State.cmdCameraBind, hp, hfull]

/-- The id of a new camera is the least that no camera of either pipeline has. -/
theorem State.cmdCameraBind_of_free (hroom : (s.cams p).length < 2) {id : Nat} (hid : id < 4)
    (hfree : ∀ c ∈ s.cams .A ++ s.cams .B, c.id ≠ id)
    (hleast : ∀ j, j < id → ∃ c ∈ s.cams .A ++ s.cams .B, c.id = j) : s.cmdCameraBind h b =
      answerOk (s.accept p (fun st => { st with cams := st.cams ++ [⟨id, h, !(s.cams p).isEmpty, List.replicate 10 0, [], []⟩] }))
        [word (id + flag (!(s.cams p).isEmpty) 8)] := by
  have hused (i : Nat) : ((s.cams .A ++ s.cams .B).map Camera.id).contains i = true ↔ ∃ c ∈ s.cams .A ++ s.cams .B, c.id = i := by
    rw [List.contains_iff_mem, List.mem_map]
  have hfind : (List.range 4).find? (fun i => !((s.cams .A ++ s.cams .B).map Camera.id).contains i) = some id := by
    rw [List.find?_range_eq_some]
    refine ⟨?_, List.mem_range.mpr hid, fun j hj => ?_⟩
    · rw [Bool.not_eq_true', ← Bool.not_eq_true, hused]
      exact fun ⟨c, hc, he⟩ => hfree c hc he
    · rw [Bool.not_not, hused]
      exact hleast j hj
  simp only [State.cmdCameraBind, hp, hfind, Option.getD_some, if_neg (Nat.not_le.mpr hroom)]

end

/-! ## What the lanes and pipeline B's end leave alone (07 R166, R173, 13 R294, R302) -/

/-- What work on the lanes and on the shutter events of pipeline B leaves alone: what begins and ends with the reading of pipeline B,
time, supervision, the plate, pipeline A, the actuators, the ledger, the number of the lanes, the companion link, the completions and the
rings of commands and completions. -/
structure LinkView where
  reading : Bool
  armed : Bool
  frameNo : Nat
  frames : List Frame
  snap : Settings
  now : Nat
  sup : Sup
  plt : Plt
  pa : Pl
  act : Act
  nv : Nv
  laneCount : Nat
  comp : Comp
  completions : List Completion
  commandRing : Ring
  completionRing : Ring

/-- That part of a state. -/
def State.linkView (s : State) : LinkView :=
  ⟨s.pb.reading, s.pb.armed, s.pb.frameNo, s.pb.frames, s.pb.snap, s.now, s.sup, s.plt, s.pa, s.act, s.nv,
    s.nl.lanes.length, s.nl.comp, s.hif.completions, s.ring 0, s.ring 1⟩

section
variable (s : State)

/-- A change of pipeline B that neither begins nor ends a frame of it. -/
theorem State.modPl_B_linkView (f : Pl → Pl)
    (h : (f s.pb).reading = s.pb.reading ∧ (f s.pb).armed = s.pb.armed ∧ (f s.pb).frameNo = s.pb.frameNo ∧
      (f s.pb).frames = s.pb.frames ∧ (f s.pb).snap = s.pb.snap) : (s.modPl .B f).linkView = s.linkView := by
  obtain ⟨hr, ha, hn, hf, hs⟩ := h
  simp only [State.linkView, State.modPl_B_pb, hr, ha, hn, hf, hs]
  rfl
@[simp] theorem State.modLane_linkView (l : Nat) (f : Lane → Lane) : (s.modLane l f).linkView = s.linkView := by
  simp only [State.linkView, State.modLane_length]
  rfl
@[simp] theorem State.saf_linkView (x : Saf) : State.linkView { s with saf := x } = s.linkView := rfl
theorem State.streams_linkView (x : List (Option Stream)) :
    State.linkView { s with nl := { s.nl with streams := x } } = s.linkView := rfl
@[simp] theorem State.modComp_linkView (f : Comp → Comp) :
    (s.modComp f).linkView = { s.linkView with comp := f s.linkView.comp } := rfl
@[simp] theorem State.post_linkView (c : Nat) (f : Word) (g k : Nat) (a : List Word) : (s.post c f g k a).linkView = s.linkView := by
  simp [State.linkView, State.ring_post_ne]
@[simp] theorem State.post0_linkView (c : Nat) (a : List Word) : (s.post0 c a).linkView = s.linkView := s.post_linkView ..
@[simp] theorem State.postP_linkView (p : Pipe) (c : Nat) (a : List Word) : (s.postP p c a).linkView = s.linkView := s.post_linkView ..
@[simp] theorem State.warnBit_linkView (b : Nat) : (s.warnBit b).linkView = s.linkView := by
  unfold State.warnBit
  split
  · rfl
  · rw [State.post0_linkView, State.saf_linkView]
@[simp] theorem State.noteSent_linkView (l : Nat) (ps : List NlPacket) : (s.noteSent l ps).linkView = s.linkView := by
  unfold State.noteSent
  split <;> rfl
@[simp] theorem State.sendPacket_linkView (k t l n g : Nat) (q : List Byte) : (s.sendPacket k t l n g q).linkView = s.linkView := by
  simp [State.sendPacket]
@[simp] theorem State.sendCmd_linkView (o a b : Nat) : (s.sendCmd o a b).linkView = s.linkView := by simp [State.sendCmd]

/-! ### Streams that end -/

@[simp] theorem State.abortOn_linkView (i r l : Nat) : (s.abortOn i r l).linkView = s.linkView := by
  unfold State.abortOn
  dsimp only
  (repeat' split) <;> simp
@[simp] theorem State.sendAbort_linkView (i r : Nat) : (s.sendAbort i r).linkView = s.linkView := by
  rw [State.sendAbort, State.streams_linkView, State.abortOn_linkView, State.abortOn_linkView]

@[simp] theorem State.modLane_pl (l : Nat) (f : Lane → Lane) (p : Pipe) : (s.modLane l f).pl p = s.pl p := by cases p <;> rfl
@[simp] theorem State.noteSent_pl (l : Nat) (ps : List NlPacket) (p : Pipe) : (s.noteSent l ps).pl p = s.pl p := by
  cases p <;> simp [State.pl]
@[simp] theorem State.post0_pl (c : Nat) (a : List Word) (p : Pipe) : (s.post0 c a).pl p = s.pl p := by cases p <;> simp [State.pl]
theorem State.nl_pl (x : Nl) (p : Pipe) : State.pl { s with nl := x } p = s.pl p := by cases p <;> rfl
@[simp] theorem State.abortOn_pl (i r l : Nat) (p : Pipe) : (s.abortOn i r l).pl p = s.pl p := by
  unfold State.abortOn
  dsimp only
  (repeat' split) <;> simp
@[simp] theorem State.sendAbort_pl (i r : Nat) (p : Pipe) : (s.sendAbort i r).pl p = s.pl p := by
  rw [State.sendAbort, State.nl_pl, State.abortOn_pl, State.abortOn_pl]

/-- One stream of a pipeline ended, where it carries one of these products (R294). -/
def State.endStream (p : Pipe) (codes : List Nat) (i : Nat) : State :=
  match s.nl.streams.getD i none with
  | some t =>
    if t.pipe = p && codes.contains t.product then
      let s := s.sendAbort i 3
      let s' := { s with nl := { s.nl with streams := s.nl.streams.set i none } }
      if t.transfer.isSome then s'.post0 0x00b1 [word i, 3#32] else s'
    else s
  | none => s

theorem State.endStreams_eq (p : Pipe) (codes : List Nat) :
    s.endStreams p codes = (s.endStream p codes 0).endStream p codes 1 := rfl

@[simp] theorem State.endStream_linkView (p : Pipe) (codes : List Nat) (i : Nat) :
    (s.endStream p codes i).linkView = s.linkView := by
  unfold State.endStream
  dsimp only
  (repeat' split) <;> simp [State.streams_linkView]
@[simp] theorem State.endStream_pl (p : Pipe) (codes : List Nat) (i : Nat) (q : Pipe) :
    (s.endStream p codes i).pl q = s.pl q := by
  unfold State.endStream
  dsimp only
  (repeat' split) <;> simp [State.nl_pl]

@[simp] theorem State.endStreams_linkView (p : Pipe) (codes : List Nat) : (s.endStreams p codes).linkView = s.linkView := by
  rw [State.endStreams_eq, State.endStream_linkView, State.endStream_linkView]
@[simp] theorem State.endStreams_pl (p : Pipe) (codes : List Nat) (q : Pipe) : (s.endStreams p codes).pl q = s.pl q := by
  rw [State.endStreams_eq, State.endStream_pl, State.endStream_pl]

end

/-! ## An answer after events and packets (09 R203, R206) -/

theorem State.takes.rings {u : State} {h : Hdr} {r : Role} (ht : u.takes h r) :
    (u.ring 0).enable = true ∧ (u.ring 1).enable = true := by
  obtain ⟨hf, -⟩ := ht
  simp only [State.mayFetch, Bool.and_eq_true] at hf
  obtain ⟨⟨⟨⟨-, h0⟩, -⟩, h1⟩, -⟩ := hf
  exact ⟨h0, h1⟩

/-- What has written no completion since the position was taken, nor moved in the rings of commands and completions, is answered. -/
theorem State.answered_of_rings {u v : State} {h : Hdr} {r : Role} (ht : u.takes h r)
    (hc : v.hif.completions = u.hif.completions) (h0 : v.ring 0 = u.takeCmd.ring 0) (h1 : v.ring 1 = u.takeCmd.ring 1)
    (tag : Word) (op : Nat) (result : List Word) : u.answered (v.complete tag op 0 (u.ring 0).head result) tag op 0 result := by
  obtain ⟨he0, he1⟩ := ht.rings
  have hr1 : v.ring 1 = u.ring 1 := h1.trans (State.ring_modRing_ne _ _ _ _ Nat.zero_ne_one)
  constructor
  · rw [State.complete_completions _ _ _ _ _ _ (hr1 ▸ he1), hr1, hc, if_pos rfl]
  · rw [State.ring_complete_ne _ _ _ _ _ _ _ Nat.zero_ne_one, h0, State.takeCmd, State.ring_modRing,
      if_pos ⟨rfl, State.ring_lt_length he0⟩]
    rfl

/-! ## Cameras unbound (07 R166) -/

theorem State.accept_pl (s : State) (p : Pipe) (f : Settings → Settings) :
    (s.accept p f).pl p = { s.pl p with pend := f (s.pl p).pend, prior := some (s.priorNow p) } := by rw [State.accept, State.pl_modPl]

@[simp] theorem State.complete_pl (s : State) (tag : Word) (op st ix : Nat) (x : List Word) (p : Pipe) :
    (s.complete tag op st ix x).pl p = s.pl p := by cases p <;> simp [State.pl]
@[simp] theorem State.accept_ring (s : State) (p : Pipe) (f : Settings → Settings) (x : Nat) : (s.accept p f).ring x = s.ring x := by
  rw [State.ring, State.accept_hif, State.ring]

/-- APPLY depends on the time and the pipeline alone. -/
theorem State.applyOf_congr {s t : State} {p : Pipe} (hn : t.now = s.now) (hp : t.pl p = s.pl p) : t.applyOf p = s.applyOf p := by
  have hlatch : t.latchDue p = s.latchDue p := by
    have ht (g : Frame) : t.latchTime p g = s.latchTime p g := by simp only [State.latchTime, hn]
    simp only [State.latchDue, hp, ht]
  have hframe : t.applyFrame p = s.applyFrame p := by simp only [State.applyFrame, hp, hlatch]
  cases p <;> simp only [State.applyOf, hframe]

/-- Of a camera that is bound: the streams that it alone feeds end, and its sets leave. -/
theorem State.unbind_of_bound {s : State} {p : Pipe} {id : Nat} {c : Camera} (h : (s.cams p).find? (fun x => x.id = id) = some c) :
    ∃ codes, s.unbind p id = (s.endStreams p codes).accept p (fun st => { st with cams := st.cams.filter (fun x => x.id ≠ id) }) := by
  have h' : (s.pl p).pend.cams.find? (fun x => x.id = id) = some c := h
  unfold State.unbind
  rw [h']
  exact ⟨_, rfl⟩

theorem State.cmdCameraUnbind_of_bound {s : State} {h : Word} {p : Pipe} {id : Nat} {c : Camera}
    (hc : s.cameraOf id h = some (p, c)) : s.cmdCameraUnbind h id = answerOk (s.unbind p id) ((s.unbind p id).applyOf p) := by
  simp only [State.cmdCameraUnbind, hc]

section
variable {s : State} {dt : Nat} {h : Hdr} {r : Role} (ht : (s.elapse dt).takes h r)
include ht

theorem exec_cameraBind_of_answer {b : Byte} {v : State} {status : Nat} {result : List Word}
    (ha : (s.elapse dt).takeCmd.cmdCameraBind h.session b = ⟨v, status, result, none, false, false⟩) :
    exec (.cameraBind dt h b) s = .next (v.complete h.tag 0x0030 status ((s.elapse dt).ring 0).head result) :=
  State.run_fetch_of_answer ht (c := .cameraBind b) ha

theorem exec_cameraUnbind_of_answer {id : Byte} {v : State} {status : Nat} {result : List Word}
    (ha : (s.elapse dt).takeCmd.cmdCameraUnbind h.session id.toNat = ⟨v, status, result, none, false, false⟩) :
    exec (.cameraUnbind dt h id) s = .next (v.complete h.tag 0x0031 status ((s.elapse dt).ring 0).head result) :=
  State.run_fetch_of_answer ht (c := .cameraUnbind id.toNat) ha

end

/-- Settles O19: the id is the first that `find?` meets; the streams that end with a camera leave all but the lanes and ring 2. -/
theorem camerasBind : Obligations.CamerasBind := by
  unfold Obligations.CamerasBind
  constructor
  · rintro dt h b p id r s u rfl ht hp
    refine ⟨fun hfull => ?_, fun hroom hid hfree hleast => ?_⟩
    · exact exec_cameraBind_of_answer ht (State.cmdCameraBind_of_full hp (by rwa [State.takeCmd_cams]))
    · rw [← State.takeCmd_cams]
      simp only [← State.takeCmd_cams (s.elapse dt)] at hroom hfree hleast
      exact exec_cameraBind_of_answer ht (State.cmdCameraBind_of_free hp hroom hid hfree hleast)
  · rintro dt h id p c r s u rfl ht hcam hc
    have hans := exec_cameraUnbind_of_answer ht
      (State.cmdCameraUnbind_of_bound ((State.takeCmd_cameraOf ..).trans hcam))
    generalize s.elapse dt = u at ht hcam hc hans ⊢
    obtain ⟨codes, hv⟩ := State.unbind_of_bound (s := u.takeCmd) ((State.takeCmd_cams ..) ▸ hc)
    have hview := State.endStreams_linkView u.takeCmd p codes
    have hpl := State.endStreams_pl u.takeCmd p codes p
    simp only [State.linkView, LinkView.mk.injEq] at hview
    obtain ⟨-, -, -, -, -, hnow, hsup, hplt, -, hact, hnv, -, -, hcompl, hring0, hring1⟩ := hview
    have happly : (u.takeCmd.unbind p id.toNat).applyOf p = u.applyOf p := by
      rw [hv, State.accept_applyOf, State.applyOf_congr hnow hpl, State.takeCmd_applyOf]
    rw [happly, hv] at hans
    have hpl' : ((u.takeCmd.unbind p id.toNat).pl p) = { u.pl p with
        pend := { (u.pl p).pend with cams := (u.cams p).filter (fun x => x.id ≠ id.toNat) }
        prior := some ((u.takeCmd.endStreams p codes).priorNow p) } := by
      rw [hv, State.accept_pl, hpl, State.takeCmd_pl, State.cams]
    refine ⟨_, hans, ?_, ?_, State.answered_of_rings ht ?_ ?_ ?_ _ _ _, ?_, ?_, ?_, ?_⟩
    · rw [State.complete_pl, ← hv, hpl']
    · rw [State.complete_pl, ← hv, hpl']
    · rw [State.accept_hif, hcompl]; rfl
    · rw [State.accept_ring, hring0]
    · rw [State.accept_ring, hring1]
    · rw [State.complete_sup, State.accept_sup, hsup, State.takeCmd_sup]
    · rw [State.complete_nv, State.accept_nv, hnv, State.takeCmd_nv]
    · rw [State.complete_plt, State.accept_plt, hplt, State.takeCmd_plt]
    · rw [State.complete_act, State.accept_act, hact, State.takeCmd_act]

end Sys2Proof.Machine

namespace Sys2Proof.Machine

/-! ## Product sets (07 R151, R167, R168, R172) -/

section
variable {s : State} {h : Word} {id : Nat} {d : List Nat} {cool : Nat} {p : Pipe} {c : Camera}
  (hcam : s.cameraOf id h = some (p, c))
include hcam

theorem State.cmdProductSet_of_badDecl (hd : declOk d cool = false) : s.cmdProductSet h id d cool = Machine.answer s 2 := by
  simp [State.cmdProductSet, hcam, hd]

variable (hd : declOk d cool = true) (hcompat : s.pa.pend.compat = false)
include hd hcompat

/-- Products to the NL lanes are the primary's to bind (R167). -/
theorem State.cmdProductSet_of_notPrimary (hn : s.notPrimary p h = true) (hnl : 254 ∈ d) :
    s.cmdProductSet h id d cool = Machine.answer s 6 := by
  simp [State.cmdProductSet, hcam, hd, hcompat, hn, hnl]

/-- A declaration whose destinations can all be bound comes to the budgets. -/
theorem State.cmdProductSet_of_destOk (hn : s.notPrimary p h = false ∨ 254 ∉ d)
    (hdest : ∀ k, k < 10 → s.destOk (s.pl p).pend id d k = true) :
    s.cmdProductSet h id d cool = s.declareSets p (c.declare d cool) := by
  have hall : (List.range 10).all (s.destOk (s.pl p).pend id d) = true := by
    rw [List.all_eq_true]
    exact fun k hk => hdest k (List.mem_range.mp hk)
  have hnl : ¬(s.notPrimary p h && d.contains 254) = true := by
    rcases hn with hn | hn <;> simp [hn]
  simp only [State.cmdProductSet, hcam, hd, hcompat, hall, if_neg hnl, Bool.not_true, Bool.false_and, Bool.false_eq_true, if_false]

end

/-! ## A change that breaks a budget (07 R168) -/

section
variable {s : State} {p : Pipe} {all : List Camera} {a e : Camera} (code : Nat)

theorem State.overrule_of_single (h : all.find? (fun x => !x.secondary) = none ∨ all.find? Camera.secondary = none) :
    s.overrule p all code = .error code := by
  unfold State.overrule
  split
  · next ha he => rcases h with h | h <;> simp_all
  · rfl

variable (ha : all.find? (fun x => !x.secondary) = some a) (he : all.find? Camera.secondary = some e)
include ha he

theorem State.overrule_of_own (hown : s.budgetWith p [a] ≠ 0) : s.overrule p all code = .error (s.budgetWith p [a]) := by
  unfold State.overrule
  split
  · next a' e' ha' he' =>
    obtain rfl : a' = a := Option.some.inj (ha'.symm.trans ha)
    exact if_pos hown
  · next h => exact absurd he (h _ _ ha)

/-- The secondary's sets give way to the primary's. -/
theorem State.overrule_of_fits (hown : s.budgetWith p [a] = 0) : s.overrule p all code =
    .ok ((s.setCams p (replaceCam all (s.preempt p a 10 e []).1)).postPreempted p e.id (s.preempt p a 10 e []).2) := by
  unfold State.overrule
  split
  · next a' e' ha' he' =>
    obtain rfl : a' = a := Option.some.inj (ha'.symm.trans ha)
    obtain rfl : e' = e := Option.some.inj (he'.symm.trans he)
    generalize s.preempt p a' 10 e' [] = r, s.budgetWith p [a'] = own at hown ⊢
    obtain ⟨left, out⟩ := r
    exact if_neg (not_not_intro hown)
  · next h => exact absurd he (h _ _ ha)

end

section
variable {s : State} {p : Pipe} {c : Camera}

theorem State.declareSets_of_fits (h : s.budgetWith p (replaceCam (s.cams p) c) = 0) : s.declareSets p c =
    answerOk (s.setCams p (replaceCam (s.cams p) c)) ((s.setCams p (replaceCam (s.cams p) c)).applyOf p) := by
  simp [State.declareSets, h]

variable (h : s.budgetWith p (replaceCam (s.cams p) c) ≠ 0)
include h

theorem State.declareSets_of_secondary (hc : c.secondary = true) :
    s.declareSets p c = Machine.answer s (s.budgetWith p (replaceCam (s.cams p) c)) := by
  simp [State.declareSets, h, hc]

variable (hc : c.secondary = false)
include hc

theorem State.declareSets_of_ok {v : State}
    (ho : s.overrule p (replaceCam (s.cams p) c) (s.budgetWith p (replaceCam (s.cams p) c)) = .ok v) :
    s.declareSets p c = answerOk v (v.applyOf p) := by
  simp [State.declareSets, h, hc, ho]

theorem State.declareSets_of_error {k : Nat}
    (ho : s.overrule p (replaceCam (s.cams p) c) (s.budgetWith p (replaceCam (s.cams p) c)) = .error k) :
    s.declareSets p c = Machine.answer s k := by
  simp [State.declareSets, h, hc, ho]

end

theorem exec_productSet_of_answer {s v : State} {dt : Nat} {h : Hdr} {r : Role} (ht : (s.elapse dt).takes h r) {cam : Byte}
    {dest : List Byte} {cool : BitVec 16} {status : Nat} {result : List Word}
    (ha : (s.elapse dt).takeCmd.cmdProductSet h.session cam.toNat ((List.range 10).map (fun i => (dest.getD i 0#8).toNat)) cool.toNat =
      ⟨v, status, result, none, false, false⟩) :
    exec (.productSet dt h cam dest cool) s = .next (v.complete h.tag 0x0032 status ((s.elapse dt).ring 0).head result) :=
  State.run_fetch_of_answer ht (c := .productSet cam.toNat ((List.range 10).map (fun i => (dest.getD i 0#8).toNat)) cool.toNat) ha

/-- Settles O20: the checks of the declaration come one after the other; a change within the budgets is accepted, another is the
primary's alone to force. -/
theorem productSets : Obligations.ProductSets := by
  unfold Obligations.ProductSets
  rintro dt h cam dest cool _ p c r _ s u _ rfl rfl ht rfl hcam rfl
  have hset {v : State} {status : Nat} {result : List Word} (ha) :=
    exec_productSet_of_answer ht (cam := cam) (dest := dest) (cool := cool) (v := v) (status := status) (result := result) ha
  have hcompat := ht.takeCmd_compat
  rw [← State.takeCmd_cameraOf] at hcam
  rw [← State.takeCmd_pl, ← State.takeCmd_cams, ← State.takeCmd_notPrimary]
  generalize (s.elapse dt).takeCmd = v at hcam hcompat hset ⊢
  refine ⟨fun hd => ?_, fun hd hn hnl => ?_, fun hd hn hdest => ?_⟩
  · exact hset (State.cmdProductSet_of_badDecl hcam hd)
  · exact hset (State.cmdProductSet_of_notPrimary hcam hd hcompat hn hnl)
  · rw [State.cmdProductSet_of_destOk hcam hd hcompat hn hdest] at hset
    refine ⟨fun h0 => ?_, fun h0 hsec => ?_, fun a h0 hsec ha he => ?_, fun a e h0 hsec ha he => ?_⟩
    · exact hset (State.declareSets_of_fits h0)
    · exact hset (State.declareSets_of_secondary h0 hsec)
    · exact hset (State.declareSets_of_error h0 hsec (State.overrule_of_single _ (.inr he)))
    · split
      · next hown => exact hset (State.declareSets_of_ok h0 hsec (State.overrule_of_fits _ ha he hown))
      · next hown => exact hset (State.declareSets_of_error h0 hsec (State.overrule_of_own _ ha he hown))

end Sys2Proof.Machine

namespace Sys2Proof.Machine

/-! ## Shutter events of pipeline B (05 R121 to R124, R127) -/

section
variable (s : State)

@[simp] theorem State.shutterPulse_B_linkView (o : Owner) : (s.shutterPulse .B o).linkView = s.linkView := s.sendCmd_linkView ..

@[simp] theorem State.countFailure_linkView : (s.countFailure .B).linkView = s.linkView := by
  have hc : (s.modPl .B (fun x => { x with fails := x.fails + 1 })).linkView = s.linkView := s.modPl_B_linkView _ ⟨rfl, rfl, rfl, rfl, rfl⟩
  unfold State.countFailure
  dsimp only
  split
  · rw [State.warnBit_linkView, State.postP_linkView, State.modPl_B_linkView _ _ ⟨rfl, rfl, rfl, rfl, rfl⟩, hc]
  · exact hc
@[simp] theorem State.closeEvent_linkView : (s.closeEvent .B).linkView = s.linkView := by
  unfold State.closeEvent
  (repeat' split) <;> simp [State.modPl_B_linkView]
@[simp] theorem State.failEvent_linkView (r : Nat) : (s.failEvent .B r).linkView = s.linkView := by
  unfold State.failEvent
  (repeat' split) <;> simp [State.modPl_B_linkView]
@[simp] theorem State.issueOpen_linkView : (s.issueOpen .B).linkView = s.linkView := by
  unfold State.issueOpen
  (repeat' split) <;> simp [State.modPl_B_linkView]
@[simp] theorem State.abortEvent_linkView : (s.abortEvent .B).linkView = s.linkView := by simp [State.abortEvent]
@[simp] theorem State.endIdleEvent_linkView : (s.endIdleEvent .B).linkView = s.linkView := by
  unfold State.endIdleEvent
  dsimp only
  (repeat' split) <;> simp [State.modPl_B_linkView]
@[simp] theorem State.leaveImaging_linkView : (s.leaveImaging .B).linkView = s.linkView := by
  unfold State.leaveImaging
  extract_lets anch was
  split
  · rw [State.modPl_B_linkView _ _ ⟨rfl, rfl, rfl, rfl, rfl⟩, State.abortEvent_linkView]
  · rfl

/-! ## Pipeline B ends reading (01 R35, 13 R302) -/

theorem State.stopReading_linkView :
    (s.stopReading .B).linkView = { s.linkView with reading := false, armed := false } := by
  have hr (t : State) : (t.modPl .B (fun x => { x with reading := false, armed := false, prepared := none })).linkView =
      { t.linkView with reading := false, armed := false } := rfl
  simp [State.stopReading, hr]

/-- A frame not fully received is noted as incomplete (R35). -/
def State.cutFrameB : State :=
  match s.pb.cur with
  | some f =>
    if f.received.isNone then
      s.modPl .B (fun x => { x.modFrame f.n (fun g => { g with incomplete := true }) with link := none })
    else s
  | none => s

/-- The shutter event of a pipeline B that no longer reads ends as for ABORT. -/
def State.endEventB : State :=
  ((s.failEvent .B 5).modPl .B (fun x =>
    { x with event := x.event.map (fun e => { e with ended := some (e.ended.getD x.frameNo) }) })).closeEvent .B

theorem State.cutPipeB_eq : s.cutPipeB = (s.cutFrameB.stopReading .B).endEventB := rfl

theorem State.cutFrameB_linkView : s.cutFrameB.linkView = { s.linkView with frames := s.cutFrameB.pb.frames } := by
  unfold State.cutFrameB
  (repeat' split) <;> rfl
@[simp] theorem State.endEventB_linkView : s.endEventB.linkView = s.linkView := by
  rw [State.endEventB, State.closeEvent_linkView, State.modPl_B_linkView _ _ ⟨rfl, rfl, rfl, rfl, rfl⟩, State.failEvent_linkView]

/-- Pipeline B ends reading: its frames remain, marked. -/
theorem State.cutPipeB_linkView : s.cutPipeB.linkView =
    { s.linkView with reading := false, armed := false, frames := s.cutFrameB.pb.frames } := by
  rw [State.cutPipeB_eq, State.endEventB_linkView, State.stopReading_linkView, State.cutFrameB_linkView]

end

/-! ## Pipeline B enabled and disabled (07 R173, 13 R297, R302) -/

@[simp] theorem Lane.strike_on (x : Lane) (now : Nat) : (x.strike now).on = x.on := by
  unfold Lane.strike
  (repeat' split) <;> rfl
@[simp] theorem Lane.enable_on (x : Lane) (now : Nat) : (x.enable now).on = true := by
  unfold Lane.enable
  split
  · next h => exact h
  · rw [Lane.strike_on]

@[simp] theorem State.complete_lane (s : State) (tag : Word) (op st ix : Nat) (x : List Word) (l : Nat) :
    (s.complete tag op st ix x).lane l = s.lane l := by rw [State.lane, State.complete_nl, State.lane]

/-- Lanes 2 and 3 changed alike. -/
theorem State.lane_modLanes (s : State) (f : Lane → Lane) (hl : s.nl.lanes.length = 4) :
    ((s.modLane 2 f).modLane 3 f).lane 2 = f (s.lane 2) ∧ ((s.modLane 2 f).modLane 3 f).lane 3 = f (s.lane 3) := by
  simp [State.lane_modLane, hl]

section
variable (s : State)

theorem State.setPipeB_linkView (on : Bool) (fr : Nat) :
    (s.setPipeB on fr).linkView = { s.linkView with sup := { s.sup with pipeB := on } } := rfl
theorem State.setPipeB_lane (on : Bool) (fr l : Nat) : (s.setPipeB on fr).lane l = s.lane l := rfl
theorem State.setPipeB_pb_pend (on : Bool) (fr : Nat) : (s.setPipeB on fr).pb.pend = { s.pb.pend with rate := fr } := rfl

theorem State.linkUp_lanes (hl : s.nl.lanes.length = 4) : (s.linkUp.lane 2).on = true ∧ (s.linkUp.lane 3).on = true := by
  obtain ⟨h2, h3⟩ := s.lane_modLanes (fun x => x.enable s.now) hl
  exact ⟨(congrArg Lane.on h2).trans (Lane.enable_on ..), (congrArg Lane.on h3).trans (Lane.enable_on ..)⟩

theorem State.linkDown_linkView : s.linkDown.linkView = { s.linkView with
    reading := false, armed := false, frames := (((s.abortEvent .B).sendCmd 5 0 0).cutFrameB).pb.frames,
    comp := { s.nl.comp.detect with state := 0 } } := by
  rw [State.linkDown, State.modLane_linkView, State.modLane_linkView, State.modComp_linkView, State.cutPipeB_linkView,
    State.sendCmd_linkView, State.abortEvent_linkView]
  rfl

/-- With nothing read and no reading to come a setting applies from the frame that comes next (R51). -/
theorem State.applyOf_B_of_stopped (hr : s.pb.reading = false) (ha : s.pb.armed = false) :
    s.applyOf .B = [0xffffffff#32, word s.pb.frameNo] := by
  simp [State.applyOf, State.applyFrame, State.pl, hr, ha]

theorem State.linkDown_lanes (hl : s.nl.lanes.length = 4) : (s.linkDown.lane 2).on = false ∧ (s.linkDown.lane 3).on = false := by
  obtain ⟨cut, hview, hdown⟩ : ∃ cut : State, cut.linkView.laneCount = s.linkView.laneCount ∧ s.linkDown =
      (cut.modLane 2 (fun x => x.idle.disable)).modLane 3 (fun x => x.idle.disable) := by
    refine ⟨_, ?_, rfl⟩
    rw [State.modComp_linkView, State.cutPipeB_linkView, State.sendCmd_linkView, State.abortEvent_linkView]
  obtain ⟨h2, h3⟩ := cut.lane_modLanes (fun x => x.idle.disable) (Eq.trans hview hl)
  rw [hdown]
  exact ⟨congrArg Lane.on h2, congrArg Lane.on h3⟩

end

section
variable {s : State} {h : Word} {en fr : Nat} (hen : en ≤ 1) (hfr : fr ≤ 2) (hn : s.notPrimary .B h = false)
include hen hfr hn

theorem State.cmdPipeBSet_of_relay (h1 : en = 1) (hm : s.mode = .relay) : s.cmdPipeBSet h en fr = Machine.answer s 3 := by
  subst h1
  simp [State.cmdPipeBSet, Nat.not_lt.mpr hfr, hn, hm]

theorem State.cmdPipeBSet_of_over (h1 : en = 1) (hm : s.mode ≠ .relay)
    (hb : (s.setPipeB true fr).budgetCode (s.setPipeB true fr).pendingLoads ≠ 0) : s.cmdPipeBSet h en fr =
      Machine.answer s ((s.setPipeB true fr).budgetCode (s.setPipeB true fr).pendingLoads) := by
  subst h1
  simp [State.cmdPipeBSet, Nat.not_lt.mpr hfr, hn, hm, hb]

/-- Within the budgets the setting is taken; the link begins or ends where the enable changes. -/
theorem State.cmdPipeBSet_of_kept (hok : en = 1 → s.mode ≠ .relay ∧
    (s.setPipeB (decide (en = 1)) fr).budgetCode (s.setPipeB (decide (en = 1)) fr).pendingLoads = 0) {r : State}
    (hr : r = if decide (en = 1) && !s.sup.pipeB then (s.setPipeB (decide (en = 1)) fr).linkUp
      else if !decide (en = 1) && s.sup.pipeB then s.linkDown.setPipeB (decide (en = 1)) fr
      else s.setPipeB (decide (en = 1)) fr) : s.cmdPipeBSet h en fr = answerOk r (r.applyOf .B) := by
  subst hr
  have hrange : ¬(decide (1 < en) || decide (2 < fr)) = true := by simp [hen, hfr]
  have hrelay : ¬(decide (en = 1) && decide (s.mode = .relay)) = true := by
    simp only [Bool.and_eq_true, decide_eq_true_eq, not_and]
    exact fun h1 => (hok h1).1
  have hcode : (if decide (en = 1) = true then
      (s.setPipeB (decide (en = 1)) fr).budgetCode (s.setPipeB (decide (en = 1)) fr).pendingLoads else 0) = 0 := by
    split
    · next h1 => exact (hok (of_decide_eq_true h1)).2
    · rfl
  unfold State.cmdPipeBSet
  dsimp only
  rw [if_neg hrange, hn, if_neg Bool.false_ne_true, if_neg hrelay, hcode, if_neg (not_not_intro rfl)]

end

/-! ## Silos, services and 1210 mode (08 R187, R194, 10 R233) -/

theorem State.cmdSiloSet_of_inRange {s : State} {b : Byte} {p : Pipe} {n : Nat} (hp : pipeOfByte b = some p) (hlo : 3 ≤ n)
    (hhi : n ≤ 6) : s.cmdSiloSet b n = if s.mode = .standby
      then Machine.answer (s.modPl p (fun x => { x with capSlots := n })) 0 else Machine.answer s 3 := by
  by_cases hm : s.mode = .standby <;> simp [State.cmdSiloSet, hp, Nat.not_lt.mpr hlo, Nat.not_lt.mpr hhi, hm]

section
variable {s v : State} {h : Word} {b : Byte} {p : Pipe} {m : Nat} (hp : pipeOfByte b = some p) (hm : m ≤ 3)
  (hn : s.notPrimary p h = false) (hv : v = s.accept p (fun st => { st with services := m }))
include hp hm hn hv

theorem State.cmdServiceEnable_of_fits (h0 : v.budgetCode v.pendingLoads = 0) :
    s.cmdServiceEnable h b m = answerOk v (v.applyOf p) := by
  subst hv
  simp [State.cmdServiceEnable, hp, hn, Nat.not_lt.mpr hm, h0]

variable (h0 : v.budgetCode v.pendingLoads ≠ 0)
include h0

theorem State.cmdServiceEnable_of_ok {w : State} (ho : v.overrule p (v.cams p) (v.budgetCode v.pendingLoads) = .ok w) :
    s.cmdServiceEnable h b m = answerOk w (w.applyOf p) := by
  subst hv
  simp [State.cmdServiceEnable, hp, hn, Nat.not_lt.mpr hm, h0, ho]

theorem State.cmdServiceEnable_of_error {k : Nat} (ho : v.overrule p (v.cams p) (v.budgetCode v.pendingLoads) = .error k) :
    s.cmdServiceEnable h b m = Machine.answer s k := by
  subst hv
  simp [State.cmdServiceEnable, hp, hn, Nat.not_lt.mpr hm, h0, ho]

end

theorem State.cmdCompatSet_of_standby {s : State} {e : Nat} (he : e ≤ 1) (hm : s.mode = .standby) : s.cmdCompatSet e =
    if e = 1 ∧ s.compatFits = false then Machine.answer s 9
    else Machine.answer (s.accept .A (fun st => { st with compat := decide (e = 1) })) 0 := by
  simp [State.cmdCompatSet, Nat.not_lt.mpr he, hm]

/-! ## The commands -/

section
variable {s v : State} {dt : Nat} {h : Hdr} {r : Role} (ht : (s.elapse dt).takes h r) {status : Nat} {result : List Word}
include ht

theorem exec_pipeBSet_of_answer {en fr : Byte}
    (ha : (s.elapse dt).takeCmd.cmdPipeBSet h.session en.toNat fr.toNat = ⟨v, status, result, none, false, false⟩) :
    exec (.pipeBSet dt h en fr) s = .next (v.complete h.tag 0x0033 status ((s.elapse dt).ring 0).head result) :=
  State.run_fetch_of_answer ht (c := .pipeBSet en.toNat fr.toNat) ha

theorem exec_siloSet_of_answer {b n : Byte}
    (ha : (s.elapse dt).takeCmd.cmdSiloSet b n.toNat = ⟨v, status, result, none, false, false⟩) :
    exec (.siloSet dt h b n) s = .next (v.complete h.tag 0x0034 status ((s.elapse dt).ring 0).head result) :=
  State.run_fetch_of_answer ht (c := .siloSet b n.toNat) ha

theorem exec_serviceEnable_of_answer {b m : Byte}
    (ha : (s.elapse dt).takeCmd.cmdServiceEnable h.session b m.toNat = ⟨v, status, result, none, false, false⟩) :
    exec (.serviceEnable dt h b m) s = .next (v.complete h.tag 0x0041 status ((s.elapse dt).ring 0).head result) :=
  State.run_fetch_of_answer ht (c := .serviceEnable b m.toNat) ha

end

/-- COMPAT_SET is served in 1210 mode too, which it ends (R194). -/
theorem exec_compatSet_of_answer {s v : State} {dt : Nat} {h : Hdr} {b : Byte} {x : Session} {status : Nat} {result : List Word}
    (hfetch : (s.elapse dt).mayFetch = true) (hawake : (s.elapse dt).asleep = false) (hsafe : (s.elapse dt).mode ≠ .safe)
    (hrsv : h.rsv = false) (hx : (s.elapse dt).sessionOf h.session = some x)
    (ha : (s.elapse dt).takeCmd.cmdCompatSet b.toNat = ⟨v, status, result, none, false, false⟩) :
    exec (.compatSet dt h b) s = .next (v.complete h.tag 0x0070 status ((s.elapse dt).ring 0).head result) := by
  have hl : (s.elapse dt).live = true := by
    by_contra hl
    simp [State.mayFetch, hl] at hfetch
  have hserved := State.fetch_of_session hfetch hsafe hawake hrsv hx (c := .compatSet b.toNat) (Bool.and_false _)
  exact congrArg Host.Outcome.next ((State.run_of_live hl _).trans (hserved.trans
    ((congrArg (fun a => State.finish a _ _) ha).trans (State.finish_answer ..))))

/-- What PIPE_B_SET does to the link of a pipeline B enabled anew is in the link alone. -/
theorem State.linkUp_setPipeB_applyOf (s : State) (on : Bool) (fr : Nat) :
    (s.setPipeB on fr).linkUp.applyOf .B = (s.setPipeB on fr).applyOf .B := State.applyOf_congr rfl rfl

section
variable {u : State} {h : Hdr} {r : Role} (ht : u.takes h r) {on : Bool} {fr : Nat}
include ht

/-- The link of a pipeline B enabled anew trains, and nothing else follows but the completion. -/
theorem State.linkUp_complete {v t : State} {result : List Word} (hv : v = u.takeCmd.setPipeB on fr)
    (hc : t = v.linkUp.complete h.tag 0x0033 0 (u.ring 0).head result) : t.nl.comp = u.nl.comp.detect ∧
      (u.nl.lanes.length = 4 → (t.lane 2).on = true ∧ (t.lane 3).on = true) ∧ t.sup = v.sup ∧ t.pb = v.pb ∧ t.pa = u.pa ∧
        t.nv = u.nv ∧ u.answered t h.tag 0x0033 0 result := by
  subst hc
  have hhif : v.linkUp.hif = u.takeCmd.hif := hv ▸ rfl
  refine ⟨?_, fun hl => ?_, ?_, ?_, ?_, ?_, State.answered_of_complete ht hhif h.tag 0x0033 result⟩
  · rw [State.complete_nl, hv]; rfl
  · rw [State.complete_lane, State.complete_lane]
    exact v.linkUp_lanes (hv ▸ hl)
  · rw [State.complete_sup]; rfl
  · rw [State.complete_pb]; rfl
  · rw [State.complete_pa, hv]; rfl
  · rw [State.complete_nv, hv]; rfl

/-- The link of a pipeline B disabled goes down, and pipeline B stops. -/
theorem State.linkDown_complete {w t : State} (hw : w = u.takeCmd.linkDown.setPipeB on fr)
    (hc : t = w.complete h.tag 0x0033 0 (u.ring 0).head (w.applyOf .B)) :
    t.sup = { u.sup with pipeB := on } ∧ t.nl.comp.state = 0 ∧
      (u.nl.lanes.length = 4 → (t.lane 2).on = false ∧ (t.lane 3).on = false) ∧ t.pb.reading = false ∧ t.pb.pend.rate = fr ∧
        t.pa = u.pa ∧ t.nv = u.nv ∧ u.answered t h.tag 0x0033 0 [0xffffffff#32, word u.pb.frameNo] := by
  obtain ⟨fs, hview⟩ : ∃ fs, w.linkView = { u.takeCmd.linkView with
      reading := false, armed := false, frames := fs, comp := { u.nl.comp.detect with state := 0 },
      sup := { u.sup with pipeB := on } } := by
    have hdown := u.takeCmd.linkDown_linkView
    have hsup : u.takeCmd.linkDown.sup = u.sup := congrArg LinkView.sup hdown
    refine ⟨(((u.takeCmd.abortEvent .B).sendCmd 5 0 0).cutFrameB).pb.frames, ?_⟩
    rw [hw, State.setPipeB_linkView, hdown, hsup]
    rfl
  simp only [State.linkView, LinkView.mk.injEq] at hview
  obtain ⟨hr, ha, hn, -, -, -, hsup, -, hpa, -, hnv, -, hcomp, hcompl, hring0, hring1⟩ := hview
  rw [State.applyOf_B_of_stopped w hr ha, hn] at hc
  subst hc
  refine ⟨?_, ?_, fun hl => ?_, ?_, ?_, ?_, ?_, State.answered_of_rings ht hcompl hring0 hring1 h.tag 0x0033 _⟩
  · rw [State.complete_sup, hsup]
  · rw [State.complete_nl, hcomp]
  · rw [State.complete_lane, State.complete_lane, hw, State.setPipeB_lane, State.setPipeB_lane]
    exact u.takeCmd.linkDown_lanes hl
  · rw [State.complete_pb, hr]
  · rw [State.complete_pb, hw, State.setPipeB_pb_pend]
  · rw [State.complete_pa, hpa]; rfl
  · rw [State.complete_nv, hnv]; rfl

end

/-- Settles O21: each command by its checks in their order; the link that begins or ends leaves all but itself, and pipeline B,
alone. -/
theorem pipelineCommands : Obligations.PipelineCommands := by
  unfold Obligations.PipelineCommands
  refine ⟨?_, ?_, ?_, ?_⟩
  · rintro dt h en fr r s u v rfl ht hv hen hfr hn
    obtain rfl : v = (s.elapse dt).takeCmd.setPipeB (decide (en.toNat = 1)) fr.toNat := hv
    rw [← State.takeCmd_notPrimary] at hn
    have hset {w : State} {status : Nat} {result : List Word} (ha) :=
      exec_pipeBSet_of_answer ht (en := en) (fr := fr) (v := w) (status := status) (result := result) ha
    refine ⟨fun h1 hm => ?_, fun h1 hm hb => ?_, fun hok => ⟨fun hsame => ?_, fun h1 hoff => ?_, fun h0 hon => ?_⟩⟩
    · exact hset (State.cmdPipeBSet_of_relay hen hfr hn h1 hm)
    · simp only [h1, decide_true] at hb ⊢
      exact hset (State.cmdPipeBSet_of_over hen hfr hn h1 hm hb)
    · refine hset (State.cmdPipeBSet_of_kept hen hfr hn hok ?_)
      rw [State.takeCmd_sup, hsame, Bool.and_not_self, Bool.not_and_self, if_neg Bool.false_ne_true, if_neg Bool.false_ne_true]
    · have hans := hset (State.cmdPipeBSet_of_kept hen hfr hn hok
        (r := ((s.elapse dt).takeCmd.setPipeB (decide (en.toNat = 1)) fr.toNat).linkUp) (by rw [State.takeCmd_sup, hoff]; simp [h1]))
      rw [State.linkUp_setPipeB_applyOf] at hans
      exact ⟨_, hans, State.linkUp_complete ht rfl rfl⟩
    · have hans := hset (State.cmdPipeBSet_of_kept hen hfr hn hok
        (r := (s.elapse dt).takeCmd.linkDown.setPipeB (decide (en.toNat = 1)) fr.toNat) (by rw [State.takeCmd_sup, hon]; simp [h0]))
      exact ⟨_, hans, State.linkDown_complete ht rfl rfl⟩
  · rintro dt h b n p r s u rfl ht hp hlo hhi
    have hans := State.cmdSiloSet_of_inRange (s := (s.elapse dt).takeCmd) hp hlo hhi
    rw [State.takeCmd_mode] at hans
    split
    · next hm => exact exec_siloSet_of_answer ht (hans.trans (if_pos hm))
    · next hm => exact exec_siloSet_of_answer ht (hans.trans (if_neg hm))
  · rintro dt h b m p r s u v rfl ht hp rfl hm hn
    rw [← State.takeCmd_notPrimary] at hn
    refine ⟨fun h0 => ?_, fun h0 hone => ?_, fun a e h0 ha he => ?_⟩
    · exact exec_serviceEnable_of_answer ht (State.cmdServiceEnable_of_fits hp hm hn rfl h0)
    · exact exec_serviceEnable_of_answer ht (State.cmdServiceEnable_of_error hp hm hn rfl h0 (State.overrule_of_single _ hone))
    · split
      · next hown =>
        exact exec_serviceEnable_of_answer ht (State.cmdServiceEnable_of_ok hp hm hn rfl h0 (State.overrule_of_fits _ ha he hown))
      · next hown =>
        exact exec_serviceEnable_of_answer ht (State.cmdServiceEnable_of_error hp hm hn rfl h0 (State.overrule_of_own _ ha he hown))
  · rintro dt h b x s u rfl hfetch hawake hm hrsv hx hb
    have hsafe : (s.elapse dt).mode ≠ .safe := by rw [hm]; nofun
    have hans := State.cmdCompatSet_of_standby (s := (s.elapse dt).takeCmd) hb hm
    split
    · next hc => exact exec_compatSet_of_answer hfetch hawake hsafe hrsv hx (hans.trans (if_pos hc))
    · next hc => exact exec_compatSet_of_answer hfetch hawake hsafe hrsv hx (hans.trans (if_neg hc))

end Sys2Proof.Machine

namespace Sys2Proof.Machine

/-! ## A lane changed (13 R289, R303, R304) -/

/-- A change of a lane by what it holds is a change of its content. -/
theorem State.modLane_eq_const (s : State) (l : Nat) (f : Lane → Lane) : s.modLane l f = s.modLane l (fun _ => f (s.lane l)) := by
  have hmod : modAt s.nl.lanes l f = modAt s.nl.lanes l (fun _ => f (s.nl.lanes.getD l Lane.reset)) := by
    refine List.ext_getElem? fun j => ?_
    rw [modAt, modAt, List.getElem?_modify, List.getElem?_modify]
    split
    · next h =>
      subst h
      cases hj : s.nl.lanes[l]? <;> simp [hj]
    · rfl
  rw [State.modLane, State.modLane, hmod]
  rfl

theorem State.lane_modLane_self (s : State) {l : Nat} (hl : l < s.nl.lanes.length) (f : Lane → Lane) :
    (s.modLane l f).lane l = f (s.lane l) := by
  rw [State.lane_modLane, if_pos ⟨rfl, hl⟩]
theorem State.lane_modLane_ne (s : State) {l j : Nat} (h : l ≠ j) (f : Lane → Lane) : (s.modLane l f).lane j = s.lane j := by
  rw [State.lane_modLane, if_neg (fun e => h e.1)]

/-! ## Injections (13 R304) -/

section
variable (x : Lane) (now : Nat)

@[simp] theorem Lane.strike_cfg : (x.strike now).cfg = x.cfg := by
  unfold Lane.strike
  (repeat' split) <;> rfl
@[simp] theorem Lane.strike_prbsErr : (x.strike now).prbsErr = x.prbsErr := by
  unfold Lane.strike
  (repeat' split) <;> rfl

/-- A lane that is dark or carries a pattern lets an injection wait. -/
theorem Lane.strike_of_no_traffic (h : x.on = false ∨ x.prbs ≠ 0) : x.strike now = x := by
  unfold Lane.strike
  exact if_pos (by rcases h with h | h <;> simp [h])

variable {x} (hon : x.on = true) (hp : x.prbs = 0)
include hon hp

/-- With packets or IDLE on the line an injection does not wait for its lane. -/
theorem Lane.has_traffic (k : Nat) :
    ¬(decide (({ x with inject := k } : Lane).prbs ≠ 0) || !({ x with inject := k } : Lane).on) = true := by
  show ¬(decide (x.prbs ≠ 0) || !x.on) = true
  simp [hp, hon]

/-- Injections 1 and 2 strike the next block. -/
theorem Lane.strike_block {k : Nat} (hlo : 1 ≤ k) (hk : k ≤ 2) : ({ x with inject := k } : Lane).strike now =
    { x with inject := 0, spoils := (x.blockNow now + 1, k) :: x.spoils } := by
  obtain rfl | rfl : k = 1 ∨ k = 2 := by omega
  · exact if_neg (Lane.has_traffic hon hp 1)
  · exact if_neg (Lane.has_traffic hon hp 2)

/-- Injection 3 waits where no packet is in progress. -/
theorem Lane.strike_packet_waits (hc : x.cur = none) : ({ x with inject := 3 } : Lane).strike now = { x with inject := 3 } := by
  refine (if_neg (Lane.has_traffic hon hp 3)).trans ?_
  dsimp only
  rw [hc]

theorem Lane.strike_packet {p : NlPacket} {r : Nat} (hc : x.cur = some (p, r)) : ({ x with inject := 3 } : Lane).strike now =
    { x with inject := 0, cur := some ({ p with badCrc := true }, r) } := by
  refine (if_neg (Lane.has_traffic hon hp 3)).trans ?_
  dsimp only
  rw [hc]

/-- Injection 4 strikes the next LSYNC, which stands at a multiple of its period. -/
theorem Lane.strike_lsync : ∃ c, ({ x with inject := 4 } : Lane).strike now = { x with inject := 0, spoils := (c, 4) :: x.spoils } ∧
    c % 16384 = 0 ∧ x.blockNow now < c ∧ c ≤ x.blockNow now + 16384 := by
  refine ⟨(x.blockNow now + 1 + lsyncPeriod - 1) / lsyncPeriod * lsyncPeriod, if_neg (Lane.has_traffic hon hp 4), ?_⟩
  unfold lsyncPeriod
  omega

end

theorem State.writeInject_of_allowed {s : State} (hm : s.mode = .calibration ∨ s.mode = .diagnostic) (l : Nat) (v : Word) :
    s.writeInject l v = if 1 ≤ fld v 2 0 && fld v 2 0 ≤ 4
      then s.modLane l (fun _ => ({ s.lane l with inject := fld v 2 0 } : Lane).strike s.now) else s := by
  have hm' : (decide (s.mode = .calibration) || decide (s.mode = .diagnostic)) = true := by
    rcases hm with h | h <;> simp [h]
  unfold State.writeInject
  rw [if_pos hm']
  split
  · exact s.modLane_eq_const l _
  · rfl

theorem State.writeInject_of_refused {s : State} (hc : s.mode ≠ .calibration) (hd : s.mode ≠ .diagnostic) (l : Nat) (v : Word) :
    s.writeInject l v = s.post0 0x00b5 [word (0x48 + 0x20 * l)] := by
  simp [State.writeInject, hc, hd, State.nlConfig]

/-! ## PRBS patterns (13 R303) -/

/-- The word of NL_LN_CFG that is stored for a pattern `n`. -/
def laneCfgWord (v : Word) (n : Nat) : Word := word (fld v 3 0 + at_ (fld v 11 8) 8 + at_ (fld v 17 16) 16 + at_ n 24)

theorem laneCfgWord_fields (v : Word) {n : Nat} (hn : n < 8) :
    fld (laneCfgWord v n) 26 24 = n ∧ fld (laneCfgWord v n) 3 0 = fld v 3 0 := by
  have h0 := fld_lt v 3 0
  have h1 := fld_lt v 11 8
  have h2 := fld_lt v 17 16
  have hw : (laneCfgWord v n).toNat = fld v 3 0 + fld v 11 8 * 2 ^ 8 + fld v 17 16 * 2 ^ 16 + n * 2 ^ 24 := by
    rw [laneCfgWord, word, BitVec.toNat_ofNat, at_, at_, at_, Nat.mod_eq_of_lt (by omega)]
  constructor
  · rw [fld, hw]
    omega
  · rw [fld, hw]
    omega

/-- A lane under a new configuration. -/
def Lane.configured (x : Lane) (v : Word) (n now : Nat) : Lane :=
  (if x.prbs = n then { x with cfg := laneCfgWord v n } else { x.plain with cfg := laneCfgWord v n }).strike now

theorem Lane.configured_cfg (x : Lane) (v : Word) (n now : Nat) : (x.configured v n now).cfg = laneCfgWord v n := by
  rw [Lane.configured, Lane.strike_cfg]
  split <;> rfl
theorem Lane.configured_prbsErr (x : Lane) (v : Word) (n now : Nat) : (x.configured v n now).prbsErr = x.prbsErr := by
  rw [Lane.configured, Lane.strike_prbsErr]
  split <;> rfl

theorem State.writeLaneCfg_of_diagnostic {s : State} (hm : s.mode = .diagnostic) (l : Nat) (v : Word) :
    s.writeLaneCfg l v = s.modLane l (fun x => x.configured v (fld v 26 24) s.now) := by
  simp only [State.writeLaneCfg, hm, decide_true, Bool.not_true, Bool.false_and, Bool.false_eq_true, if_false, if_true]
  rfl

/-- Outside DIAGNOSTIC no pattern is stored, and a write of one is reported. -/
theorem State.writeLaneCfg_of_other {s : State} (hm : s.mode ≠ .diagnostic) (l : Nat) (v : Word) : s.writeLaneCfg l v =
    if fld v 26 24 = 0 then s.modLane l (fun x => x.configured v 0 s.now)
    else (s.modLane l (fun x => x.configured v 0 s.now)).nlConfig (0x40 + 0x20 * l) := by
  by_cases hz : fld v 26 24 = 0 <;> simp [State.writeLaneCfg, hm, hz] <;> rfl

/-- A received bit that is the pattern's next one. -/
theorem Lane.checkBit_right {n : Nat} {x : Lane} {b : Bool} (hfull : (prbsTaps n).1 ≤ x.prbsSeen.length)
    (hb : b = prbsNext n x.prbsSeen) : (x.checkBit n b).prbsErr = x.prbsErr ∧ (x.checkBit n b).prbsRun = x.prbsRun + 1 ∧
      ((x.checkBit n b).prbsLock = true ↔ x.prbsLock = true ∨ 63 ≤ x.prbsRun) := by
  simp [Lane.checkBit, hfull, hb]

/-- A wrong one: counted once the checker has locked. -/
theorem Lane.checkBit_wrong {n : Nat} {x : Lane} {b : Bool} (hb : b ≠ prbsNext n x.prbsSeen) :
    (x.checkBit n b).prbsLock = x.prbsLock ∧ (x.checkBit n b).prbsRun = 0 ∧
      (x.checkBit n b).prbsErr = if x.prbsLock = true then satInc x.prbsErr 1 0xffffffff else x.prbsErr := by
  simp [Lane.checkBit, hb]

theorem State.prbsLocked_of_pattern {s : State} {l : Nat} (hm : s.mode = .diagnostic) (hp : (s.lane l).prbs ≠ 0) (bits : List Bool) :
    s.prbsLocked l bits = s.modLane l (fun x => bits.foldl (fun y b => y.checkBit x.prbs b) x) := by
  simp [State.prbsLocked, hm, hp]
theorem State.prbsLocked_of_none {s : State} {l : Nat} (h : s.mode ≠ .diagnostic ∨ (s.lane l).prbs = 0) (bits : List Bool) :
    s.prbsLocked l bits = s := by
  unfold State.prbsLocked
  exact if_neg (by rcases h with h | h <;> simp [h])

/-! ## EGR_EN (13 R295) -/

theorem State.writeEgrEn_eq (s : State) (v : Word) : s.writeEgrEn v =
    if s.egrFits (fld v 1 0) then { s with nl := { s.nl with egrReq := some (fld v 1 0) } } else s.post0 0x00b5 [0#32] := rfl

theorem State.egressLaneChange_of_none {s : State} (h : s.nl.egrReq = none) : s.egressLaneChange = s := by
  simp [State.egressLaneChange, h]
theorem State.egressLaneChange_of_busy {s : State} {w : Nat} (h : s.nl.egrReq = some w)
    (hc : (s.lane 0).cur ≠ none ∨ (s.lane 1).cur ≠ none) : s.egressLaneChange = s := by
  have hc' : ((s.lane 0).cur.isSome || (s.lane 1).cur.isSome) = true := by
    simpa [Option.isSome_iff_ne_none] using hc
  simp only [State.egressLaneChange, h]
  exact if_pos hc'

/-- The lanes named go into service, the others out of it. -/
def Lane.serve (x : Lane) (on : Bool) (now : Nat) : Lane := if on then x.enable now else x.disable

@[simp] theorem Lane.serve_on (x : Lane) (on : Bool) (now : Nat) : (x.serve on now).on = on := by
  cases on
  · rfl
  · exact x.enable_on now

theorem State.serveLanes_eq (s : State) (mask : Nat) : s.serveLanes mask =
    (s.modLane 0 (fun x => x.serve (decide (mask / 2 ^ 0 % 2 = 1)) s.now)).modLane 1
      (fun x => x.serve (decide (mask / 2 ^ 1 % 2 = 1)) s.now) := by
  simp only [State.serveLanes, Lane.serve, decide_eq_true_eq, State.modLane_now]

end Sys2Proof.Machine

namespace Sys2Proof.Machine

/-! ## A lane that sends (13 R292, R293) -/

@[simp] theorem othersAmong_zero (c : Nat) : othersAmong c 0 = 0 := Nat.zero_sub _

theorem NlPacket.size_pos (p : NlPacket) : 0 < p.size := Nat.succ_pos _

/-- A lane at rest: nothing in progress, its blocks counted up to now. -/
def Lane.rest (x : Lane) (now : Nat) : Lane := { x with blk := x.blockNow now, turn := 0 }

/-- A lane that begins a packet now; injection 3 that waits strikes it. -/
def Lane.begin_ (x : Lane) (now : Nat) (p : NlPacket) : Lane :=
  { x with
    cur := some ({ p with at_ := x.blockNow now, badCrc := x.prbs = 0 && x.inject = 3 }, p.size), blk := x.blockNow now, turn := 0,
    inject := if x.prbs = 0 && x.inject = 3 then 0 else x.inject }

section
variable {x : Lane} (b n : Nat) (q : List NlPacket × List NlPacket)

/-- A lane whose packet in progress is over. -/
def Lane.done (x : Lane) (r : Nat) : Lane := { x with cur := none, blk := x.blk + r + lsyncsAmong x.blk r }

/-- A lane that begins the packet it has chosen. -/
def Lane.chosen (x : Lane) (p : NlPacket) (t : Nat) : Lane :=
  { x with
    cur := some ({ p with at_ := x.blk, badCrc := x.prbs = 0 && x.inject = 3 }, p.size), turn := t,
    inject := if x.prbs = 0 && x.inject = 3 then 0 else x.inject }

theorem Lane.advance_of_fits {p : NlPacket} {r : Nat} (hc : x.cur = some (p, r)) (hr : r ≤ othersAmong x.blk (b - x.blk)) :
    Lane.advance b (n + 1) x q = ((Lane.advance b n (x.done r) q).1, (Lane.advance b n (x.done r) q).2.1,
      p :: (Lane.advance b n (x.done r) q).2.2) := by
  simp only [Lane.advance, hc, if_pos hr]
  rfl

theorem Lane.advance_of_long {p : NlPacket} {r : Nat} (hc : x.cur = some (p, r)) (hr : ¬r ≤ othersAmong x.blk (b - x.blk)) :
    Lane.advance b (n + 1) x q = ({ x with cur := some (p, r - othersAmong x.blk (b - x.blk)), blk := b }, q, []) := by
  simp only [Lane.advance, hc, if_neg hr]

theorem Lane.advance_of_none (hc : x.cur = none) (hq : x.choose q = none) :
    Lane.advance b (n + 1) x q = ({ x with blk := b, turn := 0 }, q, []) := by
  simp only [Lane.advance, hc, hq]

theorem Lane.advance_of_chosen (hc : x.cur = none) {p : NlPacket} {t : Nat} {q' : List NlPacket × List NlPacket}
    (hq : x.choose q = some (p, t, q')) : Lane.advance b (n + 1) x q = Lane.advance b n (x.chosen p t) q' := by
  simp only [Lane.advance, hc, hq]
  rfl

/-- Sending keeps the configuration of a lane. -/
theorem Lane.advance_cfg (x : Lane) : (Lane.advance b n x q).1.cfg = x.cfg := by
  induction n generalizing x q with
  | zero => rfl
  | succ n ih =>
    cases hc : x.cur with
    | some c =>
      obtain ⟨p, r⟩ := c
      by_cases hr : r ≤ othersAmong x.blk (b - x.blk)
      · rw [Lane.advance_of_fits b n q hc hr]
        exact ih q (x.done r)
      · rw [Lane.advance_of_long b n q hc hr]
    | none =>
      cases hq : x.choose q with
      | none => rw [Lane.advance_of_none b n q hc hq]
      | some c =>
        obtain ⟨p, t, q'⟩ := c
        rw [Lane.advance_of_chosen b n q hc hq]
        exact ih q' (x.chosen p t)

end

/-- With nothing to send a lane rests. -/
theorem Lane.advance_of_idle {x : Lane} (hc : x.cur = none) (now n : Nat) :
    Lane.advance (x.blockNow now) (n + 1) x ([], []) = (x.rest now, ([], []), []) :=
  Lane.advance_of_none _ _ _ hc rfl

/-- A lane whose blocks are counted up to now begins the only packet that is ready, and sends none. -/
theorem Lane.advance_of_ready {x : Lane} {now : Nat} (hc : x.cur = none) {p : NlPacket}
    {q r : List NlPacket × List NlPacket} (hq : (x.rest now).choose q = some (p, 0, r)) (n : Nat) :
    Lane.advance (x.blockNow now) (n + 2) (x.rest now) q = (x.begin_ now p, r, []) := by
  have hroom : ¬p.size ≤ othersAmong (x.blockNow now) (x.blockNow now - x.blockNow now) := by
    rw [Nat.sub_self, othersAmong_zero]
    exact Nat.not_le.mpr p.size_pos
  rw [Lane.advance_of_chosen (x := x.rest now) _ _ _ hc hq, Lane.advance_of_long (x := (x.rest now).chosen p 0) _ _ _ rfl hroom]
  have hzero : othersAmong (x.blockNow now) (x.blockNow now - x.blockNow now) = 0 := by rw [Nat.sub_self, othersAmong_zero]
  show (({ x.begin_ now p with
    cur := some (_, p.size - othersAmong (x.blockNow now) (x.blockNow now - x.blockNow now)) } : Lane), r, []) = _
  rw [hzero]
  rfl

/-! ## Packets that have gone out (13 R292, R293) -/

theorem State.noteSent_sent (s : State) (l : Nat) (ps : List NlPacket) :
    (s.noteSent l ps).nl.sent = (if (s.lane l).prbs = 0 then ps.reverse else []) ++ s.nl.sent := by
  unfold State.noteSent
  split <;> rfl
@[simp] theorem State.noteSent_nil (s : State) (l : Nat) : s.noteSent l [] = s := ite_self _
@[simp] theorem State.noteSent_lane (s : State) (l : Nat) (ps : List NlPacket) (j : Nat) : (s.noteSent l ps).lane j = s.lane j := by
  unfold State.noteSent
  split <;> rfl

@[simp] theorem State.noteSent_streams (s : State) (l : Nat) (ps : List NlPacket) : (s.noteSent l ps).nl.streams = s.nl.streams := by
  unfold State.noteSent
  split <;> rfl

/-- The packets ready for a lane, of the two streams. -/
def State.queues (s : State) (l : Nat) : List NlPacket × List NlPacket :=
  (Stream.todoOn (s.nl.streams.getD 0 none) l, Stream.todoOn (s.nl.streams.getD 1 none) l)

/-- What a lane makes of its packets by now. -/
def State.sends (s : State) (l : Nat) : Lane × (List NlPacket × List NlPacket) × List NlPacket :=
  Lane.advance ((s.lane l).blockNow s.now) (2 * ((s.queues l).1.length + (s.queues l).2.length) + 2) (s.lane l) (s.queues l)

/-- The streams replaced. -/
def State.withStreams (s : State) (ss : List (Option Stream)) : State := { s with nl := { s.nl with streams := ss } }

theorem State.withStreams_of_eq {s : State} {ss : List (Option Stream)} (h : s.nl.streams = ss) : s.withStreams ss = s := by
  subst h
  rfl

theorem State.withStreams_modLane (s : State) (ss : List (Option Stream)) (l : Nat) (f : Lane → Lane) :
    (s.withStreams ss).modLane l f = (s.modLane l f).withStreams ss := rfl
theorem State.withStreams_withStreams (s : State) (ss r : List (Option Stream)) : (s.withStreams ss).withStreams r = s.withStreams r := rfl

/-- The two streams with the packets left for a lane. -/
def Nl.leave (nl : Nl) (l : Nat) (q : List NlPacket × List NlPacket) : List (Option Stream) :=
  [Stream.withTodo (nl.streams.getD 0 none) l q.1, Stream.withTodo (nl.streams.getD 1 none) l q.2]

theorem State.egressLane_eq (s : State) (l : Nat) : s.egressLane l =
    ((s.modLane l (fun _ => (s.sends l).1)).noteSent l (s.sends l).2.2).withStreams (s.nl.leave l (s.sends l).2.1) := rfl

theorem State.egressLane_sent (s : State) (l : Nat) : ∃ new, (s.egressLane l).nl.sent = new ++ s.nl.sent ∧
    (l < s.nl.lanes.length → (s.lane l).prbs = 0 → ∀ p ∈ (s.sends l).2.2, p ∈ new) := by
  refine ⟨_, (congrArg (fun t => t.nl.sent) (s.egressLane_eq l)).trans (State.noteSent_sent _ _ _), fun hl hp p hps => ?_⟩
  have hcfg : ((s.modLane l (fun _ => (s.sends l).1)).lane l).prbs = 0 := by
    rw [State.lane_modLane_self _ hl]
    exact (congrArg (fun w => fld w 26 24) (Lane.advance_cfg ..)).trans hp
  rw [if_pos hcfg]
  exact List.mem_reverse.mpr hps
theorem State.egressLane_lane_ne (s : State) {l j : Nat} (h : l ≠ j) : (s.egressLane l).lane j = s.lane j :=
  (State.noteSent_lane _ _ _ _).trans (State.lane_modLane_ne _ h _)

@[simp] theorem State.noteSent_lanes (s : State) (l : Nat) (ps : List NlPacket) : (s.noteSent l ps).nl.lanes = s.nl.lanes := by
  unfold State.noteSent
  split <;> rfl
@[simp] theorem State.egressLane_length (s : State) (l : Nat) : (s.egressLane l).nl.lanes.length = s.nl.lanes.length :=
  (congrArg List.length (State.noteSent_lanes _ _ _)).trans (State.modLane_length ..)
theorem State.transferEnd_sent (s : State) (i : Nat) : (s.transferEnd i).nl.sent = s.nl.sent := by
  unfold State.transferEnd
  (repeat' split) <;> rfl

theorem State.sends_of_sent {s : State} {l r : Nat} {p : NlPacket} (hc : (s.lane l).cur = some (p, r))
    (hr : r ≤ othersAmong (s.lane l).blk ((s.lane l).blockNow s.now - (s.lane l).blk)) : p ∈ (s.sends l).2.2 := by
  rw [State.sends, Lane.advance_of_fits _ _ _ hc hr]
  exact List.mem_cons_self ..

/-- While time passes a packet whose blocks have gone out is sent. -/
theorem State.egress_sent {s : State} {l r : Nat} {p : NlPacket} (hl : l < 2) (hlen : s.nl.lanes.length = 4)
    (hc : (s.lane l).cur = some (p, r)) (hp : (s.lane l).prbs = 0)
    (hr : r ≤ othersAmong (s.lane l).blk ((s.lane l).blockNow s.now - (s.lane l).blk)) :
    ∃ new, s.egress.nl.sent = new ++ s.nl.sent ∧ p ∈ new := by
  obtain ⟨a, ha, hina⟩ := s.egressLane_sent 0
  obtain ⟨b, hb, hinb⟩ := (s.egressLane 0).egressLane_sent 1
  refine ⟨b ++ a, ?_, ?_⟩
  · rw [State.egress, State.transferEnd_sent, State.transferEnd_sent, hb, ha, List.append_assoc]
  · obtain rfl | rfl : l = 0 ∨ l = 1 := by omega
    · exact List.mem_append_right _ (hina (by omega) hp p (State.sends_of_sent hc hr))
    · rw [← State.egressLane_lane_ne s Nat.zero_ne_one] at hc hp hr
      rw [← State.egressLane_now s 0] at hr
      exact List.mem_append_left _ (hinb (by simp [hlen]) hp p (State.sends_of_sent hc hr))

end Sys2Proof.Machine

namespace Sys2Proof.Machine

/-! ## A transfer that starts (07 R172, 13 R292) -/

/-- A stream without packets to send. -/
def Stream.emptied (o : Option Stream) : Prop := ∀ w, o = some w → ∀ q ∈ w.todo, q = []

theorem getD_of_all_nil {α : Type} {l : List (List α)} (h : ∀ q ∈ l, q = []) (n : Nat) : l.getD n [] = [] := by
  rw [List.getD_eq_getElem?_getD]
  cases hn : l[n]? with
  | none => rfl
  | some q => exact h q (List.mem_of_getElem? hn)

theorem set_getD_self {α : Type} {l : List (List α)} {n : Nat} {q : List α} (h : l.getD n [] = q) : l.set n q = l := by
  refine List.ext_getElem? fun j => ?_
  rw [List.getElem?_set]
  split
  · next e =>
    subst e
    rw [← h, List.getD_eq_getElem?_getD]
    cases hn : l[n]? with
    | none => exact if_neg (fun hl => absurd hn (by simp [hl]))
    | some r => exact if_pos (List.getElem?_eq_some_iff.mp hn).1
  · rfl

theorem Stream.todoOn_of_emptied {o : Option Stream} (h : Stream.emptied o) (l : Nat) : Stream.todoOn o l = [] := by
  cases o with
  | none => rfl
  | some w => exact getD_of_all_nil (h w rfl) l

theorem Stream.withTodo_of_emptied {o : Option Stream} (h : Stream.emptied o) (l : Nat) : Stream.withTodo o l [] = o := by
  cases o with
  | none => rfl
  | some w => exact congrArg (fun q => some { w with todo := q }) (set_getD_self (getD_of_all_nil (h w rfl) l))

/-- The two streams, `z` the one of `i`. -/
def streamsOf (i : Fin 2) (z : Stream) (o : Option Stream) : List (Option Stream) := if i = 0 then [some z, o] else [o, some z]

/-- The packets ready, all of the stream of `i`. -/
def queuesOf (i : Fin 2) (q : List NlPacket) : List NlPacket × List NlPacket := if i = 0 then (q, []) else ([], q)

theorem streamsOf_getD (i : Fin 2) (z : Stream) (o : Option Stream) : (streamsOf i z o).getD i.val none = some z := by
  fin_cases i <;> rfl

theorem streamsOf_getD_ne {i j : Fin 2} (h : j ≠ i) (z : Stream) (o : Option Stream) : (streamsOf i z o).getD j.val none = o := by
  fin_cases i <;> fin_cases j
  · exact absurd rfl h
  · rfl
  · rfl
  · exact absurd rfl h

theorem streamsOf_set_ne {i j : Fin 2} (h : j ≠ i) (z : Stream) (o p : Option Stream) :
    (streamsOf i z o).set j.val p = streamsOf i z p := by
  fin_cases i <;> fin_cases j
  · exact absurd rfl h
  · rfl
  · rfl
  · exact absurd rfl h

theorem streamsOf_modAt (i : Fin 2) (z : Stream) (o : Option Stream) (f : Option Stream → Option Stream) {y : Stream}
    (h : f (some z) = some y) : modAt (streamsOf i z o) i.val f = streamsOf i y o := by
  fin_cases i <;> simp [streamsOf, modAt, h]

/-- Two streams, seen from one of them. -/
theorem exists_streamsOf {l : List (Option Stream)} (hl : l.length = 2) {i : Fin 2} {z : Stream} (h : l.getD i.val none = some z) :
    ∃ o, l = streamsOf i z o ∧ o ∈ l := by
  obtain ⟨a, b, rfl⟩ := List.length_eq_two.mp hl
  fin_cases i
  · exact ⟨b, by simpa [streamsOf] using h, by simp⟩
  · exact ⟨a, by simpa [streamsOf] using h, by simp⟩

/-- What a lane at rest makes of its packets: it begins the first one. -/
def Lane.taking (x : Lane) (now : Nat) (q : List NlPacket) : Lane :=
  match q with
  | [] => x.rest now
  | p :: _ => x.begin_ now p

theorem Lane.advance_of_rest {x : Lane} (hc : x.cur = none) (now : Nat) (i : Fin 2) (q : List NlPacket) (n : Nat) :
    Lane.advance (x.blockNow now) (n + 2) (x.rest now) (queuesOf i q) = (x.taking now q, queuesOf i q.tail, []) := by
  cases q with
  | nil => fin_cases i <;> exact Lane.advance_of_idle (x := x.rest now) hc now (n + 1)
  | cons p q =>
    refine Lane.advance_of_ready hc ?_ n
    fin_cases i <;> rfl

section
variable {s : State} {i : Fin 2} {z : Stream} {o : Option Stream} (hs : s.nl.streams = streamsOf i z o) (ho : Stream.emptied o)
include hs ho

theorem State.queues_of_streams (l : Nat) : s.queues l = queuesOf i (z.todo.getD l []) := by
  rw [State.queues, hs]
  fin_cases i
  · exact congrArg (Prod.mk _) (Stream.todoOn_of_emptied ho l)
  · exact congrArg (fun a => (a, _)) (Stream.todoOn_of_emptied ho l)

theorem Nl.leave_of_streams (l : Nat) (q : List NlPacket) : s.nl.leave l (queuesOf i q) =
    streamsOf i { z with todo := z.todo.set l q } o := by
  rw [Nl.leave, hs]
  fin_cases i
  · exact congrArg (fun a => [_, a]) (Stream.withTodo_of_emptied ho l)
  · exact congrArg (fun a => [a, _]) (Stream.withTodo_of_emptied ho l)

/-- A lane without packets rests. -/
theorem State.egressLane_of_empty {l : Nat} (hz : z.todo.getD l [] = []) (hc : (s.lane l).cur = none) :
    s.egressLane l = s.modLane l (fun _ => (s.lane l).rest s.now) := by
  have hq : s.queues l = ([], []) := by
    rw [State.queues_of_streams hs ho, hz, queuesOf, ite_self]
  have hsend : s.sends l = ((s.lane l).rest s.now, queuesOf i [], []) := by
    rw [State.sends, hq, queuesOf, ite_self]
    exact Lane.advance_of_idle hc _ _
  have hleave := Nl.leave_of_streams hs ho l []
  rw [set_getD_self hz] at hleave
  rw [State.egressLane_eq, hsend, hleave, State.noteSent_nil]
  exact State.withStreams_of_eq hs

/-- A lane at rest begins the first of its packets. -/
theorem State.egressLane_of_rest {l : Nat} {x : Lane} (hx : s.lane l = x.rest s.now) (hc : x.cur = none) :
    s.egressLane l = (s.modLane l (fun _ => x.taking s.now (z.todo.getD l []))).withStreams
      (streamsOf i { z with todo := z.todo.set l (z.todo.getD l []).tail } o) := by
  have hsend : s.sends l = (x.taking s.now (z.todo.getD l []), queuesOf i (z.todo.getD l []).tail, []) := by
    rw [State.sends, State.queues_of_streams hs ho, hx]
    exact Lane.advance_of_rest hc _ i _ _
  rw [State.egressLane_eq, hsend, Nl.leave_of_streams hs ho, State.noteSent_nil]

/-- The end of a transfer leaves alone a stream that has none, and one whose packet is on a lane. -/
theorem State.transferEnd_of_streams (hkeep : z.transfer = none ∨ s.nl.lanes.any (fun x => x.carries i.val) = true) (j : Fin 2) :
    ∃ o', Stream.emptied o' ∧ s.transferEnd j.val = s.withStreams (streamsOf i z o') := by
  by_cases hj : j = i
  · subst hj
    refine ⟨o, ho, Eq.trans ?_ (State.withStreams_of_eq hs).symm⟩
    simp only [State.transferEnd, hs, streamsOf_getD]
    refine if_neg ?_
    rcases hkeep with h | h <;> simp [h]
  · have hget : s.nl.streams.getD j.val none = o := by rw [hs, streamsOf_getD_ne hj]
    unfold State.transferEnd
    rw [hget]
    cases o with
    | none => exact ⟨none, ho, (State.withStreams_of_eq hs).symm⟩
    | some w =>
      dsimp only
      split
      · refine ⟨some { w with transfer := none }, fun v hv => ?_, ?_⟩
        · cases hv
          exact ho w rfl
        · rw [hs, streamsOf_set_ne hj]
          rfl
      · exact ⟨some w, ho, (State.withStreams_of_eq hs).symm⟩

theorem State.transferEnds_of_streams (hkeep : z.transfer = none ∨ s.nl.lanes.any (fun x => x.carries i.val) = true) :
    ∃ o', Stream.emptied o' ∧ (s.transferEnd 0).transferEnd 1 = s.withStreams (streamsOf i z o') := by
  obtain ⟨p, hp, h0⟩ := State.transferEnd_of_streams hs ho hkeep 0
  obtain ⟨q, hq, h1⟩ := State.transferEnd_of_streams (s := s.withStreams (streamsOf i z p)) rfl hp hkeep 1
  refine ⟨q, hq, ?_⟩
  rw [show s.transferEnd 0 = _ from h0]
  exact h1

/-- Both lanes rest where none of them has anything to send. -/
theorem State.egress_of_empty (ht : z.transfer = none) (hz : ∀ q ∈ z.todo, q = []) (h0 : (s.lane 0).cur = none)
    (h1 : (s.lane 1).cur = none) : ∃ o', Stream.emptied o' ∧ s.egress =
      ((s.modLane 0 (fun _ => (s.lane 0).rest s.now)).modLane 1 (fun _ => (s.lane 1).rest s.now)).withStreams (streamsOf i z o') := by
  have e0 := State.egressLane_of_empty hs ho (getD_of_all_nil hz 0) h0
  have hl : (s.modLane 0 (fun _ => (s.lane 0).rest s.now)).lane 1 = s.lane 1 := State.lane_modLane_ne _ Nat.zero_ne_one _
  have e1 := State.egressLane_of_empty (s := s.modLane 0 (fun _ => (s.lane 0).rest s.now)) hs ho (getD_of_all_nil hz 1)
    (by rw [hl]; exact h1)
  rw [hl] at e1
  rw [State.egress, e0, e1]
  exact State.transferEnds_of_streams hs ho (.inl ht)

/-- Two lanes at rest begin the first of their packets. -/
theorem State.egress_of_rest {x y : Lane} {a b : List NlPacket} (hx : s.lane 0 = x.rest s.now) (hy : s.lane 1 = y.rest s.now)
    (hcx : x.cur = none) (hcy : y.cur = none) (hz : z.todo = [a, b])
    (hkeep : ((s.modLane 0 (fun _ => x.taking s.now a)).modLane 1 (fun _ => y.taking s.now b)).nl.lanes.any
      (fun x => x.carries i.val) = true) : ∃ o', Stream.emptied o' ∧ s.egress =
      ((s.modLane 0 (fun _ => x.taking s.now a)).modLane 1 (fun _ => y.taking s.now b)).withStreams
        (streamsOf i { z with todo := [a.tail, b.tail] } o') := by
  have e0 : s.egressLane 0 = (s.modLane 0 (fun _ => x.taking s.now a)).withStreams (streamsOf i { z with todo := [a.tail, b] } o) := by
    have h := State.egressLane_of_rest hs ho hx hcx
    rw [hz] at h
    exact h
  have e1 : ((s.modLane 0 (fun _ => x.taking s.now a)).withStreams (streamsOf i { z with todo := [a.tail, b] } o)).egressLane 1 =
      ((s.modLane 0 (fun _ => x.taking s.now a)).modLane 1 (fun _ => y.taking s.now b)).withStreams
        (streamsOf i { z with todo := [a.tail, b.tail] } o) := by
    have h := State.egressLane_of_rest (s := (s.modLane 0 (fun _ => x.taking s.now a)).withStreams
      (streamsOf i { z with todo := [a.tail, b] } o)) rfl ho (l := 1) (x := y)
      ((State.lane_modLane_ne _ Nat.zero_ne_one _).trans hy) hcy
    rw [State.withStreams_modLane, State.withStreams_withStreams] at h
    exact h
  rw [State.egress, e0, e1]
  exact State.transferEnds_of_streams rfl ho (.inr hkeep)

end

/-- A stream whose frame goes into transfer. -/
def Stream.started (z : Stream) (w : Nat × List Byte × Product) (todo : List (List NlPacket)) : Stream :=
  { z with transfer := some w, waiting := none, todo := todo }

theorem State.portSeen_nil (s : State) (p : Nat) : s.portSeen p ⟨[]⟩ = s := rfl
theorem State.memRun_nil (s : State) : (s.memRun ⟨[]⟩).1 = s := rfl

/-- NL_TRANSFER_START in two parts: what the lanes have sent by now, and what they send of the new frame. -/
theorem State.transferStart_of_waiting {s : State} {i : Fin 2} {z : Stream} {n : Nat} {r : List Byte} {y : Product}
    (hz : s.nl.streams.getD i.val none = some z) (ht : z.transfer = none) (hw : z.waiting = some (n, r, y)) :
    s.transferStart i.val ⟨⟨[]⟩, ⟨[]⟩⟩ = (s.egress.withStreams (modAt s.egress.nl.streams i.val (fun t => t.map (fun t =>
      t.started (n, r, y) [s.framePackets i.val n r y 0, s.framePackets i.val n r y 1])))).egress := by
  unfold State.transferStart
  rw [hz]
  dsimp only
  rw [ht, hw]
  dsimp only
  rw [State.portSeen_nil, State.memRun_nil]
  rfl

theorem State.transferStart_of_none {s : State} {i : Nat} (hz : s.nl.streams.getD i none = none) (o : NlObs) :
    s.transferStart i o = s := by
  simp only [State.transferStart, hz]

/-- Nothing starts without a frame that waits, nor during a transfer. -/
theorem State.transferStart_of_not_ready {s : State} {i : Nat} {z : Stream} (hz : s.nl.streams.getD i none = some z)
    (h : z.waiting = none ∨ z.transfer ≠ none) (o : NlObs) : s.transferStart i o = s := by
  simp only [State.transferStart, hz]
  split
  · next ht hw => rcases h with h | h <;> simp_all
  · rfl

theorem Nl.any_carries {s : State} {l i : Nat} (hl : l < s.nl.lanes.length) (h : (s.lane l).carries i = true) :
    s.nl.lanes.any (fun x => x.carries i) = true := by
  refine List.any_eq_true.mpr ⟨s.lane l, ?_, h⟩
  rw [State.lane, List.getD_eq_getElem?_getD, List.getElem?_eq_getElem hl]
  exact List.getElem_mem hl

/-! ## The packets of a frame (13 R292) -/

/-- The lanes of a mask of EGR_EN. -/
theorem contains_lanesOf (m : Nat) {l : Nat} (hl : l < 2) : (lanesOf m 0).contains l = decide (m / 2 ^ l % 2 = 1) := by
  obtain rfl | rfl : l = 0 ∨ l = 1 := by omega
  · unfold lanesOf
    split_ifs <;> simp_all
  · unfold lanesOf
    split_ifs <;> simp_all

/-- Line `k` goes to lane `k` mod N. -/
theorem lanesOf_share {m l : Nat} (hm : m ∈ [1, 2, 3]) (hl : l < 2) (hon : m / 2 ^ l % 2 = 1) (k : Nat) :
    (lanesOf m 0).getD (k % (lanesOf m 0).length) 0 = l ↔ m ≠ 3 ∨ k % 2 = l := by
  simp only [List.mem_cons, List.not_mem_nil, or_false] at hm
  rcases hm with rfl | rfl | rfl
  · obtain rfl : l = 0 := by
      interval_cases l
      · rfl
      · omega
    simp [lanesOf, Nat.mod_one]
  · obtain rfl : l = 1 := by
      interval_cases l
      · omega
      · rfl
    simp [lanesOf, Nat.mod_one]
  · have hk : k % 2 = 0 ∨ k % 2 = 1 := by omega
    rcases hk with h | h <;> simp [lanesOf, h]

section
variable {s : State} {l : Nat} (he : s.nl.egrEn ∈ [1, 2, 3]) (hl : l < 2) (i n : Nat) (r : List Byte) (y : Product)
include he hl

omit he in
/-- A lane out of service gets nothing of a frame. -/
theorem State.framePackets_of_off (hoff : s.nl.egrEn / 2 ^ l % 2 = 0) : s.framePackets i n r y l = [] := by
  have hout : (lanesOf s.nl.egrEn 0).contains l = false := by
    rw [contains_lanesOf _ hl, decide_eq_false (by omega)]
  unfold State.framePackets
  exact if_pos (by rw [hout]; rfl)

/-- A lane in service gets RECORD and its share of the lines. -/
theorem State.framePackets_of_on (hon : s.nl.egrEn / 2 ^ l % 2 = 1) : s.framePackets i n r y l =
    ⟨0, i, l, 0, n % 65536, r, false, 0, none⟩ ::
      (y.lines.zipIdx.filter (fun z => decide (s.nl.egrEn ≠ 3 ∨ z.2 % 2 = l))).map
        (fun z => ⟨1, i, l, z.2, n % 65536, z.1, false, 0, none⟩) := by
  have hin : (lanesOf s.nl.egrEn 0).contains l = true := by
    rw [contains_lanesOf _ hl, decide_eq_true hon]
  unfold State.framePackets
  simp only [hin, lanesOf_share he hl hon]
  rfl

end

/-! ## NL_TRANSFER_START with both lanes free -/

theorem Lane.taking_cons (x : Lane) (now : Nat) (p : NlPacket) (q : List NlPacket) : x.taking now (p :: q) = x.begin_ now p := rfl

theorem Lane.carries_begin (x : Lane) (now : Nat) (p : NlPacket) : (x.begin_ now p).carries p.stream = true := decide_eq_true rfl

section
variable {s : State} {i : Fin 2} {z : Stream} {n : Nat} {r : List Byte} {y : Product}

/-- Both lanes after a frame has been taken into transfer. -/
def State.took (s : State) (a b : List NlPacket) : State :=
  (s.modLane 0 (fun _ => (s.lane 0).taking s.now a)).modLane 1 (fun _ => (s.lane 1).taking s.now b)

theorem State.took_lane (hlen : s.nl.lanes.length = 4) (a b : List NlPacket) {l : Nat} (hl : l < 2) :
    (s.took a b).lane l = (s.lane l).taking s.now (if l = 0 then a else b) := by
  unfold State.took
  obtain rfl | rfl : l = 0 ∨ l = 1 := by omega
  · rw [State.lane_modLane_ne _ Nat.one_ne_zero, State.lane_modLane_self _ (by omega)]
    rfl
  · exact State.lane_modLane_self _ (by simp [hlen]) _

/-- What both lanes held before does not matter to two lanes that are replaced. -/
theorem State.modLanes_replaced (s : State) (x₀ x₁ y₀ y₁ : Lane) :
    (((s.modLane 0 (fun _ => x₀)).modLane 1 (fun _ => x₁)).modLane 0 (fun _ => y₀)).modLane 1 (fun _ => y₁) =
      (s.modLane 0 (fun _ => y₀)).modLane 1 (fun _ => y₁) := by
  have hl : modAt (modAt (modAt (modAt s.nl.lanes 0 fun _ => x₀) 1 fun _ => x₁) 0 fun _ => y₀) 1 (fun _ => y₁) =
      modAt (modAt s.nl.lanes 0 fun _ => y₀) 1 fun _ => y₁ := by
    rcases s.nl.lanes with _ | ⟨a, _ | ⟨b, l⟩⟩ <;> rfl
  exact congrArg (fun l => { s with nl := { s.nl with lanes := l } }) hl

/-- Both lanes at rest. -/
def State.rested (s : State) : State :=
  (s.modLane 0 (fun _ => (s.lane 0).rest s.now)).modLane 1 (fun _ => (s.lane 1).rest s.now)

theorem State.rested_lane_zero (hlen : s.nl.lanes.length = 4) : s.rested.lane 0 = (s.lane 0).rest s.now :=
  (State.lane_modLane_ne _ Nat.one_ne_zero _).trans (State.lane_modLane_self _ (by omega) _)
theorem State.rested_lane_one (hlen : s.nl.lanes.length = 4) : s.rested.lane 1 = (s.lane 1).rest s.now :=
  State.lane_modLane_self _ (by simp [hlen]) _

theorem State.rested_took (ss r : List (Option Stream)) (a b : List NlPacket) :
    (((s.rested.withStreams ss).modLane 0 (fun _ => (s.lane 0).taking s.now a)).modLane 1
      (fun _ => (s.lane 1).taking s.now b)).withStreams r = (s.took a b).withStreams r := by
  rw [State.withStreams_modLane, State.withStreams_modLane, State.withStreams_withStreams, State.rested, State.modLanes_replaced]
  rfl

/-- A lane in service carries the frame. -/
theorem State.took_carries (he : s.nl.egrEn ∈ [1, 2, 3]) (hlen : s.nl.lanes.length = 4) :
    (s.took (s.framePackets i.val n r y 0) (s.framePackets i.val n r y 1)).nl.lanes.any (fun x => x.carries i.val) = true := by
  obtain ⟨l, hl, hon⟩ : ∃ l < 2, s.nl.egrEn / 2 ^ l % 2 = 1 := by
    simp only [List.mem_cons, List.not_mem_nil, or_false] at he
    rcases he with h | h | h
    · exact ⟨0, by omega, by simp [h]⟩
    · exact ⟨1, by omega, by simp [h]⟩
    · exact ⟨0, by omega, by simp [h]⟩
  have hq : (if l = 0 then s.framePackets i.val n r y 0 else s.framePackets i.val n r y 1) = s.framePackets i.val n r y l := by
    obtain rfl | rfl : l = 0 ∨ l = 1 := by omega
    · rfl
    · rfl
  refine Nl.any_carries (l := l) (by simp [State.took, hlen]; omega) ?_
  rw [State.took_lane hlen _ _ hl, hq, State.framePackets_of_on he hl _ _ _ _ hon, Lane.taking_cons]
  exact Lane.carries_begin ..

/-- One frame taken into transfer by two lanes that are free. -/
theorem State.transferStart_eq (he : s.nl.egrEn ∈ [1, 2, 3]) (hlen : s.nl.lanes.length = 4) (hst : s.nl.streams.length = 2)
    (h0 : (s.lane 0).cur = none) (h1 : (s.lane 1).cur = none) (hempty : ∀ z, some z ∈ s.nl.streams → ∀ q ∈ z.todo, q = [])
    (hz : s.nl.streams.getD i.val none = some z) (ht : z.transfer = none) (hw : z.waiting = some (n, r, y)) :
    ∃ o, s.transferStart i.val ⟨⟨[]⟩, ⟨[]⟩⟩ =
      (s.took (s.framePackets i.val n r y 0) (s.framePackets i.val n r y 1)).withStreams
        (streamsOf i (z.started (n, r, y) [(s.framePackets i.val n r y 0).tail, (s.framePackets i.val n r y 1).tail]) o) := by
  obtain ⟨o, hs, ho⟩ := exists_streamsOf hst hz
  have hmem : some z ∈ s.nl.streams := by
    rw [hs]
    fin_cases i <;> simp [streamsOf]
  obtain ⟨o₁, ho₁, he₁⟩ := State.egress_of_empty hs (fun w hw => hempty w (hw ▸ ho)) ht (hempty z hmem) h0 h1
  have hkeep := State.took_carries (i := i) (n := n) (r := r) (y := y) he hlen
  rw [State.transferStart_of_waiting hz ht hw, he₁]
  generalize s.framePackets i.val n r y 0 = a at *
  generalize s.framePackets i.val n r y 1 = b at *
  have hload : s.rested.withStreams (modAt (streamsOf i z o₁) i.val (fun t => t.map (fun t => t.started (n, r, y) [a, b]))) =
      s.rested.withStreams (streamsOf i (z.started (n, r, y) [a, b]) o₁) := by
    rw [streamsOf_modAt i z o₁ _ rfl]
  have hlanes : ((((s.rested.withStreams (streamsOf i (z.started (n, r, y) [a, b]) o₁)).modLane 0 (fun _ =>
      (s.lane 0).taking s.now a)).modLane 1 (fun _ => (s.lane 1).taking s.now b)).withStreams []).nl.lanes = (s.took a b).nl.lanes := by
    rw [State.rested_took]
    rfl
  obtain ⟨o₂, ho₂, he₂⟩ := State.egress_of_rest (s := s.rested.withStreams (streamsOf i (z.started (n, r, y) [a, b]) o₁)) rfl ho₁
    (State.rested_lane_zero hlen) (State.rested_lane_one hlen) h0 h1 rfl (by rw [← hlanes] at hkeep; exact hkeep)
  refine ⟨o₂, (congrArg State.egress hload).trans (he₂.trans ?_)⟩
  exact State.rested_took ..

end

end Sys2Proof.Machine

namespace Sys2Proof.Machine

/-! ## An underrun of RT1 (10 R239, 13 R293) -/

/-- A lane whose packet has been cut, after the block of ABORT. -/
def Lane.aborted (x : Lane) : Lane := { x with cur := none, blk := x.blk + 1 }

theorem State.exists_lane {s : State} {x : Lane} (h : x ∈ s.nl.lanes) : ∃ k, x = s.lane k := by
  obtain ⟨k, hk, rfl⟩ := List.getElem_of_mem h
  refine ⟨k, ?_⟩
  rw [State.lane, List.getD_eq_getElem?_getD, List.getElem?_eq_getElem hk]
  rfl

section
variable {s : State} {i r : Nat} {p : NlPacket} (hc : (s.lane 0).cur = some (p, r)) (hi : p.stream = i)
  (hidle : ∀ j, j ≠ 0 → (s.lane j).cur = none)
include hc hi hidle

/-- With one packet in progress the other stream is on no lane. -/
theorem State.not_carried {j : Nat} (hj : j ≠ i) : s.nl.lanes.any (fun x => x.carries j) = false := by
  rw [List.any_eq_false]
  intro x hx
  obtain ⟨k, rfl⟩ := State.exists_lane hx
  rw [Lane.carries]
  by_cases h0 : k = 0
  · subst h0
    rw [hc]
    exact fun h => hj ((of_decide_eq_true h).symm.trans hi)
  · rw [hidle k h0]
    exact Bool.false_ne_true

omit hidle in
/-- The packet in progress is cut with ABORT (13 R293). -/
theorem State.abortOn_zero (hr : r < p.size) (reason : Nat) : s.abortOn i reason 0 =
    (s.modLane 0 Lane.aborted).noteSent 0 [{ p with badCrc := false, abort := some (reason, p.size - r - 1) }] := by
  unfold State.abortOn
  dsimp only
  rw [hc]
  dsimp only
  rw [if_neg (not_not_intro hi), if_neg (Nat.ne_of_lt hr)]
  rfl

/-- A stream whose transfer is over. -/
def Stream.cut (t : Stream) : Stream := { t with transfer := none, todo := [[], []] }

theorem State.sendAbort_eq (hr : r < p.size) (reason : Nat) : s.sendAbort i reason =
    ((s.modLane 0 Lane.aborted).noteSent 0 [{ p with badCrc := false, abort := some (reason, p.size - r - 1) }]).withStreams
      (modAt s.nl.streams i (fun t => t.map Stream.cut)) := by
  have h1 : (s.abortOn i reason 0).abortOn i reason 1 = s.abortOn i reason 0 := by
    rw [State.abortOn_zero hc hi hr, State.abortOn]
    dsimp only
    rw [State.noteSent_lane, State.lane_modLane_ne _ Nat.zero_ne_one, hidle 1 Nat.one_ne_zero]
  unfold State.sendAbort
  dsimp only
  rw [h1, State.abortOn_zero hc hi hr, State.noteSent_streams]
  rfl

end

/-- A stream whose packets are on a lane is cut (10 R239, R250). -/
def State.cutIfCarried (s : State) (q : Option Pipe) (reason i : Nat) : State :=
  if (match s.nl.streams.getD i none with
    | some t => q.all (fun p => t.pipe = p)
    | none => false) && s.nl.lanes.any (fun x => x.carries i) then s.cutTransfer i reason else s

theorem State.cutCarried_eq (s : State) (q : Option Pipe) (reason : Nat) :
    s.cutCarried q reason = (s.cutIfCarried q reason 0).cutIfCarried q reason 1 := rfl

theorem State.cutIfCarried_of_not {s : State} {i : Nat} (h : s.nl.lanes.any (fun x => x.carries i) = false) (q : Option Pipe)
    (reason : Nat) : s.cutIfCarried q reason i = s :=
  if_neg (by rw [h, Bool.and_false]; exact Bool.false_ne_true)

theorem State.cutIfCarried_of_transfer {s : State} {i : Nat} {x : Stream} (h : s.nl.lanes.any (fun x => x.carries i) = true)
    (hx : s.nl.streams.getD i none = some x) (ht : x.transfer ≠ none) (reason : Nat) :
    s.cutIfCarried none reason i = (s.sendAbort i reason).post0 0x00b1 [word i, word reason] := by
  unfold State.cutIfCarried State.cutTransfer
  rw [hx, h]
  exact (if_pos rfl).trans (if_pos (Option.isSome_iff_ne_none.mpr ht))

/-- No lane carries anything. -/
theorem Nl.not_any_carries {s : State} (h : ∀ j, (s.lane j).cur = none) (i : Nat) : s.nl.lanes.any (fun x => x.carries i) = false := by
  rw [List.any_eq_false]
  intro x hx
  obtain ⟨k, rfl⟩ := State.exists_lane hx
  rw [Lane.carries, h k]
  exact Bool.false_ne_true

/-- The state once a stream has been cut with ABORT. -/
structure State.CutBy (s : State) (i : Nat) (p : NlPacket) (x : Stream) (t : State) : Prop where
  sent : t.nl.sent = p :: s.nl.sent
  lanes : ∀ j, (t.lane j).cur = none
  streams : t.nl.streams.getD i none = some x.cut
  drm : t.drm = s.drm
  pa : t.pa = s.pa
  pb : t.pb = s.pb
  nv : t.nv = s.nv

theorem State.CutBy.post0 {s t : State} {i : Nat} {p : NlPacket} {x : Stream} (h : s.CutBy i p x t) (c : Nat) (a : List Word) :
    s.CutBy i p x (t.post0 c a) where
  sent := by rw [State.post0_nl, h.sent]
  lanes j := (congrArg (fun n : Nl => (n.lanes.getD j Lane.reset).cur) (State.post0_nl t c a)).trans (h.lanes j)
  streams := by rw [State.post0_nl, h.streams]
  drm := by rw [State.post0_drm, h.drm]
  pa := by rw [State.post0_pa, h.pa]
  pb := by rw [State.post0_pb, h.pb]
  nv := by rw [State.post0_nv, h.nv]

section
variable {s : State} {i : Fin 2} {r : Nat} {p : NlPacket} {x : Stream} (hc : (s.lane 0).cur = some (p, r)) (hi : p.stream = i.val)
  (hidle : ∀ j, j ≠ 0 → (s.lane j).cur = none) (hlen : s.nl.lanes.length = 4) (hp : (s.lane 0).prbs = 0) (hr : r < p.size)
  (hx : s.nl.streams.getD i.val none = some x)
include hc hi hidle hlen hp hr hx

theorem State.sendAbort_cutBy (reason : Nat) : s.CutBy i.val { p with badCrc := false, abort := some (reason, p.size - r - 1) } x
    (s.sendAbort i.val reason) := by
  rw [State.sendAbort_eq hc hi hidle hr]
  have hlane : (s.modLane 0 Lane.aborted).lane 0 = (s.lane 0).aborted := State.lane_modLane_self _ (by omega) _
  refine ⟨?_, fun j => ?_, ?_, ?_, ?_, ?_, ?_⟩
  · refine (State.noteSent_sent _ _ _).trans ?_
    rw [hlane]
    exact congrArg (· ++ s.nl.sent) (if_pos hp)
  · refine (congrArg Lane.cur (State.noteSent_lane _ _ _ j)).trans ?_
    by_cases h0 : j = 0
    · subst h0
      rw [hlane]
      rfl
    · rw [State.lane_modLane_ne _ (Ne.symm h0)]
      exact hidle j h0
  · have hlt : i.val < s.nl.streams.length := by
      by_contra hge
      rw [List.getD_eq_default _ _ (Nat.le_of_not_lt hge)] at hx
      exact absurd hx (by simp)
    refine (getD_modAt s.nl.streams i.val i.val _ none).trans ?_
    rw [if_pos ⟨rfl, hlt⟩, hx]
    rfl
  · exact State.noteSent_drm ..
  · exact State.noteSent_pa ..
  · exact State.noteSent_pb ..
  · exact State.noteSent_nv ..

/-- An underrun of RT1 cuts the stream that is on a lane, and no other. -/
theorem State.cutCarried_cutBy (ht : x.transfer ≠ none) (reason : Nat) :
    s.CutBy i.val { p with badCrc := false, abort := some (reason, p.size - r - 1) } x (s.cutCarried none reason) := by
  have hcar : s.nl.lanes.any (fun x => x.carries i.val) = true :=
    Nl.any_carries (l := 0) (by omega) (by rw [Lane.carries, hc]; exact decide_eq_true hi)
  have hcut := (State.sendAbort_cutBy hc hi hidle hlen hp hr hx reason).post0 0x00b1 [word i.val, word reason]
  have heq := State.cutIfCarried_of_transfer hcar hx ht reason
  rw [State.cutCarried_eq]
  fin_cases i
  · rw [show s.cutIfCarried none reason 0 = _ from heq, State.cutIfCarried_of_not (Nl.not_any_carries hcut.lanes 1)]
    exact hcut
  · rw [State.cutIfCarried_of_not (State.not_carried hc hi hidle Nat.zero_ne_one), show s.cutIfCarried none reason 1 = _ from heq]
    exact hcut

end

/-- A refresh interval changes the frame memory alone, and counts no underrun (10 R240). -/
theorem State.refreshInterval_eq (s : State) (c : Nat) :
    ∃ d, s.refreshInterval c = { s with drm := d } ∧ d.under = s.drm.under := by
  unfold State.refreshInterval State.batchDue State.startBatch
  dsimp only
  (repeat' split) <;> exact ⟨_, rfl, rfl⟩

/-- RT1 runs empty: the underrun is counted and reported, and the stream in transfer is cut. -/
theorem State.fillSeen_of_dry {s : State} (h : 0 < (s.fill 1).1) : ∃ d, s.fillSeen 1 (0, 0) =
    (({ s with drm := d } : State).post0 0x00d2 [word 1]).cutCarried none 1 ∧
      d.under = modAt s.drm.under 1 (fun n => satInc n 1 255) := by
  have hdry : (runsDry 1 (0, 0) && !runsDry 1 (s.fill 1)) = true := by
    have h0 : (s.fill 1).1 ≠ 0 := by omega
    simp [runsDry, h0]
  unfold State.fillSeen
  dsimp only
  rw [if_pos hdry, if_neg Nat.one_ne_zero, if_neg (by decide)]
  exact ⟨_, rfl, rfl⟩

/-! ## EGRESS_LANE_CHANGE (13 R295) -/

section
variable {s : State} {w : Nat} (hw : s.nl.egrReq = some w) (h0 : (s.lane 0).cur = none) (h1 : (s.lane 1).cur = none)
include hw h0 h1

/-- With both lanes free the request comes into force. -/
theorem State.egressLaneChange_of_free : s.egressLaneChange =
    if s.mode = .relay then { s with nl := { s.nl with egrEn := w, egrReq := none } }
    else ({ s with nl := { s.nl with egrEn := w, egrReq := none } } : State).serveLanes w := by
  unfold State.egressLaneChange
  rw [hw]
  dsimp only
  rw [h0, h1]
  rfl

end

theorem State.egressLaneChange_sent (s : State) : s.egressLaneChange.nl.sent = s.nl.sent := by
  unfold State.egressLaneChange
  split
  · split
    · rfl
    · dsimp only
      split <;> rfl
  · rfl

/-- While time passes transfers go on. -/
theorem State.elapse_of_transfer {s : State} (h : s.nl.quiet = false) (dt : Nat) : s.elapse dt = ((s.tick dt).heat).egress := by
  unfold State.elapse
  dsimp only
  rw [if_neg (by rw [State.heat_nl, State.tick_nl, h]; exact Bool.false_ne_true)]

/-- A module that is not held in reset lives on. -/
theorem State.elapse_live {s : State} (h : s.live = true) (dt : Nat) : (s.elapse dt).live = true := by
  unfold State.live at *
  rw [State.elapse_sup]
  simp only [Bool.and_eq_true, decide_eq_true_eq] at h ⊢
  exact ⟨h.1, by rw [h.2, Nat.zero_sub]⟩

theorem State.live_resetLeft {s : State} (h : s.live = true) : s.sup.resetLeft = 0 := by
  unfold State.live at h
  simp only [Bool.and_eq_true, decide_eq_true_eq] at h
  exact h.2

end Sys2Proof.Machine

namespace Sys2Proof.Machine

/-! ## The clauses of O39 -/

section
variable {s : State} {dt : Nat} (hl : (s.elapse dt).live = true)
include hl

theorem exec_nlTransferStart_of_live (i : Fin 2) (o : NlObs) :
    exec (.nlTransferStart dt i o) s = .next ((s.elapse dt).transferStart i.val o) :=
  congrArg Host.Outcome.next (State.run_of_live hl _)
theorem exec_egressLaneChange_of_live : exec (.egressLaneChange dt) s = .next (s.elapse dt).egressLaneChange :=
  congrArg Host.Outcome.next (State.run_of_live hl _)
theorem exec_egrEn_of_live (v : Word) : exec (.egrEn dt v) s = .next ((s.elapse dt).writeEgrEn v) :=
  congrArg Host.Outcome.next (State.run_of_live hl _)
theorem exec_prbs_of_live (l : Fin 4) (v : Word) : exec (.prbs dt l v) s = .next ((s.elapse dt).writeLaneCfg l.val v) :=
  congrArg Host.Outcome.next (State.run_of_live hl _)
theorem exec_prbsLock_of_live (l : Fin 4) (bits : List Bool) : exec (.prbsLock dt l bits) s = .next ((s.elapse dt).prbsLocked l.val bits) :=
  congrArg Host.Outcome.next (State.run_of_live hl _)
theorem exec_inject_of_live (l : Fin 4) (v : Word) : exec (.inject dt l v) s = .next ((s.elapse dt).writeInject l.val v) :=
  congrArg Host.Outcome.next (State.run_of_live hl _)
theorem exec_refreshInterval_of_live (c : Fin 4) (ports : List (Fin 3 × PortObs)) :
    exec (.refreshInterval dt c ports) s = .next (((s.elapse dt).portsSeen ports).refreshInterval c.val) :=
  congrArg Host.Outcome.next (State.run_of_live hl _)

end

/-- The lanes after NL_TRANSFER_START (13 R292). -/
theorem State.transferStart_lanes {u : State} {i : Fin 2} {x : Stream} {n : Nat} {r : List Byte} {y : Product}
    (he : u.nl.egrEn ∈ [1, 2, 3]) (hlen : u.nl.lanes.length = 4) (hst : u.nl.streams.length = 2)
    (h0 : (u.lane 0).cur = none) (h1 : (u.lane 1).cur = none) (hempty : ∀ z, some z ∈ u.nl.streams → ∀ q ∈ z.todo, q = [])
    (hz : u.nl.streams.getD i.val none = some x) (ht : x.transfer = none) (hw : x.waiting = some (n, r, y)) :
    ∃ t todo, u.transferStart i.val ⟨⟨[]⟩, ⟨[]⟩⟩ = t ∧ { t with nl := u.nl } = u ∧ t.nl.sent = u.nl.sent ∧ t.nl.comp = u.nl.comp ∧
      t.nl.streams.getD i.val none = some { x with transfer := some (n, r, y), waiting := none, todo := todo } ∧
      (∀ l, l < 2 → u.nl.egrEn / 2 ^ l % 2 = 0 → (t.lane l).cur = none ∧ todo.getD l [] = []) ∧
      (∀ l, l < 2 → u.nl.egrEn / 2 ^ l % 2 = 1 →
        (t.lane l).cur = some (⟨0, i.val, l, 0, n % 65536, r, decide ((u.lane l).prbs = 0) && decide ((u.lane l).inject = 3),
          (u.lane l).blockNow u.now, none⟩, (r.length + 7) / 8 + 2) ∧
        todo.getD l [] = (y.lines.zipIdx.filter (fun z => decide (u.nl.egrEn ≠ 3 ∨ z.2 % 2 = l))).map
          (fun z => ⟨1, i.val, l, z.2, n % 65536, z.1, false, 0, none⟩)) := by
  obtain ⟨o, heq⟩ := State.transferStart_eq he hlen hst h0 h1 hempty hz ht hw
  have hlane : ∀ l < 2, (u.took (u.framePackets i.val n r y 0) (u.framePackets i.val n r y 1)).lane l =
      (u.lane l).taking u.now (u.framePackets i.val n r y l) := by
    intro l hl
    rw [State.took_lane hlen _ _ hl]
    obtain rfl | rfl : l = 0 ∨ l = 1 := by omega
    · rfl
    · rfl
  have htodo : ∀ l < 2, [(u.framePackets i.val n r y 0).tail, (u.framePackets i.val n r y 1).tail].getD l [] =
      (u.framePackets i.val n r y l).tail := by
    intro l hl
    obtain rfl | rfl : l = 0 ∨ l = 1 := by omega
    · rfl
    · rfl
  have hcur : ∀ l < 2, (u.lane l).cur = none := by
    intro l hl
    obtain rfl | rfl : l = 0 ∨ l = 1 := by omega
    · exact h0
    · exact h1
  refine ⟨_, [(u.framePackets i.val n r y 0).tail, (u.framePackets i.val n r y 1).tail], heq, rfl, rfl, rfl,
    streamsOf_getD .., fun l hl hoff => ?_, fun l hl hon => ?_⟩
  · have hp := State.framePackets_of_off hl i.val n r y hoff
    rw [htodo l hl, hp]
    refine ⟨(congrArg Lane.cur (hlane l hl)).trans ?_, rfl⟩
    rw [hp]
    exact hcur l hl
  · have hp := State.framePackets_of_on he hl i.val n r y hon
    rw [htodo l hl, hp]
    refine ⟨(congrArg Lane.cur (hlane l hl)).trans ?_, rfl⟩
    rw [hp]
    rfl

/-- A packet whose blocks have gone out is sent (13 R292). -/
theorem State.elapse_sent {s : State} {dt l r : Nat} {p : NlPacket} (hlive : s.live = true) (hl : l < 2) (hlen : s.nl.lanes.length = 4)
    (hq : s.nl.quiet = false) (hc : (s.lane l).cur = some (p, r)) (hp : (s.lane l).prbs = 0)
    (hr : r ≤ othersAmong (s.lane l).blk ((s.lane l).blockNow (s.now + dt) - (s.lane l).blk)) :
    ∃ new, (s.elapse dt).nl.sent = new ++ s.nl.sent ∧ p ∈ new := by
  have hnl : ((s.tick dt).heat).nl = s.nl := by rw [State.heat_nl, State.tick_nl]
  have hlane : ((s.tick dt).heat).lane l = s.lane l := congrArg (fun n : Nl => n.lanes.getD l Lane.reset) hnl
  have hnow : ((s.tick dt).heat).now = s.now + dt := by
    rw [State.heat_now, State.tick_now, State.live_resetLeft hlive, Nat.sub_zero]
  rw [State.elapse_of_transfer hq, ← hnl]
  generalize (s.tick dt).heat = w at hnl hlane hnow ⊢
  rw [← hnl] at hlen
  rw [← hlane] at hc hp hr
  rw [← hnow] at hr
  exact State.egress_sent hl hlen hc hp hr

/-- The lanes after EGRESS_LANE_CHANGE (13 R295). -/
theorem State.egressLaneChange_lanes {u : State} {w : Nat} (hw : u.nl.egrReq = some w) (h0 : (u.lane 0).cur = none)
    (h1 : (u.lane 1).cur = none) (hlen : u.nl.lanes.length = 4) :
    ∃ t, u.egressLaneChange = t ∧ t.nl.egrEn = w ∧ t.nl.egrReq = none ∧
      (∀ l, l < 2 → (t.lane l).on = if u.mode = .relay then (u.lane l).on else decide (w / 2 ^ l % 2 = 1)) ∧
      (∀ l, 2 ≤ l → t.lane l = u.lane l) ∧ t.nl.sent = u.nl.sent ∧ t.nl.streams = u.nl.streams ∧ { t with nl := u.nl } = u := by
  have heq := State.egressLaneChange_of_free hw h0 h1
  by_cases hm : u.mode = .relay
  · rw [if_pos hm] at heq
    refine ⟨_, heq, rfl, rfl, fun l _ => ?_, fun l _ => rfl, rfl, rfl, rfl⟩
    rw [if_pos hm]
    rfl
  · rw [if_neg hm, State.serveLanes_eq] at heq
    refine ⟨_, heq, rfl, rfl, fun l hl => ?_, fun l hl => ?_, rfl, rfl, rfl⟩
    · rw [if_neg hm]
      obtain rfl | rfl : l = 0 ∨ l = 1 := by omega
      · rw [State.lane_modLane_ne _ Nat.one_ne_zero, State.lane_modLane_self _ (by rw [hlen]; decide), Lane.serve_on]
      · rw [State.lane_modLane_self _ (by simp [hlen]), Lane.serve_on]
    · rw [State.lane_modLane_ne _ (by omega), State.lane_modLane_ne _ (by omega)]
      rfl

/-- A write of NL_LN_CFG in DIAGNOSTIC and outside it (13 R303). -/
theorem State.writeLaneCfg_lanes {u : State} (l : Fin 4) (v : Word) (hlen : u.nl.lanes.length = 4) :
    (u.mode = .diagnostic → ∃ t, u.writeLaneCfg l.val v = t ∧ (t.lane l.val).prbs = fld v 26 24 ∧
      fld (t.lane l.val).cfg 3 0 = fld v 3 0 ∧ (t.lane l.val).prbsErr = (u.lane l.val).prbsErr ∧
      (∀ j, j ≠ l.val → t.lane j = u.lane j) ∧ { t with nl := u.nl } = u) ∧
    (u.mode ≠ .diagnostic → ∃ t, u.writeLaneCfg l.val v = t ∧ (t.lane l.val).prbs = 0 ∧ fld (t.lane l.val).cfg 3 0 = fld v 3 0 ∧
      (∀ j, j ≠ l.val → t.lane j = u.lane j) ∧ (fld v 26 24 = 0 → { t with nl := u.nl } = u)) := by
  have hl : l.val < u.nl.lanes.length := by omega
  constructor
  · intro hm
    have hf := laneCfgWord_fields v (fld_lt v 26 24)
    refine ⟨_, State.writeLaneCfg_of_diagnostic hm _ v, ?_, ?_, ?_, fun j hj => State.lane_modLane_ne _ (Ne.symm hj) _, rfl⟩
    · rw [State.lane_modLane_self _ hl, Lane.prbs, Lane.configured_cfg]
      exact hf.1
    · rw [State.lane_modLane_self _ hl, Lane.configured_cfg]
      exact hf.2
    · rw [State.lane_modLane_self _ hl, Lane.configured_prbsErr]
  · intro hm
    have hf := laneCfgWord_fields v (n := 0) (by decide)
    have hlane : ∀ j, (u.writeLaneCfg l.val v).lane j = (u.modLane l.val (fun x => x.configured v 0 u.now)).lane j := by
      intro j
      rw [State.writeLaneCfg_of_other hm]
      split
      · rfl
      · exact congrArg (fun n : Nl => n.lanes.getD j Lane.reset) (State.post0_nl ..)
    refine ⟨_, rfl, ?_, ?_, fun j hj => (hlane j).trans (State.lane_modLane_ne _ (Ne.symm hj) _), fun hz => ?_⟩
    · rw [hlane, State.lane_modLane_self _ hl, Lane.prbs, Lane.configured_cfg]
      exact hf.1
    · rw [hlane, State.lane_modLane_self _ hl, Lane.configured_cfg]
      exact hf.2
    · rw [State.writeLaneCfg_of_other hm, if_pos hz]
      rfl

/-- An injection that CALIBRATION or DIAGNOSTIC admits (13 R304). -/
theorem State.writeInject_lane {u : State} {l : Nat} {v : Word} (hm : u.mode = .calibration ∨ u.mode = .diagnostic)
    (hlo : 1 ≤ fld v 2 0) (hhi : fld v 2 0 ≤ 4) {x : Lane} (hx : x = u.lane l) :
    ∃ t y, u.writeInject l v = t ∧ t = u.modLane l (fun _ => y) ∧
      (x.on = false ∨ x.prbs ≠ 0 → y = { x with inject := fld v 2 0 }) ∧
      (x.on = true → x.prbs = 0 → fld v 2 0 ≤ 2 → y = { x with inject := 0, spoils := (x.blockNow u.now + 1, fld v 2 0) :: x.spoils }) ∧
      (x.on = true → x.prbs = 0 → fld v 2 0 = 3 → x.cur = none → y = { x with inject := 3 }) ∧
      (∀ p r, x.on = true → x.prbs = 0 → fld v 2 0 = 3 → x.cur = some (p, r) →
        y = { x with inject := 0, cur := some ({ p with badCrc := true }, r) }) ∧
      (x.on = true → x.prbs = 0 → fld v 2 0 = 4 → ∃ c, y = { x with inject := 0, spoils := (c, 4) :: x.spoils } ∧ c % 16384 = 0 ∧
        x.blockNow u.now < c ∧ c ≤ x.blockNow u.now + 16384) := by
  have heq := State.writeInject_of_allowed hm l v
  rw [if_pos (by simp [hlo, hhi]), ← hx] at heq
  generalize fld v 2 0 = k at *
  refine ⟨_, _, heq, rfl, fun h => ?_, fun hon hp hk => ?_, fun hon hp hk hc => ?_, fun p r hon hp hk hc => ?_, fun hon hp hk => ?_⟩
  · exact Lane.strike_of_no_traffic ({ x with inject := k } : Lane) u.now h
  · exact Lane.strike_block u.now hon hp hlo hk
  · subst hk
    exact Lane.strike_packet_waits u.now hon hp hc
  · subst hk
    exact Lane.strike_packet u.now hon hp hc
  · subst hk
    exact Lane.strike_lsync u.now hon hp

/-- An underrun of RT1 that a refresh interval reports (10 R239). -/
theorem State.underrun_cuts {u : State} {i : Fin 2} {x : Stream} {p : NlPacket} {r : Nat} (c : Nat) (hlen : u.nl.lanes.length = 4)
    (hx : u.nl.streams.getD i.val none = some x) (ht : x.transfer ≠ none) (hc : (u.lane 0).cur = some (p, r)) (hi : p.stream = i.val)
    (hr : r < p.size) (hp : (u.lane 0).prbs = 0) (hidle : ∀ j, j ≠ 0 → (u.lane j).cur = none) (hfill : 0 < (u.fill 1).1) :
    ∃ t, (u.portsSeen [(1, ⟨[(0, 0)]⟩)]).refreshInterval c = t ∧
      t.nl.sent = { p with badCrc := false, abort := some (1, p.size - r - 1) } :: u.nl.sent ∧ (t.lane 0).cur = none ∧
      t.nl.streams.getD i.val none = some { x with transfer := none, todo := [[], []] } ∧
      t.drm.under = modAt u.drm.under 1 (fun n => satInc n 1 255) ∧
      t.pa = u.pa ∧ t.pb = u.pb ∧ t.nv = u.nv := by
  obtain ⟨d, hd, hunder⟩ := State.fillSeen_of_dry hfill
  have hnl : (({ u with drm := d } : State).post0 0x00d2 [word 1]).nl = u.nl := State.post0_nl ..
  have hlane : ∀ j, (({ u with drm := d } : State).post0 0x00d2 [word 1]).lane j = u.lane j :=
    fun j => congrArg (fun n : Nl => n.lanes.getD j Lane.reset) hnl
  have hcut := State.cutCarried_cutBy (s := ({ u with drm := d } : State).post0 0x00d2 [word 1]) (i := i) (by rw [hlane]; exact hc) hi
    (fun j hj => by rw [hlane]; exact hidle j hj) (by rw [hnl]; exact hlen) (by rw [hlane]; exact hp) hr (by rw [hnl]; exact hx) ht 1
  have hseen : u.portsSeen [(1, ⟨[(0, 0)]⟩)] = _ := hd
  rw [hseen]
  generalize State.cutCarried (State.post0 _ _ _) none 1 = w at hcut ⊢
  obtain ⟨e, he, heu⟩ := w.refreshInterval_eq c
  refine ⟨_, he, ?_, ?_, ?_, ?_, ?_, ?_, ?_⟩
  · exact hcut.sent.trans (congrArg (fun n : Nl => _ :: n.sent) hnl)
  · exact hcut.lanes 0
  · exact hcut.streams
  · rw [← hunder]
    exact heu.trans (congrArg Drm.under (hcut.drm.trans (State.post0_drm ..)))
  · exact hcut.pa.trans (State.post0_pa ..)
  · exact hcut.pb.trans (State.post0_pb ..)
  · exact hcut.nv.trans (State.post0_nv ..)

/-- Settles O39: a clause for each command, from the lemmas about what a lane at rest takes, what goes out, what an underrun cuts, and how
patterns and injections change a lane. -/
theorem lanesTransmit : Obligations.LanesTransmit := by
  unfold Obligations.LanesTransmit
  refine ⟨?_, ?_, ?_, ?_, ?_⟩
  · rintro dt i o x s u rfl hl
    rw [exec_nlTransferStart_of_live hl]
    refine ⟨fun h => ?_, fun h hw => ?_, ?_⟩
    · rw [State.transferStart_of_none h]
    · rw [State.transferStart_of_not_ready h hw]
    · rintro n r y hz ht hw rfl he hlen hst h0 h1 hempty
      obtain ⟨t, todo, heq, hrest⟩ := State.transferStart_lanes he hlen hst h0 h1 hempty hz ht hw
      exact ⟨t, todo, congrArg Host.Outcome.next heq, hrest⟩
  · intro dt l r p s hlive hl hlen hq hc hp hr
    obtain ⟨new, hsent, hin⟩ := State.elapse_sent hlive hl hlen hq hc hp hr
    exact ⟨_, new, exec_egressLaneChange_of_live (State.elapse_live hlive dt), (s.elapse dt).egressLaneChange_sent.trans hsent, hin⟩
  · rintro dt r c i x p s u rfl hl hlen hst hx ht hc hi hr hp hidle hfill
    obtain ⟨t, heq, hrest⟩ := State.underrun_cuts c.val hlen hx ht hc hi hr hp hidle hfill
    exact ⟨t, (exec_refreshInterval_of_live hl c _).trans (congrArg Host.Outcome.next heq), hrest⟩
  · rintro dt v s u rfl hl
    rw [exec_egressLaneChange_of_live hl, exec_egrEn_of_live hl, State.writeEgrEn_eq]
    refine ⟨rfl, fun w hw hc => ?_, fun w hw h0 h1 hlen => ?_, fun hw => ?_⟩
    · rw [State.egressLaneChange_of_busy hw hc]
    · obtain ⟨t, heq, hrest⟩ := State.egressLaneChange_lanes hw h0 h1 hlen
      exact ⟨t, congrArg Host.Outcome.next heq, hrest⟩
    · rw [State.egressLaneChange_of_none hw]
  · rintro dt l v bits x s u rfl hl hlen rfl
    rw [exec_prbs_of_live hl, exec_prbsLock_of_live hl, exec_inject_of_live hl]
    obtain ⟨hdiag, hother⟩ := State.writeLaneCfg_lanes l v hlen
    refine ⟨fun hm => ?_, fun hm => ?_, fun hm hp => ?_, fun h => ?_, fun b hfull => ⟨?_, ?_⟩, fun hm hlo hhi => ?_, fun hm hk => ?_,
      fun hc hd => ?_⟩
    · obtain ⟨t, heq, hrest⟩ := hdiag hm
      exact ⟨t, congrArg Host.Outcome.next heq, hrest⟩
    · obtain ⟨t, heq, hrest⟩ := hother hm
      exact ⟨t, congrArg Host.Outcome.next heq, hrest⟩
    · rw [State.prbsLocked_of_pattern hm hp]
    · rw [State.prbsLocked_of_none h]
    · exact Lane.checkBit_right hfull
    · exact Lane.checkBit_wrong
    · obtain ⟨t, y, heq, hrest⟩ := State.writeInject_lane (v := v) hm hlo hhi (l := l.val) rfl
      exact ⟨t, y, congrArg Host.Outcome.next heq, hrest⟩
    · rw [State.writeInject_of_allowed hm, if_neg (by simp; omega)]
    · rw [State.writeInject_of_refused hc hd]

end Sys2Proof.Machine

namespace Sys2Proof.Machine

/-! ## A packet from the companion (13 R291, R299, R300) -/

section
variable {s u : State} {dt : Nat} (hu : u = s.elapse dt) (hl : u.live = true)
include hu hl

theorem exec_header_of_live (l : Fin 4) (rx : RxTraffic) : exec (.header dt l rx) s = .next (u.receive l.val rx) := by
  subst hu
  exact congrArg Host.Outcome.next (State.run_of_live hl _)
theorem exec_coeff_of_live (l : Fin 4) (rx : RxTraffic) : exec (.coeff dt l rx) s = .next (u.receive l.val rx) := by
  subst hu
  exact congrArg Host.Outcome.next (State.run_of_live hl _)
theorem exec_rowS_of_live (l : Fin 4) (rx : RxTraffic) : exec (.rowS dt l rx) s = .next (u.receive l.val rx) := by
  subst hu
  exact congrArg Host.Outcome.next (State.run_of_live hl _)
theorem exec_rowL_of_live (l : Fin 4) (rx : RxTraffic) : exec (.rowL dt l rx) s = .next (u.receive l.val rx) := by
  subst hu
  exact congrArg Host.Outcome.next (State.run_of_live hl _)
theorem exec_headerTimeout_of_live : exec (.headerTimeout dt) s = .next u.headerTimeout := by
  subst hu
  exact congrArg Host.Outcome.next (State.run_of_live hl _)

end

/-- One item that comes on a receiver in use, which makes one event of it. -/
theorem State.receive_of_event {u : State} {l : Nat} {i : RxItem} {y : Lane} {e : RxEvent} (hr : u.receives l = true)
    (ht : (u.lane l).takeItem i = (y, [e])) (sig : Bool) :
    u.receive l ⟨[i], sig⟩ = (u.modLane l (fun _ => y)).rxEvent l sig e := by
  unfold State.receive State.rxItem
  simp only [List.foldl_cons, List.foldl_nil, hr, ht, Bool.not_true, Bool.false_eq_true, if_false]

section
variable {v : State} {l : Nat} (hl : 2 ≤ l) {p : RxPacket} (sig : Bool)
include hl

/-- Without a link no packet of a frame does anything. -/
theorem State.packet_of_unlinked (hn : v.linked = false) (hk : 3 ≤ p.kind) (whole : Bool) : v.packet l p sig whole = v := by
  have hk2 : p.kind ≠ 2 := by omega
  unfold State.packet State.hostPacket State.packetLost
  simp only [if_neg (Nat.not_lt.mpr hl), if_neg hk2, hn, Bool.not_false, if_true, ite_self]

variable (ht : v.linkLane l = true)
include ht

omit hl in
theorem State.takesPackets_of_linkLane : v.takesPackets l = true := by
  rw [State.takesPackets, ht, Bool.true_or]

/-- A whole packet on a lane of the link is one of the relay stream. -/
theorem State.packet_of_whole (hb : blocksOk p.kind p.blocks = true) : v.packet l p sig true = v.hostPacket p sig := by
  unfold State.packet
  rw [State.takesPackets_of_linkLane ht, hb]
  exact if_neg (Nat.not_lt.mpr hl)

theorem State.packet_of_discarded : v.packet l p sig false = v.packetLost p := by
  unfold State.packet
  rw [State.takesPackets_of_linkLane ht]
  exact if_neg (Nat.not_lt.mpr hl)

end

/-! ## The companion lost (13 R302) -/

theorem State.loseCompanion_linkView (s : State) (reason : Nat) : ∃ fs, (s.loseCompanion reason).linkView =
    { s.linkView with reading := false, armed := false, frames := fs, comp := { s.nl.comp.detect with loss := reason } } := by
  unfold State.loseCompanion
  dsimp only
  rw [State.cutPipeB_linkView, State.post0_linkView, State.modComp_linkView]
  exact ⟨_, rfl⟩

/-- What a loss of the companion shows. -/
theorem State.loseCompanion_shows (s : State) (reason : Nat) : (s.loseCompanion reason).nl.comp.state = 1 ∧
    (s.loseCompanion reason).nl.comp.loss = reason ∧ (s.loseCompanion reason).pb.reading = false ∧ (s.loseCompanion reason).nv = s.nv ∧
    (s.loseCompanion reason).act = s.act ∧ (s.loseCompanion reason).plt = s.plt := by
  obtain ⟨fs, h⟩ := s.loseCompanion_linkView reason
  exact ⟨congrArg (fun x => x.comp.state) h, congrArg (fun x => x.comp.loss) h, congrArg LinkView.reading h, congrArg LinkView.nv h,
    congrArg LinkView.act h, congrArg LinkView.plt h⟩

/-! ## A frame of pipeline B begins (13 R299) -/

section
variable (s : State)

@[simp] theorem State.askBlade_linkView : (s.askBlade .B).linkView = s.linkView := by
  rw [State.askBlade, State.sendCmd_linkView, State.modPl_B_linkView _ _ ⟨rfl, rfl, rfl, rfl, rfl⟩]
@[simp] theorem State.eventMarker_linkView (n : Nat) (st : Settings) (prev : Option Settings) :
    (s.eventMarker .B n st prev).linkView = s.linkView := by
  unfold State.eventMarker
  dsimp only
  (repeat' split) <;> simp [State.modPl_B_linkView]
@[simp] theorem State.beginEvent_linkView (n : Nat) (slaved : Bool) : (s.beginEvent .B n slaved).linkView = s.linkView := by
  unfold State.beginEvent
  dsimp only
  (repeat' split) <;> simp [State.modPl_B_linkView]
/-- The context of a frame that starts touches the anchoring alone. -/
@[simp] theorem State.contextMarker_linkView (st : Settings) (held : Bool) :
    (s.modPl .B (fun x => x.contextMarker st held)).linkView = s.linkView :=
  s.modPl_B_linkView _ (by simpa only [Pl.markerPart, Prod.mk.injEq] using s.pb.contextMarker_markerPart st held)

theorem State.beginFrame_linkView (f : Frame) (slaved : Bool) : ∃ shut, (s.beginFrame .B f slaved).linkView =
    { s.linkView with
      reading := true, armed := false, frameNo := (f.n + 1) % 2 ^ 32, frames := s.pb.frames ++ [{ f with shutter := shut }] } := by
  unfold State.beginFrame
  extract_lets prev left context begun shut
  have hb : begun.linkView = s.linkView := by
    simp only [begun, context, left, State.beginEvent_linkView, State.eventMarker_linkView, State.contextMarker_linkView,
      State.leaveImaging_linkView]
  have hf : begun.pb.frames = s.pb.frames := congrArg LinkView.frames hb
  exact ⟨shut, calc
    _ = { begun.linkView with
          reading := true, armed := false, frameNo := (f.n + 1) % 2 ^ 32, frames := begun.pb.frames ++ [{ f with shutter := shut }] } := rfl
    _ = _ := by rw [hb, hf]⟩

theorem State.judgeRate_linkView (h : CompHeader) : (s.judgeRate h).1.linkView = s.linkView := by
  unfold State.judgeRate
  dsimp only
  rw [State.modPl_B_linkView _ _ ⟨rfl, rfl, rfl, rfl, rfl⟩]
  split
  · rw [State.postP_linkView]
  · rfl

end

/-- The frame that begins last is the one that is read. -/
theorem Pl.cur_of_last {x : Pl} {l : List Frame} {f : Frame} (hr : x.reading = true) (hf : x.frames = l ++ [f]) (hn : x.lastNo = f.n)
    (hl : ∀ g ∈ l, g.n ≠ f.n) : x.cur = some f := by
  have hfind : x.frame? x.lastNo = some f := by
    rw [Pl.frame?, hf, hn, List.find?_append, List.find?_eq_none.mpr (fun g hg => by simpa using hl g hg)]
    simp
  rw [Pl.cur, if_pos hr, hfind]
  rfl

/-- What a HEADER reports, kept in the state of the link (R128, R299). -/
def Comp.reported (c : Comp) (h : CompHeader) (now : Nat) : Comp :=
  { c with pos0 := h.pos0, bladeSeq := h.bladeSeq, blade := if h.bladeValid then some (h.blade, now) else c.blade }

/-- The link once a HEADER has come whole (R299, R302). -/
def Comp.headed (c : Comp) (h : CompHeader) (now : Nat) : Comp :=
  { c with lastHeader := now, frame := h.frame.toNat, tag := h.frame.toNat % 65536 }

/-- No row waits for its other half. -/
def Comp.cleared (c : Comp) : Comp := { c with rowS := none, rowL := none, lastS := false, lastL := false }

/-- A frame with what its HEADER says of it. -/
def Frame.underHeader (f : Frame) (fast hold : Bool) (h : CompHeader) : Frame :=
  { f with rateDrop := fast, hold := hold, comp := some h, tempSubst := h.tempSubst, permSubst := h.permSubst }

section
variable (s : State)

/-- Pending settings and snapshot under the EXPOSURE of a HEADER. -/
def State.exposedBy (h : CompHeader) : State :=
  (s.impose .B (fun st => { st with exposure := h.exposure })).modPl .B (fun x => { x with snap := { x.snap with exposure := h.exposure } })

theorem State.exposedBy_linkView (h : CompHeader) :
    (s.exposedBy h).linkView = { s.linkView with snap := { s.pb.snap with exposure := h.exposure } } := rfl

theorem State.headerGot_of_other {marker : Nat} {h : CompHeader} (hm : h.mode ≠ 4) :
    s.headerGot marker h = (s.modComp (fun c => c.headed h s.now)).loseCompanion 3 := if_pos hm

theorem State.headerGot_of_relay {marker : Nat} {h : CompHeader} (hm : h.mode = 4) :
    s.headerGot marker h = ((s.modComp (fun c => c.headed h s.now)).closeFrameB.headerReports h).startFrameB marker (some h) :=
  if_neg (not_not_intro hm)

/-- With no frame being received there is none to close. -/
theorem State.closeFrameB_of_none (hc : s.pb.cur = none) :
    s.closeFrameB = (s.modComp Comp.cleared).modPl .B (fun x => { x with link := none }) := by
  have hlp : s.latchPoint .B = s := by
    rw [State.latchPoint, show (s.pl .B).cur = none from hc]
  unfold State.closeFrameB
  rw [hc]
  dsimp only
  rw [hlp]
  rfl

theorem State.headerReports_linkView (h : CompHeader) :
    (s.headerReports h).linkView = { s.linkView with comp := s.nl.comp.reported h s.now } := by
  unfold State.headerReports
  dsimp only
  rw [State.endIdleEvent_linkView, State.reportPosition, State.modPl_B_linkView _ _ ⟨rfl, rfl, rfl, rfl, rfl⟩,
    State.modPl_B_linkView _ _ ⟨rfl, rfl, rfl, rfl, rfl⟩, State.modComp_linkView]
  cases hb : h.bladeValid
  · simp only [Comp.reported, hb, if_neg Bool.false_ne_true]
    rfl
  · simp only [Comp.reported, hb, if_true]
    rfl

/-- What a frame of pipeline B takes from its HEADER (R173, R299). -/
structure Frame.Of (f : Frame) (x : Pl) (marker : Nat) (h : CompHeader) : Prop where
  n : f.n = x.frameNo
  marker : f.marker = marker
  ptemp : f.ptemp = some h.ptemp
  whole : f.incomplete = false
  rateDrop : f.rateDrop = decide (fld h.exposure 1 0 < x.snap.rate)

/-- The frame of pipeline B that begins with a HEADER. -/
def State.headerFrame (marker : Nat) (fast : Bool) (h : CompHeader) : Frame :=
  (Frame.start s.pb s.pb.frameNo marker (some h.ptemp) (s.lensTemp s.pb.snap.radio h.ptemp)).underHeader fast (s.held s.now) h

section
variable {s} {marker : Nat} {h : CompHeader} (hm : isRunning s.mode = true) (hs : isRunning s.pb.snap.mode = true)
  (hr : s.pb.snap.mode ≠ .relay)
include hm hs hr

theorem State.startFrameB_of_running : s.startFrameB marker (some h) = ((s.judgeRate h).1.exposedBy h).beginFrame .B
    (((s.judgeRate h).1.exposedBy h).headerFrame marker (s.judgeRate h).2 h) false := by
  unfold State.startFrameB
  dsimp only
  rw [if_neg (by simp [hm, hs, hr])]
  rfl

/-- With the exposure of the HEADER a frame of pipeline B begins. -/
theorem State.startFrameB_linkView : ∃ f, (s.startFrameB marker (some h)).linkView =
    { s.linkView with
      reading := true, armed := false, frameNo := (s.pb.frameNo + 1) % 2 ^ 32, frames := s.pb.frames ++ [f],
      snap := { s.pb.snap with exposure := h.exposure } } ∧ f.Of s.pb marker h := by
  have hj := s.judgeRate_linkView h
  have hfast : (s.judgeRate h).2 = decide (fld h.exposure 1 0 < s.pb.snap.rate) := rfl
  rw [State.startFrameB_of_running hm hs hr, hfast]
  generalize (s.judgeRate h).1 = v at hj
  have hn : v.pb.frameNo = s.pb.frameNo := congrArg LinkView.frameNo hj
  have hf : v.pb.frames = s.pb.frames := congrArg LinkView.frames hj
  have hx : v.pb.snap = s.pb.snap := congrArg LinkView.snap hj
  obtain ⟨shut, hb⟩ := (v.exposedBy h).beginFrame_linkView
    ((v.exposedBy h).headerFrame marker (decide (fld h.exposure 1 0 < s.pb.snap.rate)) h) false
  refine ⟨{ (v.exposedBy h).headerFrame marker (decide (fld h.exposure 1 0 < s.pb.snap.rate)) h with shutter := shut },
    hb.trans ?_, ⟨hn, rfl, rfl, rfl, rfl⟩⟩
  rw [State.exposedBy_linkView, hj, hx, ← hn, ← hf]
  rfl

end

/-- What a HEADER of a companion in RELAY does to the link and to pipeline B, where no frame was being received. -/
theorem State.headerGot_linkView {marker : Nat} {h : CompHeader} (hm4 : h.mode = 4) (hm : isRunning s.mode = true)
    (hs : isRunning s.pb.snap.mode = true) (hr : s.pb.snap.mode ≠ .relay) (hc : s.pb.cur = none) :
    ∃ f c, (s.headerGot marker h).linkView =
      { s.linkView with
        reading := true, armed := false, frameNo := (s.pb.frameNo + 1) % 2 ^ 32, frames := s.pb.frames ++ [f],
        snap := { s.pb.snap with exposure := h.exposure }, comp := c } ∧ f.Of s.pb marker h ∧
      c.state = s.nl.comp.state ∧ c.lastHeader = s.now ∧ c.frame = h.frame.toNat ∧ c.pos0 = h.pos0 := by
  have hview : ((s.modComp (fun c => c.headed h s.now)).closeFrameB.headerReports h).linkView =
      { s.linkView with comp := ((s.nl.comp.headed h s.now).cleared).reported h s.now } := by
    rw [State.headerReports_linkView, State.closeFrameB_of_none _ (show (s.modComp _).pb.cur = none from hc)]
    rfl
  rw [s.headerGot_of_relay hm4]
  generalize (s.modComp (fun c => c.headed h s.now)).closeFrameB.headerReports h = v at hview
  have hsnap : v.pb.snap = s.pb.snap := congrArg LinkView.snap hview
  have hn : v.pb.frameNo = s.pb.frameNo := congrArg LinkView.frameNo hview
  have hf : v.pb.frames = s.pb.frames := congrArg LinkView.frames hview
  have hmode : v.mode = s.mode := congrArg (fun x => x.sup.mode) hview
  obtain ⟨f, heq, ⟨h1, h2, h3, h4, h5⟩⟩ := State.startFrameB_linkView (s := v) (marker := marker) (h := h) (by rw [hmode, hm])
    (by rw [hsnap, hs]) (by rw [hsnap]; exact hr)
  refine ⟨f, ((s.nl.comp.headed h s.now).cleared).reported h s.now, ?_, ⟨h1.trans hn, h2, h3, h4, h5.trans (by rw [hsnap])⟩,
    rfl, rfl, rfl, rfl⟩
  rw [heq, hview, hsnap, hn, hf]

end

end Sys2Proof.Machine

namespace Sys2Proof.Machine

/-! ## Packets of a frame that is received (13 R300) -/

/-- A frame that is read stays so under a change of it. -/
theorem Pl.cur_modFrame {x : Pl} {f : Frame} (hc : x.cur = some f) {φ : Frame → Frame} (hφ : ∀ g, (φ g).n = g.n) :
    (x.modFrame f.n φ).cur = some (φ f) := by
  have hlast : (x.modFrame f.n φ).lastNo = x.lastNo := rfl
  have hread : (x.modFrame f.n φ).reading = x.reading := rfl
  unfold Pl.cur at hc ⊢
  rw [hlast, hread, Pl.modFrame_frame? _ _ _ _ (fun g hg => (hφ g).trans hg)]
  split at hc
  · next hr =>
    rw [if_pos hr]
    cases hf : x.frame? x.lastNo with
    | some g =>
      obtain rfl : g = f := by simpa [hf] using hc
      rw [if_pos (Pl.frame?_n hf).symm]
      rfl
    | none =>
      obtain ⟨hg, hn⟩ : x.gone = some f ∧ f.n = x.lastNo := by
        simpa [hf, Option.filter_eq_some_iff] using hc
      rw [if_pos hn.symm]
      simp [Pl.modFrame, hg, hφ, hn]
  · exact absurd hc (by simp)

/-- A packet of the frame that is received begins none. -/
theorem State.frameOf_of_tag {s : State} {p : RxPacket} (h : p.tag = s.nl.comp.tag) : s.frameOf p = s := by
  unfold State.frameOf
  exact if_pos (by rw [h]; simp)

section
variable {s : State} {f : Frame} (hc : s.pb.cur = some f)
include hc

theorem State.coeffGot_of_cur (c : Array (Int × Int)) :
    s.coeffGot c = s.modPl .B (fun x => x.modFrame f.n (fun g => { g with coeff := some c })) := by
  rw [State.coeffGot, hc]

theorem State.spoilB_of_cur (hlp : f.lpTime = none) :
    s.spoilB = s.modPl .B (fun x => x.modFrame f.n (fun g => { g with incomplete := true })) := by
  rw [State.spoilB, hc]
  exact if_neg (by simp [hlp])

/-- The rows kept, with one more half. -/
def Comp.half (c : Comp) (kind row : Nat) (x : Array (BitVec 16)) : Comp :=
  if kind = 5 then { c with rowS := some (row, x) } else { c with rowL := some (row, x) }

theorem State.rowGot_of_cur (kind row : Nat) (x : Array (BitVec 16)) :
    s.rowGot kind row x = ((s.modComp (fun c => c.half kind row x)).pairRows f).lastRow kind row := by
  rw [State.rowGot, hc]
  rfl

omit hc in
/-- Of a row other than the last nothing more follows. -/
theorem State.lastRow_of_ne {kind row : Nat} (h : row ≠ 1547) (s : State) : s.lastRow kind row = s := if_pos h

end

/-! ## The halves of a row -/

/-- A row whose two halves have come is on the link. -/
def State.pairedRow (s : State) (row : Nat) (a b : Array (BitVec 16)) : State :=
  (s.modComp (fun c => { c with rowS := none, rowL := none })).modPl .B (fun x => { x with link := some (row, a, b) })

section
variable {s : State} {f : Frame} {i j : Nat} {a b : Array (BitVec 16)}

/-- A half alone waits for its other one. -/
theorem State.pairRows_of_half (h : s.nl.comp.rowS = none ∨ s.nl.comp.rowL = none) : s.pairRows f = s := by
  unfold State.pairRows
  cases hs : s.nl.comp.rowS with
  | none => rfl
  | some x =>
    cases hl : s.nl.comp.rowL with
    | none => rfl
    | some y => exact absurd h (by simp [hs, hl])

variable (hs : s.nl.comp.rowS = some (i, a)) (hl : s.nl.comp.rowL = some (j, b))
include hs hl

/-- Both halves of a row make the row on the link. -/
theorem State.pairRows_of_same (hij : i = j) (hco : f.coeff.isSome = true) : s.pairRows f = s.pairedRow j a b := by
  have hn : ¬f.coeff.isNone = true := by
    cases hf : f.coeff with
    | none => rw [hf] at hco; exact absurd hco Bool.false_ne_true
    | some c => exact Bool.false_ne_true
  simp only [State.pairRows, hs, hl, if_pos hij, if_neg hn]
  rfl

/-- A row that comes after a half of an earlier one, whose other half was lost. -/
theorem State.pairRows_of_later (hji : j < i) : s.pairRows f = s.spoilB.modComp (fun c => { c with rowL := none }) := by
  simp only [State.pairRows, hs, hl, if_neg (show ¬i = j by omega), if_neg (show ¬i < j by omega)]

end

/-- With both packets of the last row the frame is received (R300). -/
theorem State.lastRow_received {s : State} {f : Frame} (hc : s.pb.cur = some f) (hS : s.nl.comp.lastS = true) (hr : f.received = none) :
    s.lastRow 6 1547 = (s.modComp (fun c => { c with lastS := c.lastS || false, lastL := true })).modPl .B
      (fun x => x.modFrame f.n (fun g => { g with received := some s.now })) := by
  unfold State.lastRow
  rw [if_neg (not_not_intro rfl)]
  dsimp only
  rw [show (State.modComp s _).pb.cur = some f from hc]
  dsimp only
  rw [if_pos (by simp [State.modComp, hS, hr])]
  simp

/-! ## The clauses of O42 -/

theorem State.headerTimeout_of_early {u : State} (h : u.linked = false ∨ u.now < u.nl.comp.lastHeader + 18750000) :
    u.headerTimeout = u := by
  refine if_neg fun ht => ?_
  obtain ⟨hlk, hle⟩ := (Bool.and_eq_true _ _).mp ht
  rcases h with h | h
  · exact absurd hlk (by simp [h])
  · exact absurd (of_decide_eq_true hle) (Nat.not_le.mpr h)

theorem State.headerTimeout_of_late {u : State} (hlk : u.linked = true) (h : u.nl.comp.lastHeader + 18750000 ≤ u.now) :
    u.headerTimeout = u.loseCompanion 2 :=
  if_pos ((Bool.and_eq_true _ _).mpr ⟨hlk, decide_eq_true h⟩)

theorem State.linked_state {u : State} (h : u.linked = true) : u.nl.comp.state = 4 :=
  of_decide_eq_true ((Bool.and_eq_true _ _).mp h).1

section
variable {v : State} {p : RxPacket} (hlk : v.linked = true) (ht : p.tag = v.nl.comp.tag) (sig : Bool)
include hlk

theorem State.hostPacket_header (hk : p.kind = 3) : v.hostPacket p sig = v.headerGot (v.sopTime p) (parseHeader p.bytes) := by
  simp only [State.hostPacket, hk, hlk]
  rfl

include ht

theorem State.hostPacket_coeff (hk : p.kind = 4) : v.hostPacket p sig = v.coeffGot (parseCoeff p.bytes) := by
  simp only [State.hostPacket, hk, hlk, State.frameOf_of_tag ht]
  rfl
theorem State.hostPacket_rowS (hk : p.kind = 5) : v.hostPacket p sig = v.rowGot 5 p.line (parseRow p.bytes) := by
  simp only [State.hostPacket, hk, hlk, State.frameOf_of_tag ht]
  rfl
theorem State.hostPacket_rowL (hk : p.kind = 6) : v.hostPacket p sig = v.rowGot 6 p.line (parseRow p.bytes) := by
  simp only [State.hostPacket, hk, hlk, State.frameOf_of_tag ht]
  rfl
omit sig in
theorem State.packetLost_part (hlo : 4 ≤ p.kind) (hhi : p.kind ≤ 6) : v.packetLost p = v.partLost p.kind p.line := by
  unfold State.packetLost
  rw [if_neg (by omega), hlk, if_neg (by decide), if_neg (by omega), State.frameOf_of_tag ht]
  exact if_pos (by simp [hlo, hhi])

end

section
variable {u : State} {l : Nat} {i : RxItem} {y : Lane} {p : RxPacket} {sig : Bool} (hr : u.receives l = true) (hl : 2 ≤ l)
  (hln : u.linkLane l = true)
include hr hl hln

/-- A whole packet on a lane of the link. -/
theorem State.receive_whole (ht : (u.lane l).takeItem i = (y, [.packet p])) (hb : blocksOk p.kind p.blocks = true) :
    u.receive l ⟨[i], sig⟩ = (u.modLane l (fun _ => y)).hostPacket p sig := by
  rw [State.receive_of_event hr ht]
  exact State.packet_of_whole (v := u.modLane l (fun _ => y)) hl sig hln hb

/-- A discarded packet of a frame on a lane of the link. -/
theorem State.receive_discarded (hlk : u.linked = true) (htag : p.tag = u.nl.comp.tag) (ht : (u.lane l).takeItem i = (y, [.discarded p]))
    (hlo : 4 ≤ p.kind) (hhi : p.kind ≤ 6) : u.receive l ⟨[i], sig⟩ = (u.modLane l (fun _ => y)).partLost p.kind p.line := by
  rw [State.receive_of_event hr ht]
  exact (State.packet_of_discarded (v := u.modLane l (fun _ => y)) hl sig hln).trans
    (State.packetLost_part (v := u.modLane l (fun _ => y)) hlk htag hlo hhi)

end

/-- Without a link nothing that comes does anything. -/
theorem State.receive_unlinked {u : State} {l : Nat} {i : RxItem} {y : Lane} {sig : Bool} {p : RxPacket} {e : RxEvent}
    (hr : u.receives l = true) (hl : 2 ≤ l) (hn : u.linked = false) (ht : (u.lane l).takeItem i = (y, [e])) (he : e ∈ [RxEvent.packet p, .discarded p])
    (hk : 3 ≤ p.kind) : u.receive l ⟨[i], sig⟩ = u.modLane l (fun _ => y) := by
  have hpacket := State.packet_of_unlinked (v := u.modLane l (fun _ => y)) hl (p := p) sig hn hk
  rw [State.receive_of_event hr ht]
  simp only [List.mem_cons, List.not_mem_nil, or_false] at he
  rcases he with rfl | rfl
  · exact hpacket true
  · exact hpacket false

/-- A HEADER that begins a frame of pipeline B (R299). -/
theorem State.headerGot_shows {v : State} {marker : Nat} {h : CompHeader} (hm4 : h.mode = 4) (hm : isRunning v.mode = true)
    (hs : isRunning v.pb.snap.mode = true) (hr : v.pb.snap.mode ≠ .relay) (hc : v.pb.cur = none) (hn : v.pb.frameNo < 2 ^ 32)
    (hnew : ∀ f ∈ v.pb.frames, f.n ≠ v.pb.frameNo) : ∃ t, v.headerGot marker h = t ∧ t.nl.comp.state = v.nl.comp.state ∧
      t.nl.comp.lastHeader = v.now ∧ t.nl.comp.frame = h.frame.toNat ∧ t.nl.comp.pos0 = h.pos0 ∧ t.pb.reading = true ∧
      t.pb.frameNo = (v.pb.frameNo + 1) % 2 ^ 32 ∧ t.pb.snap.exposure = h.exposure ∧
      (∃ f, t.pb.cur = some f ∧ f.n = v.pb.frameNo ∧ f.marker = marker ∧ f.ptemp = some h.ptemp ∧ f.incomplete = false ∧
        f.rateDrop = decide (fld h.exposure 1 0 < v.pb.snap.rate)) ∧ t.pa = v.pa ∧ t.nv = v.nv := by
  obtain ⟨f, c, hview, ⟨fn, fmarker, fptemp, fwhole, frate⟩, cstate, clast, cframe, cpos⟩ :=
    v.headerGot_linkView (marker := marker) hm4 hm hs hr hc
  generalize v.headerGot marker h = t at hview
  have hcomp : t.nl.comp = c := congrArg LinkView.comp hview
  have hread : t.pb.reading = true := congrArg LinkView.reading hview
  have hno : t.pb.frameNo = (v.pb.frameNo + 1) % 2 ^ 32 := congrArg LinkView.frameNo hview
  have hframes : t.pb.frames = v.pb.frames ++ [f] := congrArg LinkView.frames hview
  have hlast : t.pb.lastNo = f.n := by
    rw [Pl.lastNo, hno, fn]
    omega
  refine ⟨t, rfl, ?_, ?_, ?_, ?_, hread, hno, congrArg (fun x => x.snap.exposure) hview, ⟨f, ?_, fn, fmarker, fptemp, fwhole, frate⟩,
    congrArg LinkView.pa hview, congrArg LinkView.nv hview⟩
  · rw [hcomp, cstate]
  · rw [hcomp, clast]
  · rw [hcomp, cframe]
  · rw [hcomp, cpos]
  · exact Pl.cur_of_last hread hframes hlast (fun g hg => fn ▸ hnew g hg)

section
variable {v : State} {f : Frame} {row j : Nat} {a b : Array (BitVec 16)} (hc : v.pb.cur = some f)
include hc

/-- A half of a row other than the last that comes alone is kept. -/
theorem State.rowGot_alone {kind : Nat} (hrow : row ≠ 1547)
    (h : (v.nl.comp.half kind row a).rowS = none ∨ (v.nl.comp.half kind row a).rowL = none) :
    v.rowGot kind row a = v.modComp (fun c => c.half kind row a) := by
  rw [State.rowGot_of_cur hc, State.pairRows_of_half (by exact h), State.lastRow_of_ne hrow]

theorem State.rowS_pairs (hrow : row ≠ 1547) (hco : f.coeff.isSome = true) (hL : v.nl.comp.rowL = some (row, b)) :
    v.rowGot 5 row a = v.pairedRow row a b := by
  rw [State.rowGot_of_cur hc, State.pairRows_of_same (s := v.modComp (fun c => c.half 5 row a)) rfl hL rfl hco, State.lastRow_of_ne hrow]
  rfl

theorem State.rowS_later (hrow : row ≠ 1547) (hlp : f.lpTime = none) (hL : v.nl.comp.rowL = some (j, b)) (hj : j < row) :
    v.rowGot 5 row a = (v.modPl .B (fun x => x.modFrame f.n (fun g => { g with incomplete := true }))).modComp (fun c =>
      { c with rowS := some (row, a), rowL := none }) := by
  rw [State.rowGot_of_cur hc, State.pairRows_of_later (s := v.modComp (fun c => c.half 5 row a)) rfl hL hj, State.lastRow_of_ne hrow,
    State.spoilB_of_cur (s := v.modComp (fun c => c.half 5 row a)) hc hlp]
  rfl

theorem State.rowL_pairs (hrow : row ≠ 1547) (hco : f.coeff.isSome = true) (hS : v.nl.comp.rowS = some (row, b)) :
    v.rowGot 6 row a = v.pairedRow row b a := by
  rw [State.rowGot_of_cur hc, State.pairRows_of_same (s := v.modComp (fun c => c.half 6 row a)) hS rfl rfl hco, State.lastRow_of_ne hrow]
  rfl

/-- ROW_L of the last row after its ROW_S: the frame is received. -/
theorem State.rowL_last (hco : f.coeff.isSome = true) (hrec : f.received = none) (hS : v.nl.comp.rowS = some (1547, b))
    (hlast : v.nl.comp.lastS = true) : v.rowGot 6 1547 a =
      ((v.pairedRow 1547 b a).modComp (fun c => { c with lastS := c.lastS || false, lastL := true })).modPl .B
        (fun x => x.modFrame f.n (fun g => { g with received := some v.now })) := by
  rw [State.rowGot_of_cur hc, State.pairRows_of_same (s := v.modComp (fun c => c.half 6 1547 a)) hS rfl rfl hco]
  exact State.lastRow_received (s := v.pairedRow 1547 b a) hc hlast hrec

theorem State.rowL_last_shows (hco : f.coeff.isSome = true) (hrec : f.received = none) (hS : v.nl.comp.rowS = some (1547, b))
    (hlast : v.nl.comp.lastS = true) : ∃ t, v.rowGot 6 1547 a = t ∧ t.pb.link = some (1547, b, a) ∧
      t.pb.cur = some { f with received := some v.now } ∧ t.nl.comp.lastL = true ∧ t.pa = v.pa ∧ t.nv = v.nv := by
  refine ⟨_, State.rowL_last hc hco hrec hS hlast, ?_, ?_, ?_, ?_, ?_⟩
  · rfl
  · exact Pl.cur_modFrame (x := { v.pb with link := some (1547, b, a) }) hc (fun _ => rfl)
  · rfl
  · rfl
  · rfl

/-- A discarded packet of a row other than the last leaves the frame incomplete. -/
theorem State.partLost_of_ne {kind : Nat} (hrow : row ≠ 1547) (hlp : f.lpTime = none) : v.partLost kind row =
    v.modPl .B (fun x => x.modFrame f.n (fun g => { g with incomplete := true })) := by
  rw [State.partLost, State.spoilB_of_cur hc hlp, State.lastRow_of_ne hrow]

end

/-- Settles O42: a packet is routed to what the link makes of it, and each of these is taken by its cases. -/
theorem companionStreams : Obligations.CompanionStreams := by
  unfold Obligations.CompanionStreams
  refine ⟨?_, ?_, ?_, ?_⟩
  · intro dt l i y sig p e c s u hu hlive hr hl hn ht he hk hmem
    have hrec := State.receive_unlinked (sig := sig) hr hl hn ht he hk
    simp only [List.mem_cons, List.not_mem_nil, or_false] at hmem
    rcases hmem with rfl | rfl | rfl | rfl
    · rw [exec_header_of_live hu hlive, hrec]
    · rw [exec_coeff_of_live hu hlive, hrec]
    · rw [exec_rowS_of_live hu hlive, hrec]
    · rw [exec_rowL_of_live hu hlive, hrec]
  · intro dt s u hu hlive
    rw [exec_headerTimeout_of_live hu hlive]
    refine ⟨fun h => ?_, fun hlk ht => ⟨_, congrArg _ (State.headerTimeout_of_late hlk ht), ?_⟩⟩
    · rw [State.headerTimeout_of_early h]
    · exact u.loseCompanion_shows 2
  · intro dt l i y sig p h s u v hu hlive hr hl hlk hln ht hv hk hblocks hh
    subst hv hh
    have hlkv : (u.modLane l.val (fun _ => y)).linked = true := hlk
    rw [exec_header_of_live hu hlive, State.receive_whole hr hl hln ht (by rw [hk, hblocks]; rfl), State.hostPacket_header hlkv sig hk]
    refine ⟨fun hm => ?_, fun hm hrun hsnap hrel _ hcur _ hno hnew => ?_⟩
    · rw [State.headerGot_of_other _ hm]
      exact ⟨_, rfl, State.loseCompanion_shows _ 3⟩
    · obtain ⟨t, heq, hstate, hrest⟩ := State.headerGot_shows (v := u.modLane l.val (fun _ => y)) hm hrun hsnap hrel hcur hno hnew
      exact ⟨t, congrArg Host.Outcome.next heq, hstate.trans (State.linked_state hlk), hrest⟩
  · intro dt row l i y sig p f a s u v hu hlive hr hl hlk hln hv hcur htag hrow ha
    subst hv hrow ha
    have hlkv : (u.modLane l.val (fun _ => y)).linked = true := hlk
    have htagv : p.tag = (u.modLane l.val (fun _ => y)).nl.comp.tag := htag
    have hcurv : (u.modLane l.val (fun _ => y)).pb.cur = some f := hcur
    rw [exec_coeff_of_live hu hlive, exec_rowS_of_live hu hlive, exec_rowL_of_live hu hlive]
    refine ⟨fun ht => ⟨fun hk hb => ?_, fun hk hb hne => ?_, fun hk hb => ?_⟩, fun ht hlp hne => ?_⟩
    · rw [State.receive_whole hr hl hln ht (by rw [hk, hb]; rfl), State.hostPacket_coeff hlkv htagv sig hk, State.coeffGot_of_cur hcurv]
    · rw [State.receive_whole hr hl hln ht (by rw [hk, hb]; rfl), State.hostPacket_rowS hlkv htagv sig hk]
      refine ⟨fun hL => ?_, fun b hco hL => ?_, fun j b hlp hL hj => ?_⟩
      · exact congrArg _ (State.rowGot_alone hcurv hne (.inr hL))
      · exact congrArg _ (State.rowS_pairs hcurv hne hco hL)
      · exact congrArg _ (State.rowS_later hcurv hne hlp hL hj)
    · rw [State.receive_whole hr hl hln ht (by rw [hk, hb]; rfl), State.hostPacket_rowL hlkv htagv sig hk]
      refine ⟨fun hne hS => ?_, fun b hne hco hS => ?_, fun b hlast hco hrec hS hlS => ?_⟩
      · exact congrArg _ (State.rowGot_alone hcurv hne (.inl hS))
      · exact congrArg _ (State.rowL_pairs hcurv hne hco hS)
      · rw [hlast] at hS ⊢
        obtain ⟨t, heq, hrest⟩ := State.rowL_last_shows (a := parseRow p.bytes) hcurv hco hrec hS hlS
        exact ⟨t, congrArg Host.Outcome.next heq, hrest⟩
    · have hrec := State.receive_discarded (sig := sig) hr hl hln hlk htag ht
      have hpart := fun k => State.partLost_of_ne (kind := k) hcurv hne hlp
      refine ⟨fun hk => ?_, fun hk => ?_, fun hk => ?_⟩
      · rw [hrec (by omega) (by omega), hpart]
      · rw [hrec (by omega) (by omega), hpart]
      · rw [hrec (by omega) (by omega), hpart]

end Sys2Proof.Machine

namespace Sys2Proof.Machine

/-! ## Reset values (02 R46, 08 R174, 09 R204, 14 R316) -/

theorem State.reset_rings (x : Nat) (h : x < 23) : State.reset.ring x = Ring.reset x := by
  rw [State.ring, show State.reset.hif.rings = (List.range 23).map Ring.reset from rfl, List.getD_eq_getElem?_getD]
  simp [h]

theorem State.reset_sheaves : ∀ i, i < 16 → (State.reset.sheaf i).st = .offline := by decide

/-- BOOT is not SAFE. -/
theorem State.reset_safeInv : State.reset.SafeInv := fun h => nomatch h

/-- Settles O56: the registers are evaluated, the rings are those of their list, of which none is enabled. -/
theorem resetValues : Obligations.ResetValues := by
  unfold Obligations.ResetValues
  refine ⟨by decide, by decide, by decide, by decide, by decide, by decide, by decide, fun x hx => ?_, by decide, by decide,
    State.reset_sheaves, rfl, rfl, rfl, State.reset_safeInv, fun _ => rfl, rfl⟩
  rw [State.reset_rings x hx]
  exact ⟨rfl, rfl⟩

end Sys2Proof.Machine

namespace Sys2Proof.Machine

/-! ## A command fetched (09 R203, R205, R210, R217) -/

/-- Accesses to BAR 2 leave all but the host interface. -/
theorem State.bar2Run_sup (s : State) (l : List Bar2Op) : (s.bar2Run l).sup = s.sup :=
  foldl_keeps State.sup State.bar2Op (fun _ x => by cases x <;> rfl) l s

theorem State.bar2Run_live (s : State) (l : List Bar2Op) : (s.bar2Run l).live = s.live := by
  rw [State.live, State.bar2Run_sup, State.live]

theorem State.live_of_mayFetch {u : State} (h : u.mayFetch = true) : u.live = true := by
  by_contra hl
  simp [State.mayFetch, hl] at h

section
variable {u : State} {f : Fetched}

/-- A command that wakes the module stays in the ring. -/
theorem State.fetch_of_waking {c : HostCmd} (hf : u.mayFetch = true) (hc : f.cmd = some c) (hw : c.wakes = true)
    (ha : u.asleep = true) : u.fetch f = u.startWake 0 := by
  simp [State.fetch, hf, hc, hw, ha]

/-- An awake module takes the command's position and serves it. -/
theorem State.fetch_of_awake (hf : u.mayFetch = true) (ha : u.asleep = false) :
    u.fetch f = State.finish (u.takeCmd.serve f) f (u.ring 0).head := by
  simp [State.fetch, hf, ha]

/-- So does every module with a command that does not wake it. -/
theorem State.fetch_of_not_waking {c : HostCmd} (hf : u.mayFetch = true) (hc : f.cmd = some c) (hw : c.wakes = false) :
    u.fetch f = State.finish (u.takeCmd.serve f) f (u.ring 0).head := by
  simp [State.fetch, hf, hc, hw]

end

/-! ### The checks before a command's own, in their order (notes/assumptions/46) -/

section
variable {s : State} {f : Fetched}

theorem State.serve_of_badOpcode (hc : f.cmd = none) : s.serve f = Machine.answer s 1 := by
  simp [State.serve, hc]

variable {c : HostCmd} (hc : f.cmd = some c)
include hc

theorem State.serve_of_reserved (hrsv : f.rsv = true) : s.serve f = Machine.answer s 2 := by
  simp [State.serve, hc, hrsv]

variable (hrsv : f.rsv = false)
include hrsv

theorem State.serve_of_noSession (hn : c.needsSession = true) (hx : s.sessionOf f.session = none) :
    s.serve f = Machine.answer s 4 := by
  simp [State.serve, hc, hrsv, hn, hx]

variable (hx : c.needsSession = true → s.sessionOf f.session ≠ none)
include hx

theorem State.serve_of_safe (hm : s.mode = .safe) (hs : s.safeServes c = false) : s.serve f = Machine.answer s 3 := by
  have hsession : (c.needsSession && (s.sessionOf f.session).isNone) = false := by
    simpa [Option.isSome_iff_ne_none] using hx
  simp [State.serve, hc, hrsv, hsession, hm, hs]

variable (hm : s.mode = .safe → s.safeServes c = true)
include hm

theorem State.serve_of_outside1210 (hcompat : s.pa.pend.compat = true) (ho : c.outside1210 = true) :
    s.serve f = Machine.answer s 9 := by
  have hsession : (c.needsSession && (s.sessionOf f.session).isNone) = false := by
    simpa [Option.isSome_iff_ne_none] using hx
  have hsafe : (decide (s.mode = .safe) && !s.safeServes c) = false := by simpa using hm
  simp [State.serve, hc, hrsv, hsession, hsafe, hcompat, ho]

/-- A command that all checks let through comes to its own meaning. -/
theorem State.serve_of_checked (hcompat : (s.pa.pend.compat && c.outside1210) = false) :
    s.serve f = s.runCmd f.session (((s.sessionOf f.session).map Session.role).getD .operator) c := by
  have hsession : (c.needsSession && (s.sessionOf f.session).isNone) = false := by
    simpa [Option.isSome_iff_ne_none] using hx
  have hsafe : (decide (s.mode = .safe) && !s.safeServes c) = false := by simpa using hm
  simp [State.serve, hc, hrsv, hsession, hsafe, hcompat]

end

/-! ### The commands that fetch -/

section
variable {s : State} {dt : Nat} {d : List Byte} {inp : HostInput}

theorem exec_commandFetch_of_mayFetch (hf : ((s.elapse dt).bar2Run inp.bar2).mayFetch = true) (desc : Option (List Byte)) :
    exec (.commandFetch dt desc inp) s = .next (match desc with
      | some d => ((s.elapse dt).bar2Run inp.bar2).fetch (parseDesc d inp)
      | none => ((s.elapse dt).bar2Run inp.bar2).fetchFailed) := by
  have hl : (s.elapse dt).live = true := by
    rw [← State.bar2Run_live _ inp.bar2]
    exact State.live_of_mayFetch hf
  cases desc <;> exact congrArg Host.Outcome.next (State.run_of_live hl _)

/-- A command that the module serves with an answer at once leaves its completion. -/
theorem exec_commandFetch_of_answer {v : State} {status : Nat} {result : List Word}
    (hf : ((s.elapse dt).bar2Run inp.bar2).mayFetch = true) (ha : ((s.elapse dt).bar2Run inp.bar2).asleep = false)
    (hs : ((s.elapse dt).bar2Run inp.bar2).takeCmd.serve (parseDesc d inp) = ⟨v, status, result, none, false, false⟩) :
    exec (.commandFetch dt (some d) inp) s = .next (v.complete (parseDesc d inp).tag (parseDesc d inp).opcode status
      (((s.elapse dt).bar2Run inp.bar2).ring 0).head result) := by
  rw [exec_commandFetch_of_mayFetch hf]
  dsimp only
  rw [State.fetch_of_awake hf ha, hs, State.finish_answer]

end

/-- NOP has passed every check once its header has. -/
theorem State.serve_nop {s : State} {f : Fetched} (hc : f.cmd = some .nop) (hrsv : f.rsv = false) :
    s.serve f = Machine.answer s 0 := by
  rw [State.serve_of_checked hc hrsv nofun (fun _ => rfl) (Bool.and_false _)]
  rfl

theorem State.fetchFailed_of_mayFetch {u : State} (hf : u.mayFetch = true) : u.fetchFailed =
    (u.takeCmd.dmaError (u.ring 0).head (((u.ring 0).baseHi ++ (u.ring 0).baseLo) + BitVec.ofNat 64 (64 * (u.ring 0).head))).complete
      0#32 0 12 (u.ring 0).head [] := by
  simp [State.fetchFailed, hf]

/-- Settles O13: NOP wakes nothing and passes every check, an unknown opcode the first alone; a failed read comes to no check. -/
theorem commandFetched : Obligations.CommandFetched := by
  unfold Obligations.CommandFetched
  rintro dt d inp s u rfl hf
  refine ⟨fun hop h2 h12 => ?_, fun hargs ha => ?_, ?_⟩
  · have hc : (parseDesc d inp).cmd = some .nop := by rw [parseDesc, hop]; rfl
    have hrsv : (parseDesc d inp).rsv = false := by simp [parseDesc, h2, h12]
    rw [exec_commandFetch_of_mayFetch hf]
    dsimp only
    rw [State.fetch_of_not_waking hf hc rfl, State.serve_nop hc hrsv, ← hop]
    exact congrArg Host.Outcome.next (State.finish_answer ..)
  · exact exec_commandFetch_of_answer hf ha (State.serve_of_badOpcode hargs)
  · rw [exec_commandFetch_of_mayFetch hf]
    exact congrArg Host.Outcome.next (State.fetchFailed_of_mayFetch hf)

/-- Settles O14: each check refuses what those before it let through. -/
theorem commandRefused : Obligations.CommandRefused := by
  unfold Obligations.CommandRefused
  rintro dt d inp f c s u rfl hf rfl hc
  refine ⟨fun hw ha => ?_, fun ha hrsv => ?_, fun ha hrsv hn hx => ?_, fun ha hrsv hx hm hs => ?_, fun ha hrsv hx hm hcompat ho => ?_⟩
  · rw [exec_commandFetch_of_mayFetch hf]
    exact congrArg Host.Outcome.next (State.fetch_of_waking hf hc hw ha)
  · exact exec_commandFetch_of_answer hf ha (State.serve_of_reserved hc hrsv)
  · exact exec_commandFetch_of_answer hf ha (State.serve_of_noSession hc hrsv hn hx)
  · exact exec_commandFetch_of_answer hf ha (State.serve_of_safe hc hrsv hx hm hs)
  · exact exec_commandFetch_of_answer hf ha (State.serve_of_outside1210 hc hrsv hx (fun hs => absurd hs hm) hcompat ho)

end Sys2Proof.Machine

namespace Sys2Proof.Machine

/-! ## Commands without a session (09 R210, R217, 17 R386) -/

/-- A command that every module that fetches serves: it wakes nothing, needs no session, and neither SAFE nor 1210 mode refuses it. -/
structure HostCmd.Open (c : HostCmd) : Prop where
  sleeps : c.wakes = false
  sessionless : c.needsSession = false
  compat : c.outside1210 = false
  safe : ∀ s : State, s.safeServes c = true

theorem HostCmd.nop_open : HostCmd.nop.Open := ⟨rfl, rfl, rfl, fun _ => rfl⟩
theorem HostCmd.identify_open : HostCmd.identify.Open := ⟨rfl, rfl, rfl, fun _ => rfl⟩
theorem HostCmd.sessionOpen_open (k : Nat) (w : Word) (n : BitVec 128) : (HostCmd.sessionOpen k w n).Open := ⟨rfl, rfl, rfl, fun _ => rfl⟩
theorem HostCmd.sessionAuth_open (w : Word) (m : List Byte) : (HostCmd.sessionAuth w m).Open := ⟨rfl, rfl, rfl, fun _ => rfl⟩

/-- Such a command with no reserved field set is taken, and leaves the completion of its own answer. -/
theorem State.run_fetch_of_open {s v : State} {dt : Nat} {h : Hdr} {c : HostCmd} {status : Nat} {result : List Word} (hc : c.Open)
    (hf : (s.elapse dt).mayFetch = true) (hrsv : h.rsv = false)
    (ha : ∀ r, (s.elapse dt).takeCmd.runCmd h.session r c = ⟨v, status, result, none, false, false⟩) :
    Host.Outcome.next (s.run dt (fun s => s.fetch (Fetched.of h c))) =
      (.next (v.complete h.tag c.opcode status ((s.elapse dt).ring 0).head result) : Host.Outcome State Fault Refusal) := by
  have hserve := State.serve_of_checked (s := (s.elapse dt).takeCmd) (f := Fetched.of h c) rfl hrsv
    (fun hn => absurd hn (hc.sessionless ▸ Bool.false_ne_true)) (fun _ => hc.safe _) (by rw [hc.compat, Bool.and_false])
  rw [State.run_of_live (State.live_of_mayFetch hf), State.fetch_of_not_waking hf rfl hc.sleeps, hserve]
  exact congrArg Host.Outcome.next ((congrArg (State.finish · _ _) (ha _)).trans (State.finish_answer ..))

/-! ## Wake latency and host pulses (16 R366, 12 R270, R273) -/

theorem State.takes.awake {u : State} {h : Hdr} {r : Role} (ht : u.takes h r) : u.asleep = false := by
  obtain ⟨-, -, hawake, -⟩ := ht
  exact hawake

/-- An awake module is at no depth that a new latency could wake it from. -/
theorem State.latencySet_of_awake {s : State} (ha : s.asleep = false) (n : Nat) :
    s.latencySet n = { s with thm := { s.thm with wakeUs := n } } := by
  have hd : s.thm.depth = 0 := by
    simp only [State.asleep, Bool.or_eq_false_iff, decide_eq_false_iff_not] at ha
    omega
  simp [State.latencySet, hd]

/-- A pulse that its switch, its supply and its coils permit waits. -/
theorem State.queuePulse_of_free {s : State} {ch steps : Nat} {both : Bool} (hw : s.act.waits.getD (ch / 2) none = none)
    (hs : s.hostPulseStop ⟨ch, steps, both && !s.paired ch, s.now⟩ = none) : s.queuePulse ch steps both =
      { s with act := { s.act with waits := s.act.waits.set (ch / 2) (some ⟨ch, steps, both && !s.paired ch, s.now⟩) } } := by
  simp only [State.queuePulse, hw, hs, Option.isSome_none, Bool.false_eq_true, if_false]

theorem State.cmdActPulse_of_refused {s : State} {ch par steps : Nat} (h : s.actPulseStatus ch par steps ≠ 0) :
    s.cmdActPulse ch par steps = Machine.answer s (s.actPulseStatus ch par steps) := by
  simp only [State.cmdActPulse, if_neg h]

theorem State.cmdActPulse_of_inRange {s : State} {ch par steps : Nat} (h : s.actPulseStatus ch par steps = 0) :
    s.cmdActPulse ch par steps = Machine.answer (s.queuePulse ch steps (decide (par = 1))) 0 := by
  simp only [State.cmdActPulse, h, if_true]

theorem exec_actPulse_of_answer {s v : State} {dt : Nat} {h : Hdr} {r : Role} (ht : (s.elapse dt).takes h r) {ch par : Byte}
    {len : BitVec 16} {status : Nat}
    (ha : (s.elapse dt).takeCmd.cmdActPulse ch.toNat par.toNat len.toNat = Machine.answer v status) :
    exec (.actPulse dt h ch par len) s = .next (v.complete h.tag 0x0052 status ((s.elapse dt).ring 0).head []) :=
  State.run_fetch_of_answer ht (c := .actPulse ch.toNat par.toNat len.toNat) ha

/-- Settles O15: NOP and IDENTIFY answer at once; an awake module takes the latency alone, and a pulse is refused or waits. -/
theorem plainCommands : Obligations.PlainCommands := by
  unfold Obligations.PlainCommands
  refine ⟨?_, ?_, ?_⟩
  · rintro dt h s u rfl hf hrsv
    exact ⟨State.run_fetch_of_open HostCmd.nop_open hf hrsv fun _ => rfl,
      State.run_fetch_of_open HostCmd.identify_open hf hrsv fun _ => rfl⟩
  · rintro dt h w r s u rfl ht
    exact State.run_fetch_of_answer ht (c := .latencySet w.toNat)
      (congrArg (Machine.answer · 0) (State.latencySet_of_awake (s := (s.elapse dt).takeCmd) ht.awake _))
  · rintro dt h ch par len r s u rfl ht -
    refine ⟨fun hne => ?_, fun h0 hw hs => ?_⟩
    · exact exec_actPulse_of_answer ht (State.cmdActPulse_of_refused (s := (s.elapse dt).takeCmd) hne)
    · exact exec_actPulse_of_answer ht ((State.cmdActPulse_of_inRange (s := (s.elapse dt).takeCmd) h0).trans
        (congrArg (Machine.answer · 0) (State.queuePulse_of_free (s := (s.elapse dt).takeCmd) hw hs)))

end Sys2Proof.Machine

namespace Sys2Proof.Machine

/-! ## Sessions opened (09 R217, R218, R219, 15 R341) -/

section
variable {s : State} {k : Nat} {r : Role} (hr : roleOfNum k = some r) {handle : Word} {nonce : BitVec 128}
include hr

theorem State.cmdSessionOpen_of_lockout (hl : (s.readKey k).lockedOut k = true) :
    s.cmdSessionOpen k handle nonce = Machine.answer (s.readKey k) 14 := by
  simp only [State.cmdSessionOpen, hr, hl, if_true]

variable (hl : (s.readKey k).lockedOut k = false)
include hl

theorem State.cmdSessionOpen_of_noKey (hk : (s.readKey k).keyOf k = []) :
    s.cmdSessionOpen k handle nonce = Machine.answer (s.readKey k) 5 := by
  simp [State.cmdSessionOpen, hr, hl, hk]

variable (hk : (s.readKey k).keyOf k ≠ [])
include hk

theorem State.cmdSessionOpen_of_noSlot (hs : (s.readKey k).freeSlot r = none) :
    s.cmdSessionOpen k handle nonce = Machine.answer (s.readKey k) 15 := by
  simp [State.cmdSessionOpen, hr, hl, hk, hs]

/-- A free handle is the one drawn; the session stands in the slot that is free. -/
theorem State.cmdSessionOpen_of_free {i : Nat} (hs : (s.readKey k).freeSlot r = some i) (hh : (s.readKey k).handleFree handle = true)
    {v : State} (hv : v = s.readKey k) : s.cmdSessionOpen k handle nonce = answerOk
      { v with hif := { v.hif with
          sessions := v.hif.sessions.set i (some ⟨handle, r, nonce, v.keyOf k, false, v.now⟩)
          expired := v.hif.expired.filter (· ≠ handle) } }
      (handle :: (List.range 4).map (fun j => word (nonce.toNat / 2 ^ (32 * j)))) := by
  subst hv
  have hpick : (s.readKey k).pickHandle 5 handle = handle := by rw [State.pickHandle, if_pos hh]
  simp [State.cmdSessionOpen, hr, hl, hk, hs, hpick]

end

theorem exec_sessionOpen_of_answer {s v : State} {dt : Nat} {h : Hdr} {role : Byte} {handle : Word} {nonce : BitVec 128}
    {status : Nat} {result : List Word} (hf : (s.elapse dt).mayFetch = true) (hrsv : h.rsv = false)
    (ha : (s.elapse dt).takeCmd.cmdSessionOpen role.toNat handle nonce = ⟨v, status, result, none, false, false⟩) :
    exec (.sessionOpen dt h role handle nonce) s = .next (v.complete h.tag 0x0010 status ((s.elapse dt).ring 0).head result) :=
  State.run_fetch_of_open (HostCmd.sessionOpen_open role.toNat handle nonce) hf hrsv fun _ => ha

/-! ### The key slot read back -/

theorem State.readKey_of_valid {u : State} {k : Nat} {r : Rec (List Byte)} (hk : u.nv.keys[k]? = some r) (ha : r.a.isSome = true)
    (hb : r.b.isSome = true) : u.readKey k = u := by
  have hget : u.nv.keys.getD k (Rec.both 0 []) = r := by rw [List.getD_eq_getElem?_getD, hk, Option.getD_some]
  rw [State.readKey, hget, State.readRec_of_valid _ _ _ _ ha hb]

/-- A key with one valid copy is settled to it, and reported. -/
theorem State.readKey_of_oneCopy {u : State} {k q : Nat} {x : List Byte} {r : Rec (List Byte)} (hk : u.nv.keys[k]? = some r)
    (h : r.OneCopy q x) : ∃ v, u.Reported v ∧
      u.readKey k = { v with nv := { u.nv with keys := u.nv.keys.set k (Rec.both q x) } } := by
  have hget : u.nv.keys.getD k (Rec.both 0 []) = r := by rw [List.getD_eq_getElem?_getD, hk, Option.getD_some]
  rw [State.readKey, hget]
  exact State.readRec_of_oneCopy u _ _ _ h

theorem Rec.cur_both {α : Type} (q : Nat) (x d : α) : (Rec.both q x).cur d = x := by simp [Rec.cur, Rec.resolve, Rec.both]

/-- The key just settled is the one that counts. -/
theorem State.keyOf_set {v : State} {k q : Nat} {x : List Byte} {r : Rec (List Byte)} (hk : v.nv.keys[k]? = some r) :
    State.keyOf { v with nv := { v.nv with keys := v.nv.keys.set k (Rec.both q x) } } k = x := by
  obtain ⟨hlt, -⟩ := List.getElem?_eq_some_iff.mp hk
  rw [State.keyOf, List.getD_eq_getElem?_getD, List.getElem?_set_self hlt, Option.getD_some, Rec.cur_both]

/-- Settles O16: the statuses in the order of their checks, once the key slot has been read back by its copies. -/
theorem sessionOpens : Obligations.SessionOpens := by
  unfold Obligations.SessionOpens
  constructor
  · rintro dt h role handle nonce r s u v rfl rfl hf hrsv hr
    refine ⟨fun hl => ?_, fun hl hk => ?_, fun hl hk hs => ?_, fun i hl hk hs hh => ?_⟩
    · exact exec_sessionOpen_of_answer hf hrsv (State.cmdSessionOpen_of_lockout hr hl)
    · exact exec_sessionOpen_of_answer hf hrsv (State.cmdSessionOpen_of_noKey hr hl hk)
    · exact exec_sessionOpen_of_answer hf hrsv (State.cmdSessionOpen_of_noSlot hr hl hk hs)
    · exact exec_sessionOpen_of_answer hf hrsv (State.cmdSessionOpen_of_free hr hl hk hs hh rfl)
  · intro k q x r u hk
    refine ⟨State.readKey_of_valid hk, fun h => ?_⟩
    obtain ⟨v, hv, heq⟩ := State.readKey_of_oneCopy hk h
    rw [heq]
    exact ⟨rfl, State.keyOf_set (v := u) hk, hv.warned, hv.sup⟩

end Sys2Proof.Machine

namespace Sys2Proof.Machine

/-! ## What unbinding a session's cameras leaves alone (07 R166, 09 R220, R229) -/

/-- Which rings are enabled. -/
def State.enables (s : State) : List Bool := s.hif.rings.map Ring.enable

theorem State.ring_enable (s : State) (x : Nat) : (s.ring x).enable = s.enables.getD x false :=
  (List.getD_map (l := s.hif.rings) (d := Ring.reset 0) (f := Ring.enable)).symm

/-- The events written so far, as long as ring 2 takes no more. -/
def State.muteEvents (s : State) : Option (List Event) := if (s.ring 2).enable then none else some s.hif.events

/-- All that events and packets, and cameras that leave, do not touch. -/
structure UnbindView where
  now : Nat
  sup : Sup
  plt : Plt
  act : Act
  saf : Saf
  nv : Nv
  frameNo : Nat × Nat
  sessions : List (Option Session)
  completions : List Completion
  muteEvents : Option (List Event)
  enables : List Bool
  commandRing : Ring
  completionRing : Ring

/-- That part of a state. -/
def State.unbindView (s : State) : UnbindView :=
  ⟨s.now, s.sup, s.plt, s.act, s.saf, s.nv, (s.pa.frameNo, s.pb.frameNo), s.hif.sessions, s.hif.completions, s.muteEvents, s.enables,
    s.ring 0, s.ring 1⟩

/-- An entry set to what it holds. -/
theorem set_eq_self_of_getD {α : Type} {l : List α} {i : Nat} {d x : α} (h : l.getD i d = x) : l.set i x = l := by
  by_cases hi : i < l.length
  · rw [← h, List.getD_eq_getElem _ _ hi, List.set_getElem_self]
  · exact List.set_eq_of_length_le (Nat.not_lt.mp hi)

section
variable (s : State)

/-! ### Rings stay enabled, or not -/

theorem State.modRing_enables (x : Nat) (f : Ring → Ring) (hf : ∀ r, (f r).enable = r.enable) :
    (s.modRing x f).enables = s.enables := by
  apply List.ext_getElem?
  intro i
  simp only [State.enables, State.modRing, modAt, List.getElem?_map, List.getElem?_modify]
  cases s.hif.rings[i]? with
  | none => rfl
  | some r =>
    show some (if x = i then f r else r).enable = some r.enable
    split
    · rw [hf]
    · rfl

theorem Ring.advance_enable (r : Ring) : r.advance.enable = r.enable := by
  unfold Ring.advance
  split <;> rfl

@[simp] theorem State.sendMessage_enables (v : Nat) : (s.sendMessage v).enables = s.enables := by
  unfold State.sendMessage
  dsimp only
  (repeat' split) <;> rfl

@[simp] theorem State.signal_enables (x : Nat) : (s.signal x).enables = s.enables := by
  unfold State.signal
  dsimp only
  split
  · exact State.modRing_enables _ _ _ fun _ => rfl
  · rw [State.sendMessage_enables]
    exact State.modRing_enables _ _ _ fun _ => rfl

@[simp] theorem State.writeEvent_enables (c : Nat) (f : Word) (g p : Nat) (a : List Word) :
    (s.writeEvent c f g p a).enables = s.enables := by
  rw [State.writeEvent, State.signal_enables, State.modRing_enables _ _ _ Ring.advance_enable]
  rfl

@[simp] theorem State.flushLost_enables : s.flushLost.enables = s.enables := by
  unfold State.flushLost
  split
  · exact State.writeEvent_enables ..
  · rfl

@[simp] theorem State.post_enables (c : Nat) (f : Word) (g p : Nat) (a : List Word) : (s.post c f g p a).enables = s.enables := by
  unfold State.post
  dsimp only
  split
  · rw [State.writeEvent_enables, State.flushLost_enables]
  · refine Eq.trans (State.modRing_enables _ _ _ fun _ => rfl) ?_
    exact s.flushLost_enables

/-! ### With ring 2 out of service no event is written -/

theorem State.flushLost_of_disabled {s : State} (h : (s.ring 2).enable = false) : s.flushLost = s := by
  simp [State.flushLost, State.eventRoom, h]

theorem State.post_events_of_disabled {s : State} (h : (s.ring 2).enable = false) (c : Nat) (f : Word) (g p : Nat) (a : List Word) :
    (s.post c f g p a).hif.events = s.hif.events := by
  simp [State.post, State.flushLost_of_disabled h, State.eventRoom, h]

@[simp] theorem State.post_muteEvents (c : Nat) (f : Word) (g p : Nat) (a : List Word) :
    (s.post c f g p a).muteEvents = s.muteEvents := by
  have hen : ((s.post c f g p a).ring 2).enable = (s.ring 2).enable := by
    rw [State.ring_enable, State.post_enables, ← State.ring_enable]
  rw [State.muteEvents, State.muteEvents, hen]
  cases h : (s.ring 2).enable with
  | true => rfl
  | false => rw [State.post_events_of_disabled h]

/-! ### Streams that end, cameras that leave -/

@[simp] theorem State.post0_unbindView (c : Nat) (a : List Word) : (s.post0 c a).unbindView = s.unbindView := by
  simp [State.unbindView, State.post0, State.ring_post_ne]

theorem State.nl_unbindView (x : Nl) : State.unbindView { s with nl := x } = s.unbindView := rfl

@[simp] theorem State.noteSent_unbindView (l : Nat) (ps : List NlPacket) : (s.noteSent l ps).unbindView = s.unbindView := by
  unfold State.noteSent
  split <;> rfl

@[simp] theorem State.abortOn_unbindView (i r l : Nat) : (s.abortOn i r l).unbindView = s.unbindView := by
  unfold State.abortOn
  dsimp only
  (repeat' split) <;> simp [State.modLane, State.nl_unbindView]

@[simp] theorem State.sendAbort_unbindView (i r : Nat) : (s.sendAbort i r).unbindView = s.unbindView := by
  rw [State.sendAbort, State.nl_unbindView, State.abortOn_unbindView, State.abortOn_unbindView]

@[simp] theorem State.endStream_unbindView (p : Pipe) (codes : List Nat) (i : Nat) :
    (s.endStream p codes i).unbindView = s.unbindView := by
  unfold State.endStream
  dsimp only
  (repeat' split) <;> simp [State.nl_unbindView]

@[simp] theorem State.endStreams_unbindView (p : Pipe) (codes : List Nat) : (s.endStreams p codes).unbindView = s.unbindView := by
  rw [State.endStreams_eq, State.endStream_unbindView, State.endStream_unbindView]

@[simp] theorem State.accept_unbindView (p : Pipe) (f : Settings → Settings) : (s.accept p f).unbindView = s.unbindView := by
  cases p <;> rfl

@[simp] theorem State.unbind_unbindView (p : Pipe) (id : Nat) : (s.unbind p id).unbindView = s.unbindView := by
  unfold State.unbind
  split
  · rfl
  · rw [State.accept_unbindView, State.endStreams_unbindView]

/-- The cameras of a list unbound. -/
theorem State.foldl_unbind_unbindView (p : Pipe) (ids : List Nat) :
    (ids.foldl (fun s i => s.unbind p i) s).unbindView = s.unbindView :=
  foldl_keeps State.unbindView (fun s i => State.unbind s p i) (fun s i => s.unbind_unbindView p i) ids s

/-- A slot freed, with the staging and the waiting commit of its session. -/
theorem State.freeSlot_unbindView (i : Nat) (g : Option Staging) (w : Option WaitCommit) :
    State.unbindView { s with hif := { s.hif with sessions := s.hif.sessions.set i none, staging := g, waiting := w } } =
      { s.unbindView with sessions := s.unbindView.sessions.set i none } := rfl

/-- A session closed leaves its slot free, and of the rest of that view all as it was. -/
theorem State.closeSession_unbindView (i : Nat) :
    (s.closeSession i).unbindView = { s.unbindView with sessions := s.unbindView.sessions.set i none } := by
  unfold State.closeSession
  split
  · next h =>
    have hsame : s.unbindView.sessions.set i none = s.unbindView.sessions := set_eq_self_of_getD h
    rw [hsame]
  · refine (State.freeSlot_unbindView _ i _ _).trans ?_
    rw [State.foldl_unbind_unbindView, State.foldl_unbind_unbindView]

end

/-! ## Sessions found by their handle (09 R217, R218) -/

/-- The slot of the one session with a handle, where that session is looked for. -/
theorem findIdx?_session {l : List (Option Session)} {i : Nat} {x : Session} (hx : l.getD i none = some x)
    (hone : ∀ j y, l.getD j none = some y → y.handle = x.handle → j = i) {p : Option Session → Bool} (hp : p (some x) = true)
    (honly : ∀ o, p o = true → ∃ y, o = some y ∧ y.handle = x.handle) : l.findIdx? p = some i := by
  have hi : i < l.length := by
    by_contra hn
    rw [List.getD_eq_default _ _ (Nat.not_lt.mp hn)] at hx
    exact nomatch hx
  rw [List.getD_eq_getElem _ _ hi] at hx
  rw [List.findIdx?_eq_some_iff_getElem]
  refine ⟨hi, hx ▸ hp, fun j hj hpj => ?_⟩
  obtain ⟨y, hy, hh⟩ := honly _ hpj
  exact absurd (hone j y (by rw [List.getD_eq_getElem _ _ (hj.trans hi), hy]) hh) (Nat.ne_of_lt hj)

theorem State.sessionOf_of_slot {s : State} {i : Nat} {x : Session} (hx : s.hif.sessions.getD i none = some x) (ha : x.auth = true) :
    s.sessionOf x.handle ≠ none := by
  have hmem : some x ∈ s.hif.sessions := by
    rw [List.getD_eq_getElem?_getD] at hx
    cases h : s.hif.sessions[i]? with
    | none => rw [h] at hx; exact nomatch hx
    | some o => rw [h, Option.getD_some] at hx; exact hx ▸ List.mem_of_getElem? h
  rw [State.sessionOf, ← Option.isSome_iff_ne_none, List.find?_isSome]
  exact ⟨x, List.mem_filterMap.mpr ⟨some x, hmem, rfl⟩, by simp [ha]⟩

/-! ## Successes and failures counted (09 R219) -/

theorem State.lockLeft_congr {s t : State} (hn : t.now = s.now) (he : t.sup.lockEnd = s.sup.lockEnd) : t.lockLeft = s.lockLeft := by
  funext w
  simp only [State.lockLeft, hn, he]

/-- A success leaves its count at 0, and may have written the guard record. -/
theorem State.authSuccess_of_valid {s : State} (hg : s.guardValid) (w : Nat) : ∃ m g, s.authSuccess w =
    { s with nv := m, sup := { s.sup with lockFails := s.sup.lockFails.set w 0, guardAt := g } } := by
  unfold State.authSuccess
  split
  · next h => exact ⟨s.nv, s.sup.guardAt, by rw [set_eq_self_of_getD h]⟩
  · exact ⟨_, _, State.writeGuard_of_valid hg⟩

/-- The count of a failure, at most 255. -/
def State.failCount (s : State) (w : Nat) : Nat := satInc (s.sup.lockFails.getD w 0) 1 255

/-- The lockouts after the failure of a count: from the third on one is started (R219). -/
def State.locksAfter (s : State) (w n : Nat) : List (Option Nat) :=
  if n < 3 then s.sup.lockEnd else s.sup.lockEnd.set w (some (s.now + lockSeconds n * sec))

/-- All that a failure, with its event, does not touch beside the counts, the lockouts, the guard record and the log. -/
structure FailView where
  now : Nat
  plt : Plt
  pa : Pl
  pb : Pl
  sessions : List (Option Session)
  completions : List Completion
  commandRing : Ring
  completionRing : Ring

/-- That part of a state. -/
def State.failView (s : State) : FailView :=
  ⟨s.now, s.plt, s.pa, s.pb, s.hif.sessions, s.hif.completions, s.ring 0, s.ring 1⟩

/-- The event of a lockout and its place in the log. -/
theorem State.lockEvent_eq (s : State) (w n : Nat) : ∃ c a l, s.lockEvent w n = (s.post0 c a).logCause 3 c l := ⟨_, _, _, rfl⟩

theorem State.lockEvent_failView (s : State) (w n : Nat) : (s.lockEvent w n).failView = s.failView := by
  obtain ⟨c, a, l, heq⟩ := s.lockEvent_eq w n
  have hlog : ((s.post0 c a).logCause 3 c l).failView = (s.post0 c a).failView := rfl
  rw [heq, hlog]
  simp [State.failView, State.post0, State.ring_post_ne]

/-- The counts, the lockouts and the ledger stay. -/
theorem State.lockEvent_keeps (s : State) (w n : Nat) : (s.lockEvent w n).sup.lockFails = s.sup.lockFails ∧
    (s.lockEvent w n).sup.lockEnd = s.sup.lockEnd ∧ (s.lockEvent w n).nv = s.nv := by
  obtain ⟨c, a, l, heq⟩ := s.lockEvent_eq w n
  rw [heq]
  refine ⟨?_, ?_, by simp⟩ <;> simp [State.logCause]

/-- A failure counted and a lockout started, the guard record not yet rewritten. -/
def State.failed (s : State) (w n : Nat) : State :=
  { s with sup := { s.sup with lockFails := s.sup.lockFails.set w n, lockEnd := s.locksAfter w n } }

theorem State.authFailure_of_few {s : State} {w : Nat} (h : s.failCount w < 3) :
    s.authFailure w = (s.failed w (s.failCount w)).writeGuard := by
  have hlocks : s.locksAfter w (s.failCount w) = s.sup.lockEnd := if_pos h
  rw [State.failed, hlocks]
  exact if_pos h

theorem State.authFailure_of_many {s : State} {w : Nat} (h : ¬s.failCount w < 3) :
    s.authFailure w = (s.failed w (s.failCount w)).writeGuard.lockEvent w (lockSeconds (s.failCount w)) := by
  have hlocks : s.locksAfter w (s.failCount w) = s.sup.lockEnd.set w (some (s.now + lockSeconds (s.failCount w) * sec)) := if_neg h
  rw [State.failed, hlocks]
  exact if_neg h

/-- A failure leaves its count and its lockout in the supervisor and in the guard record. -/
theorem State.authFailure_of_valid {s : State} (hg : s.guardValid) (w : Nat) : ∃ t, s.authFailure w = t ∧ t.failView = s.failView ∧
    t.sup.lockFails = s.sup.lockFails.set w (s.failCount w) ∧ t.sup.lockEnd = s.locksAfter w (s.failCount w) ∧
    t.nv.guard = s.nv.guard.write ⟨s.sup.lockFails.set w (s.failCount w), (List.range 8).map t.lockLeft⟩ := by
  obtain ⟨t, hw, hview, hfails, hends, hguard⟩ : ∃ t, (s.failed w (s.failCount w)).writeGuard = t ∧ t.failView = s.failView ∧
      t.sup.lockFails = s.sup.lockFails.set w (s.failCount w) ∧ t.sup.lockEnd = s.locksAfter w (s.failCount w) ∧
      t.nv.guard = s.nv.guard.write ⟨s.sup.lockFails.set w (s.failCount w), (List.range 8).map t.lockLeft⟩ := by
    rw [State.writeGuard_of_valid (s := s.failed w (s.failCount w)) hg]
    exact ⟨_, rfl, rfl, rfl, rfl, rfl⟩
  by_cases hn : s.failCount w < 3
  · exact ⟨t, (State.authFailure_of_few hn).trans hw, hview, hfails, hends, hguard⟩
  · have hev := t.lockEvent_failView w (lockSeconds (s.failCount w))
    obtain ⟨hef, hee, hen⟩ := t.lockEvent_keeps w (lockSeconds (s.failCount w))
    have hleft := State.lockLeft_congr (congrArg FailView.now hev) hee
    refine ⟨_, (State.authFailure_of_many hn).trans (by rw [hw]), hev.trans hview, hef.trans hfails, hee.trans hends, ?_⟩
    rw [hen, hleft, hguard]

/-! ## SESSION_AUTH and SESSION_CLOSE (09 R218, R219, R220) -/

/-- What has written no completion since the position was taken, nor moved in the rings of commands and completions, is answered with
no result. -/
theorem State.answered_of_fetched {u v : State} (hf : u.mayFetch = true) (hc : v.hif.completions = u.hif.completions)
    (h0 : v.ring 0 = u.takeCmd.ring 0) (h1 : v.ring 1 = u.takeCmd.ring 1) (tag : Word) (op status : Nat) :
    u.answered (v.complete tag op status (u.ring 0).head []) tag op status [] := by
  simp only [State.mayFetch, Bool.and_eq_true] at hf
  obtain ⟨⟨⟨⟨-, he0⟩, -⟩, he1⟩, -⟩ := hf
  have hr1 : v.ring 1 = u.ring 1 := h1.trans (State.ring_modRing_ne _ _ _ _ Nat.zero_ne_one)
  constructor
  · rw [State.complete_completions _ _ _ _ _ _ (hr1 ▸ he1), hr1, hc]
    split <;> rfl
  · rw [State.ring_complete_ne _ _ _ _ _ _ _ Nat.zero_ne_one, h0, State.takeCmd, State.ring_modRing,
      if_pos ⟨rfl, State.ring_lt_length he0⟩]
    rfl

section
variable {s : State} {i : Nat} {x : Session} (hx : s.hif.sessions.getD i none = some x)
  (hone : ∀ j y, s.hif.sessions.getD j none = some y → y.handle = x.handle → j = i)
include hx hone

section
variable (ha : x.auth = false) (ht : s.now < x.opened + 125000000)
include ha ht

/-- SESSION_AUTH of the session that waits for it, in time: its MAC decides. -/
theorem State.cmdSessionAuth_of_opened (mac : List Byte) : s.cmdSessionAuth x.handle mac = if mac = s.sessionMac x
    then Machine.answer (State.authSuccess { s with hif := { s.hif with sessions := s.hif.sessions.set i (some { x with auth := true }) } }
      (roleNum x.role)) 0
    else Machine.answer (State.authFailure { s with hif := { s.hif with sessions := s.hif.sessions.set i none } } (roleNum x.role)) 13 := by
  have hlate : ¬x.opened + sec ≤ s.now := Nat.not_le.mpr ht
  unfold State.cmdSessionAuth
  rw [findIdx?_session hx hone (by simp [ha]) ?_]
  · simp only [hx, if_neg hlate]
  · rintro (_ | y) hy
    · exact nomatch hy
    · exact ⟨y, rfl, by simpa using (Bool.and_eq_true_iff.mp hy).1⟩

theorem State.cmdSessionAuth_of_mac {mac : List Byte} (hm : mac = s.sessionMac x) : s.cmdSessionAuth x.handle mac = Machine.answer
    (State.authSuccess { s with hif := { s.hif with sessions := s.hif.sessions.set i (some { x with auth := true }) } }
      (roleNum x.role)) 0 :=
  (State.cmdSessionAuth_of_opened hx hone ha ht mac).trans (if_pos hm)

theorem State.cmdSessionAuth_of_wrongMac {mac : List Byte} (hm : mac ≠ s.sessionMac x) : s.cmdSessionAuth x.handle mac = Machine.answer
    (State.authFailure { s with hif := { s.hif with sessions := s.hif.sessions.set i none } } (roleNum x.role)) 13 :=
  (State.cmdSessionAuth_of_opened hx hone ha ht mac).trans (if_neg hm)

end

theorem State.cmdSessionClose_of_slot : s.cmdSessionClose x.handle = Machine.answer (s.closeSession i) 0 := by
  unfold State.cmdSessionClose
  rw [findIdx?_session hx hone (by simp) ?_]
  rintro (_ | y) hy
  · exact nomatch hy
  · exact ⟨y, rfl, by simpa using hy⟩

end

theorem exec_sessionAuth_of_answer {s v : State} {dt : Nat} {h : Hdr} {handle : Word} {mac : List Byte} {status : Nat}
    (hf : (s.elapse dt).mayFetch = true) (hrsv : h.rsv = false)
    (ha : (s.elapse dt).takeCmd.cmdSessionAuth handle mac = Machine.answer v status) :
    exec (.sessionAuth dt h handle mac) s = .next (v.complete h.tag 0x0011 status ((s.elapse dt).ring 0).head []) :=
  State.run_fetch_of_open (HostCmd.sessionAuth_open handle mac) hf hrsv fun _ => ha

theorem exec_sessionClose_of_answer {s v : State} {dt : Nat} {h : Hdr} (hf : (s.elapse dt).mayFetch = true) (hrsv : h.rsv = false)
    (hsafe : (s.elapse dt).mode ≠ .safe) (hx : (s.elapse dt).sessionOf h.session ≠ none)
    (ha : (s.elapse dt).takeCmd.cmdSessionClose h.session = Machine.answer v 0) :
    exec (.sessionClose dt h) s = .next (v.complete h.tag 0x0012 0 ((s.elapse dt).ring 0).head []) := by
  have hserve := State.serve_of_checked (s := (s.elapse dt).takeCmd) (f := Fetched.of h .sessionClose) rfl hrsv (fun _ => hx)
    (fun hm => absurd hm hsafe) (Bool.and_false _)
  refine congrArg Host.Outcome.next ((State.run_of_live (State.live_of_mayFetch hf) _).trans ?_)
  rw [State.fetch_of_not_waking hf rfl rfl, hserve]
  exact (congrArg (State.finish · _ _) ha).trans (State.finish_answer ..)

/-- Settles O17: the MAC decides between a success and a failure, and a closed session leaves its slot. -/
theorem sessionAuthenticates : Obligations.SessionAuthenticates := by
  unfold Obligations.SessionAuthenticates
  rintro dt h mac i x s u rfl hf hrsv hx hone - - hga hgb
  refine ⟨fun ha ht hmac => ?_, fun ha ht hmac => ?_, fun ha hh hawake hsafe => ?_⟩
  · rw [exec_sessionAuth_of_answer hf hrsv (State.cmdSessionAuth_of_mac (s := (s.elapse dt).takeCmd) hx hone ha ht hmac)]
    generalize s.elapse dt = u at *
    obtain ⟨m, g, heq⟩ := State.authSuccess_of_valid (s := { u.takeCmd with
      hif := { u.takeCmd.hif with sessions := u.takeCmd.hif.sessions.set i (some { x with auth := true }) } }) ⟨hga, hgb⟩ (roleNum x.role)
    rw [heq]
    refine ⟨_, rfl, ?_, ?_, ?_, State.answered_of_fetched hf ?_ ?_ ?_ _ _ _, ?_, ?_, ?_, ?_⟩
    · rw [State.complete_hif_sessions]; rfl
    · rw [State.complete_sup]; rfl
    · rw [State.complete_sup]; rfl
    · rfl
    · rfl
    · rfl
    · rw [State.complete_pa]; rfl
    · rw [State.complete_pb]; rfl
    · rw [State.complete_plt]; rfl
    · rw [State.complete_saf]; rfl
  · rw [exec_sessionAuth_of_answer hf hrsv (State.cmdSessionAuth_of_wrongMac (s := (s.elapse dt).takeCmd) hx hone ha ht hmac)]
    generalize s.elapse dt = u at *
    obtain ⟨t, heq, hview, hfails, hends, hguard⟩ := State.authFailure_of_valid (s := { u.takeCmd with
      hif := { u.takeCmd.hif with sessions := u.takeCmd.hif.sessions.set i none } }) ⟨hga, hgb⟩ (roleNum x.role)
    rw [heq]
    simp only [State.failView, FailView.mk.injEq] at hview
    obtain ⟨hnow, hplt, hpa, hpb, hsess, hcompl, hring0, hring1⟩ := hview
    have hleft : (t.complete h.tag 0x0011 13 (u.ring 0).head []).lockLeft = t.lockLeft := State.lockLeft_congr (by simp) (by simp)
    refine ⟨_, u.failCount (roleNum x.role), rfl, ?_, rfl, ?_, ?_, ?_, State.answered_of_fetched hf hcompl hring0 hring1 .., ?_, ?_, ?_⟩
    · rw [State.complete_hif_sessions, hsess]; rfl
    · rw [State.complete_sup, hfails]; rfl
    · rw [State.complete_sup, hends]; rfl
    · rw [hleft, State.complete_sup, State.complete_nv, hguard, hfails]; rfl
    · rw [State.complete_pa, hpa]; rfl
    · rw [State.complete_pb, hpb]; rfl
    · rw [State.complete_plt, hplt]; rfl
  · have hcmd := State.cmdSessionClose_of_slot (s := (s.elapse dt).takeCmd) hx hone
    rw [← hh] at hcmd
    rw [exec_sessionClose_of_answer hf hrsv hsafe (hh ▸ State.sessionOf_of_slot hx ha) hcmd]
    generalize s.elapse dt = u at *
    have hview := u.takeCmd.closeSession_unbindView i
    simp only [State.unbindView, UnbindView.mk.injEq] at hview
    obtain ⟨-, hsup, -, -, hsaf, hnv, -, hsess, hcompl, -, -, hring0, hring1⟩ := hview
    refine ⟨_, rfl, ?_, State.answered_of_fetched hf hcompl hring0 hring1 .., ?_, ?_, ?_⟩
    · rw [State.complete_hif_sessions, hsess]; rfl
    · rw [State.complete_sup, hsup]; rfl
    · rw [State.complete_nv, hnv]; rfl
    · rw [State.complete_saf, hsaf]; rfl

end Sys2Proof.Machine

namespace Sys2Proof.Machine

/-! ## The host leaves (09 R229) -/

@[simp] theorem State.dropClaims_unbindView (s : State) (gone : Nat → Bool) : (s.dropClaims gone).unbindView = s.unbindView := rfl

/-- What the start of an absence leaves: no ring in service, no session, and the module as it was. -/
structure State.Left (s t : State) : Prop where
  rings : ∀ r ∈ t.hif.rings, r.enable = false
  sessions : ∀ x ∈ t.hif.sessions, x = none
  now : t.now = s.now
  sup : t.sup = s.sup
  saf : t.saf = s.saf
  act : t.act = s.act
  nv : t.nv = s.nv
  frameA : t.pa.frameNo = s.pa.frameNo
  frameB : t.pb.frameNo = s.pb.frameNo
  events : t.hif.events = s.hif.events

/-- The rings taken out of service, the absence noted. -/
def State.ringsOff (s : State) : State :=
  { s with hif := { s.hif with rings := s.hif.rings.map (fun (r : Ring) => { r with enable := false }), resumeDue := true,
                               poursAbsent := if s.hif.resumeDue then s.hif.poursAbsent else 0 } }

theorem State.hostLeaves_eq (s : State) : s.hostLeaves =
    ((((s.ringsOff.closeSession 0).closeSession 1).closeSession 2).closeSession 3).dropClaims (fun _ => true) := rfl

theorem State.ringsOff_enables (s : State) : s.ringsOff.enables = List.replicate s.hif.rings.length false := by
  simp [State.enables, State.ringsOff, Function.comp_def]

theorem State.ringsOff_muteEvents (s : State) : s.ringsOff.muteEvents = some s.hif.events := by
  have hoff : (s.ringsOff.ring 2).enable = false := by
    rw [State.ring_enable, State.ringsOff_enables, List.getD_eq_getElem?_getD, List.getElem?_replicate]
    split <;> rfl
  rw [State.muteEvents, hoff]
  rfl

theorem set_all_four {l : List (Option Session)} (h : l.length = 4) :
    (((l.set 0 none).set 1 none).set 2 none).set 3 none = [none, none, none, none] := by
  match l, h with
  | [_, _, _, _], _ => rfl

theorem State.hostLeaves_left {s : State} (h : s.hif.sessions.length = 4) : s.Left s.hostLeaves := by
  have hview : s.hostLeaves.unbindView = { s.ringsOff.unbindView with sessions := [none, none, none, none] } := by
    rw [State.hostLeaves_eq, State.dropClaims_unbindView, ← set_all_four h]
    iterate 4 rw [State.closeSession_unbindView]
    rfl
  generalize s.hostLeaves = t at hview
  simp only [State.unbindView, UnbindView.mk.injEq, Prod.mk.injEq] at hview
  obtain ⟨hnow, hsup, -, hact, hsaf, hnv, ⟨hfa, hfb⟩, hsess, -, hmute, hen, -⟩ := hview
  rw [State.ringsOff_enables] at hen
  rw [State.ringsOff_muteEvents, State.muteEvents] at hmute
  have hrings : ∀ r ∈ t.hif.rings, r.enable = false := fun r hr => by
    have hmem : r.enable ∈ t.enables := List.mem_map_of_mem hr
    rw [hen] at hmem
    exact List.eq_of_mem_replicate hmem
  refine ⟨hrings, by rw [hsess]; simp, hnow, hsup, hsaf, hact, hnv, hfa, hfb, ?_⟩
  split at hmute
  · exact nomatch hmute
  · exact Option.some.inj hmute

/-! ## Interrupt messages (09 R225, R226) -/

/-- A state but for the messages sent and what masks and holds them. -/
def State.unsignalled (s : State) : State :=
  { s with hif := { s.hif with vectors := [], messages := [], msiMask := 0#32, msiPending := 0#32 } }

theorem State.sendMessage_unsignalled (s : State) (v : Nat) : (s.sendMessage v).unsignalled = s.unsignalled := by
  unfold State.sendMessage
  dsimp only
  (repeat' split) <;> rfl

theorem State.unmaskX_unsignalled (s : State) (v : Nat) : (s.unmaskX v).unsignalled = s.unsignalled := by
  unfold State.unmaskX
  dsimp only
  (repeat' split)
  · rw [State.sendMessage_unsignalled]; rfl
  · rfl
  · rfl

theorem State.maskMsi_unsignalled (s : State) (mask : Word) : (s.maskMsi mask).unsignalled = s.unsignalled :=
  foldl_keeps State.unsignalled State.sendMessage State.sendMessage_unsignalled _ _

theorem State.unmask_unsignalled (s : State) (v : Nat) : (s.unmask v).unsignalled = s.unsignalled := by
  unfold State.unmask
  split
  · exact s.unmaskX_unsignalled v
  · exact s.maskMsi_unsignalled _

theorem State.flushMessages_unsignalled (s : State) : s.flushMessages.unsignalled = s.unsignalled := by
  refine (State.maskMsi_unsignalled _ _).trans (foldl_keeps State.unsignalled _ (fun s v => ?_) _ s)
  split
  · exact s.unmaskX_unsignalled v
  · rfl

/-! ## Configuration space (09 R196) -/

/-- A state but for the interrupt messages and configuration space. -/
def State.unconfigured (s : State) : State :=
  { s.unsignalled with hif := { s.unsignalled.hif with cfg := PciCfg.reset, cfgRdata := 0#32 } }

theorem State.unconfigured_congr {s t : State} (h : t.unsignalled = s.unsignalled) : t.unconfigured = s.unconfigured := by
  rw [State.unconfigured, h, State.unconfigured]

theorem State.cfgOp_unconfigured (s : State) (x : CfgAccess) : (s.cfgOp x).unconfigured = s.unconfigured := by
  cases x with
  | read r => rfl
  | write r v =>
    show (s.writeCfg r v).unconfigured = _
    cases r
    case msiMask => exact State.unconfigured_congr (s.maskMsi_unsignalled v)
    case bar i => fin_cases i <;> rfl
    all_goals rfl

/-- The link as it was trained, and no cause of absence but its being down. -/
def State.trained (s : State) : State :=
  { s with hif := { s.hif with speed := s.hif.link.1, width := s.hif.link.2, linkDown := decide (s.hif.link.1 = 0), d3 := false,
                               noMaster := false } }

theorem State.hostPresent_unconfigured (s : State) (cfg : List CfgAccess) : (s.hostPresent cfg).unconfigured = s.trained.unconfigured :=
  (State.unconfigured_congr (State.flushMessages_unsignalled _)).trans
    (foldl_keeps State.unconfigured State.cfgOp State.cfgOp_unconfigured cfg s.trained)

/-! ## The link's budget (07 R171) -/

/-- The link retrained to a speed and a width. -/
def State.retrained (s : State) (speed width : Nat) : State :=
  { s with hif := { s.hif with speed := speed, width := width, link := (speed, width) } }

theorem State.linkRetrains_of_none {s : State} {speed width : Nat} (h : linkBudget speed width = 0) : s.linkRetrains speed width = s :=
  if_pos h

theorem State.linkRetrains_of_some {s : State} {speed width : Nat} (h : 0 < linkBudget speed width) : s.linkRetrains speed width =
    if linkBudget speed width < linkBudget s.hif.link.1 s.hif.link.2 ∧ (s.retrained speed width).overLink = true
    then (s.retrained speed width).post0 0x0008 [word speed, word width] else s.retrained speed width := by
  refine (if_neg (Nat.ne_of_gt h)).trans (if_congr ?_ rfl rfl)
  rw [Bool.and_eq_true, decide_eq_true_eq]
  exact Iff.rfl

/-! ## A nonce that expires (09 R218) -/

theorem State.nonceExpiry_of_due {s : State} {i : Nat} {x : Session} (hx : s.hif.sessions.getD i none = some x) (ha : x.auth = false)
    (ht : x.opened + 125000000 ≤ s.now) : s.nonceExpiry i = { s with hif := { s.hif with
      sessions := s.hif.sessions.set i none, expired := x.handle :: s.hif.expired } } := by
  have hdue : x.opened + sec ≤ s.now := ht
  simp only [State.nonceExpiry, hx]
  exact if_pos (by simp [ha, hdue])

section
variable {s : State} {dt : Nat} (hl : (s.elapse dt).live = true)
include hl

theorem exec_hostAbsent_of_live (c : AbsentCause) : exec (.hostAbsent dt c) s = .next ((s.elapse dt).hostAbsent c) :=
  congrArg Host.Outcome.next (State.run_of_live hl _)

theorem exec_functionLevelReset_of_live : exec (.functionLevelReset dt) s = .next (s.elapse dt).functionReset :=
  congrArg Host.Outcome.next (State.run_of_live hl _)

theorem exec_linkBudget_of_live (speed : Fin 4) (width : Nat) :
    exec (.linkBudget dt speed width) s = .next ((s.elapse dt).linkRetrains speed.val width) :=
  congrArg Host.Outcome.next (State.run_of_live hl _)

theorem exec_hostPresent_of_live (cfg : List CfgAccess) : exec (.hostPresent dt cfg) s = .next ((s.elapse dt).hostPresent cfg) :=
  congrArg Host.Outcome.next (State.run_of_live hl _)

theorem exec_nonceExpiry_of_live (i : Fin 4) : exec (.nonceExpiry dt i) s = .next ((s.elapse dt).nonceExpiry i.val) :=
  congrArg Host.Outcome.next (State.run_of_live hl _)

end

/-- A host lost for a cause, as a change of the state that its leaving makes. -/
def State.hostLost (s : State) : AbsentCause → State
  | .linkDown => { s with hif := { s.hif with linkDown := true } }
  | .d3hot => { s with hif := { s.hif with d3 := true } }
  | .busMaster => { s with hif := { s.hif with noMaster := true } }

theorem State.hostAbsent_eq (s : State) (c : AbsentCause) : s.hostAbsent c = s.hostLeaves.hostLost c := by
  cases c <;> rfl

theorem State.Left.hostLost {s t : State} (h : s.Left t) (c : AbsentCause) : s.Left (t.hostLost c) := by
  obtain ⟨hr, hs, hn, hsup, hsaf, hact, hnv, hfa, hfb, hev⟩ := h
  cases c <;> exact ⟨hr, hs, hn, hsup, hsaf, hact, hnv, hfa, hfb, hev⟩

theorem State.hostLost_absent (s : State) (c : AbsentCause) : (s.hostLost c).absent = true := by
  cases c <;> simp [State.absent, State.hostLost]

/-- What a host that is back has kept: everything but the interrupt messages and configuration space. -/
theorem State.eq_of_unconfigured {t u : State} (h : t.unconfigured = u.trained.unconfigured) :
    (u.hif.link.1 ≠ 0 → t.absent = false) ∧ t.hif.speed = u.hif.link.1 ∧ t.hif.width = u.hif.link.2 ∧ t.hif.rings = u.hif.rings ∧
      t.hif.sessions = u.hif.sessions ∧ { t with hif := u.hif } = u := by
  refine ⟨fun hup => ?_, congrArg (fun x => x.hif.speed) h, congrArg (fun x => x.hif.width) h,
    congrArg (fun x => x.hif.rings) h, congrArg (fun x => x.hif.sessions) h, congrArg (fun x => { x with hif := u.hif }) h⟩
  have habs := congrArg State.absent h
  change t.absent = u.trained.absent at habs
  rw [habs]
  simp [State.absent, State.trained, hup]

theorem State.hostPresent_one (s : State) (x : CfgAccess) : (s.hostPresent [x]).unsignalled = (s.trained.cfgOp x).unsignalled :=
  State.flushMessages_unsignalled _

theorem State.hostPresent_rdata (s : State) (r : CfgReg) : (s.hostPresent [.read r]).hif.cfgRdata = s.trained.cfgReg r :=
  congrArg (fun t => t.hif.cfgRdata) (s.hostPresent_one (.read r))

theorem State.hostPresent_msi (s : State) (v : Word) :
    (s.hostPresent [.write .msiCtl v]).hif.msi = if bit v 16 then 2 ^ min 5 (fld v 22 20) else 0 :=
  congrArg (fun t => t.hif.msi) (s.hostPresent_one (.write .msiCtl v))

/-- Settles O8: an absence and a reset of the function begin with the host's leaving; a host that is back changes no more than the
host interface, and a register of configuration space is read or written before the messages held go out. -/
theorem hostPresence : Obligations.HostPresence := by
  unfold Obligations.HostPresence
  refine ⟨?_, ?_, ?_, ?_⟩
  · rintro dt s u rfl hl hlen
    have hleft := State.hostLeaves_left hlen
    refine ⟨fun c => ⟨_, exec_hostAbsent_of_live hl c, ?_⟩, ⟨_, exec_functionLevelReset_of_live hl, ?_⟩⟩
    · rw [State.hostAbsent_eq]
      obtain ⟨hr, hs, -, hsup, hsaf, hact, hnv, hfa, hfb, hev⟩ := hleft.hostLost c
      exact ⟨hr, hs, State.hostLost_absent _ c, hsup, hsaf, hact, hnv, hfa, hfb, hev⟩
    · unfold State.functionReset
      generalize (s.elapse dt).hostLeaves = t at hleft ⊢
      exact ⟨rfl, rfl, rfl, rfl, rfl, rfl, fun x hx => List.eq_of_mem_replicate hx, Bool.or_true _, hleft.now, hleft.sup, hleft.saf,
        hleft.nv⟩
  · rintro dt speed width s u v rfl hl rfl
    rw [exec_linkBudget_of_live hl]
    refine ⟨fun h => ?_, fun h hfit => ?_, fun h hlow hover => ?_⟩
    · rw [State.linkRetrains_of_none h]
    · rw [State.linkRetrains_of_some h, if_neg]
      · rfl
      · rintro ⟨hlow, hover⟩
        obtain hle | hno := hfit
        · exact absurd hlow (Nat.not_lt.mpr hle)
        · exact Bool.false_ne_true (hno.symm.trans hover)
    · rw [State.linkRetrains_of_some h, if_pos ⟨hlow, hover⟩]
      rfl
  · rintro dt v cfg s u rfl hl
    exact ⟨⟨_, exec_hostPresent_of_live hl cfg, State.eq_of_unconfigured (State.hostPresent_unconfigured _ cfg)⟩,
      ⟨_, exec_hostPresent_of_live hl _, State.hostPresent_rdata _ .id⟩,
      ⟨_, exec_hostPresent_of_live hl _, State.hostPresent_rdata _ .classRev⟩,
      ⟨_, exec_hostPresent_of_live hl _, State.hostPresent_msi _ v⟩⟩
  · rintro dt i x s u rfl hl hx ha ht
    rw [exec_nonceExpiry_of_live hl, State.nonceExpiry_of_due hx ha ht]

end Sys2Proof.Machine

namespace Sys2Proof.Machine

/-! ## What keeps a ring's TAIL -/

theorem State.modRing_modRing (s : State) (x : Nat) (f g : Ring → Ring) : (s.modRing x f).modRing x g = s.modRing x (g ∘ f) := by
  simp only [State.modRing, modAt, List.modify_modify_eq]

theorem State.tail_modRing {f : Ring → Ring} (hf : ∀ r, (f r).tail = r.tail) (s : State) (x y : Nat) :
    ((s.modRing x f).ring y).tail = (s.ring y).tail := by
  rw [State.ring_modRing]
  split
  · exact hf _
  · rfl

theorem State.tail_signal (s : State) (x y : Nat) : ((s.signal x).ring y).tail = (s.ring y).tail := by
  unfold State.signal
  dsimp only
  split
  · rw [State.tail_modRing]
    exact fun _ => rfl
  · rw [State.ring_sendMessage, State.tail_modRing]
    exact fun _ => rfl

theorem Ring.advance_tail (r : Ring) : r.advance.tail = r.tail := by
  unfold Ring.advance
  split <;> rfl

theorem State.tail_flushLost (s : State) (y : Nat) : (s.flushLost.ring y).tail = (s.ring y).tail := by
  unfold State.flushLost
  split
  · exact (State.tail_signal _ 2 y).trans (State.tail_modRing Ring.advance_tail _ 2 y)
  · rfl

theorem State.flushLost_of_none {s : State} (h : s.hif.lostSince = 0) : s.flushLost = s := by
  simp [State.flushLost, h]

/-! ## What a doorbell that wakes leaves (16 R368) -/

/-- A state but for what a wake changes. -/
def State.unwoken (s : State) : State := { s with thm := Thm.reset, pcv := Pcv.reset, sup := { s.sup with wakeHold := 0 } }

theorem State.startWake_unwoken (s : State) (d : Nat) : (s.startWake d).unwoken = s.unwoken := by
  unfold State.startWake
  dsimp only
  (repeat' split) <;> rfl

/-! ## Doorbells accepted and refused (09 R201) -/

/-- Entries from one position of a ring to another. -/
def Ring.dist (r : Ring) (a b : Nat) : Nat := (a + 2 ^ r.size - b % 2 ^ r.size) % 2 ^ r.size

/-- The INDEX of a doorbell of ring `x` is accepted. -/
def Ring.Accepts (r : Ring) (x i : Nat) : Prop :=
  r.enable = true ∧ i < 2 ^ r.size ∧ (x ≠ 1 → x ≠ 2 → r.dist r.tail r.head ≤ r.dist i r.head) ∧
    (x = 1 ∨ x = 2 → r.dist i r.tail ≤ r.dist r.head r.tail)

theorem Ring.refuses_eq_false_iff (r : Ring) (x i : Nat) : r.refuses x i = false ↔ r.Accepts x i := by
  unfold Ring.refuses Ring.Accepts Ring.dist Ring.len
  by_cases hx : x = 1 ∨ x = 2
  · have hne : ¬(x ≠ 1 ∧ x ≠ 2) := by omega
    simp [hx, and_assoc]
    tauto
  · have hne : x ≠ 1 ∧ x ≠ 2 := by omega
    simp [hne, and_assoc]

section
variable {s : State} {x i : Nat} (hx : x ≤ 22)
include hx

theorem State.doorbell_of_refused (h : ¬(s.ring x).Accepts x i) (ops : List (BitVec 16 × Byte)) (bufs : List BufDesc) :
    s.doorbell x i ops bufs = (s.modRing x (fun r => { r with dbInvalid := true })).post0 0x0004 [word x, word i] := by
  rw [← Ring.refuses_eq_false_iff, Bool.not_eq_false] at h
  unfold State.doorbell
  simp only [if_neg (Nat.not_lt.mpr hx), if_pos h]

theorem State.doorbell_of_accepted (h : (s.ring x).Accepts x i) (ops : List (BitVec 16 × Byte)) (bufs : List BufDesc) :
    s.doorbell x i ops bufs =
      let ps := (s.ring x).passed i
      let t := s.modRing x (fun r => { r with tail := i })
      if x = 0 then
        if decide (t.mode = .standby) && (ops.take ps.length).any (fun c => opcodeWakes c.1.toNat c.2.toNat) then t.startWake 0 else t
      else if x = 1 then t
      else if x = 2 then t.flushLost
      else t.modRing x (fun r => { r with posted := r.posted ++ ps.zip (bufs ++ List.replicate ps.length ⟨0#64, 0#32, 0#32⟩) }) := by
  rw [← Ring.refuses_eq_false_iff, Bool.eq_false_iff] at h
  unfold State.doorbell
  simp only [if_neg (Nat.not_lt.mpr hx), if_neg h]

end

theorem State.tail_doorbelled {s : State} {x i : Nat} (h : (s.ring x).Accepts x i) :
    ((s.modRing x (fun r => { r with tail := i })).ring x).tail = i := by
  rw [State.ring_modRing, if_pos ⟨rfl, State.ring_lt_length h.1⟩]

theorem exec_doorbell_of_live {s : State} {dt : Nat} (hl : (s.elapse dt).live = true) (x : Fin 24) (index : BitVec 16)
    (ops : List (BitVec 16 × Byte)) (bufs : List BufDesc) :
    exec (.doorbell dt x index ops bufs) s = .next ((s.elapse dt).doorbell x.val index.toNat ops bufs) :=
  congrArg Host.Outcome.next (State.run_of_live hl _)

theorem State.doorbell_zero_unwoken {s : State} {i : Nat} (h : (s.ring 0).Accepts 0 i) (ops : List (BitVec 16 × Byte))
    (bufs : List BufDesc) : (s.doorbell 0 i ops bufs).unwoken = (s.modRing 0 (fun r => { r with tail := i })).unwoken := by
  rw [State.doorbell_of_accepted (Nat.zero_le _) h]
  dsimp only
  rw [if_pos rfl]
  split
  · exact State.startWake_unwoken _ 0
  · rfl

theorem State.doorbell_two {s : State} {i : Nat} (h : (s.ring 2).Accepts 2 i) (ops : List (BitVec 16 × Byte)) (bufs : List BufDesc) :
    s.doorbell 2 i ops bufs = (s.modRing 2 (fun r => { r with tail := i })).flushLost :=
  State.doorbell_of_accepted (by decide) h ops bufs

/-- Settles O3: the doorbell's own test is the rule's, and each kind of ring takes an accepted INDEX in one way. -/
theorem doorbells : Obligations.Doorbells := by
  unfold Obligations.Doorbells
  rintro dt x index ops bufs r d ok s u rfl hl hx rfl rfl hok
  have hok : ok ↔ ((s.elapse dt).ring x.val).Accepts x.val index.toNat := hok
  rw [exec_doorbell_of_live hl]
  generalize s.elapse dt = u at hok ⊢
  refine ⟨fun h h3 => ?_, fun h h12 => ?_, fun h h02 => ?_, fun h => ?_⟩
  · rw [State.doorbell_of_accepted hx (hok.mp h)]
    have h0 : x.val ≠ 0 := by omega
    have h1 : x.val ≠ 1 := by omega
    have h2 : x.val ≠ 2 := by omega
    simp only [if_neg h0, if_neg h1, if_neg h2, State.modRing_modRing, Ring.passed, List.length_map, List.length_range]
    rfl
  · rw [State.doorbell_of_accepted hx (hok.mp h)]
    obtain h1 | ⟨h2, hlost⟩ := h12
    · simp only [h1, if_pos, one_ne_zero, if_false]
    · simp only [h2, if_pos, OfNat.ofNat_ne_zero, if_false, OfNat.ofNat_ne_one]
      rw [State.flushLost_of_none]
      exact hlost
  · have hacc := hok.mp h
    have htail := State.tail_doorbelled hacc
    obtain h0 | h2 := h02
    · rw [h0] at hacc htail ⊢
      have hview := State.doorbell_zero_unwoken hacc ops bufs
      generalize u.doorbell 0 index.toNat ops bufs = t at hview ⊢
      exact ⟨t, rfl, (congrArg (fun v => (v.ring 0).tail) hview).trans htail, fun _ => congrArg (fun v => v.hif) hview,
        congrArg (fun v => v.mode) hview, congrArg (fun v => v.nv) hview, congrArg (fun v => v.pa) hview,
        congrArg (fun v => v.pb) hview, congrArg (fun v => v.plt) hview, congrArg (fun v => v.act) hview,
        congrArg (fun v => v.saf) hview⟩
    · rw [h2] at hacc htail ⊢
      rw [State.doorbell_two hacc]
      refine ⟨_, rfl, (State.tail_flushLost _ 2).trans htail, nofun, ?_, ?_, ?_, ?_, ?_, ?_, ?_⟩ <;> simp [State.mode]
  · rw [State.doorbell_of_refused hx (mt hok.mpr h)]

/-! ## A ring put in service (09 R200) -/

/-- A module at reset with no ring at all: what the statement's hypotheses leave open. -/
def State.ringless : State := { State.reset with hif := { Hif.reset with rings := [] } }

/-- Refutes O4: nothing there says that ring x exists. In a state with no rings a write of RING_CFG that asks for 8 entries finds the
size of no ring, which is 0, and counts the RING_CONFIG it cannot post; the first clause claims that nothing is lost. -/
theorem not_ringEnable : ¬ Obligations.RingEnable := by
  unfold Obligations.RingEnable
  intro h
  have h0 := (h 0 0 0x80000003#32 State.ringless _ rfl (by decide +kernel) (by decide +kernel) (by decide +kernel) (by decide)).1
    ⟨by decide, by decide, Or.inl (by decide)⟩ (by decide)
  have hlost := congrArg (fun t => t.hif.evtLost) (Host.Outcome.next.inj h0)
  exact absurd hlost (by decide +kernel)

end Sys2Proof.Machine

namespace Sys2Proof.Machine

/-! ## The shadows of _LO reads (09 R227) -/

theorem State.heatTo_shadows (s : State) (c : Nat) : (s.heatTo c).hif.shadows = s.hif.shadows := by
  have hhot : ∀ (s : State) (c x : Nat), (s.coilHot c x).hif.shadows = s.hif.shadows := fun s c x => by
    unfold State.coilHot State.warnBit
    split <;> simp
  have hch : ∀ (t a n : Nat) (s : State) (j : Nat), (s.heatCh j t a n).hif.shadows = s.hif.shadows := fun t a n s j => by
    unfold State.heatCh
    dsimp only
    split
    · exact hhot _ _ _
    · rfl
  unfold State.heatTo
  split
  · rfl
  · dsimp only
    split
    · rfl
    · exact foldl_keeps (fun s => s.hif.shadows) _ (hch _ _ _) _ _

theorem State.elapse_shadows (s : State) (dt : Nat) : (s.elapse dt).hif.shadows = s.hif.shadows := by
  have hheat : ∀ s : State, s.heat.hif.shadows = s.hif.shadows := fun s => by
    unfold State.heat
    split
    · rfl
    · exact foldl_keeps (fun s => s.hif.shadows) _ State.heatTo_shadows _ _
  unfold State.elapse
  dsimp only
  split <;> simp [hheat]

theorem State.elapse_sup_of_live {s : State} (h : s.live = true) (dt : Nat) : (s.elapse dt).sup = s.sup := by
  rw [State.elapse_sup, State.live_resetLeft h, Nat.zero_sub, ← State.live_resetLeft h]

theorem State.elapse_now_of_live {s : State} (h : s.live = true) (dt : Nat) : (s.elapse dt).now = s.now + dt := by
  rw [State.elapse_now, State.live_resetLeft h, Nat.sub_zero]

theorem State.read_rdata (s : State) (off : Nat) : (s.read off).hif.rdata = (SMap.get none s.hif.shadows off).getD (s.readReg off) := rfl

/-- The shadows after a read of HIF_TIME_LO, and after one of HIF_TIME_HI. -/
theorem State.read_timeLo_shadows (s : State) : (s.read 0x4008).hif.shadows =
    SMap.put none (SMap.put none s.hif.shadows 0x4008 none) 0x400c (some (word (s.now / 2 ^ 32))) := rfl

theorem State.read_timeHi_shadows (s : State) : (s.read 0x400c).hif.shadows = SMap.put none s.hif.shadows 0x400c none := rfl

theorem State.readReg_timeLo (s : State) : s.readReg 0x4008 = word s.now := rfl
theorem State.readReg_timeHi (s : State) : s.readReg 0x400c = word (s.now / 2 ^ 32) := rfl

theorem State.read_sup (s : State) (off : Nat) : (s.read off).sup = s.sup := rfl
theorem State.read_plt (s : State) (off : Nat) : (s.read off).plt = s.plt := rfl
theorem State.read_pa (s : State) (off : Nat) : (s.read off).pa = s.pa := rfl
theorem State.read_nv (s : State) (off : Nat) : (s.read off).nv = s.nv := rfl

theorem exec_read_of_live {s : State} {dt : Nat} (hl : (s.elapse dt).live = true) {off : BitVec 20} (ha : off.toNat % 4 = 0) :
    exec (.loRead dt off) s = .next ((s.elapse dt).read off.toNat) := by
  rw [exec_loRead_of_live hl, if_pos ha]

/-- A read of HIF_TIME_HI that has a shadow returns it and takes it. -/
theorem State.read_timeHi_of_shadow {s : State} {w : Word} (h : SMap.get none s.hif.shadows 0x400c = some w) :
    (s.read 0x400c).hif.rdata = w := by
  rw [State.read_rdata, h, Option.getD_some]

theorem State.read_timeHi_of_none {s : State} (h : SMap.get none s.hif.shadows 0x400c = none) :
    (s.read 0x400c).hif.rdata = word (s.now / 2 ^ 32) := by
  rw [State.read_rdata, h, Option.getD_none, State.readReg_timeHi]

/-- A read of HIF_TIME_LO keeps the high word for the next read of HIF_TIME_HI. -/
theorem State.read_timeLo_keeps {s : State} (hok : SMap.ok none s.hif.shadows = true) :
    SMap.ok none (s.read 0x4008).hif.shadows = true ∧
      SMap.get none (s.read 0x4008).hif.shadows 0x400c = some (word (s.now / 2 ^ 32)) := by
  have hok1 := SMap.ok_put none s.hif.shadows 0x4008 none hok
  rw [State.read_timeLo_shadows]
  exact ⟨SMap.ok_put _ _ _ _ hok1, by rw [SMap.get_put _ _ _ _ _ hok1, if_pos rfl]⟩

/-- A read of HIF_TIME_HI keeps nothing for the next one. -/
theorem State.read_timeHi_clears {s : State} (hok : SMap.ok none s.hif.shadows = true) :
    SMap.get none (s.read 0x400c).hif.shadows 0x400c = none := by
  rw [State.read_timeHi_shadows, SMap.get_put _ _ _ _ _ hok, if_pos rfl]

section
variable {u : State} (hl : u.live = true) (d2 d3 : Nat)
include hl

/-- Time goes on between reads, and nothing else that they show changes. -/
theorem State.read_elapse_read (off : Nat) :
    (((u.elapse d2).read off).elapse d3).live = true ∧ (((u.elapse d2).read off).elapse d3).now = u.now + d2 + d3 ∧
      (((u.elapse d2).read off).elapse d3).sup = u.sup := by
  have hl2 : ((u.elapse d2).read off).live = true := State.elapse_live hl d2
  refine ⟨State.elapse_live hl2 d3, ?_, ?_⟩
  · rw [State.elapse_now_of_live hl2]
    exact congrArg (· + d3) (State.elapse_now_of_live hl d2)
  · rw [State.elapse_sup_of_live hl2]
    exact State.elapse_sup_of_live hl d2

end

theorem exec_readTimeLo {s : State} {dt : Nat} (hl : (s.elapse dt).live = true) :
    exec (.loRead dt 0x04008#20) s = .next ((s.elapse dt).read 0x4008) := exec_read_of_live hl rfl

theorem exec_readTimeHi {s : State} {dt : Nat} (hl : (s.elapse dt).live = true) :
    exec (.loRead dt 0x0400c#20) s = .next ((s.elapse dt).read 0x400c) := exec_read_of_live hl rfl

theorem exec_readTime {dt : Nat} {s u : State} (hu : u = s.elapse dt) (hl : u.live = true) (hok : SMap.ok none u.hif.shadows = true)
    (hno : SMap.get none u.hif.shadows 0x4008 = none) (d2 d3 : Nat) :
    ∃ t v w : State, exec (.loRead dt 0x04008#20) s = .next t ∧ exec (.loRead d2 0x0400c#20) t = .next v ∧
      exec (.loRead d3 0x0400c#20) v = .next w ∧ t.hif.rdata = word u.now ∧ v.hif.rdata = word (u.now / 2 ^ 32) ∧
      w.hif.rdata = word ((u.now + d2 + d3) / 2 ^ 32) ∧ w.sup = u.sup ∧ w.plt = u.plt ∧ w.pa = u.pa ∧ w.nv = u.nv := by
  subst hu
  have hlt : ((s.elapse dt).read 0x4008).live = true := hl
  obtain ⟨hlw, hnow, hsup⟩ := State.read_elapse_read hlt d2 d3 0x400c
  obtain ⟨hokt, hkept⟩ := State.read_timeLo_keeps hok
  rw [← State.elapse_shadows _ d2] at hokt hkept
  have hv := State.read_timeHi_of_shadow hkept
  have hfree := State.read_timeHi_clears hokt
  rw [← State.elapse_shadows _ d3] at hfree
  have hw := State.read_timeHi_of_none hfree
  rw [hnow] at hw
  refine ⟨_, _, _, exec_readTimeLo hl, exec_readTimeHi (State.elapse_live hlt d2), exec_readTimeHi hlw, ?_,
    hv, hw, ?_, ?_, ?_, ?_⟩
  · show (SMap.get none _ 0x4008).getD _ = _
    rw [hno, Option.getD_none, State.readReg_timeLo]
  · rw [State.read_sup, hsup, State.read_sup]
  · simp only [State.read_plt, State.elapse_plt]
  · simp only [State.read_pa, State.elapse_pa]
  · simp only [State.read_nv, State.elapse_nv]

/-! ## Messages sent, masked and held (09 R225, R226) -/

theorem bit_eq_getLsbD (w : Word) (i : Nat) : bit w i = w.getLsbD i := by
  rw [bit, BitVec.getLsbD, Nat.testBit_eq_decide_div_mod_eq]

/-- A mask bit cleared. -/
theorem bit_unmasked (w : Word) {v m : Nat} (hm : m < 32) : bit (w &&& ~~~word (2 ^ v)) m = (bit w m && decide (m ≠ v)) := by
  simp only [bit_eq_getLsbD, word, BitVec.getLsbD_and, BitVec.getLsbD_not, BitVec.getLsbD_ofNat, Nat.testBit_two_pow, hm, decide_true,
    Bool.true_and, eq_comm (a := v), decide_not]

/-- Of the messages below `n` those that one vector may have. -/
theorem filter_range_one {n v : Nat} (hv : v < n) (b : Bool) {p : Nat → Bool} (hp : ∀ m < n, p m = (decide (m = v) && b)) :
    (List.range n).filter p = if b then [v] else [] := by
  rw [List.filter_congr (fun m hm => hp m (List.mem_range.mp hm))]
  cases b with
  | false => simp
  | true =>
    have hone : (List.range n).count v = 1 := List.count_eq_one_of_mem List.nodup_range (List.mem_range.mpr hv)
    simpa [hone] using List.filter_eq (l := List.range n) v

theorem State.sendMessage_msix {s : State} (h : s.hif.msi = 0) (v : Nat) : s.sendMessage v =
    if (s.hif.vectors.getD v ⟨0#32, 0#32, 0#32, true, false⟩).masked = false ∧ s.absent = false
    then { s with hif := { s.hif with messages := v :: s.hif.messages } }
    else { s with hif := { s.hif with vectors := modAt s.hif.vectors v (fun x => { x with pending := true }) } } := by
  unfold State.sendMessage
  rw [if_pos h]
  cases (s.hif.vectors.getD v ⟨0#32, 0#32, 0#32, true, false⟩).masked <;> cases s.absent <;> rfl

theorem State.sendMessage_msi {s : State} (h : s.hif.msi ≠ 0) (v : Nat) : s.sendMessage v =
    if bit s.hif.msiMask (v % s.hif.msi) = false ∧ s.absent = false
    then { s with hif := { s.hif with messages := v % s.hif.msi :: s.hif.messages } }
    else { s with hif := { s.hif with msiPending := s.hif.msiPending ||| word (2 ^ (v % s.hif.msi)) } } := by
  unfold State.sendMessage
  rw [if_neg h]
  dsimp only
  cases bit s.hif.msiMask (v % s.hif.msi) <;> cases s.absent <;> rfl

/-- A message for a vector of MSI below its number of vectors that is not masked goes to a host that is there. -/
theorem State.sendMessage_of_open {s : State} {v : Nat} (hv : v < s.hif.msi) (hm : bit s.hif.msiMask v = false) (ha : s.absent = false) :
    s.sendMessage v = { s with hif := { s.hif with messages := v :: s.hif.messages } } := by
  have hmod : v % s.hif.msi = v := Nat.mod_eq_of_lt hv
  rw [State.sendMessage_msi (by omega), hmod, if_pos ⟨hm, ha⟩]

/-- A vector of MSI-X unmasked, its message taken. -/
def State.openX (s : State) (v : Nat) : State :=
  { s with hif := { s.hif with vectors := modAt s.hif.vectors v (fun x => { x with masked := false, pending := false }) } }

theorem State.unmaskX_eq {s : State} {v : Nat} {x : Vector_} (hx : s.hif.vectors[v]? = some x) :
    s.unmaskX v = if x.pending then (s.openX v).sendMessage v else s.openX v := by
  unfold State.unmaskX
  simp only [hx]
  rfl

theorem State.openX_masked {s : State} {v : Nat} {x : Vector_} (hx : s.hif.vectors[v]? = some x) :
    ((s.openX v).hif.vectors.getD v ⟨0#32, 0#32, 0#32, true, false⟩).masked = false := by
  obtain ⟨hlt, -⟩ := List.getElem?_eq_some_iff.mp hx
  rw [State.openX, getD_modAt, if_pos ⟨rfl, hlt⟩]

theorem modAt_modAt {α : Type} (l : List α) (i : Nat) (f g : α → α) : modAt (modAt l i f) i g = modAt l i (g ∘ f) :=
  List.modify_modify_eq f g i l

theorem State.unmaskX_of_some {s : State} {v : Nat} {x : Vector_} (h : s.hif.msi = 0) (hx : s.hif.vectors[v]? = some x) :
    s.unmaskX v = { s with hif := { s.hif with
      vectors := modAt s.hif.vectors v (fun y => { y with masked := false, pending := x.pending && s.absent })
      messages := if x.pending && !s.absent then v :: s.hif.messages else s.hif.messages } } := by
  have hsend := State.sendMessage_msix (s := s.openX v) h v
  have habs : (s.openX v).absent = s.absent := rfl
  rw [State.openX_masked hx, habs] at hsend
  rw [State.unmaskX_eq hx, hsend]
  cases x.pending with
  | false => rfl
  | true =>
    cases s.absent with
    | false => rfl
    | true =>
      have hvec := modAt_modAt s.hif.vectors v (fun x => { x with masked := false, pending := false }) (fun x => { x with pending := true })
      simp [State.openX, hvec, Function.comp_def]

/-- A vector of MSI unmasked, the messages held for it taken. -/
def State.openMsi (s : State) (v : Nat) : State :=
  { s with hif := { s.hif with msiMask := s.hif.msiMask &&& ~~~word (2 ^ v)
                               msiPending := s.hif.msiPending &&& (s.hif.msiMask &&& ~~~word (2 ^ v)) } }

/-- A vector of MSI unmasked, no other one of it holding a message that it does not mask. -/
theorem State.maskMsi_of_unmasked {s : State} {v : Nat} (hv : v < s.hif.msi) (h32 : v < 32) (ha : s.absent = false)
    (hother : ∀ m, m < 32 → m ≠ v → bit s.hif.msiPending m = true → bit s.hif.msiMask m = true) :
    s.maskMsi (s.hif.msiMask &&& ~~~word (2 ^ v)) = { s.openMsi v with hif := { (s.openMsi v).hif with
      messages := if bit s.hif.msiPending v then v :: s.hif.messages else s.hif.messages } } := by
  have hout : (List.range 32).filter (fun m => bit s.hif.msiPending m && !bit (s.hif.msiMask &&& ~~~word (2 ^ v)) m) =
      if bit s.hif.msiPending v then [v] else [] := by
    refine filter_range_one h32 _ (fun m hm => ?_)
    rw [bit_unmasked _ hm]
    by_cases hmv : m = v
    · simp [hmv]
    · have := hother m hm hmv
      cases hp : bit s.hif.msiPending m with
      | false => simp [hmv]
      | true => simp [hmv, this hp]
  have hopen : bit (s.openMsi v).hif.msiMask v = false := by
    rw [State.openMsi, bit_unmasked _ h32, decide_eq_false (fun h => h rfl), Bool.and_false]
  have hsend := State.sendMessage_of_open (s := s.openMsi v) hv hopen ha
  rw [State.maskMsi, hout]
  cases bit s.hif.msiPending v with
  | false => rfl
  | true => exact hsend

theorem State.getD_vectors {s : State} {v : Nat} {x d : Vector_} (hx : s.hif.vectors[v]? = some x) : s.hif.vectors.getD v d = x := by
  rw [List.getD_eq_getElem?_getD, hx, Option.getD_some]

/-! ## The end of a moderation interval (09 R225) -/

theorem State.modRing_congr {s : State} {x : Nat} {f g : Ring → Ring} (h : f (s.ring x) = g (s.ring x)) : s.modRing x f = s.modRing x g := by
  have hl : modAt s.hif.rings x f = modAt s.hif.rings x g := by
    refine List.ext_getElem (by simp) (fun i h1 h2 => ?_)
    have hi : i < s.hif.rings.length := by simpa using h1
    simp only [modAt, List.getElem_modify]
    split
    · next e =>
      subst e
      rwa [State.ring, List.getD_eq_getElem _ _ hi] at h
    · rfl
  rw [State.modRing, hl, State.modRing]

theorem State.sendMessage_modRing_msix {s : State} {v : Nat} {y : Vector_} (h : s.hif.msi = 0) (hy : s.hif.vectors[v]? = some y) (x : Nat)
    (f : Ring → Ring) : (s.modRing x f).sendMessage v = if y.masked = false ∧ s.absent = false
      then { s.modRing x f with hif := { (s.modRing x f).hif with messages := v :: s.hif.messages } }
      else { s.modRing x f with hif := { (s.modRing x f).hif with
        vectors := modAt s.hif.vectors v (fun z => { z with pending := true }) } } := by
  have hsend := State.sendMessage_msix (s := s.modRing x f) h v
  rw [State.getD_vectors (s := s.modRing x f) hy] at hsend
  exact hsend

theorem State.sendMessage_modRing_msi {s : State} (h : s.hif.msi ≠ 0) (v x : Nat) (f : Ring → Ring) :
    (s.modRing x f).sendMessage v = if bit s.hif.msiMask (v % s.hif.msi) = false ∧ s.absent = false
      then { s.modRing x f with hif := { (s.modRing x f).hif with messages := v % s.hif.msi :: s.hif.messages } }
      else { s.modRing x f with hif := { (s.modRing x f).hif with
        msiPending := s.hif.msiPending ||| word (2 ^ (v % s.hif.msi)) } } :=
  State.sendMessage_msi (s := s.modRing x f) h v

theorem State.moderationEnd_of_idle {s : State} {x : Nat} (h : (s.ring x).modHeld = false ∨ s.now < (s.ring x).modUntil) :
    s.moderationEnd x = s := by
  unfold State.moderationEnd
  refine if_neg ?_
  simpa [imp_iff_not_or, Nat.not_le] using h

theorem State.moderationEnd_of_due {s : State} {x : Nat} (hh : (s.ring x).modHeld = true) (ht : (s.ring x).modUntil ≤ s.now) :
    s.moderationEnd x =
      (s.modRing x (fun y => { y with modHeld := false, modUntil := s.now + (s.ring x).mod_ * 125 })).sendMessage (s.ring x).vector := by
  unfold State.moderationEnd
  dsimp only
  rw [if_pos (by simp [hh, ht])]
  exact congrArg (fun t => State.sendMessage t (s.ring x).vector) (State.modRing_congr rfl)

theorem exec_vectorUnmask_of_live {s : State} {dt : Nat} (hl : (s.elapse dt).live = true) (v : Fin 32) :
    exec (.vectorUnmask dt v) s = .next ((s.elapse dt).unmask v.val) := congrArg Host.Outcome.next (State.run_of_live hl _)

theorem exec_moderationEnd_of_live {s : State} {dt : Nat} (hl : (s.elapse dt).live = true) (x : Fin 23) :
    exec (.moderationEnd dt x) s = .next ((s.elapse dt).moderationEnd x.val) := congrArg Host.Outcome.next (State.run_of_live hl _)

/-- Settles O7: a read takes the shadow that the read of its partner left; a message goes out or stays pending by what masks it. -/
theorem readsAndMessages : Obligations.ReadsAndMessages := by
  unfold Obligations.ReadsAndMessages
  refine ⟨?_, ?_, ?_, ?_⟩
  · rintro dt off s u rfl hl ha
    exact ⟨_, exec_read_of_live hl ha, rfl, rfl⟩
  · exact fun dt d2 d3 s u hu hl hok hno => exec_readTime hu hl hok hno d2 d3
  · rintro dt v s u rfl hl
    rw [exec_vectorUnmask_of_live hl]
    generalize s.elapse dt = u
    refine ⟨?_, fun x hmsi hx => ?_, fun hv ha hother => ?_⟩
    · have hview := u.unmask_unsignalled v.val
      generalize u.unmask v.val = t at hview ⊢
      exact ⟨t, rfl, congrArg (fun s => { s with hif := u.hif }) hview, congrArg (fun s => s.hif.rings) hview,
        congrArg (fun s => s.hif.events) hview, congrArg (fun s => s.hif.cfg) hview, congrArg (fun s => s.hif.sessions) hview⟩
    · rw [State.unmask, if_pos hmsi, State.unmaskX_of_some hmsi hx]
    · rw [State.unmask, if_neg (by omega), State.maskMsi_of_unmasked hv v.isLt ha hother]
      rfl
  · rintro dt x r s u w rfl hl rfl rfl
    rw [exec_moderationEnd_of_live hl]
    generalize s.elapse dt = u
    refine ⟨fun h => ?_, fun hh ht => ?_, fun y hh ht hmsi hy => ?_, fun m hh ht hmsi hm => ?_⟩
    · rw [State.moderationEnd_of_idle h]
    · rw [State.moderationEnd_of_due hh ht]
    · rw [State.moderationEnd_of_due hh ht, State.sendMessage_modRing_msix hmsi hy]
    · rw [State.moderationEnd_of_due hh ht, State.sendMessage_modRing_msi hmsi, hm]

end Sys2Proof.Machine

namespace Sys2Proof.Machine

/-! ## Who may go on with a staging (09 R210, R221) -/

section
variable {s : State} {h : Word} {r : Role} {g : Staging}

theorem State.stageStatus_of_none (hg : s.hif.staging = none) : s.stageStatus h r = 16 := by
  simp only [State.stageStatus, hg]

theorem State.stageStatus_of_some (hg : s.hif.staging = some g) :
    s.stageStatus h r = if g.session ≠ h then 16 else if r ≠ stageRole g.kind then 5 else 0 := by
  simp only [State.stageStatus, hg]

theorem State.stageStatus_of_foreign (hg : s.hif.staging = some g) (hs : g.session ≠ h) : s.stageStatus h r = 16 := by
  rw [State.stageStatus_of_some hg, if_pos hs]

theorem State.stageStatus_of_role (hg : s.hif.staging = some g) (hs : g.session = h) (hr : r ≠ stageRole g.kind) :
    s.stageStatus h r = 5 := by
  rw [State.stageStatus_of_some hg, if_neg (not_not_intro hs), if_pos hr]

theorem State.stageStatus_of_own (hg : s.hif.staging = some g) (hs : g.session = h) (hr : r = stageRole g.kind) :
    s.stageStatus h r = 0 := by
  rw [State.stageStatus_of_some hg, if_neg (not_not_intro hs), if_neg (not_not_intro hr)]

/-! ## The staging commands' answers (09 R221, R223) -/

theorem State.cmdStageBegin_of_inRange {kind total : Nat} (hk : kind ≤ 1) (ht : total ≤ (if kind = 0 then 224 else 12) * 1048576) :
    s.cmdStageBegin h r kind total = if r ≠ stageRole kind then Machine.answer s 5
      else if s.hif.staging.isSome then Machine.answer s 16
      else Machine.answer { s with hif := { s.hif with staging := some ⟨kind, total, 0, [], h⟩ } } 0 := by
  have hrange : (decide (1 < kind) || decide ((if kind = 0 then 224 else 12) * 2 ^ 20 < total)) = false :=
    Bool.or_eq_false_iff.mpr ⟨decide_eq_false (Nat.not_lt.mpr hk), decide_eq_false (Nat.not_lt.mpr ht)⟩
  rw [State.cmdStageBegin, hrange, if_neg Bool.false_ne_true]

/-- A staging command that the staging is not open to answers so, whatever it carries. -/
theorem State.cmdStageChunk_of_refused {e : Nat} (he : s.stageStatus h r = e) (h0 : e ≠ 0) (half len off : Nat) :
    s.cmdStageChunk h r half len off = Machine.answer s e := by
  subst he
  unfold State.cmdStageChunk
  split
  · rfl
  · exact if_pos h0

theorem State.cmdStageCommit_of_refused {e : Nat} (he : s.stageStatus h r = e) (h0 : e ≠ 0) (p : Nat) (sig : Bool) (mem : MemObs) :
    s.cmdStageCommit h r p sig mem = Machine.answer s e := by
  subst he
  unfold State.cmdStageCommit
  split
  · rfl
  · exact if_pos h0

theorem State.cmdStageAbort_of_refused {e : Nat} (he : s.stageStatus h r = e) (h0 : e ≠ 0) :
    s.cmdStageAbort h r = Machine.answer s e := by
  subst he
  exact if_neg h0

variable (hg : s.hif.staging = some g) (h0 : s.stageStatus h r = 0)
include h0

theorem State.cmdStageAbort_of_own : s.cmdStageAbort h r = Machine.answer { s with hif := { s.hif with staging := none } } 0 := if_pos h0

include hg

theorem State.cmdStageChunk_of_range {half len : Nat} (hbad : 1 < half ∨ 4194304 < len) (off : Nat) :
    s.cmdStageChunk h r half len off = Machine.answer s 2 := by
  simp only [State.cmdStageChunk, hg, h0, ne_eq, not_true, if_false]
  exact if_pos (by simpa using hbad)

theorem State.cmdStageChunk_of_inRange {half len : Nat} (hhalf : half ≤ 1) (hlen : len ≤ 4194304) (off : Nat) :
    s.cmdStageChunk h r half len off = if off = g.staged ∧ off + len ≤ g.total
      then Machine.answer { s with hif := { s.hif with staging := some { g with
        staged := g.staged + len, data := g.data.write off (s.bar2Bytes (half * 4194304) len) } } } 0
      else Machine.answer s 16 := by
  have hrange : (decide (1 < half) || decide (4194304 < len)) = false := by simp [hhalf, hlen]
  simp only [State.cmdStageChunk, hg, h0, ne_eq, not_true, if_false, hrange, Bool.false_eq_true]
  by_cases hnext : off = g.staged ∧ off + len ≤ g.total
  · rw [if_pos hnext, if_neg (by simpa using hnext)]
  · rw [if_neg hnext, if_pos (by simpa [imp_iff_not_or] using hnext)]

theorem State.cmdStageCommit_of_range {p : Nat} (hp : 1 < p) (sig : Bool) (mem : MemObs) :
    s.cmdStageCommit h r p sig mem = Machine.answer s 2 := by
  simp only [State.cmdStageCommit, hg, h0, ne_eq, not_true, if_false, if_pos hp]

variable {p : Nat} (hp : p ≤ 1)
include hp

theorem State.cmdStageCommit_of_short (hpart : g.staged ≠ g.total) (sig : Bool) (mem : MemObs) :
    s.cmdStageCommit h r p sig mem = Machine.answer s 16 := by
  simp only [State.cmdStageCommit, hg, h0, ne_eq, not_true, if_false, if_neg (Nat.not_lt.mpr hp)]
  exact if_pos hpart

theorem State.cmdStageCommit_of_whole (hall : g.staged = g.total) (sig : Bool) (mem : MemObs) :
    s.cmdStageCommit h r p sig mem = if g.kind = 0 then (s.memRun mem).1.commitBundle g (decide (p = 1)) sig ((s.memRun mem).2.contains 1)
      else (s.memRun mem).1.commitFirmware g sig ((s.memRun mem).2.contains 1) := by
  simp only [State.cmdStageCommit, hg, h0, ne_eq, not_true, if_false, if_neg (Nat.not_lt.mpr hp), hall]

end

/-! ## A bundle committed (09 R105, R223, 10 R233) -/

section
variable {s : State} {g : Staging} {keep : Bool}

theorem State.commitBundle_of_unread (sig : Bool) : s.commitBundle g keep sig true = Machine.answer (s.post0 0x0015 [0#32]) 18 := rfl

theorem State.commitBundle_of_unsigned : s.commitBundle g keep false false = Machine.answer (s.post0 0x0015 [0#32]) 17 := rfl

theorem State.commitBundle_of_error {e : Nat} (he : parseBundle g.data g.total = .error e) :
    s.commitBundle g keep true false = Machine.answer (s.post0 0x0015 [word e]) 18 := by
  simp only [State.commitBundle, he]
  rfl

variable {b : Bundle} (hb : parseBundle g.data g.total = .ok b)
include hb

theorem State.commitBundle_of_ok : s.commitBundle g keep true false =
    if keep = true ∧ 53477376 < storedBytes g.data g.total then Machine.answer s 2
    else if s.halfHeld
      then ⟨{ s with hif := { s.hif with waiting := some ⟨0#32, 0, keep, b⟩ } }, 0, [], none, true, false⟩
      else
        let w := { s with hif := { s.hif with staging := none } }.acceptBundle b keep
        answerOk w (w.bundleResult b) := by
  simp only [State.commitBundle, hb, Bool.false_eq_true, if_false, Bool.not_true]
  refine if_congr ?_ rfl rfl
  rw [Bool.and_eq_true, decide_eq_true_eq]
  exact Iff.rfl

end

/-! ## A bundle accepted (09 R105, 10 R233) -/

theorem State.holdBundle_mem (s : State) (b : Bundle) : ((s.holdBundle b).2, b) ∈ (s.holdBundle b).1.sup.bundles := by
  unfold State.holdBundle
  split
  · next q hq =>
    have hb := List.find?_some hq
    rw [decide_eq_true_eq] at hb
    subst hb
    exact List.mem_of_find?_eq_some hq
  · simp

theorem State.holdBundle_nv (s : State) (b : Bundle) : (s.holdBundle b).1.nv = s.nv := by
  unfold State.holdBundle
  split <;> rfl

theorem State.installBundle_mem (s : State) (b : Bundle) : ((s.installBundle b).pa.pend.bundle, b) ∈ (s.installBundle b).sup.bundles :=
  s.holdBundle_mem b

theorem State.dropBundles_mem {s : State} {b : Bundle} (h : (s.pa.pend.bundle, b) ∈ s.sup.bundles) :
    (s.pa.pend.bundle, b) ∈ s.dropBundles.sup.bundles := by
  refine List.mem_filter.mpr ⟨h, ?_⟩
  simp [Pl.bundles]

theorem State.acceptBundle_mem (s : State) (b : Bundle) (keep : Bool) :
    ((s.acceptBundle b keep).pa.pend.bundle, b) ∈ (s.acceptBundle b keep).sup.bundles := by
  have h := State.dropBundles_mem (s.installBundle_mem b)
  cases keep <;> exact h

theorem State.acceptBundle_nv (s : State) (b : Bundle) (keep : Bool) :
    (s.acceptBundle b keep).nv = if keep = true then { s.nv with persisted := some b } else s.nv := by
  have h : (s.installBundle b).dropBundles.nv = s.nv := s.holdBundle_nv b
  cases keep with
  | false => exact h
  | true => exact congrArg (fun v : Nv => { v with persisted := some b }) h

/-! ## A firmware image committed (09 R223, 17 R375) -/

/-- The image that a commit leaves in the inactive slot. -/
def Nv.staged (v : Nv) (g : Staging) (major minor : Nat) : Image :=
  let q (i : Nat) : Nat := (v.images.getD i ⟨false, 0, 0, 0, true, none⟩).seq
  ⟨true, major, minor, max (q 0) (q 1) + 1, false, some (g.total, g.data)⟩

/-- The image is newer than both that the boot store holds. -/
theorem Nv.seq_lt_staged {v : Nv} (hlen : v.images.length = 2) (g : Staging) (major minor : Nat) :
    ∀ y ∈ v.images, y.seq < (v.staged g major minor).seq := by
  unfold Nv.staged
  generalize v.images = l at hlen
  match l, hlen with
  | [a, b], _ =>
    intro y hy
    obtain rfl | rfl : y = a ∨ y = b := by simpa using hy
    · exact Nat.lt_succ_of_le (Nat.le_max_left _ _)
    · exact Nat.lt_succ_of_le (Nat.le_max_right _ _)

/-- The staging over, the image in the inactive slot. -/
def State.storeImage (s : State) (x : Image) : State :=
  { s with nv := { s.nv with images := s.nv.images.set (1 - s.sup.slot) x }, hif := { s.hif with staging := none } }

section
variable {s : State} {g : Staging}

theorem State.commitFirmware_of_unread (sig : Bool) : s.commitFirmware g sig true = Machine.answer (s.post0 0x0015 [0#32]) 18 := rfl

theorem State.commitFirmware_of_unsigned : s.commitFirmware g false false = Machine.answer s 17 := rfl

theorem State.commitFirmware_of_signed {major minor : Nat}
    (hv : Config.imageVersion (g.data.bytes 0 (min g.total 4096)) = (major, minor)) : s.commitFirmware g true false =
      answerOk ((s.storeImage (s.nv.staged g major minor)).logCause 3 0 [1, (word (major * 65536 + minor)).toNat, 0])
        [word (major * 65536 + minor)] := by
  simp only [State.commitFirmware, hv]
  rfl

end

/-! ## The staging commands as they are fetched -/

section
variable {s v : State} {dt : Nat} {h : Hdr} {r : Role} {status : Nat} {result : List Word}

theorem exec_stageChunk_of_answer {ops : List Bar2Op} (ht : ((s.elapse dt).bar2Run ops).takes h r) {half : Byte} {len off : Word}
    (ha : ((s.elapse dt).bar2Run ops).takeCmd.cmdStageChunk h.session r half.toNat len.toNat off.toNat = Machine.answer v status) :
    exec (.stageChunk dt h half len off ops) s =
      .next (v.complete h.tag 0x0061 status (((s.elapse dt).bar2Run ops).ring 0).head []) := by
  have hl : (s.elapse dt).live = true := (State.bar2Run_live _ ops).symm.trans ht.live
  refine congrArg Host.Outcome.next ((State.run_of_live hl _).trans ?_)
  rw [State.fetch_of_takes ht]
  exact (congrArg (State.finish · _ _) ha).trans (State.finish_answer ..)

variable (ht : (s.elapse dt).takes h r)
include ht

theorem exec_stageBegin_of_answer {k : Byte} {n : Word}
    (ha : (s.elapse dt).takeCmd.cmdStageBegin h.session r k.toNat n.toNat = Machine.answer v status) :
    exec (.stageBegin dt h k n) s = .next (v.complete h.tag 0x0060 status ((s.elapse dt).ring 0).head []) :=
  State.run_fetch_of_answer ht (c := .stageBegin k.toNat n.toNat) ha

theorem exec_stageAbort_of_answer (ha : (s.elapse dt).takeCmd.cmdStageAbort h.session r = Machine.answer v status) :
    exec (.stageAbort dt h) s = .next (v.complete h.tag 0x0063 status ((s.elapse dt).ring 0).head []) :=
  State.run_fetch_of_answer ht (c := .stageAbort) ha

variable {p : Byte} {sig : Bool} {mem : MemObs}

theorem exec_stageCommit_of_answer
    (ha : (s.elapse dt).takeCmd.cmdStageCommit h.session r p.toNat sig mem = ⟨v, status, result, none, false, false⟩) :
    exec (.stageCommit dt h p sig mem) s = .next (v.complete h.tag 0x0062 status ((s.elapse dt).ring 0).head result) :=
  State.run_fetch_of_answer ht (c := .stageCommit p.toNat sig mem) ha

/-- A commit that waits is not completed, and keeps the position and the tag of its command. -/
theorem exec_stageCommit_of_waiting
    (ha : (s.elapse dt).takeCmd.cmdStageCommit h.session r p.toNat sig mem = ⟨v, status, result, none, true, false⟩) :
    exec (.stageCommit dt h p sig mem) s = .next { v with hif := { v.hif with
      waiting := v.hif.waiting.map (fun w => { w with tag := h.tag, index := ((s.elapse dt).ring 0).head }) } } := by
  refine congrArg Host.Outcome.next ((State.run_of_live ht.live _).trans ?_)
  rw [State.fetch_of_takes ht]
  exact congrArg (State.finish · _ _) ha

end

end Sys2Proof.Machine

namespace Sys2Proof.Machine

/-! ## A whole staging committed (09 R221, R223) -/

section
variable {s : State} {dt : Nat} {h : Hdr} {r : Role} {g : Staging} {p : Byte} {mem : MemObs} (ht : (s.elapse dt).takes h r)
  (hg : (s.elapse dt).hif.staging = some g) (hr : r = stageRole g.kind) (hs : g.session = h.session) (hp : p.toNat ≤ 1)
  (hall : g.staged = g.total)
include hg hr hs hp hall

/-- What was read of the staged bytes decides a commit, whether an uncorrectable error was among it or not. -/
theorem State.cmdStageCommit_read (sig : Bool) {ue : Bool} (hue : ((s.elapse dt).takeCmd.memRun mem).2.contains 1 = ue) :
    (s.elapse dt).takeCmd.cmdStageCommit h.session r p.toNat sig mem =
      if g.kind = 0 then ((s.elapse dt).takeCmd.memRun mem).1.commitBundle g (decide (p.toNat = 1)) sig ue
      else ((s.elapse dt).takeCmd.memRun mem).1.commitFirmware g sig ue := by
  have hg' : (s.elapse dt).takeCmd.hif.staging = some g := hg
  rw [State.cmdStageCommit_of_whole hg' (State.stageStatus_of_own hg' hs hr) hp hall, hue]

include ht

section
variable (hk : g.kind = 0) {v : State} (hv : v = ((s.elapse dt).takeCmd.memRun mem).1)
include hk hv

theorem exec_stageCommit_of_bundle (sig : Bool) {ue : Bool} (hue : ((s.elapse dt).takeCmd.memRun mem).2.contains 1 = ue) {w : State}
    {status : Nat} {result : List Word} (ha : v.commitBundle g (decide (p.toNat = 1)) sig ue = ⟨w, status, result, none, false, false⟩) :
    exec (.stageCommit dt h p sig mem) s = .next (w.complete h.tag 0x0062 status ((s.elapse dt).ring 0).head result) := by
  refine exec_stageCommit_of_answer ht ?_
  rw [State.cmdStageCommit_read hg hr hs hp hall sig hue, if_pos hk, ← hv, ha]

/-- A bundle that verifies and fits is accepted, or waits for its half. -/
theorem exec_stageCommit_of_parsed {b : Bundle} (hue : 1 ∉ ((s.elapse dt).takeCmd.memRun mem).2)
    (hb : parseBundle g.data g.total = .ok b) (hfit : p.toNat = 0 ∨ storedBytes g.data g.total ≤ 53477376) :
    (v.halfHeld = false → ∃ t, exec (.stageCommit dt h p true mem) s = .next t ∧
      t = (let w := { v with hif := { v.hif with staging := none } }.acceptBundle b (decide (p.toNat = 1))
        w.complete h.tag 0x0062 0 ((s.elapse dt).ring 0).head (word b.id :: w.applyOf .A)) ∧
      t.nv = (if p.toNat = 1 then { v.nv with persisted := some b } else v.nv) ∧ (t.pa.pend.bundle, b) ∈ t.sup.bundles) ∧
    (v.halfHeld = true → exec (.stageCommit dt h p true mem) s = .next
      { v with hif := { v.hif with waiting := some ⟨h.tag, ((s.elapse dt).ring 0).head, decide (p.toNat = 1), b⟩ } }) := by
  have hfalse : ((s.elapse dt).takeCmd.memRun mem).2.contains 1 = false := by simpa using hue
  have hno : ¬(decide (p.toNat = 1) = true ∧ 53477376 < storedBytes g.data g.total) := by
    rw [decide_eq_true_eq]
    omega
  have hcommit := (State.commitBundle_of_ok (s := v) (keep := decide (p.toNat = 1)) hb).trans (if_neg hno)
  refine ⟨fun hfree => ?_, fun hheld => ?_⟩
  · rw [if_neg (hfree ▸ Bool.false_ne_true)] at hcommit
    refine ⟨_, exec_stageCommit_of_bundle ht hg hr hs hp hall hk hv true hfalse hcommit, rfl, ?_, ?_⟩
    · rw [State.complete_nv, State.acceptBundle_nv]
      simp only [decide_eq_true_eq]
    · rw [State.complete_pa, State.complete_sup]
      exact State.acceptBundle_mem _ b _
  · rw [if_pos hheld] at hcommit
    have hanswer := (State.cmdStageCommit_read hg hr hs hp hall true hfalse).trans (if_pos hk)
    rw [← hv, hcommit] at hanswer
    exact exec_stageCommit_of_waiting ht hanswer

end

section
variable (hk : g.kind = 1)
include hk

theorem exec_stageCommit_of_image (sig : Bool) {ue : Bool} (hue : ((s.elapse dt).takeCmd.memRun mem).2.contains 1 = ue) {w : State}
    {status : Nat} {result : List Word}
    (ha : ((s.elapse dt).takeCmd.memRun mem).1.commitFirmware g sig ue = ⟨w, status, result, none, false, false⟩) :
    exec (.stageCommit dt h p sig mem) s = .next (w.complete h.tag 0x0062 status ((s.elapse dt).ring 0).head result) := by
  have hno : g.kind ≠ 0 := by omega
  refine exec_stageCommit_of_answer ht ?_
  rw [State.cmdStageCommit_read hg hr hs hp hall sig hue, if_neg hno, ha]

end

end

/-- An image stored goes beside the one in use, newer than both, and the staging is over. -/
theorem State.storeImage_answered {u : State} {h : Hdr} {r : Role} (ht : u.takes h r) (g : Staging) {major minor : Nat}
    (hlen : u.nv.images.length = 2) (log : List Nat) :
    let t := ((u.takeCmd.storeImage (u.nv.staged g major minor)).logCause 3 0 log).complete h.tag 0x0062 0 (u.ring 0).head
      [word (major * 65536 + minor)]
    t.nv = { u.nv with images := u.nv.images.set (1 - u.sup.slot) (u.nv.staged g major minor) } ∧
      (∀ y ∈ u.nv.images, y.seq < (u.nv.staged g major minor).seq) ∧ t.hif.staging = none ∧
      u.answered t h.tag 0x0062 0 [word (major * 65536 + minor)] ∧ t.pa = u.pa := by
  intro t
  refine ⟨?_, Nv.seq_lt_staged hlen g major minor, ?_, ?_, ?_⟩
  · exact State.complete_nv ..
  · exact State.complete_hif_staging ..
  · exact State.answered_of_rings (v := (u.takeCmd.storeImage _).logCause 3 0 log) ht rfl rfl rfl _ _ _
  · exact State.complete_pa ..

/-! ## The half of a bundle freed (10 R233) -/

theorem State.halfFreed_of_held {s : State} (hh : s.halfHeld = true) : s.halfFreed = s := by
  unfold State.halfFreed
  split
  · rfl
  · exact if_pos hh

theorem State.halfFreed_of_free {s : State} {w : WaitCommit} (hw : s.hif.waiting = some w) (hh : s.halfHeld = false) :
    s.halfFreed = (let v := { s with hif := { s.hif with waiting := none, staging := none } }.acceptBundle w.bundle w.persist
      v.complete w.tag 0x0062 0 w.index (v.bundleResult w.bundle)) := by
  unfold State.halfFreed
  simp only [hw]
  exact if_neg (hh ▸ Bool.false_ne_true)

theorem exec_bundleHalfFreed_of_live {s : State} {dt : Nat} (hl : (s.elapse dt).live = true) :
    exec (.bundleHalfFreed dt) s = .next (s.elapse dt).halfFreed := congrArg Host.Outcome.next (State.run_of_live hl _)

/-- Settles O24: each staging command is refused by what the staging allows, by its ranges or by its order, in this sequence, and
else changes the staging, the bundles or the slots as its own meaning has it. -/
theorem stagingCommands : Obligations.StagingCommands := by
  unfold Obligations.StagingCommands
  refine ⟨?_, ?_, ?_, ?_, ?_, ?_, ?_, ?_⟩
  · rintro dt h k n r s u rfl ht hk hn
    have hbegin := State.cmdStageBegin_of_inRange (s := (s.elapse dt).takeCmd) (h := h.session) (r := r) hk hn
    split
    · next hr => exact exec_stageBegin_of_answer ht (hbegin.trans (if_pos hr))
    · next hr =>
      rw [if_neg hr] at hbegin
      split
      · next hg => exact exec_stageBegin_of_answer ht (hbegin.trans (if_pos hg))
      · next hg => exact exec_stageBegin_of_answer ht (hbegin.trans (if_neg hg))
  · rintro dt h half len off ops g r s u rfl ht hg
    have hg' : ((s.elapse dt).bar2Run ops).takeCmd.hif.staging = some g := hg
    refine ⟨fun hs => ?_, fun hs hr => ?_, fun hs hr hbad => ?_, fun hs hr hhalf hlen => ?_⟩
    · exact exec_stageChunk_of_answer ht (State.cmdStageChunk_of_refused (State.stageStatus_of_foreign hg' hs) (by decide) ..)
    · exact exec_stageChunk_of_answer ht (State.cmdStageChunk_of_refused (State.stageStatus_of_role hg' hs hr) (by decide) ..)
    · exact exec_stageChunk_of_answer ht (State.cmdStageChunk_of_range hg' (State.stageStatus_of_own hg' hs hr) hbad _)
    · have hchunk := State.cmdStageChunk_of_inRange hg' (State.stageStatus_of_own hg' hs hr) hhalf hlen off.toNat
      split
      · next hnext => exact exec_stageChunk_of_answer ht (hchunk.trans (if_pos hnext))
      · next hnext => exact exec_stageChunk_of_answer ht (hchunk.trans (if_neg hnext))
  · rintro dt h half len off p sig mem r s u rfl ht hg
    have hno : (s.elapse dt).takeCmd.stageStatus h.session r = 16 := State.stageStatus_of_none hg
    exact ⟨exec_stageChunk_of_answer (ops := []) ht (State.cmdStageChunk_of_refused hno (by decide) ..),
      exec_stageCommit_of_answer ht (State.cmdStageCommit_of_refused hno (by decide) ..),
      exec_stageAbort_of_answer ht (State.cmdStageAbort_of_refused hno (by decide))⟩
  · rintro dt h p sig mem g r s u rfl ht hg
    have hg' : (s.elapse dt).takeCmd.hif.staging = some g := hg
    refine ⟨fun hs => ?_, fun hs hr => ?_, fun hs hr hp => ?_, fun hs hr hp hpart => ?_⟩
    · exact exec_stageCommit_of_answer ht (State.cmdStageCommit_of_refused (State.stageStatus_of_foreign hg' hs) (by decide) ..)
    · exact exec_stageCommit_of_answer ht (State.cmdStageCommit_of_refused (State.stageStatus_of_role hg' hs hr) (by decide) ..)
    · exact exec_stageCommit_of_answer ht (State.cmdStageCommit_of_range hg' (State.stageStatus_of_own hg' hs hr) hp ..)
    · exact exec_stageCommit_of_answer ht (State.cmdStageCommit_of_short hg' (State.stageStatus_of_own hg' hs hr) hp hpart ..)
  · rintro dt h p sig mem g r s u v rfl ht hg hr hs hp hall hk hv
    refine ⟨fun hue => ?_, fun hue hsig => ?_, fun e hue hsig he => ?_, fun b hue hsig hb => ⟨fun hp1 hlarge => ?_, ?_⟩⟩
    · exact exec_stageCommit_of_bundle ht hg hr hs hp hall hk hv sig (ue := true) (by simpa using hue)
        (State.commitBundle_of_unread sig)
    · subst hsig
      exact exec_stageCommit_of_bundle ht hg hr hs hp hall hk hv false (ue := false) (by simpa using hue) State.commitBundle_of_unsigned
    · subst hsig
      exact exec_stageCommit_of_bundle ht hg hr hs hp hall hk hv true (by simpa using hue) (State.commitBundle_of_error he)
    · subst hsig
      exact exec_stageCommit_of_bundle ht hg hr hs hp hall hk hv true (ue := false) (by simpa using hue)
        ((State.commitBundle_of_ok hb).trans (if_pos ⟨decide_eq_true hp1, hlarge⟩))
    · subst hsig
      exact ⟨fun hfit => (exec_stageCommit_of_parsed ht hg hr hs hp hall hk hv hue hb hfit).1,
        fun hfit => (exec_stageCommit_of_parsed ht hg hr hs hp hall hk hv hue hb hfit).2⟩
  · rintro dt h p sig mem g r s u v rfl ht hg hr hs hp hall hk hv
    subst hv
    refine ⟨fun hue => ?_, fun hue hsig => ?_, fun major minor hsig hmem himg hlen _ => ?_⟩
    · exact exec_stageCommit_of_image ht hg hr hs hp hall hk sig (ue := true) (by simpa using hue) (State.commitFirmware_of_unread sig)
    · subst hsig
      exact exec_stageCommit_of_image ht hg hr hs hp hall hk false (ue := false) (by simpa using hue) State.commitFirmware_of_unsigned
    · subst hsig hmem
      obtain ⟨hnv, hseq, hstaging, hans, hpa⟩ := State.storeImage_answered ht g (major := major) (minor := minor) hlen
        [1, (word (major * 65536 + minor)).toNat, 0]
      exact ⟨_, _, exec_stageCommit_of_image ht hg hr hs hp hall hk true rfl (State.commitFirmware_of_signed himg), hnv, rfl, rfl, rfl,
        rfl, hseq, rfl, hstaging, hans, hpa⟩
  · rintro dt h g r s u rfl ht hg
    have hg' : (s.elapse dt).takeCmd.hif.staging = some g := hg
    split
    · next hs => exact exec_stageAbort_of_answer ht (State.cmdStageAbort_of_refused (State.stageStatus_of_foreign hg' hs) (by decide))
    · next hs =>
      split
      · next hr =>
        exact exec_stageAbort_of_answer ht
          (State.cmdStageAbort_of_refused (State.stageStatus_of_role hg' (not_not.mp hs) hr) (by decide))
      · next hr =>
        exact exec_stageAbort_of_answer ht
          (State.cmdStageAbort_of_own (State.stageStatus_of_own hg' (not_not.mp hs) (not_not.mp hr)))
  · rintro dt w s u rfl hl hw
    rw [exec_bundleHalfFreed_of_live hl]
    refine ⟨fun hh => by rw [State.halfFreed_of_held hh], fun hh => ⟨_, rfl, State.halfFreed_of_free hw hh, ?_, ?_⟩⟩
    · rw [State.halfFreed_of_free hw hh, State.complete_nv, State.acceptBundle_nv]
    · rw [State.halfFreed_of_free hw hh, State.complete_pa, State.complete_sup]
      exact State.acceptBundle_mem _ w.bundle _

end Sys2Proof.Machine

namespace Sys2Proof.Machine

/-! ## Frame memory (10): the commands of the controller -/

section
variable {s : State} {dt : Nat} (hl : (s.elapse dt).live = true)
include hl

theorem exec_allBankRefresh_of_live (c : Fin 4) (ports : List (Fin 3 × PortObs)) :
    exec (.allBankRefresh dt c ports) s = .next (((s.elapse dt).portsSeen ports).allBankRefresh c.val) :=
  congrArg Host.Outcome.next (State.run_of_live hl _)
theorem exec_refreshStatusPoll_of_live (c : Fin 4) (rate : Fin 3) (drift : Int) :
    exec (.refreshStatusPoll dt c rate drift) s = .next ((s.elapse dt).statusPoll c.val rate.val drift) :=
  congrArg Host.Outcome.next (State.run_of_live hl _)
theorem exec_guardAction_of_live (c : Fin 4) (b : Fin 8) (row : BitVec 16) (rt : Bool) :
    exec (.guardAction dt c b row rt) s = .next ((s.elapse dt).guardAction c.val b.val row.toNat rt) :=
  congrArg Host.Outcome.next (State.run_of_live hl _)
theorem exec_activationWindow_of_live : exec (.activationWindow dt) s = .next (s.elapse dt).clearActivation :=
  congrArg Host.Outcome.next (State.run_of_live hl _)
theorem exec_scrubberPass_of_live (o : MemObs) : exec (.scrubberPass dt o) s = .next ((s.elapse dt).memRun o).1.scrub :=
  congrArg Host.Outcome.next (State.run_of_live hl _)

end

/-- A live module is not in OFF. -/
theorem State.mode_ne_off_of_live {s : State} (hl : s.live = true) : s.mode ≠ .off := by
  unfold State.live at hl
  simp only [Bool.and_eq_true, decide_eq_true_eq] at hl
  exact hl.1

/-! ### A channel read after a change -/

/-- Two changes that give the element at a position the same value are the same change. -/
theorem modAt_congr {α : Type} {l : List α} {i : Nat} {f g : α → α} {d : α} (h : f (l.getD i d) = g (l.getD i d)) :
    modAt l i f = modAt l i g := by
  unfold modAt
  refine List.ext_getElem? fun j => ?_
  rw [List.getElem?_modify, List.getElem?_modify]
  by_cases hij : i = j
  · subst hij
    cases hx : l[i]? with
    | none => rfl
    | some x =>
      rw [List.getD_eq_getElem?_getD, hx] at h
      simpa using h
  · simp [hij]

section
variable {s : State} {c : Nat}

theorem State.dram_modDram_self (hc : c < s.drm.chans.length) (f : DramCh → DramCh) : (s.modDram c f).dram c = f (s.dram c) := by
  rw [State.dram_modDram, if_pos ⟨rfl, hc⟩]

theorem State.dram_modDram_ne {j : Nat} (hj : j ≠ c) (f : DramCh → DramCh) : (s.modDram c f).dram j = s.dram j := by
  rw [State.dram_modDram, if_neg fun h => hj h.1.symm]

theorem State.modDram_congr {f g : DramCh → DramCh} (h : f (s.dram c) = g (s.dram c)) : s.modDram c f = s.modDram c g := by
  unfold State.modDram
  rw [modAt_congr h]

theorem State.modDram_fixed {f : DramCh → DramCh} (h : f (s.dram c) = s.dram c) : s.modDram c f = s := by
  rw [State.modDram_congr (g := id) h, State.modDram, modAt, List.modify_id]

end

/-! ### Events and entries to SAFE, seen by frame memory -/

theorem State.signal_eq (s : State) (x : Nat) : s.signal x = { s with hif := (s.signal x).hif } := by
  unfold State.signal
  dsimp only
  split
  · rfl
  · exact State.sendMessage_eq _ _

theorem State.flushLost_eq (s : State) : s.flushLost = { s with hif := s.flushLost.hif } := by
  unfold State.flushLost
  dsimp only
  split
  · rw [State.writeEvent, State.signal_eq]
    rfl
  · rfl

/-- An event touches the host interface alone. -/
theorem State.post_eq (s : State) (c : Nat) (f : Word) (g p : Nat) (a : List Word) :
    s.post c f g p a = { s with hif := (s.post c f g p a).hif } := by
  unfold State.post
  dsimp only
  split
  · rw [State.writeEvent, State.signal_eq, State.flushLost_eq]
    rfl
  · rw [State.flushLost_eq]
    rfl

theorem State.post0_eq (s : State) (c : Nat) (a : List Word) : s.post0 c a = { s with hif := (s.post0 c a).hif } := s.post_eq ..

section
variable (s : State)

@[simp] theorem State.warnBit_drm (b : Nat) : (s.warnBit b).drm = s.drm := by
  unfold State.warnBit; split <;> simp
@[simp] theorem State.logCutBoot_drm : s.logCutBoot.drm = s.drm := by
  unfold State.logCutBoot; split <;> rfl
@[simp] theorem State.sendCmd_drm (o a b : Nat) : (s.sendCmd o a b).drm = s.drm := by simp [State.sendCmd, State.sendPacket]
@[simp] theorem State.shutterPulse_drm (p : Pipe) (o : Owner) : (s.shutterPulse p o).drm = s.drm := by
  cases p <;> simp [State.shutterPulse, State.duePulse]
@[simp] theorem State.countFailure_drm (p : Pipe) : (s.countFailure p).drm = s.drm := by
  unfold State.countFailure; dsimp only; split <;> simp
@[simp] theorem State.closeEvent_drm (p : Pipe) : (s.closeEvent p).drm = s.drm := by
  unfold State.closeEvent; (repeat' split) <;> simp
@[simp] theorem State.failEvent_drm (p : Pipe) (r : Nat) : (s.failEvent p r).drm = s.drm := by
  unfold State.failEvent; (repeat' split) <;> simp
@[simp] theorem State.issueOpen_drm (p : Pipe) : (s.issueOpen p).drm = s.drm := by
  unfold State.issueOpen; (repeat' split) <;> simp
@[simp] theorem State.abortEvent_drm (p : Pipe) : (s.abortEvent p).drm = s.drm := by simp [State.abortEvent]
@[simp] theorem State.returnClaims_drm (f : Frame) : (s.returnClaims f).drm = s.drm := by
  unfold State.returnClaims
  induction f.claims with
  | nil => rfl
  | cons c l ih => exact ih
@[simp] theorem State.stopPipe_drm (p : Pipe) : (s.stopPipe p).drm = s.drm := by
  rw [State.stopPipe, State.modPl_drm, foldl_keeps State.drm _ State.returnClaims_drm]
@[simp] theorem State.dropWait_drm (w r : Nat) : (s.dropWait w r).drm = s.drm := by
  unfold State.dropWait; split <;> simp
@[simp] theorem State.dropDue_drm : s.dropDue.drm = s.drm := rfl
@[simp] theorem State.abortOn_drm (i r l : Nat) : (s.abortOn i r l).drm = s.drm := by
  unfold State.abortOn; dsimp only; (repeat' split) <;> simp
@[simp] theorem State.abortStreams_drm : s.abortStreams.drm = s.drm := by simp [State.abortStreams, State.sendAbort]
@[simp] theorem State.relayLink_drm (m : Mode) : (s.relayLink m).drm = s.drm := by
  unfold State.relayLink; (repeat' split) <;> simp [State.serveLanes]
@[simp] theorem State.leaveMode_drm (m : Mode) : (s.leaveMode m).drm = s.drm := by
  unfold State.leaveMode; dsimp only; split <;> simp [State.impose]
@[simp] theorem State.enterMode_drm (m : Mode) : (s.enterMode m).drm = s.drm := by simp [State.enterMode]
@[simp] theorem State.postSafe_drm : s.postSafe.drm = s.drm := by
  unfold State.postSafe; split <;> simp

/-- Entry to SAFE takes frame memory out of self-refresh, and leaves it otherwise (14 R315). -/
theorem State.enterSafe_drm : ∃ n, s.enterSafe.drm = s.drm.awake n := by
  have h : (((((((s.logCutBoot.abortEvent .A).abortEvent .B).endCycles.stopPipe .A).stopPipe .B).abortStreams.dropDue).dropWait 0 5).dropWait 1 5).drm
      = s.drm := by simp
  unfold State.enterSafe
  dsimp only
  rw [State.postSafe_drm, State.enterMode_drm]
  dsimp only
  rw [h]
  exact ⟨_, rfl⟩

/-- A dangerous fault leaves frame memory, or takes it out of self-refresh. -/
theorem State.fault_drm (id : Nat) : (s.fault id).drm = s.drm ∨ ∃ n, (s.fault id).drm = s.drm.awake n := by
  unfold State.fault
  extract_lets recorded sup logged
  have hl : logged.drm = s.drm := by
    unfold logged
    split <;> rfl
  split
  · exact .inl rfl
  · split
    · exact .inl hl
    · obtain ⟨n, hn⟩ := logged.enterSafe_drm
      exact .inr ⟨n, hn.trans (by rw [hl])⟩

end

section
variable (s : State)

@[simp] theorem State.post0_dram (k : Nat) (a : List Word) (c : Nat) : (s.post0 k a).dram c = s.dram c :=
  congrArg (fun m : Drm => m.chans.getD c DramCh.zero) (s.post0_drm k a)

@[simp] theorem State.post0_block (k : Nat) (a : List Word) (b : Nat) : (s.post0 k a).block b = s.block b :=
  congrArg (fun m : Drm => SMap.get MBlock.zero m.blocks b) (s.post0_drm k a)

theorem Drm.awake_chan (d : Drm) (n c : Nat) :
    ∃ r, (d.awake n).chans.getD c DramCh.zero = { d.chans.getD c DramCh.zero with refAt := r } := by
  unfold Drm.awake
  split
  · simp only [List.getD_eq_getElem?_getD, List.getElem?_map]
    cases d.chans[c]? with
    | none => exact ⟨_, rfl⟩
    | some x => exact ⟨_, rfl⟩
  · exact ⟨_, rfl⟩

/-- Of a channel a dangerous fault changes at most the instant from which its refresh intervals count. -/
theorem State.fault_dram (id c : Nat) : ∃ r, (s.fault id).dram c = { s.dram c with refAt := r } := by
  unfold State.dram
  obtain h | ⟨n, h⟩ := s.fault_drm id
  · exact ⟨_, by rw [h]⟩
  · obtain ⟨r, hr⟩ := s.drm.awake_chan n c
    exact ⟨r, by rw [h, hr]⟩

theorem State.fault_block (id b : Nat) : (s.fault id).block b = s.block b := by
  unfold State.block
  obtain h | ⟨n, h⟩ := s.fault_drm id
  · rw [h]
  · rw [h, Drm.awake]
    split <;> rfl

/-- In SAFE a further fault adds at most itself to those decided. -/
theorem State.fault_of_safe {s : State} (hs : s.mode = .safe) (id : Nat) :
    (s.fault id).mode = .safe ∧ (s.fault id).nv = s.nv ∧ ∃ l, (s.fault id).saf.decided = s.saf.decided ++ l := by
  by_cases hd : id ∈ s.saf.decided
  · rw [State.fault_of_decided hd]
    exact ⟨hs, rfl, [], (List.append_nil _).symm⟩
  · obtain ⟨hmode, hdec, -, -, -, hnv⟩ := s.fault_decides id hd (by simp [hs])
    exact ⟨hmode, hnv, [id], hdec⟩

end

/-! ### Refresh (R240) -/

section
variable {s : State} {c : Nat}

theorem State.batchDue_of_open (h : (s.dram c).forced = true ∨ (s.dram c).debt < debtLimit (s.dram c).rate) : s.batchDue c = s := by
  unfold State.batchDue
  split
  · next hle =>
    obtain hf | hd := h
    · rw [State.startBatch, if_pos hf]
    · omega
  · rfl

/-- A debt at its limit starts a forced batch, which is counted. -/
theorem State.batchDue_of_limit (hc : c < s.drm.chans.length) (hf : (s.dram c).forced = false)
    (hd : debtLimit (s.dram c).rate ≤ (s.dram c).debt) :
    (s.batchDue c).dram c = { s.dram c with forced := true, batch := 0 } ∧ (s.batchDue c).drm.forced = satInc s.drm.forced 1 65535 ∧
      (∀ j, j ≠ c → (s.batchDue c).dram j = s.dram j) := by
  have h : s.batchDue c = { s.modDram c (fun d => { d with forced := true, batch := 0 }) with
      drm := { (s.modDram c (fun d => { d with forced := true, batch := 0 })).drm with forced := satInc s.drm.forced 1 65535 } } := by
    unfold State.batchDue State.startBatch
    rw [if_pos hd, if_neg (by simp [hf])]
    rfl
  rw [h]
  exact ⟨State.dram_modDram_self hc _, rfl, fun j hj => State.dram_modDram_ne hj _⟩

/-- Whether a forced batch starts or not, the rest of the channel stays, and all outside frame memory. -/
theorem State.batchDue_keeps (s : State) (c : Nat) : s.batchDue c = { s with drm := (s.batchDue c).drm } ∧
    (s.batchDue c).drm.chans.length = s.drm.chans.length ∧
    ((s.batchDue c).dram c).rate = (s.dram c).rate ∧ ((s.batchDue c).dram c).drift = (s.dram c).drift := by
  unfold State.batchDue State.startBatch
  split
  · split
    · exact ⟨rfl, rfl, rfl, rfl⟩
    · refine ⟨rfl, State.modDram_length .., ?_, ?_⟩
      all_goals
        refine Eq.trans (congrArg _ (State.dram_modDram ..)) ?_
        split <;> rfl
  · exact ⟨rfl, rfl, rfl, rfl⟩

theorem State.refreshInterval_of_early
    (h : s.drm.selfRefresh = true ∨ s.drm.init < 2 ∨ s.now < (s.dram c).refAt + refreshPeriod (s.dram c).rate) : s.refreshInterval c = s :=
  if_pos (by simpa only [Bool.or_eq_true, decide_eq_true_eq, or_assoc] using h)

theorem State.refreshInterval_of_due (hs : s.drm.selfRefresh = false) (hi : 2 ≤ s.drm.init)
    (hn : (s.dram c).refAt + refreshPeriod (s.dram c).rate ≤ s.now) : s.refreshInterval c =
      (s.modDram c (fun d => { d with debt := d.debt + 1, refAt := (s.dram c).refAt + refreshPeriod (s.dram c).rate })).batchDue c :=
  if_neg (by simp [hs]; omega)

/-- An interval that brings the debt to its limit starts a forced batch. -/
theorem State.refreshInterval_of_limit (hc : c < s.drm.chans.length) (hs : s.drm.selfRefresh = false) (hi : 2 ≤ s.drm.init)
    (hn : (s.dram c).refAt + refreshPeriod (s.dram c).rate ≤ s.now) (hf : (s.dram c).forced = false)
    (hd : debtLimit (s.dram c).rate ≤ (s.dram c).debt + 1) : ∃ t, s.refreshInterval c = t ∧
      t.dram c = { s.dram c with
        debt := (s.dram c).debt + 1, refAt := (s.dram c).refAt + refreshPeriod (s.dram c).rate, forced := true, batch := 0 } ∧
      t.drm.forced = satInc s.drm.forced 1 65535 ∧ (∀ j, j ≠ c → t.dram j = s.dram j) ∧ t = { s with drm := t.drm } := by
  have hdue := State.refreshInterval_of_due hs hi hn
  have hdram := State.dram_modDram_self hc
    (fun d => { d with debt := d.debt + 1, refAt := (s.dram c).refAt + refreshPeriod (s.dram c).rate })
  set v := s.modDram c (fun d => { d with debt := d.debt + 1, refAt := (s.dram c).refAt + refreshPeriod (s.dram c).rate })
  have hlen : v.drm.chans.length = s.drm.chans.length := State.modDram_length ..
  obtain ⟨hbatch, hforced, hother⟩ := State.batchDue_of_limit (s := v) (hlen ▸ hc) (by rw [hdram]; exact hf) (by rw [hdram]; exact hd)
  refine ⟨_, hdue, by rw [hbatch, hdram], hforced, fun j hj => (hother j hj).trans (State.dram_modDram_ne hj _), ?_⟩
  exact (v.batchDue_keeps c).1

theorem State.allBankRefresh_of_none
    (h : (s.dram c).debt = 0 ∨ (s.dram c).forced = false ∧ s.panicking = true ∨ s.now < (s.dram c).refDone + refreshTime) :
    s.allBankRefresh c = s :=
  if_pos (by simpa only [Bool.or_eq_true, Bool.and_eq_true, decide_eq_true_eq, Bool.not_eq_true', or_assoc, and_comm] using h)

/-- One owed refresh is issued: what it leaves of the debt and of a forced batch. -/
theorem State.allBankRefresh_of_due (hc : c < s.drm.chans.length) (hd : 0 < (s.dram c).debt)
    (hp : (s.dram c).forced = true ∨ s.panicking = false) (hn : (s.dram c).refDone + refreshTime ≤ s.now) :
    ((s.allBankRefresh c).dram c).debt = (s.dram c).debt - 1 ∧ ((s.allBankRefresh c).dram c).refDone = s.now ∧
      ((s.allBankRefresh c).dram c).forced = ((s.dram c).forced && decide (1 < (s.dram c).debt)) ∧
      (s.allBankRefresh c).drm.maxBatch = max s.drm.maxBatch (min (if (s.dram c).forced then (s.dram c).batch + 1 else 0) 15) ∧
      (∀ j, j ≠ c → (s.allBankRefresh c).dram j = s.dram j) ∧ s.allBankRefresh c = { s with drm := (s.allBankRefresh c).drm } := by
  have hgo : ¬((decide ((s.dram c).debt = 0) || (s.panicking && !(s.dram c).forced) ||
      decide (s.now < (s.dram c).refDone + refreshTime)) = true) := by
    simp only [Bool.or_eq_true, Bool.and_eq_true, decide_eq_true_eq, Bool.not_eq_true']
    rintro ((h | ⟨h1, h2⟩) | h)
    · omega
    · simp [h1, h2] at hp
    · omega
  unfold State.allBankRefresh
  extract_lets d debt n v
  rw [if_neg hgo]
  have hdram : v.dram c = _ := State.dram_modDram_self hc _
  refine ⟨congrArg DramCh.debt hdram, congrArg DramCh.refDone hdram, ?_, rfl, fun j hj => State.dram_modDram_ne hj _, rfl⟩
  refine (congrArg DramCh.forced hdram).trans ?_
  have hlt : decide (0 < debt) = decide (1 < d.debt) := decide_eq_decide.mpr Nat.lt_sub_iff_add_lt
  rw [← hlt]

theorem State.panicking_iff : s.panicking = true ↔
    (s.fill 0).1 < 16384 ∨ 16384 < (s.fill 0).2 ∨ (s.fill 1).1 < 8192 ∨ (s.fill 2).1 < 16384 ∨ 16384 < (s.fill 2).2 := by
  simp [State.panicking, inPanic, List.range_succ, or_assoc]

end

/-! ### Refresh-rate polls (R241, R248) -/

section
variable {s : State} {c rate : Nat}

theorem State.applyRate_same (h : (s.dram c).rate = rate) (hr : rate ≠ 2) : s.applyRate c rate = s.batchDue c := by
  unfold State.applyRate
  dsimp only
  rw [if_neg hr, if_pos h, State.modDram_fixed (by rw [← h])]

theorem State.applyRate_changed (h : (s.dram c).rate ≠ rate) (hr : rate ≠ 2) : s.applyRate c rate =
    ((s.modDram c (fun d => { d with rate := rate })).post0 0x00d4 [word c, word rate]).batchDue c := by
  unfold State.applyRate
  dsimp only
  rw [if_neg hr, if_neg h]

/-- At the quadrupled rate fault 8 follows, whatever else the status changes. -/
theorem State.applyRate_quadrupled (hc : c < s.drm.chans.length) : ∃ w : State, s.applyRate c 2 = w.fault 8 ∧ w.mode = s.mode ∧
    w.saf = s.saf ∧ w.nv = s.nv ∧ (w.dram c).rate = 2 := by
  unfold State.applyRate
  extract_lets old rated posted w
  have hposted : posted.mode = s.mode ∧ posted.saf = s.saf ∧ posted.nv = s.nv ∧ posted.drm = rated.drm := by
    unfold posted
    split
    · exact ⟨rfl, rfl, rfl, rfl⟩
    · exact ⟨by simp [State.mode, rated], by simp [rated], by simp [rated], State.post0_drm ..⟩
  obtain ⟨hmode, hsaf, hnv, hdrm⟩ := hposted
  have hkeeps : w = { posted with drm := w.drm } ∧ _ := posted.batchDue_keeps c
  obtain ⟨hw, -, hrate, -⟩ := hkeeps
  have hdram : (posted.dram c).rate = 2 := by
    rw [State.dram, hdrm]
    exact congrArg DramCh.rate (State.dram_modDram_self hc _)
  refine ⟨w, if_pos rfl, ?_, ?_, ?_, hrate.trans hdram⟩
  · rw [hw]
    exact hmode
  · rw [hw]
    exact hsaf
  · rw [hw]
    exact hnv

theorem State.statusPoll_of_bounded {x : Int} (h : -32 ≤ ((s.applyRate c rate).dram c).drift + x.sign)
    (h' : ((s.applyRate c rate).dram c).drift + x.sign ≤ 32) :
    s.statusPoll c rate x = (s.applyRate c rate).modDram c (fun y => { y with drift := y.drift + x.sign }) := by
  unfold State.statusPoll
  dsimp only
  rw [if_neg (by omega)]
  exact State.modDram_congr rfl

theorem State.statusPoll_of_drifted {x : Int} (h : 32 < (((s.applyRate c rate).dram c).drift + x.sign).natAbs) :
    ∃ a, s.statusPoll c rate x = ((s.applyRate c rate).post0 0x00d5 a).fault 9 := by
  unfold State.statusPoll
  dsimp only
  rw [if_pos h]
  exact ⟨_, rfl⟩

/-- At the usual rate, with no batch to start, a poll takes over the drift alone. -/
theorem State.statusPoll_of_usual {x : Int} (hr : (s.dram c).rate = 0) (h : (s.dram c).forced = true ∨ (s.dram c).debt < 8)
    (hlo : -32 ≤ (s.dram c).drift + x.sign) (hhi : (s.dram c).drift + x.sign ≤ 32) :
    s.statusPoll c 0 x = s.modDram c (fun y => { y with drift := y.drift + x.sign }) := by
  have happly : s.applyRate c 0 = s := (State.applyRate_same hr (by decide)).trans (State.batchDue_of_open (by rw [hr]; exact h))
  rw [State.statusPoll_of_bounded (by rwa [happly]) (by rwa [happly]), happly]

section
variable {x : Int} (hc : c < s.drm.chans.length) (hr : (s.dram c).rate = 0) (hlo : -32 ≤ (s.dram c).drift + x.sign)
  (hhi : (s.dram c).drift + x.sign ≤ 32)
include hc hr hlo hhi

/-- The doubled rate is told, with no batch to start. -/
theorem State.statusPoll_of_doubled (h : (s.dram c).forced = true ∨ (s.dram c).debt < 4) : s.statusPoll c 1 x =
    ((s.modDram c (fun y => { y with rate := 1 })).post0 0x00d4 [word c, word 1]).modDram c (fun y => { y with drift := y.drift + x.sign }) := by
  have hdram := ((s.modDram c _).post0_dram 0x00d4 [word c, word 1] c).trans (State.dram_modDram_self hc (fun y => { y with rate := 1 }))
  have happly := (State.applyRate_changed (s := s) (c := c) (rate := 1) (by simp [hr]) (by decide)).trans
    (State.batchDue_of_open (by rw [hdram]; exact h))
  rw [State.statusPoll_of_bounded (by rw [happly, hdram]; exact hlo) (by rw [happly, hdram]; exact hhi), happly]

/-- A debt that has reached the limit of the doubled rate is worked off at once (R241). -/
theorem State.statusPoll_of_doubled_limit (hf : (s.dram c).forced = false) (hd : 4 ≤ (s.dram c).debt) :
    (s.statusPoll c 1 x).dram c = { s.dram c with rate := 1, forced := true, batch := 0, drift := (s.dram c).drift + x.sign } ∧
      (s.statusPoll c 1 x).mode = s.mode ∧ (s.statusPoll c 1 x).nv = s.nv := by
  have hdram := ((s.modDram c _).post0_dram 0x00d4 [word c, word 1] c).trans (State.dram_modDram_self hc (fun y => { y with rate := 1 }))
  have happly := State.applyRate_changed (s := s) (c := c) (rate := 1) (by simp [hr]) (by decide)
  set v := (s.modDram c (fun y => { y with rate := 1 })).post0 0x00d4 [word c, word 1]
  have hlen : v.drm.chans.length = s.drm.chans.length := by rw [State.post0_drm, State.modDram_length]
  obtain ⟨hbatch, -, -⟩ := State.batchDue_of_limit (s := v) (hlen ▸ hc) (by rw [hdram]; exact hf) (by rw [hdram]; exact hd)
  obtain ⟨hkeeps, hblen, -, hdrift⟩ := v.batchDue_keeps c
  rw [hdram] at hbatch hdrift
  rw [State.statusPoll_of_bounded (by rw [happly, hdrift]; exact hlo) (by rw [happly, hdrift]; exact hhi), happly]
  refine ⟨?_, ?_, ?_⟩
  · rw [State.dram_modDram_self (hblen ▸ hlen ▸ hc), hbatch]
  · rw [State.mode, State.modDram_sup, hkeeps]
    exact congrArg Sup.mode (State.post0_sup ..)
  · rw [State.modDram_nv, hkeeps]
    exact State.post0_nv ..

end

/-- A drift out of bounds in a channel at the usual rate is fault 9. -/
theorem State.statusPoll_drift_faults {x : Int} (hl : s.live = true) (hr : (s.dram c).rate = 0) (h : 32 < ((s.dram c).drift + x.sign).natAbs)
    (h9 : 9 ∉ s.saf.decided) :
    (s.statusPoll c 0 x).mode = .safe ∧ (s.statusPoll c 0 x).saf.decided = s.saf.decided ++ [9] ∧ (s.statusPoll c 0 x).nv = s.nv := by
  obtain ⟨hb, -, -, hdrift⟩ := s.batchDue_keeps c
  have happly := State.applyRate_same hr (by decide)
  obtain ⟨a, hpoll⟩ := State.statusPoll_of_drifted (s := s) (c := c) (rate := 0) (x := x) (by rwa [happly, hdrift])
  rw [happly] at hpoll
  have hsaf : ((s.batchDue c).post0 0x00d5 a).saf = s.saf := by rw [State.post0_saf, hb]
  have hmode : ((s.batchDue c).post0 0x00d5 a).mode = s.mode :=
    by rw [State.mode, State.post0_sup, hb, State.mode]
  obtain ⟨hsafe, hdec, -, -, -, hnv⟩ := State.fault_decides _ 9 (hsaf ▸ h9) (hmode ▸ State.mode_ne_off_of_live hl)
  rw [hpoll]
  exact ⟨hsafe, hdec.trans (by rw [hsaf]), hnv.trans (by rw [State.post0_nv, hb])⟩

/-- The quadrupled rate is fault 8, which the drift may follow with fault 9. -/
theorem State.statusPoll_rate_faults {x : Int} (hl : s.live = true) (hc : c < s.drm.chans.length) (h8 : 8 ∉ s.saf.decided) :
    ∃ l, (s.statusPoll c 2 x).mode = .safe ∧ (s.statusPoll c 2 x).saf.decided = s.saf.decided ++ 8 :: l ∧
      ((s.statusPoll c 2 x).dram c).rate = 2 ∧ (s.statusPoll c 2 x).nv = s.nv := by
  obtain ⟨w, happly, hwmode, hwsaf, hwnv, hwrate⟩ := State.applyRate_quadrupled hc
  obtain ⟨hsafe, hdec, -, -, -, hnv⟩ := w.fault_decides 8 (hwsaf ▸ h8) (hwmode ▸ State.mode_ne_off_of_live hl)
  obtain ⟨r, hdram⟩ := w.fault_dram 8 c
  have hrate : ((w.fault 8).dram c).rate = 2 := by rw [hdram, hwrate]
  have hlist : (w.fault 8).saf.decided = s.saf.decided ++ [8] := hdec.trans (by rw [hwsaf])
  by_cases hd : 32 < (((s.applyRate c 2).dram c).drift + x.sign).natAbs
  · obtain ⟨a, hpoll⟩ := State.statusPoll_of_drifted hd
    rw [happly] at hpoll
    obtain ⟨htmode, htnv, l, htdec⟩ := State.fault_of_safe (s := (w.fault 8).post0 0x00d5 a)
      ((congrArg Sup.mode (State.post0_sup ..)).trans hsafe) 9
    obtain ⟨q, hq⟩ := ((w.fault 8).post0 0x00d5 a).fault_dram 9 c
    rw [hpoll]
    refine ⟨l, htmode, ?_, ?_, ?_⟩
    · rw [htdec, State.post0_saf, hlist, List.append_assoc, List.singleton_append]
    · rw [hq, State.post0_dram, hrate]
    · rw [htnv, State.post0_nv, hnv, hwnv]
  · rw [State.statusPoll_of_bounded (by omega) (by omega), happly]
    refine ⟨[], hsafe, hlist, ?_, hnv.trans hwnv⟩
    rw [State.dram_modDram]
    split <;> exact hrate

end

/-! ### The row-activation guard (R244, R245) -/

/-- An entry of the activation table is that of a row of a bank. -/
def isRowOf (b row : Nat) (e : Nat × Nat × Nat) : Bool := e.1 = b && e.2.1 = row

section
variable {d : DramCh} {b row : Nat}

theorem DramCh.count_of_find? {e : Nat × Nat × Nat} (h : d.table.find? (isRowOf b row) = some e) : d.count b row = e.2.2 := by
  rw [DramCh.count, show d.table.find? (fun e => e.1 = b && e.2.1 = row) = some e from h]
  rfl

theorem DramCh.count_of_unlisted (h : d.table.find? (isRowOf b row) = none) : d.count b row = 0 := by
  rw [DramCh.count, show d.table.find? (fun e => e.1 = b && e.2.1 = row) = none from h]
  rfl

end

theorem mem_adjacentRows {r row : Nat} (h : row < 65536) : r ∈ adjacentRows row ↔ (r + 1 = row ∨ r = row + 1) ∧ r < 65536 := by
  unfold adjacentRows
  by_cases h0 : 0 < row <;> by_cases h1 : row < 65535 <;> simp [h0, h1] <;> omega

section
variable {s : State} {c b row : Nat} {rt : Bool}

theorem State.guardAction_of_early {t : Nat} (ht : (s.dram c).guardTime = some t) (hn : s.now < t + 8 * us) : s.guardAction c b row rt = s := by
  unfold State.guardAction
  dsimp only
  rw [ht]
  exact if_pos (decide_eq_true hn)


/-- What a guard action leaves of its channel. -/
def DramCh.guarded (d : DramCh) (b row now : Nat) (rt : Bool) : DramCh :=
  let rt := ((d.due.find? (fun x => x.1 = b && x.2.1 = row)).map (fun x => x.2.2)).getD rt
  { d with guardTime := some now
           reported := if d.reported.contains b then d.reported else b :: d.reported
           limited := if rt || d.limited.any (fun x => x.1 = b) then d.limited else (b, now) :: d.limited
           table := d.table.filter (fun e => !(e.1 = b && e.2.1 = row))
           due := d.due.filter (fun x => !(x.1 = b && x.2.1 = row)) }

/-- A guard action in its turn: its record, and its report where it is the first of its window in the bank. -/
theorem State.guardAction_of_turn (hc : c < s.drm.chans.length) (h : ∀ t, (s.dram c).guardTime = some t → t + 8 * us ≤ s.now) :
    ∃ t, s.guardAction c b row rt = t ∧ t.drm.hits = satInc s.drm.hits 1 65535 ∧ t.drm.lastCh = c ∧ t.drm.lastBank = b ∧
      t.drm.lastRow = row ∧ t.drm.guarded = adjacentRows row ∧ t.dram c = (s.dram c).guarded b row s.now rt ∧
      (b ∈ (s.dram c).reported → t = { s with drm := t.drm }) ∧ t = { s with drm := t.drm, hif := t.hif } := by
  unfold State.guardAction
  extract_lets d early first rt' v m w
  have hgo : early = false := by
    unfold early
    split
    · next t ht => exact decide_eq_false (Nat.not_lt.mpr (h t ht))
    · rfl
  have hdram : w.dram c = (s.dram c).guarded b row s.now rt := by
    refine (State.dram_modDram_self hc _).trans ?_
    unfold first DramCh.guarded
    cases (s.dram c).reported.contains b <;> rfl
  rw [hgo, if_neg Bool.false_ne_true]
  by_cases hb : b ∈ d.reported
  · rw [if_neg (by simp [first, hb])]
    exact ⟨w, rfl, rfl, rfl, rfl, rfl, rfl, hdram, fun _ => rfl, rfl⟩
  · rw [if_pos (by simp [first, hb])]
    have hdrm := w.post0_drm 0x00d3 [word c, word b, word row]
    refine ⟨_, rfl, ?_, ?_, ?_, ?_, ?_, (State.post0_dram ..).trans hdram, fun h => absurd h hb, ?_⟩
    · rw [hdrm]
      rfl
    iterate 4
      · rw [hdrm]
    · rw [State.post0_eq]
      rfl

end

section
variable (d : DramCh) (b row now : Nat) (rt : Bool)

theorem DramCh.mem_guarded_reported : b ∈ (d.guarded b row now rt).reported := by
  unfold DramCh.guarded
  dsimp only
  split
  · next h => simpa using h
  · exact List.mem_cons_self

theorem DramCh.guarded_count : (d.guarded b row now rt).count b row = 0 :=
  DramCh.count_of_unlisted (List.find?_eq_none.mpr fun e he => by simpa [isRowOf, imp_iff_not_or] using (List.mem_filter.mp he).2)

/-- Without a waiting action of its own the master's kind decides whether others are limited in the bank. -/
theorem DramCh.guarded_limited (h : ∀ x ∈ d.due, x.1 = b → x.2.1 ≠ row) :
    (rt = true → (d.guarded b row now rt).limited = d.limited) ∧ (rt = false → ∃ a, (b, a) ∈ (d.guarded b row now rt).limited) := by
  have hnone : d.due.find? (fun x => x.1 = b && x.2.1 = row) = none :=
    List.find?_eq_none.mpr fun x hx => by simpa using h x hx
  unfold DramCh.guarded
  rw [hnone]
  refine ⟨?_, ?_⟩
  · rintro rfl
    rfl
  · rintro rfl
    cases hany : d.limited.any (fun x => x.1 = b) with
    | false => exact ⟨now, by simp⟩
    | true =>
      obtain ⟨x, hx, hxb⟩ := List.any_eq_true.mp hany
      exact ⟨x.2, by simpa [← of_decide_eq_true hxb] using hx⟩

end

/-! ### The activation table (R244) -/

section
variable {d : DramCh} {b row : Nat}

/-- A listed row counts on. -/
theorem DramCh.count_raised {e : Nat × Nat × Nat} (h : d.table.find? (isRowOf b row) = some e) (n : Nat) :
    DramCh.count { d with table := d.table.map (fun e => if isRowOf b row e then (b, row, e.2.2 + n) else e) } b row = e.2.2 + n := by
  have hcomp : isRowOf b row ∘ (fun e => if isRowOf b row e then (b, row, e.2.2 + n) else e) = isRowOf b row := by
    funext x
    simp only [Function.comp_apply]
    split
    · next hx => simpa [isRowOf] using hx
    · rfl
  have hmap := List.find?_some h
  exact DramCh.count_of_find? (e := (b, row, e.2.2 + n)) (by rw [List.find?_map, hcomp, h, Option.map_some, if_pos hmap])

/-- A row that takes the place of an entry has what it brings. -/
theorem DramCh.count_replaced {x : Nat × Nat × Nat} (h : d.table.find? (isRowOf b row) = none) (hx : x ∈ d.table) (n : Nat) :
    DramCh.count { d with table := d.table.map (fun e => if e = x then (b, row, n) else e) } b row = n := by
  have hfind : d.table.find? (fun e => decide (e = x)) = some x := by
    obtain ⟨e, he⟩ := Option.isSome_iff_exists.mp (List.find?_isSome (p := (fun e => decide (e = x))).mpr ⟨x, hx, decide_eq_true rfl⟩)
    rw [he, of_decide_eq_true (List.find?_some (p := (fun e => decide (e = x))) he)]
  have hcomp : d.table.find? (isRowOf b row ∘ (fun e => if e = x then (b, row, n) else e)) = some x := by
    rw [← hfind]
    refine List.find?_congr fun e he => ?_
    simp only [Function.comp_apply]
    split
    · next hex => simp [isRowOf, hex]
    · next hex => simpa [hex] using List.find?_eq_none.mp h e he
  exact DramCh.count_of_find? (e := (b, row, n)) (by rw [List.find?_map, hcomp, Option.map_some, if_pos rfl])

/-- The least entry of a bank is one of its entries. -/
theorem foldl_least_mem {l : List (Nat × Nat × Nat)} {a : Nat × Nat × Nat} (ha : a ∈ l) :
    l.foldl (fun (b : Nat × Nat × Nat) e => if e.2.2 < b.2.2 then e else b) a ∈ l :=
  List.foldlRecOn (motive := (· ∈ l)) _ _ ha fun x hx e he => by
    split
    · exact he
    · exact hx

/-- A row counted has at least its count and what was counted. -/
theorem DramCh.count_counted (d : DramCh) (b row n : Nat) : d.count b row + n ≤ (d.counted b row n).count b row := by
  unfold DramCh.counted
  extract_lets mine least
  by_cases hany : mine.any (fun e => e.2.1 = row) = true
  · rw [if_pos hany]
    obtain ⟨x, hx, hrow⟩ := List.any_eq_true.mp hany
    obtain ⟨hmem, hbank⟩ := List.mem_filter.mp hx
    obtain ⟨e, he⟩ := Option.isSome_iff_exists.mp
      (List.find?_isSome (p := isRowOf b row).mpr ⟨x, hmem, Bool.and_eq_true_iff.mpr ⟨hbank, hrow⟩⟩)
    exact (congrArg (· + n) (DramCh.count_of_find? he)).trans (DramCh.count_raised he n).symm |>.le
  · have hnone : d.table.find? (isRowOf b row) = none := List.find?_eq_none.mpr fun e he hm =>
      hany (List.any_eq_true.mpr ⟨e, List.mem_filter.mpr ⟨he, (Bool.and_eq_true_iff.mp hm).1⟩, (Bool.and_eq_true_iff.mp hm).2⟩)
    rw [if_neg hany, DramCh.count_of_unlisted hnone, Nat.zero_add]
    split
    · refine (DramCh.count_of_find? (e := (b, row, n)) ?_).ge
      rw [List.find?_append, hnone]
      simp [isRowOf]
    · next hfull =>
      have hmine : least ∈ mine := foldl_least_mem (by
        cases hm : mine with
        | nil => simp [hm] at hfull
        | cons e l => exact List.mem_cons_self)
      rw [DramCh.count_replaced hnone (List.mem_filter.mp hmine).1]
      exact Nat.le_add_left n _

theorem DramCh.allowed_of_unlimited (h : ∀ x ∈ d.limited, x.1 ≠ b) (n now : Nat) (rt : Bool) : d.allowed b n now rt = n := by
  rw [DramCh.allowed, List.find?_eq_none.mpr fun x hx => by simpa using h x hx]

theorem DramCh.allowed_of_recent {t now : Nat} (h : d.limited.find? (fun x => x.1 = b) = some (b, t)) (ht : now < t + us) (n : Nat) :
    d.allowed b n now false = 0 := by
  rw [DramCh.allowed, h]
  exact if_neg (Nat.not_le.mpr ht)

end

section
variable {s : State} {c b row n : Nat}

theorem State.activate_of_none {rt : Bool} (h : (s.dram c).allowed b n s.now rt = 0) : s.activate c b row n rt = s := by
  unfold State.activate
  dsimp only
  rw [h, if_pos rfl]

/-- A row activated in a bank without limits: its count, and the guard action that a count of 4096 calls for. -/
theorem State.activate_of_unlimited (h : ∀ x ∈ (s.dram c).limited, x.1 ≠ b) (rt : Bool) :
    ∃ y : DramCh, s.activate c b row n rt = s.modDram c (fun _ => y) ∧ (s.dram c).count b row + n ≤ y.count b row ∧
      (0 < n → 4096 ≤ y.count b row → ∃ x ∈ y.due, x.1 = b ∧ x.2.1 = row) := by
  have hallowed := DramCh.allowed_of_unlimited h n s.now rt
  obtain rfl | hn := Nat.eq_zero_or_pos n
  · exact ⟨s.dram c, (State.activate_of_none hallowed).trans (State.modDram_fixed rfl).symm, le_rfl, fun h => absurd h (lt_irrefl 0)⟩
  · unfold State.activate
    extract_lets d k e due limited
    have hk : k = n := hallowed
    clear_value k
    subst hk
    rw [if_neg hn.ne']
    refine ⟨_, rfl, d.count_counted b row k, fun _ (hcount : 4096 ≤ e.count b row) => ?_⟩
    change ∃ x ∈ due, _
    unfold due
    split
    · next hw =>
      rw [decide_eq_false (Nat.not_lt.mpr hcount), Bool.false_or, List.any_eq_true] at hw
      simpa using hw
    · exact ⟨_, List.mem_append_right _ (List.mem_singleton_self _), rfl, rfl⟩

end

/-! ### The activation windows (R244) -/

theorem State.clearActivation_of_due {s : State} {t : Nat} (ht : s.drm.readyAt = some t) (hn : t + (s.drm.windows + 1) * (64 * ms) ≤ s.now) :
    s.clearActivation = { s with drm := { s.drm with windows := s.drm.windows + 1,
                                                     chans := s.drm.chans.map (fun d => { d with reported := [], limited := [], table := [] }) } } := by
  unfold State.clearActivation
  rw [ht]
  exact if_pos hn

theorem State.clearActivation_of_early {s : State}
    (h : s.drm.readyAt = none ∨ ∃ t, s.drm.readyAt = some t ∧ s.now < t + (s.drm.windows + 1) * (64 * ms)) : s.clearActivation = s := by
  unfold State.clearActivation
  obtain h | ⟨t, ht, hn⟩ := h
  · rw [h]
  · rw [ht]
    exact if_neg (Nat.not_le.mpr hn)

/-! ### Blocks (R230, R231, R249 to R251) -/

/-- A value other than that of unlisted keys is listed. -/
theorem SMap.mem_of_get_ne {α : Type} {d : α} {m : SMap α} {i : Nat} (h : SMap.get d m i ≠ d) : (i, SMap.get d m i) ∈ m := by
  induction m with
  | nil => exact absurd rfl h
  | cons e m ih =>
    obtain ⟨k, v⟩ := e
    by_cases hk : i = k
    · subst hk
      simp [SMap.get]
    · rw [SMap.get, if_neg hk] at h ⊢
      exact List.mem_cons_of_mem _ (ih h)

section
variable {α : Type} [DecidableEq α] {d : α} {m : SMap α} {i : Nat}

/-- The keys of a canonical map do not lie below its bound. -/
theorem SMap.le_of_mem {lo : Nat} (h : SMap.okFrom d lo m = true) {e : Nat × α} (he : e ∈ m) : lo ≤ e.1 := by
  induction m generalizing lo with
  | nil => simp at he
  | cons e' m ih =>
    simp only [SMap.okFrom, Bool.and_eq_true, decide_eq_true_eq] at h
    obtain ⟨⟨hlo, -⟩, hm⟩ := h
    obtain rfl | he := List.mem_cons.mp he
    · exact hlo
    · have := ih hm he
      omega

/-- A canonical map reads at a key what it lists there. -/
theorem SMap.get_of_mem (h : SMap.ok d m = true) {e : Nat × α} (he : e ∈ m) : SMap.get d m e.1 = e.2 := by
  unfold SMap.ok at h
  generalize 0 = lo at h
  induction m generalizing lo with
  | nil => simp at he
  | cons e' m ih =>
    simp only [SMap.okFrom, Bool.and_eq_true, decide_eq_true_eq] at h
    obtain rfl | he := List.mem_cons.mp he
    · exact if_pos rfl
    · have := SMap.le_of_mem h.2 he
      exact (if_neg (by omega)).trans (ih he _ h.2)

/-- Of a canonical map one entry at most has a key. -/
theorem SMap.filter_key (h : SMap.ok d m = true) (hi : SMap.get d m i ≠ d) : m.filter (fun e => e.1 = i) = [(i, SMap.get d m i)] := by
  unfold SMap.ok at h
  generalize 0 = lo at h
  induction m generalizing lo with
  | nil => exact absurd rfl hi
  | cons e m ih =>
    obtain ⟨k, v⟩ := e
    simp only [SMap.okFrom, Bool.and_eq_true, decide_eq_true_eq] at h
    by_cases hk : i = k
    · subst hk
      have hrest : m.filter (fun e => e.1 = i) = [] := List.filter_eq_nil_iff.mpr fun e he => by
        have := SMap.le_of_mem h.2 he
        simp only [decide_eq_true_eq]
        omega
      simp [hrest, SMap.get]
    · rw [SMap.get, if_neg hk] at hi ⊢
      rw [List.filter_cons_of_neg (by simpa using Ne.symm hk), ih hi _ h.2]

end

/-- The blocks are canonical, and only block `k` may hold bits that have turned over. -/
structure State.CleanBut (s : State) (k : Nat) : Prop where
  ok : SMap.ok MBlock.zero s.drm.blocks = true
  clean : ∀ j, j ≠ k → (s.block j).flips = []

section
variable {s t : State} {k : Nat}

theorem State.cleanBut_of_blocks (hok : SMap.ok MBlock.zero s.drm.blocks = true) (h : ∀ e ∈ s.drm.blocks, e.1 ≠ k → e.2.flips = []) :
    s.CleanBut k where
  ok := hok
  clean j hj := by
    by_cases hz : s.block j = MBlock.zero
    · rw [hz]
      rfl
    · exact h _ (SMap.mem_of_get_ne hz) hj

theorem State.CleanBut.congr (h : s.CleanBut k) (hb : t.drm.blocks = s.drm.blocks) : t.CleanBut k where
  ok := hb ▸ h.ok
  clean j hj := by
    rw [State.block, hb]
    exact h.clean j hj

theorem State.CleanBut.block_putBlock (h : s.CleanBut k) (b j : Nat) (x : MBlock) :
    (s.putBlock b x).block j = if j = b then x else s.block j := SMap.get_put _ _ _ _ _ h.ok

theorem State.CleanBut.block_putBlock_self (h : s.CleanBut k) (x : MBlock) : (s.putBlock k x).block k = x := by
  rw [h.block_putBlock, if_pos rfl]

theorem State.CleanBut.block_putBlock_ne (h : s.CleanBut k) (x : MBlock) {j : Nat} (hj : j ≠ k) : (s.putBlock k x).block j = s.block j := by
  rw [h.block_putBlock, if_neg hj]

theorem State.CleanBut.putBlock (h : s.CleanBut k) (x : MBlock) : (s.putBlock k x).CleanBut k where
  ok := SMap.ok_put _ _ _ _ h.ok
  clean j hj := by
    rw [h.block_putBlock_ne x hj]
    exact h.clean j hj

theorem State.scrubbed_congr (h : t.drm.bnd = s.drm.bnd) (b : Nat) : t.scrubbed b = s.scrubbed b := by
  unfold State.scrubbed
  rw [h]

/-- The scrubber finds nothing where nothing has turned over among the blocks it reads. -/
theorem State.scrub_of_clean (h : ∀ e ∈ s.drm.blocks, e.2.flips = [] ∨ s.scrubbed e.1 = false) : s.scrub = s := by
  unfold State.scrub
  rw [List.filter_eq_nil_iff.mpr fun e he => by
    obtain h | h := h e he <;> simp [h]]
  rfl

theorem State.CleanBut.scrub_of_clean (h : s.CleanBut k) (hk : (s.block k).flips = [] ∨ s.scrubbed k = false) : s.scrub = s :=
  State.scrub_of_clean fun e he => by
    have hget : s.block e.1 = e.2 := SMap.get_of_mem h.ok he
    by_cases hj : e.1 = k
    · rw [← hget, hj]
      exact hk
    · exact .inl (hget ▸ h.clean _ hj)

/-- The one block with turned bits is the one that the scrubber reads. -/
theorem State.CleanBut.scrub_of_flips (h : s.CleanBut k) (hk : (s.block k).flips ≠ []) (hs : s.scrubbed k = true) :
    s.scrub = s.scrubBlock k := by
  have hne : s.block k ≠ MBlock.zero := fun hz => hk (by rw [hz]; rfl)
  have hfilter : s.drm.blocks.filter (fun e => !e.2.flips.isEmpty && s.scrubbed e.1) = [(k, s.block k)] := by
    refine Eq.trans (List.filter_congr fun e he => ?_) (SMap.filter_key h.ok hne)
    have hget : s.block e.1 = e.2 := SMap.get_of_mem h.ok he
    by_cases hj : e.1 = k
    · simp [← hget, hj, hk, hs]
    · simp [← hget, hj, h.clean _ hj]
  unfold State.scrub
  rw [hfilter]
  rfl

end

/-! ### The error code (R230) -/

theorem MBlock.lost_of_clean {x : MBlock} (h : x.flips = []) : x.lost = false := by
  simp [MBlock.lost, MBlock.errors, h]

theorem MBlock.lost_of_one {x : MBlock} {i : Nat} (h : x.flips = [i]) : x.lost = false := by
  have hlen : ∀ w, x.errors w ≤ 1 := fun w => by
    unfold MBlock.errors
    rw [h]
    exact List.length_filter_le _ [i]
  simp only [MBlock.lost, List.any_eq_false, decide_eq_true_eq, not_le]
  exact fun w _ => Nat.lt_succ_of_le (hlen w)

/-- Two neighbouring bits of one word are more than the code corrects. -/
theorem MBlock.lost_of_two {x : MBlock} {i : Nat} (h : x.flips = [i, i + 1]) (hi : i < 576) (hw : i % 72 < 71) : x.lost = true := by
  have hword : (i + 1) / 72 = i / 72 := by omega
  refine List.any_eq_true.mpr ⟨i / 72, List.mem_range.mpr (by omega), decide_eq_true ?_⟩
  simp [MBlock.errors, h, hword]

theorem MBlock.flip_of_clean {x : MBlock} (h : x.flips = []) (i : Nat) : x.flip i = { x with flips := [i] } := by
  simp [MBlock.flip, h]

theorem MBlock.flip_next (x : MBlock) (i : Nat) : ({ x with flips := [i] } : MBlock).flip (i + 1) = { x with flips := [i, i + 1] } := by
  simp [MBlock.flip]

section
variable {s : State} {c b silo : Nat} {a : Word}

theorem channelOf_lt (a : Nat) : channelOf a < 4 := by
  unfold channelOf siloAddress
  split
  exact Nat.mod_lt _ (by decide)

/-- DRAM_CE is due at an instant: the last one is a second past. -/
def DramCh.ceDue (d : DramCh) (now : Nat) : Bool := d.ceTime.all (fun t => decide (t + sec ≤ now))

/-- What a corrected error at an address leaves of its channel. -/
def DramCh.corrected (d : DramCh) (a : Word) (now : Nat) : DramCh :=
  { d with ce := satInc d.ce 1 0xffffffff
           errAddr := word (a.toNat / 64 * 64)
           ceNew := if d.ceDue now then 0 else d.ceNew + 1
           ceTime := if d.ceDue now then some now else d.ceTime }

theorem State.corrected_eq (s : State) (c : Nat) (a : Word) : ∃ l, s.corrected c a =
    if (s.dram c).ceDue s.now then (s.modDram c (fun d => d.corrected a s.now)).post0 0x00d0 l
    else s.modDram c (fun d => d.corrected a s.now) := by
  unfold State.corrected
  extract_lets d n due v
  have hdue : due = d.ceDue s.now := by
    unfold due DramCh.ceDue
    cases d.ceTime with
    | none => rw [Option.all_none]
    | some t => rw [Option.all_some]
  have hv : v = s.modDram c (fun d => d.corrected a s.now) := State.modDram_congr (by rw [DramCh.corrected, ← hdue])
  rw [hv, hdue]
  exact ⟨_, rfl⟩

theorem DramCh.ceDue_of_past {d : DramCh} {now : Nat} (h : ∀ t, d.ceTime = some t → t + sec ≤ now) : d.ceDue now = true := by
  unfold DramCh.ceDue
  cases ht : d.ceTime with
  | none => rw [Option.all_none]
  | some t => rw [Option.all_some, decide_eq_true (h t ht)]

theorem DramCh.ceDue_of_recent {d : DramCh} {now t : Nat} (ht : d.ceTime = some t) (h : now < t + sec) : d.ceDue now = false := by
  rw [DramCh.ceDue, ht, Option.all_some, decide_eq_false (Nat.not_le.mpr h)]

theorem State.arrayRead_of_clean (h : (s.block b).flips = []) : s.arrayRead b = (s, false) := by
  unfold State.arrayRead
  dsimp only
  rw [MBlock.lost_of_clean h, h]
  rfl

theorem State.arrayRead_of_one {i : Nat} (h : (s.block b).flips = [i]) :
    s.arrayRead b = (s.corrected (channelOf (64 * b)) (word (64 * b)), false) := by
  unfold State.arrayRead
  dsimp only
  rw [MBlock.lost_of_one h, h]
  rfl

theorem State.arrayRead_of_lost (h : (s.block b).lost = true) (hs : siloOf (64 * b) = some silo) :
    s.arrayRead b = (s.uncorrectable (channelOf (64 * b)) silo (word (64 * b)), true) := by
  unfold State.arrayRead
  dsimp only
  rw [if_pos h, hs]
  rfl

/-- The silos that the scrubber reads are those in which an uncorrectable error is a dangerous fault. -/
theorem State.silo_of_scrubbed (h : s.scrubbed b = true) (hs : siloOf (64 * b) = some silo) : silo = 0 ∨ 4 ≤ silo ∧ silo ≤ 7 := by
  unfold State.scrubbed at h
  rw [hs] at h
  split at h
  · next he => exact .inl (Option.some.inj he)
  · next he => exact .inr ⟨(Option.some.inj he).ge, by simp [Option.some.inj he]⟩
  · next he => exact .inr ⟨by simp [Option.some.inj he], by simp [Option.some.inj he]⟩
  · next i _ _ _ he =>
    obtain rfl := Option.some.inj he
    simp at h
    omega
  · next he => simp at he

end

theorem toNat_word {n : Nat} (h : n < 2 ^ 32) : (word n).toNat = n := by
  rw [word, BitVec.toNat_ofNat, Nat.mod_eq_of_lt h]

/-- The accesses of a command change the state one after the other. -/
theorem State.memRun_state (s : State) (o : MemObs) : (s.memRun o).1 = o.ops.foldl (fun s op => (s.memOp op).1) s := by
  unfold State.memRun
  generalize ([] : List Nat) = l
  induction o.ops generalizing s l with
  | nil => rfl
  | cons op ops ih => exact ih _ _

/-! ### Errors counted and handled (R249, R250) -/

section
variable {s : State} {c silo : Nat} {a : Word}

theorem State.corrected_keeps (s : State) (c : Nat) (a : Word) : (s.corrected c a).drm.blocks = s.drm.blocks ∧ (s.corrected c a).sup = s.sup ∧
    (s.corrected c a).saf = s.saf ∧ (s.corrected c a).nv = s.nv ∧ (s.corrected c a).pa = s.pa ∧ (s.corrected c a).pb = s.pb := by
  obtain ⟨l, h⟩ := s.corrected_eq c a
  rw [h]
  split
  · simp [State.modDram]
  · exact ⟨rfl, rfl, rfl, rfl, rfl, rfl⟩

theorem State.corrected_dram (hc : c < s.drm.chans.length) (j : Nat) :
    (s.corrected c a).dram j = if j = c then (s.dram c).corrected a s.now else s.dram j := by
  obtain ⟨l, h⟩ := s.corrected_eq c a
  have hdram : (s.corrected c a).dram j = (s.modDram c (fun d => d.corrected a s.now)).dram j := by
    rw [h]
    split
    · exact State.post0_dram ..
    · rfl
  rw [hdram]
  split
  · next hj => rw [hj, State.dram_modDram_self hc]
  · next hj => exact State.dram_modDram_ne hj _

theorem State.corrected_hif (h : (s.dram c).ceDue s.now = false) : (s.corrected c a).hif = s.hif := by
  obtain ⟨l, heq⟩ := s.corrected_eq c a
  rw [heq, h]
  rfl

theorem State.uncorrectable_eq (s : State) (c silo : Nat) (a : Word) : ∃ (f : DramCh → DramCh) (l : List Word),
    s.uncorrectable c silo a = ((s.modDram c f).post0 0x00d1 l).poisoned silo ∧ ∀ d, (f d).ue = satInc d.ue 1 0xffffffff :=
  ⟨_, _, rfl, fun _ => rfl⟩

theorem State.poisoned_of_fault (h : silo = 0 ∨ 4 ≤ silo ∧ silo ≤ 7) : s.poisoned silo = s.fault 10 :=
  if_pos (by simpa using h)

/-- In the silos of frames the work that read the error answers for it, and nothing else happens. -/
theorem State.poisoned_of_frames (h : silo ∈ [1, 2, 3, 10, 11, 12, 13, 14]) : s.poisoned silo = s := by
  simp only [List.mem_cons, List.not_mem_nil, or_false] at h
  unfold State.poisoned
  rw [if_neg (by simp; omega), if_neg (by omega), if_neg (by omega)]

end

/-! ### What waits at the controller -/

/-- The write queue, the reads in flight, the accesses that found no room, and the bundles in the BND halves. -/
def State.memWait (s : State) : List QWrite × List (Master × Nat) × List MemOp × List (Option Nat) :=
  (s.drm.queue, s.drm.reads, s.drm.stalled, s.drm.bnd)

section
variable (s : State)

theorem State.memWait_congr {t : State} (h : t.drm = s.drm) : t.memWait = s.memWait := by
  rw [State.memWait, h]
  rfl

theorem State.fault_memWait (id : Nat) : (s.fault id).memWait = s.memWait := by
  unfold State.memWait
  obtain h | ⟨n, h⟩ := s.fault_drm id
  · rw [h]
  · rw [h, Drm.awake]
    split <;> rfl

theorem State.corrected_memWait (c : Nat) (a : Word) : (s.corrected c a).memWait = s.memWait := by
  obtain ⟨l, h⟩ := s.corrected_eq c a
  rw [h]
  split
  · exact State.memWait_congr (s.modDram c _) (State.post0_drm ..)
  · rfl

theorem State.uncorrectable_memWait (c silo : Nat) (a : Word) : (s.uncorrectable c silo a).memWait = s.memWait := by
  obtain ⟨f, l, h, -⟩ := s.uncorrectable_eq c silo a
  have hpost : ((s.modDram c f).post0 0x00d1 l).memWait = s.memWait :=
    State.memWait_congr (s.modDram c f) (State.post0_drm ..)
  rw [h, ← hpost]
  unfold State.poisoned
  split
  · exact State.fault_memWait ..
  · split
    · exact State.memWait_congr _ (State.modPl_drm ..)
    · split
      · exact State.memWait_congr _ (State.modPl_drm ..)
      · rfl

theorem State.arrayRead_memWait (b : Nat) : (s.arrayRead b).1.memWait = s.memWait := by
  unfold State.arrayRead
  dsimp only
  split
  · exact State.uncorrectable_memWait ..
  · split
    · rfl
    · exact State.corrected_memWait ..

/-- A write that reaches the array changes nothing of what waits. -/
theorem State.arrayWrite_memWait (q : QWrite) : (s.arrayWrite q).1.memWait = s.memWait := by
  unfold State.arrayWrite
  split
  · rfl
  · exact s.arrayRead_memWait q.block

end

/-! ### Writes that reach the array (R231) -/

section
variable {s : State} {q : QWrite} {b silo : Nat}

theorem State.arrayWrite_of_whole (h : q.whole = true) : s.arrayWrite q = (s.putBlock q.block ⟨q.data, []⟩, []) := if_pos h

theorem State.arrayWrite_of_clean (h : q.whole = false) (hk : (s.block q.block).flips = []) :
    s.arrayWrite q = (s.putBlock q.block ⟨patch (s.block q.block).data q.off q.data, []⟩, []) := by
  unfold State.arrayWrite
  rw [if_neg (by simp [h]), State.arrayRead_of_clean hk]
  rfl

/-- A write of less than a block leaves an uncorrectable error where it was. -/
theorem State.arrayWrite_of_lost (h : q.whole = false) (hk : (s.block q.block).lost = true) (hs : siloOf (64 * q.block) = some silo) :
    ∃ x, (s.arrayWrite q).1 = (s.uncorrectable (channelOf (64 * q.block)) silo (word (64 * q.block))).putBlock q.block x ∧
      x.flips = ((s.uncorrectable (channelOf (64 * q.block)) silo (word (64 * q.block))).block q.block).flips := by
  unfold State.arrayWrite
  rw [if_neg (by simp [h]), State.arrayRead_of_lost hk hs]
  exact ⟨_, rfl, rfl⟩

/-- The bytes of a block after some of them have been written. -/
theorem getElem?_patch {old data : List Byte} {off j : Nat} (ho : old.length = 64) (hd : off + data.length ≤ 64) (hj : j < 64) :
    (patch old off data)[j]? = if off ≤ j ∧ j < off + data.length then data[j - off]? else old[j]? := by
  have hlen : (old.take off).length = off := by
    rw [List.length_take]
    omega
  rw [patch, List.getElem?_take, if_pos hj, List.append_assoc]
  by_cases h1 : j < off
  · rw [List.getElem?_append_left (by omega), List.getElem?_take, if_pos h1, if_neg (by omega)]
  · rw [List.getElem?_append_right (by omega), hlen]
    by_cases h2 : j < off + data.length
    · rw [List.getElem?_append_left (by omega), if_pos (by omega)]
    · rw [List.getElem?_append_right (by omega), List.getElem?_drop, if_neg (by omega)]
      congr 1
      omega

end

/-! ### The room of the masters (R236) -/

section
variable {s : State} {m : Master}

theorem sharedUse_of_none {used : Master → Nat} (h : ∀ m, used m = 0) (reserved : Master → Nat) : sharedUse used reserved = 0 := by
  simp [sharedUse, h]

/-- The other masters, for which nothing is reserved, take all that they use of the shared room. -/
theorem le_sharedUse {used reserved : Master → Nat} (h : reserved .other = 0) : used .other ≤ sharedUse used reserved := by
  simp [sharedUse, h]
  omega

theorem reservedSlots_of_realTime (h : m ≠ .other) : reservedSlots m = 1024 := by
  cases m with
  | rt0 | rt1 | rt2 => rfl
  | other => exact absurd rfl h

theorem State.writeRoom_of_reserved (h : s.writesOf m < reservedWrites m) : s.writeRoom m = true := by
  simp [State.writeRoom, h]

theorem State.readRoom_of_reserved (h : s.readsOf m < reservedSlots m) : s.readRoom m = true := by
  simp [State.readRoom, h]

theorem State.writeRoom_of_empty (h : s.drm.queue = []) (m : Master) : s.writeRoom m = true := by
  simp [State.writeRoom, sharedUse_of_none (used := s.writesOf) fun m => by simp [State.writesOf, h]]

theorem State.readRoom_of_empty (h : s.drm.reads = []) (m : Master) : s.readRoom m = true := by
  simp [State.readRoom, sharedUse_of_none (used := s.readsOf) fun m => by simp [State.readsOf, h]]

theorem State.writeRoom_of_full (h : 512 ≤ s.writesOf .other) (hm : reservedWrites m = 0) : s.writeRoom m = false := by
  have := le_sharedUse (used := s.writesOf) (reserved := reservedWrites) rfl
  simp [State.writeRoom, hm]
  omega

theorem State.readRoom_of_full (h : 5120 ≤ s.readsOf .other) (hm : reservedSlots m = 0) : s.readRoom m = false := by
  have := le_sharedUse (used := s.readsOf) (reserved := reservedSlots) rfl
  simp [State.readRoom, hm]
  omega

variable {a : Word} {data : List Byte}

/-- A write in the queue. -/
def State.queued (s : State) (q : QWrite) : State := { s with drm := { s.drm with queue := s.drm.queue ++ [q] } }

theorem State.issue_write_of_room (hs : ∀ x ∈ s.drm.stalled, opMaster x ≠ some m) (hr : s.writeRoom m = true) :
    s.issue (.write m a data) = s.queued ⟨m, a.toNat / 64, a.toNat % 64, data⟩ := by
  refine if_neg ?_
  rw [hr, List.any_eq_false.mpr fun x hx => by simpa using hs x hx]
  decide

theorem State.issue_read_of_room (hs : ∀ x ∈ s.drm.stalled, opMaster x ≠ some m) (hr : s.readRoom m = true) :
    s.issue (.read m a) = { s with drm := { s.drm with reads := s.drm.reads ++ [(m, a.toNat / 64)] } } := by
  refine if_neg ?_
  rw [hr, List.any_eq_false.mpr fun x hx => by simpa using hs x hx]
  decide

theorem State.issue_write_of_full (hr : s.writeRoom m = false) : s.issue (.write m a data) = s.stall (.write m a data) :=
  if_pos (by rw [hr, Bool.not_false, Bool.or_true])

theorem State.issue_read_of_full (hr : s.readRoom m = false) : s.issue (.read m a) = s.stall (.read m a) :=
  if_pos (by rw [hr, Bool.not_false, Bool.or_true])

end

/-! ### The queue and reads (R235) -/

section
variable {s : State} {m : Master} {b : Nat} {q : QWrite} {a : Word}

theorem State.reissue_of_none (h : s.drm.stalled = []) : s.reissue = s := by
  unfold State.reissue
  rw [h, List.foldl_nil, ← h]

theorem State.queue_nil (h : s.drm.queue = []) : { s with drm := { s.drm with queue := [] } } = s := by rw [← h]

theorem State.reads_nil (h : s.drm.reads = []) : { s with drm := { s.drm with reads := [] } } = s := by rw [← h]

/-- The only write of a queue behind which nothing waits reaches the array. -/
theorem State.drainWrite_queued (hq : s.drm.queue = []) (hs : s.drm.stalled = []) : (s.queued q).drainWrite.1 = (s.arrayWrite q).1 := by
  have hwait := s.arrayWrite_memWait q
  have hstalled : (s.arrayWrite q).1.drm.stalled = [] := by
    simp only [State.memWait, Prod.mk.injEq] at hwait
    exact hwait.2.2.1.trans hs
  unfold State.drainWrite State.queued
  rw [hq]
  dsimp only [List.nil_append]
  rw [State.queue_nil hq]
  exact State.reissue_of_none hstalled

/-- A read answered. -/
def State.gave (s : State) (m : Master) (b : Nat) (data : List Byte) : State :=
  { s with drm := { s.drm with answers := s.drm.answers.set (masterNum m) (some ⟨b, data, false⟩) } }

section
variable {v : State} (hm : s.mergeBlock b = (v, []))
include hm

theorem State.answerRead_from_array (hq : v.drm.queue.filter (fun q => q.block = b) = []) (hk : (v.block b).flips = []) :
    s.answerRead m b = (v.gave m b (v.block b).data, []) := by
  unfold State.answerRead
  rw [hm]
  dsimp only
  rw [hq, List.getLast?_nil, State.arrayRead_of_clean hk]
  rfl

theorem State.answerRead_from_queue (hq : v.drm.queue.filter (fun q => q.block = b) = [q]) :
    s.answerRead m b = (v.gave m b q.data, []) := by
  unfold State.answerRead
  rw [hm]
  dsimp only
  rw [hq, List.getLast?_singleton]
  rfl

end

theorem State.mergeBlock_of_whole (h : ∀ q ∈ s.drm.queue, q.block = b → q.whole = true) : s.mergeBlock b = (s, []) :=
  if_pos (List.all_eq_true.mpr fun q hq => h q (List.mem_filter.mp hq).1 (of_decide_eq_true (List.mem_filter.mp hq).2))

/-- The only write of a queue, of less than a block, is merged before a read of its block (R231). -/
theorem State.mergeBlock_of_part (hq : s.drm.queue = []) (hs : s.drm.stalled = []) (hw : q.whole = false) (hk : (s.block q.block).flips = []) :
    (s.queued q).mergeBlock q.block = (s.putBlock q.block ⟨patch (s.block q.block).data q.off q.data, []⟩, []) := by
  have hmine : (s.queued q).drm.queue.filter (fun r => r.block = q.block) = [q] := by simp [State.queued, hq]
  have hrest : (s.queued q).drm.queue.filter (fun r => r.block ≠ q.block) = [] := by simp [State.queued, hq]
  have hempty : ({ s.queued q with drm := { (s.queued q).drm with queue := [] } } : State) = s := State.queue_nil hq
  have harray : s.arrayWrites [q] = ((s.arrayWrite q).1, [] ++ (s.arrayWrite q).2) := rfl
  unfold State.mergeBlock
  rw [hmine, hrest, hempty]
  dsimp only
  rw [if_neg (by simp [hw]), harray, State.arrayWrite_of_clean hw hk]
  exact congrArg (·, []) (State.reissue_of_none (s := s.putBlock q.block _) hs)

/-- A clean block is answered from the array. -/
theorem State.answerRead_of_unqueued (hq : s.drm.queue = []) (hk : (s.block b).flips = []) :
    s.answerRead m b = (s.gave m b (s.block b).data, []) :=
  State.answerRead_from_array (State.mergeBlock_of_whole (by simp [hq])) (by simp [hq]) hk

/-- A whole block that waits in the queue answers a read of it. -/
theorem State.answerRead_of_whole (hq : s.drm.queue = []) (hb : q.block = b) (hw : q.whole = true) :
    (s.queued q).answerRead m b = ((s.queued q).gave m b q.data, []) := by
  have hqueue : (s.queued q).drm.queue = [q] := congrArg (· ++ [q]) hq
  exact State.answerRead_from_queue (State.mergeBlock_of_whole (by simp [hqueue, hw])) (by simp [hqueue, hb])

/-- Less than a block that waits in the queue is merged, and the block answered from the array. -/
theorem State.CleanBut.answerRead_of_part (hb : s.CleanBut b) (hqb : q.block = b) (hq : s.drm.queue = []) (hs : s.drm.stalled = [])
    (hw : q.whole = false) (hk : (s.block b).flips = []) : (s.queued q).answerRead m b =
      ((s.putBlock b ⟨patch (s.block b).data q.off q.data, []⟩).gave m b
        ((s.putBlock b ⟨patch (s.block b).data q.off q.data, []⟩).block b).data, []) := by
  subst hqb
  refine State.answerRead_from_array (State.mergeBlock_of_part hq hs hw hk) ?_ (by rw [hb.block_putBlock_self])
  rw [State.putBlock, hq, List.filter_nil]

theorem State.egressRead_nil (s : State) (m : Master) : (s.egressRead m []).1 = s := by
  unfold State.egressRead
  split <;> rfl

/-- A read issued while none is in flight, and answered. -/
theorem State.serve_after_read (hr : s.drm.reads = []) (hs : s.drm.stalled = []) {t : State} (h : s.answerRead m (a.toNat / 64) = (t, [])) :
    ((s.memOp (.read m a)).1.memOp (.serve m)).1 = t := by
  have hissue : (s.memOp (.read m a)).1 = { s with drm := { s.drm with reads := [(m, a.toNat / 64)] } } := by
    refine (State.issue_read_of_room (by simp [hs]) (State.readRoom_of_empty hr m)).trans ?_
    rw [hr, List.nil_append]
  have hfree : ({ s with drm := { s.drm with reads := [(m, a.toNat / 64)].erase (m, a.toNat / 64) } } : State).reissue = s := by
    rw [List.erase_cons_head, State.reads_nil hr, State.reissue_of_none hs]
  have hfind : [(m, a.toNat / 64)].find? (fun r => r.1 = m) = some (m, a.toNat / 64) := by simp
  rw [hissue]
  unfold State.memOp State.serveRead
  dsimp only
  rw [hfind]
  dsimp only
  rw [hfree, h]
  exact t.egressRead_nil m

end

/-! ### The clauses on the scrubber -/

section
variable {s : State} {k i silo : Nat} (hb : s.CleanBut k) (hx : (s.block k).flips = [])
include hb hx

/-- A corrected error that the scrubber meets is counted, told of once a second and written back (R249, R251). -/
theorem State.CleanBut.scrub_one_flip (hlen : s.drm.chans.length = 4) (hs : s.scrubbed k = true) :
    ∃ t, (s.putBlock k ((s.block k).flip i)).scrub = t ∧ t.block k = s.block k ∧ (∀ j, j ≠ k → t.block j = s.block j) ∧
      t.dram (channelOf (64 * k)) = (s.dram (channelOf (64 * k))).corrected (word (64 * k)) s.now ∧
      (∀ j, j ≠ channelOf (64 * k) → t.dram j = s.dram j) ∧
      ((s.dram (channelOf (64 * k))).ceDue s.now = false → t.hif = s.hif) ∧
      t.sup = s.sup ∧ t.saf = s.saf ∧ t.nv = s.nv ∧ t.pa = s.pa ∧ t.pb = s.pb := by
  set c := channelOf (64 * k)
  have hc : c < s.drm.chans.length := by
    rw [hlen]
    exact channelOf_lt _
  set v := s.putBlock k ((s.block k).flip i) with hv
  have hvb : v.CleanBut k := hb.putBlock _
  have hvk : v.block k = { s.block k with flips := [i] } := by rw [hb.block_putBlock_self, MBlock.flip_of_clean hx]
  obtain ⟨hblocks, hsup, hsaf, hnv, hpa, hpb⟩ := v.corrected_keeps c (word (64 * k))
  have hwb := hvb.congr hblocks
  have hwblock : ∀ j, (v.corrected c (word (64 * k))).block j = v.block j := fun j => by rw [State.block, hblocks, State.block]
  have hscrub : v.scrub = (v.corrected c (word (64 * k))).putBlock k (s.block k) := by
    rw [hvb.scrub_of_flips (by simp [hvk]) hs, State.scrubBlock, State.arrayRead_of_one (by rw [hvk])]
    dsimp only
    rw [if_neg Bool.false_ne_true, hwblock, hvk, ← hx]
  refine ⟨_, hscrub, hwb.block_putBlock_self _, fun j hj => ?_, ?_, fun j hj => ?_, fun hdue => ?_, hsup, hsaf, hnv, hpa, hpb⟩
  · rw [hwb.block_putBlock_ne _ hj, hwblock, hb.block_putBlock_ne _ hj]
  · exact (State.corrected_dram (s := v) hc c).trans (if_pos rfl)
  · exact (State.corrected_dram (s := v) hc j).trans (if_neg hj)
  · exact State.corrected_hif (s := v) hdue

/-- An uncorrectable error that the scrubber meets is a dangerous fault, and stays (R250). -/
theorem State.CleanBut.scrub_two_flips (hl : s.live = true) (hlen : s.drm.chans.length = 4) (hs : s.scrubbed k = true)
    (hsilo : siloOf (64 * k) = some silo) (hi : i < 576) (hw : i % 72 < 71) (h10 : 10 ∉ s.saf.decided) :
    ∃ t, (s.putBlock k (((s.block k).flip i).flip (i + 1))).scrub = t ∧ t.mode = .safe ∧ t.saf.decided = s.saf.decided ++ [10] ∧
      (t.dram (channelOf (64 * k))).ue = satInc (s.dram (channelOf (64 * k))).ue 1 0xffffffff ∧ (t.block k).flips = [i, i + 1] ∧
      t.nv = s.nv := by
  set c := channelOf (64 * k)
  have hc : c < s.drm.chans.length := by
    rw [hlen]
    exact channelOf_lt _
  set v := s.putBlock k (((s.block k).flip i).flip (i + 1)) with hv
  have hvk : v.block k = { s.block k with flips := [i, i + 1] } := by
    rw [hb.block_putBlock_self, MBlock.flip_of_clean hx, MBlock.flip_next]
  obtain ⟨f, l, hue, hf⟩ := v.uncorrectable_eq c silo (word (64 * k))
  set w := (v.modDram c f).post0 0x00d1 l with hwdef
  have hscrub : v.scrub = w.fault 10 := by
    rw [(hb.putBlock _).scrub_of_flips (by rw [← hv, hvk]; simp) hs, ← hv, State.scrubBlock,
      State.arrayRead_of_lost (MBlock.lost_of_two (by rw [hvk]) hi hw) hsilo, hue,
      State.poisoned_of_fault (State.silo_of_scrubbed hs hsilo)]
    exact if_pos rfl
  have hsaf : w.saf = s.saf := State.post0_saf ..
  have hmode : w.mode = s.mode := congrArg Sup.mode (State.post0_sup ..)
  obtain ⟨hsafe, hdec, -, -, -, hnv⟩ := w.fault_decides 10 (hsaf ▸ h10) (hmode ▸ State.mode_ne_off_of_live hl)
  obtain ⟨r, hr⟩ := w.fault_dram 10 c
  have hdram : w.dram c = f (s.dram c) := (State.post0_dram ..).trans (State.dram_modDram_self (s := v) hc f)
  refine ⟨_, hscrub, hsafe, hdec.trans (by rw [hsaf]), ?_, ?_, hnv.trans (State.post0_nv ..)⟩
  · rw [hr, hdram]
    exact hf _
  · rw [State.fault_block, hwdef, State.post0_block]
    exact congrArg MBlock.flips hvk

end

/-! ### The clauses on the queue -/

section
variable {s t : State} {m w : Master} {a : Word} {data : List Byte} (hs : s.drm.stalled = [])
include hs

theorem State.memOp_write (hq : s.drm.queue = []) : (s.memOp (.write w a data)).1 = s.queued ⟨w, a.toNat / 64, a.toNat % 64, data⟩ :=
  State.issue_write_of_room (by simp [hs]) (State.writeRoom_of_empty hq w)

theorem State.memRun_write_drain (hq : s.drm.queue = []) :
    (s.memRun ⟨[.write w a data, .drain]⟩).1 = (s.arrayWrite ⟨w, a.toNat / 64, a.toNat % 64, data⟩).1 := by
  rw [State.memRun_state, List.foldl_cons, List.foldl_cons, List.foldl_nil, State.memOp_write hs hq]
  exact State.drainWrite_queued hq hs

theorem State.memRun_read (hr : s.drm.reads = []) (h : s.answerRead m (a.toNat / 64) = (t, [])) :
    (s.memRun ⟨[.read m a, .serve m]⟩).1 = t := by
  rw [State.memRun_state, List.foldl_cons, List.foldl_cons, List.foldl_nil]
  exact State.serve_after_read hr hs h

theorem State.memRun_write_read (hq : s.drm.queue = []) (hr : s.drm.reads = [])
    (h : (s.queued ⟨w, a.toNat / 64, a.toNat % 64, data⟩).answerRead m (a.toNat / 64) = (t, [])) :
    (s.memRun ⟨[.write w a data, .read m a, .serve m]⟩).1 = t := by
  rw [State.memRun_state, List.foldl_cons, List.foldl_cons, List.foldl_cons, List.foldl_nil, State.memOp_write hs hq]
  exact State.serve_after_read (s := s.queued _) hr hs h

end

section
variable {s : State} {k : Nat} (hb : s.CleanBut k)
include hb

/-- A write leaves a clean block, in which the scrubber finds nothing. -/
theorem State.CleanBut.scrub_putBlock (data : List Byte) : (s.putBlock k ⟨data, []⟩).scrub = s.putBlock k ⟨data, []⟩ :=
  (hb.putBlock _).scrub_of_clean (.inl (by rw [hb.block_putBlock_self]))

/-- A read answered leaves a clean block clean. -/
theorem State.CleanBut.scrub_gave (hk : (s.block k).flips = []) (m : Master) (b : Nat) (data : List Byte) :
    (s.gave m b data).scrub = s.gave m b data :=
  (hb.congr (t := s.gave m b data) rfl).scrub_of_clean (.inl hk)

/-- A write of less than a block onto an uncorrectable error, in a silo that the scrubber does not read (R231, R250). -/
theorem State.CleanBut.scrub_lost_write {q : QWrite} {silo : Nat} (hk : q.block = k) (hw : q.whole = false) (hlen : s.drm.chans.length = 4)
    (hlost : (s.block k).lost = true) (hs : s.scrubbed k = false) (hsilo : siloOf (64 * k) = some silo)
    (hframes : silo ∈ [1, 2, 3, 10, 11, 12, 13, 14]) : ∃ t, (s.arrayWrite q).1.scrub = t ∧ (t.block k).flips = (s.block k).flips ∧
      (t.dram (channelOf (64 * k))).ue = satInc (s.dram (channelOf (64 * k))).ue 1 0xffffffff ∧ t.mode = s.mode ∧ t.nv = s.nv := by
  subst hk
  set c := channelOf (64 * q.block)
  obtain ⟨x, hwrite, hflips⟩ := State.arrayWrite_of_lost hw hlost hsilo
  obtain ⟨f, l, hue, hf⟩ := s.uncorrectable_eq c silo (word (64 * q.block))
  rw [State.poisoned_of_frames hframes] at hue
  rw [hue] at hwrite hflips
  set v := (s.modDram c f).post0 0x00d1 l with hv
  have hdrm : v.drm = (s.modDram c f).drm := State.post0_drm ..
  have hvb : v.CleanBut q.block := hb.congr (by rw [hdrm]; rfl)
  have hscrub : (v.putBlock q.block x).scrub = v.putBlock q.block x :=
    (hvb.putBlock x).scrub_of_clean (.inr ((State.scrubbed_congr (s := s) (by
      rw [State.putBlock, hdrm]
      rfl) _).trans hs))
  rw [hwrite]
  refine ⟨_, hscrub, ?_, ?_, congrArg Sup.mode (State.post0_sup (s.modDram c f) ..), State.post0_nv (s.modDram c f) ..⟩
  · rw [hvb.block_putBlock_self, hflips, hv, State.post0_block]
    rfl
  · have hdram : (v.putBlock q.block x).dram c = f (s.dram c) :=
      (State.post0_dram ..).trans (State.dram_modDram_self (by rw [hlen]; exact channelOf_lt _) f)
    rw [hdram]
    exact hf _

end

/-- Settles O49: the debt by the interval and the batch, the polls by the rate that is applied, the guard by its turn, and the accesses
one after the other, where one block alone may hold turned bits. -/
theorem frameMemory : Obligations.FrameMemory := by
  unfold Obligations.FrameMemory
  refine ⟨?_, ?_, ?_, ?_, ?_, ?_⟩
  · rintro dt c ports d at_ s u v rfl hl rfl hlen rfl rfl
    rw [exec_refreshInterval_of_live hl, exec_allBankRefresh_of_live hl]
    generalize (s.elapse dt).portsSeen ports = v at *
    have hc : c.val < v.drm.chans.length := c.isLt.trans_eq hlen.symm
    refine ⟨fun h => ?_, fun hs hi hn => ⟨fun h => ?_, fun hf hd => ?_⟩, fun h => ?_, fun hd hp hn => ?_, State.panicking_iff⟩
    · rw [State.refreshInterval_of_early h]
    · rw [State.refreshInterval_of_due hs hi hn]
      refine congrArg Host.Outcome.next (State.batchDue_of_open ?_)
      rw [State.dram_modDram_self hc]
      exact h
    · obtain ⟨t, heq, hdram, hforced, hother, hrest⟩ := State.refreshInterval_of_limit hc hs hi hn hf hd
      exact ⟨t, congrArg Host.Outcome.next heq, hdram, hforced, hother, by rw [hrest]⟩
    · rw [State.allBankRefresh_of_none h]
    · obtain ⟨hdebt, hdone, hforced, hbatch, hother, hrest⟩ := State.allBankRefresh_of_due hc hd hp hn
      exact ⟨_, rfl, hdebt, hdone, hforced, hbatch, hother, by rw [hrest]⟩
  · rintro dt c d x s u rfl hl hlen rfl
    simp only [exec_refreshStatusPoll_of_live hl]
    generalize s.elapse dt = u at *
    have hc : c.val < u.drm.chans.length := c.isLt.trans_eq hlen.symm
    refine ⟨fun hr h hlo hhi => ?_, fun hr h hlo hhi => ?_, fun hr hf hd hlo hhi => ?_, fun hx hr h9 hm => ?_, fun h8 hm => ?_⟩
    · exact congrArg Host.Outcome.next (State.statusPoll_of_usual hr h hlo hhi)
    · exact congrArg Host.Outcome.next (State.statusPoll_of_doubled hc hr hlo hhi h)
    · exact ⟨_, rfl, State.statusPoll_of_doubled_limit hc hr hlo hhi hf hd⟩
    · obtain ⟨hmode, hdec, hnv⟩ := State.statusPoll_drift_faults hl hr hx h9
      exact ⟨_, rfl, hmode, hdec, hnv⟩
    · obtain ⟨l, hmode, hdec, hrate, hnv⟩ := State.statusPoll_rate_faults (x := x) hl hc h8
      exact ⟨_, l, rfl, hmode, hdec, hrate, hnv⟩
  · rintro dt n c b row rt m d s u rfl hl hlen rfl
    rw [exec_guardAction_of_live hl, exec_activationWindow_of_live hl]
    simp only [exec_scrubberPass_of_live hl]
    generalize s.elapse dt = u at *
    have hc : c.val < u.drm.chans.length := c.isLt.trans_eq hlen.symm
    refine ⟨fun e he hn => ?_, fun h => ?_, fun hb h => ?_, fun e hb he hn hm => ?_, fun e he hn => ?_, fun h => ?_⟩
    · rw [State.guardAction_of_early he hn]
    · obtain ⟨t, heq, hhits, hch, hbank, hrow, hguarded, hdram, hsilent, hrest⟩ := State.guardAction_of_turn hc h
      refine ⟨t, congrArg Host.Outcome.next heq, hhits, hch, hbank, hrow, ?_, ?_, ?_, fun r => ?_, fun hdue => ?_, fun hb => ?_, ?_⟩
      · rw [hdram]
        rfl
      · rw [hdram]
        exact DramCh.mem_guarded_reported ..
      · rw [hdram, DramCh.guarded_count]
      · rw [hguarded]
        exact mem_adjacentRows row.isLt
      · rw [hdram]
        exact DramCh.guarded_limited _ _ _ _ _ hdue
      · rw [hsilent hb]
      · rw [hrest]
    · obtain ⟨y, heq, hcount, hdue⟩ := State.activate_of_unlimited (row := row.toNat) (n := n) h (m ≠ .other)
      have hscrub : (u.modDram c.val (fun _ => y)).scrub = u.modDram c.val (fun _ => y) := State.scrub_of_clean fun e he => .inl (hb e he)
      have hdram := State.dram_modDram_self hc (fun _ => y)
      refine ⟨u.modDram c.val (fun _ => y), ?_, ?_, ?_, rfl⟩
      · rw [State.memRun_state]
        exact congrArg Host.Outcome.next ((congrArg State.scrub heq).trans hscrub)
      · rw [hdram]
        exact hcount
      · rw [hdram]
        exact hdue
    · subst hm
      rw [State.memRun_state]
      have heq := State.activate_of_none (row := row.toNat) (DramCh.allowed_of_recent he hn n)
      exact congrArg Host.Outcome.next ((congrArg State.scrub heq).trans (State.scrub_of_clean fun e he => .inl (hb e he)))
    · rw [State.clearActivation_of_due he hn]
    · rw [State.clearActivation_of_early h]
  · rintro dt k i silo x c d a s u rfl hl hlen hok hothers hk rfl hsilo rfl rfl rfl hi
    simp only [exec_scrubberPass_of_live hl, State.memRun_state, List.foldl_cons, List.foldl_nil]
    generalize s.elapse dt = u at *
    have hb := State.cleanBut_of_blocks hok hothers
    have haddr : (word (64 * k)).toNat = 64 * k := toNat_word (by omega)
    have hblock : (word (64 * k)).toNat / 64 = k := by omega
    have hflip : ∀ bits, (u.memOp (.flip (word (64 * k)) bits)).1 = u.putBlock k (bits.foldl MBlock.flip (u.block k)) := fun bits => by
      rw [State.memOp, hblock]
    simp only [hflip, List.foldl_cons, List.foldl_nil]
    refine ⟨fun hx => ?_, fun hx hs => ?_, fun hs => ?_, fun hx hs hw h10 hm => ?_⟩
    · rw [hb.scrub_of_clean (.inl hx)]
    · obtain ⟨t, heq, hself, hother, hdram, hchans, hquiet, hsup, hsaf, hnv, hpa, hpb⟩ := hb.scrub_one_flip (i := i) hx hlen hs
      refine ⟨t, congrArg Host.Outcome.next heq, hself, ?_, ?_, hchans, hother, fun hpast => ?_, fun e he hn => ?_, congrArg Sup.mode hsup,
        hsaf, hnv, hpa, hpb⟩
      · rw [hdram]
        rfl
      · rw [hdram, DramCh.corrected, haddr, Nat.mul_div_cancel_left k (by decide), Nat.mul_comm]
      · rw [hdram, DramCh.corrected, DramCh.ceDue_of_past hpast]
        exact ⟨rfl, rfl⟩
      · have hdue := DramCh.ceDue_of_recent he hn
        rw [hdram, DramCh.corrected, hdue]
        exact ⟨he, rfl, hquiet hdue⟩
    · rw [(hb.putBlock _).scrub_of_clean (.inr hs)]
    · obtain ⟨t, heq, hmode, hdec, hue, hbits, hnv⟩ := hb.scrub_two_flips hx hl hlen hs hsilo hi hw h10
      exact ⟨t, congrArg Host.Outcome.next heq, hmode, hdec, hue, hbits, hnv⟩
  · rintro dt k off silo p m w x a data s u rfl hl hlen hans hq hr hs hok hothers hk rfl hx rfl hpos hfit rfl hsilo
    simp only [exec_scrubberPass_of_live hl]
    generalize s.elapse dt = u at *
    have hb := State.cleanBut_of_blocks hok hothers
    have haddr : (word (64 * k + off)).toNat = 64 * k + off := toNat_word (by omega)
    have hblock : (word (64 * k + off)).toNat / 64 = k := by omega
    have hoff : (word (64 * k + off)).toNat % 64 = off := by omega
    have hp : masterNum m < u.drm.answers.length := hans ▸ (by cases m <;> decide)
    have hpart (h : data.length < 64) : (⟨w, k, off, data⟩ : QWrite).whole = false := by
      simp [QWrite.whole]
      omega
    have hwhole (h : data.length = 64) : (⟨w, k, off, data⟩ : QWrite).whole = true := by
      simp [QWrite.whole, h]
      omega
    have hwrite := State.memRun_write_drain (w := w) (a := word (64 * k + off)) (data := data) hs hq
    have hread (t : State) := State.memRun_read (m := m) (a := word (64 * k + off)) (t := t) hs hr
    have hboth (t : State) := State.memRun_write_read (m := m) (w := w) (a := word (64 * k + off)) (data := data) (t := t) hs hq hr
    simp only [hblock, hoff] at hwrite hread hboth
    refine ⟨fun hd => ?_, fun hd hclean => ?_, fun hd hlost hsc hframes => ?_, fun hclean => ?_, fun hd hclean => ?_, fun hd hclean => ?_⟩
    · rw [hwrite, State.arrayWrite_of_whole (hwhole hd)]
      exact ⟨_, congrArg Host.Outcome.next (hb.scrub_putBlock data), hb.block_putBlock_self _, hq, fun j hj => hb.block_putBlock_ne _ hj,
        rfl, rfl⟩
    · rw [hwrite, State.arrayWrite_of_clean (hpart hd) hclean]
      refine ⟨_, congrArg Host.Outcome.next (hb.scrub_putBlock _), ?_, hq, fun j hj => ?_, fun j hj => hb.block_putBlock_ne _ hj, rfl⟩
      · rw [hb.block_putBlock_self]
      · rw [hb.block_putBlock_self]
        exact getElem?_patch hx hfit hj
    · obtain ⟨t, heq, hflips, hue, hmode, hnv⟩ := hb.scrub_lost_write (q := ⟨w, k, off, data⟩) rfl (hpart hd) hlen hlost hsc hsilo hframes
      rw [hwrite]
      exact ⟨t, congrArg Host.Outcome.next heq, hflips, hue, hmode, hnv⟩
    · rw [hread _ (State.answerRead_of_unqueued hq hclean)]
      exact ⟨_, congrArg Host.Outcome.next (hb.scrub_gave hclean m k _), hr, List.getElem?_set_self hp, rfl, rfl⟩
    · rw [hboth _ (State.answerRead_of_whole hq rfl (hwhole hd))]
      exact ⟨_, congrArg Host.Outcome.next ((hb.congr (t := u.queued _) rfl).scrub_gave hclean m k data), List.getElem?_set_self hp, rfl,
        congrArg (fun l => (l ++ [_]).length) hq, rfl⟩
    · rw [hboth _ (hb.answerRead_of_part rfl hq hs (hpart hd) hclean)]
      have hself := hb.block_putBlock_self ⟨patch (u.block k).data off data, []⟩
      refine ⟨_, congrArg Host.Outcome.next ((hb.putBlock _).scrub_gave (by rw [hself]) m k _), List.getElem?_set_self hp, hq,
        fun j hj => ?_, rfl⟩
      exact (congrArg (fun x : MBlock => x.data[j]?) hself).trans (getElem?_patch hx hfit hj)
  · rintro dt m a data s u rfl hl hclean hs
    simp only [exec_scrubberPass_of_live hl, State.memRun_state, List.foldl_cons, List.foldl_nil]
    generalize s.elapse dt = u at *
    have hscrub : ∀ t : State, t.drm.blocks = u.drm.blocks → t.scrub = t := fun t ht =>
      State.scrub_of_clean fun e he => .inl (hclean e (ht ▸ he))
    refine ⟨fun hm h => ?_, fun hm h => ?_, fun h hm => ?_, fun h hm => ?_⟩
    · have hroom : u.writeRoom m = true := State.writeRoom_of_reserved (by obtain rfl | rfl := hm <;> exact h)
      rw [State.memOp, State.issue_write_of_room hs hroom]
      exact congrArg Host.Outcome.next (hscrub _ rfl)
    · have hroom : u.readRoom m = true := State.readRoom_of_reserved (by rwa [reservedSlots_of_realTime hm])
      rw [State.memOp, State.issue_read_of_room hs hroom]
      exact congrArg Host.Outcome.next (hscrub _ rfl)
    · have hroom : u.writeRoom m = false := State.writeRoom_of_full h (by obtain rfl | rfl := hm <;> rfl)
      rw [State.memOp, State.issue_write_of_full hroom]
      exact congrArg Host.Outcome.next (hscrub _ rfl)
    · have hroom : u.readRoom m = false := State.readRoom_of_full h (by rw [hm]; rfl)
      rw [State.memOp, State.issue_read_of_full hroom]
      exact congrArg Host.Outcome.next (hscrub _ rfl)

end Sys2Proof.Machine

namespace Sys2Proof.Machine

/-! ## The registers of the precision converters (11 R259, R260, R262) -/

section
variable {s : State} {dt : Nat} (hl : (s.elapse dt).live = true)
include hl

theorem exec_pcvCtrl_of_live (v : Word) : exec (.pcvCtrl dt v) s = .next ((s.elapse dt).writePcvCtrl v) :=
  congrArg Host.Outcome.next (State.run_of_live hl _)

theorem exec_pcvEntryCfg_of_live (i : Fin 16) (v : Word) : exec (.pcvEntryCfg dt i v) s = .next ((s.elapse dt).writeEntryCfg i.val v) :=
  congrArg Host.Outcome.next (State.run_of_live hl _)

theorem exec_pcvUrg_of_live (v : Word) : exec (.pcvUrg dt v) s = .next ((s.elapse dt).writePcvUrg v) :=
  congrArg Host.Outcome.next (State.run_of_live hl _)

theorem exec_pcvSwtrig_of_live (v : Word) : exec (.pcvSwtrig dt v) s = .next ((s.elapse dt).writeSwtrig v) :=
  congrArg Host.Outcome.next (State.run_of_live hl _)

end

/-! ### PCV_CTRL and PCV_ENTRY_CFG (R259) -/

section
variable {s : State} {v : Word} {i : Nat}

theorem State.writePcvCtrl_of_loads (h0 : modLoad (word (fld v 1 0)) s.entryRegs 0 ≤ 8000)
    (h1 : modLoad (word (fld v 1 0)) s.entryRegs 1 ≤ 8000) :
    s.writePcvCtrl v = { s with pcv := { s.pcv with newCtrl := some (word (fld v 1 0)) } } := by
  simp [State.writePcvCtrl, Nat.not_lt.mpr h0, Nat.not_lt.mpr h1]

theorem State.writePcvCtrl_of_overload {m : Nat} (hm : m < 2) (h : 8000 < modLoad (word (fld v 1 0)) s.entryRegs m) :
    s.writePcvCtrl v = s.cfgError := by
  obtain rfl | rfl : m = 0 ∨ m = 1 := by omega
  · simp [State.writePcvCtrl, h]
  · simp [State.writePcvCtrl, h]

theorem State.writeEntryCfg_fixed (h : i < 7) : s.writeEntryCfg i v = s.post0 0x0003 [word (0xc040 + 16 * i)] := if_pos h

/-- A write that disables a host entry meets the check of LENS_SRC alone. -/
theorem State.writeEntryCfg_of_disabled (h : 7 ≤ i) (he : cfgEn v = false) (hd : s.dropsLens i v = false) :
    s.writeEntryCfg i v = s.modEntry i (fun e => { e with newCfg := some v }) := by
  simp [State.writeEntryCfg, Nat.not_lt.mpr h, he, hd]

/-- A write that leaves an entry enabled takes nothing from LENS_SRC. -/
theorem State.dropsLens_of_enabled (he : cfgEn v = true) : s.dropsLens i v = false := by
  simp [State.dropsLens, he]

theorem State.writeEntryCfg_of_enabled (h : 7 ≤ i) (he : cfgEn v = true) (hlo : 6 ≤ cfgChan v) (hhi : cfgChan v ≤ 11)
    (ho : fld v 16 15 < 3) (hx : cfgExc v < 3) (hmin : 8 ≤ fld v 12 0) (hmax : fld v 12 0 ≤ 4096)
    (hload : ∀ m, m < 2 → modLoad (s.pcv.newCtrl.getD s.pcv.ctrl) (s.entryRegs.set i v) m ≤ 8000) :
    s.writeEntryCfg i v = s.modEntry i (fun e => { e with newCfg := some v }) := by
  have h0 := hload 0 (by decide)
  have h1 := hload 1 (by decide)
  simp [State.writeEntryCfg, State.dropsLens_of_enabled he, Nat.not_lt.mpr h, Nat.not_lt.mpr hlo, Nat.not_lt.mpr hhi, ho.ne, hx.ne,
    Nat.not_lt.mpr hmin, Nat.not_lt.mpr hmax, Nat.not_lt.mpr h0, Nat.not_lt.mpr h1]

theorem State.writeEntryCfg_of_overload {m : Nat} (h : 7 ≤ i) (he : cfgEn v = true) (hm : m < 2)
    (hload : 8000 < modLoad (s.pcv.newCtrl.getD s.pcv.ctrl) (s.entryRegs.set i v) m) :
    s.writeEntryCfg i v = s.cfgError := by
  obtain rfl | rfl : m = 0 ∨ m = 1 := by omega
  · simp [State.writeEntryCfg, Nat.not_lt.mpr h, he, hload]
  · simp [State.writeEntryCfg, Nat.not_lt.mpr h, he, hload]

end

/-! ### PCV_URG (R262) -/

theorem cfgMod_lt (c : Word) : cfgMod c < 2 := fld_lt c 30 30

theorem State.modu_setModu (s : State) (m j : Nat) (x : Modulator) :
    (s.setModu m x).modu j = if m = j ∧ m < s.pcv.mods.length then x else s.modu j := by
  simp only [State.modu, State.setModu, List.getD_eq_getElem?_getD, List.getElem?_set]
  split <;> rename_i hj
  · subst hj
    split <;> rename_i hm <;> simp [hm]
  · simp [hj]

theorem State.modu_setModu_self {s : State} {m : Nat} (h : m < s.pcv.mods.length) (x : Modulator) : (s.setModu m x).modu m = x := by
  rw [State.modu_setModu, if_pos ⟨rfl, h⟩]

theorem State.modu_setModu_ne {s : State} {m j : Nat} (h : m ≠ j) (x : Modulator) : (s.setModu m x).modu j = s.modu j := by
  rw [State.modu_setModu, if_neg (fun e => h e.1)]

section
variable {s : State} {m t : Nat}

/-- The clash of R261 is with the other modulator's conversion, which a change of this one leaves. -/
theorem State.excClash_setModu (x : Modulator) (hm : m < 2) (c : Word) : (s.setModu m x).excClash m c = s.excClash m c := by
  rw [State.excClash, State.excClash, State.modu_setModu_ne (by omega)]

/-- A modulator with nothing else to do starts the urgent request in its slot. -/
theorem State.nextConv_of_urgent {u : Urg} (hn : (s.modu m).now = none) (hq : (s.modu m).queue = []) (hu : (s.modu m).urg = some u)
    (hx : s.excClash m (s.entry u.entry).cfg = false) : s.nextConv m t = s.startConv m u.entry t true [] := by
  simp [State.nextConv, hn, hq, hu, hx]

theorem State.putUrgent_of_empty (h : (s.modu m).urg = none) (r : Urg) :
    s.putUrgent m r = some (s.setModu m { s.modu m with urg := some r }) := by
  simp [State.putUrgent, h]

theorem State.kickUrgent_of_idle (h : (s.modu m).now = none) : s.kickUrgent m = s.nextConv m s.now := by
  simp [State.kickUrgent, h]

/-- A request put into the slot of a modulator at rest starts at once. -/
theorem State.kickUrgent_of_rest {r : Urg} (hm : m < 2) (hlen : s.pcv.mods.length = 2) (hn : (s.modu m).now = none)
    (hq : (s.modu m).queue = []) (hx : s.excClash m (s.entry r.entry).cfg = false) :
    (s.setModu m { s.modu m with urg := some r }).kickUrgent m =
      (s.setModu m { s.modu m with urg := some r }).startConv m r.entry s.now true [] := by
  have hself := State.modu_setModu_self (hm.trans_eq hlen.symm) { s.modu m with urg := some r }
  rw [State.kickUrgent_of_idle (by rw [hself]; exact hn)]
  exact State.nextConv_of_urgent (by rw [hself]; exact hn) (by rw [hself]; exact hq) (by rw [hself]) ((s.excClash_setModu _ hm _).trans hx)

theorem State.startConv_setModu (hm : m < s.pcv.mods.length) (x : Modulator) (e : Nat) (urgent : Bool) (queue : List Nat) :
    (s.setModu m x).startConv m e t urgent queue = s.setModu m { x with
      now := some ⟨e, (s.entry e).cfg, t, t + (cfgClocks (s.entry e).cfg + (if x.cold || x.recover then 64 else 0)) * modClk, urgent⟩,
      queue := queue, recover := false, cold := false } := by
  rw [State.startConv, State.modu_setModu_self hm]
  simp [State.setModu, State.entry]

end

/-- The state as a request of the host has been noted in PCV_URG_STAT. -/
def State.asked (s : State) (e : Nat) : State :=
  { s with pcv := { s.pcv with urgNo := s.pcv.urgNo + 1, urgEntry := e, urgStatus := 0 } }

section
variable {s : State} {e : Nat}

theorem State.hostUrgent_of_bad (h : s.urgBad e = true) :
    s.hostUrgent e = { s with pcv := { s.pcv with urgNo := s.pcv.urgNo + 1, urgEntry := e, urgStatus := 2 } } := by
  have hb : (s.asked e).urgBad e = true := h
  have heq : s.hostUrgent e = (s.asked e).urgStat (s.pcv.urgNo + 1) 2 := if_pos hb
  exact heq.trans (if_pos rfl)

theorem State.hostUrgent_of_put {t : State} (hb : s.urgBad e = false)
    (hp : (s.asked e).putUrgent (cfgMod (s.entry e).cfg) ⟨e, false, s.pcv.urgNo + 1⟩ = some t) :
    s.hostUrgent e = t.kickUrgent (cfgMod (s.entry e).cfg) := by
  unfold State.hostUrgent
  extract_lets no _ noted m
  have hput : noted.putUrgent m ⟨e, false, no⟩ = some t := hp
  rw [if_neg (show ¬noted.urgBad e = true from Bool.eq_false_iff.mp hb), hput]
  rfl

/-- An accepted request of the host starts its conversion where its modulator is at rest. -/
theorem State.hostUrgent_of_rest {m : Nat} (hb : s.urgBad e = false) (hm : m = cfgMod (s.entry e).cfg) (hlen : s.pcv.mods.length = 2)
    (hn : (s.modu m).now = none) (hq : (s.modu m).queue = []) (hu : (s.modu m).urg = none) (hx : s.excClash m (s.entry e).cfg = false) :
    s.hostUrgent e = (s.asked e).setModu m { s.modu m with
      now := some ⟨e, (s.entry e).cfg, s.now, s.now + (cfgClocks (s.entry e).cfg +
        (if (s.modu m).cold || (s.modu m).recover then 64 else 0)) * modClk, true⟩,
      queue := [], urg := some ⟨e, false, s.pcv.urgNo + 1⟩, recover := false, cold := false } := by
  subst hm
  have hm := cfgMod_lt (s.entry e).cfg
  have hput := State.putUrgent_of_empty (s := s.asked e) hu ⟨e, false, s.pcv.urgNo + 1⟩
  rw [State.hostUrgent_of_put hb hput]
  have hkick := State.kickUrgent_of_rest (s := s.asked e) (r := ⟨e, false, s.pcv.urgNo + 1⟩) hm hlen hn hq hx
  rw [hkick, State.startConv_setModu (s := s.asked e) (hm.trans_eq hlen.symm)]
  rfl

end

/-! ### PCV_SWTRIG (R260) -/

/-- A word of one bit names one host entry. -/
theorem filter_bit_of_one {i : Nat} (h7 : 7 ≤ i) (h16 : i < 16) :
    ((List.range 16).drop 7).filter (fun j => bit (word (2 ^ i)) j) = [i] := by
  have hbit : ∀ j ∈ (List.range 16).drop 7, bit (word (2 ^ i)) j = decide (i = j) := by
    intro j hj
    have hlt : j < 16 := List.mem_range.mp (List.mem_of_mem_drop hj)
    rw [bit_eq_getLsbD, word, BitVec.getLsbD_ofNat, Nat.testBit_two_pow, decide_eq_true (show j < 32 by omega), Bool.true_and]
  have hone : ∀ i < 16, 7 ≤ i → ((List.range 16).drop 7).filter (fun j => decide (i = j)) = [i] := by decide
  rw [List.filter_congr hbit, hone i h16 h7]

/-- A write of one bit requests its entry's conversion, unless it has been requested. -/
theorem State.writeSwtrig_one (s : State) {i : Nat} (h7 : 7 ≤ i) (h16 : i < 16) : s.writeSwtrig (word (2 ^ i)) =
    if s.pcv.swtrig / 2 ^ i % 2 = 1 then s else { s with pcv := { s.pcv with swtrig := s.pcv.swtrig + 2 ^ i } } := by
  simp only [State.writeSwtrig, Bool.and_comm (bit _ _), ← List.filter_filter, filter_bit_of_one h7 h16]
  by_cases h : s.pcv.swtrig / 2 ^ i % 2 = 1
  · simp [h]
  · simp [Nat.mod_two_ne_one.mp h]

/-- Settles O37: each write by the checks that it meets, and a request to a modulator at rest as the start of its conversion. -/
theorem converterRegisters : Obligations.ConverterRegisters := by
  unfold Obligations.ConverterRegisters
  rintro dt v s u rfl hl
  simp only [exec_pcvCtrl_of_live hl, exec_pcvEntryCfg_of_live hl, exec_pcvUrg_of_live hl, exec_pcvSwtrig_of_live hl]
  generalize s.elapse dt = u at *
  refine ⟨?_, ?_, ?_, ?_, ?_, ?_, ?_, ?_, ?_, ?_, ?_⟩
  · rintro c rfl h0 h1
    rw [State.writePcvCtrl_of_loads h0 h1]
  · rintro c m rfl hm h
    rw [State.writePcvCtrl_of_overload hm h]
    rfl
  · intro i hi
    rw [State.writeEntryCfg_fixed hi]
  · intro i hi he hd
    rw [State.writeEntryCfg_of_disabled hi he hd]
  · intro i hi he hlo hhi ho hx hmin hmax hload
    rw [State.writeEntryCfg_of_enabled hi he hlo hhi ho hx hmin hmax hload]
  · intro i m hi he hm h
    rw [State.writeEntryCfg_of_overload hi he hm h]
    rfl
  · intro hgo
    rw [State.writePcvUrg, hgo, if_neg Bool.false_ne_true]
  · intro hgo hbad
    rw [State.writePcvUrg, if_pos hgo, State.hostUrgent_of_bad hbad]
  · rintro e m c x hgo rfl hb rfl rfl hlen rfl hn hq hu hx
    rw [State.writePcvUrg, if_pos hgo, State.hostUrgent_of_rest hb rfl hlen hn hq hu hx]
    rw [← hq]
    rfl
  · exact ⟨_, rfl, rfl⟩
  · rintro i h7 h16 rfl
    rw [State.writeSwtrig_one u h7 h16]

end Sys2Proof.Machine

namespace Sys2Proof.Machine

/-! ## Passes and conversions (11 R254 to R263) -/

section
variable {s : State} {dt : Nat} (hl : (s.elapse dt).live = true)
include hl

theorem exec_passStart_of_live : exec (.passStart dt) s = .next (s.elapse dt).passStart :=
  congrArg Host.Outcome.next (State.run_of_live hl _)

theorem exec_conversionComplete_of_live (m : Fin 2) (r : ConvResult) :
    exec (.conversionComplete dt m r) s = .next ((s.elapse dt).convDone m.val r) :=
  congrArg Host.Outcome.next (State.run_of_live hl _)

end

/-! ### What urgent requests and the starts of conversions leave (R257, R262) -/

/-- A modulator without its urgent requests. -/
def Modulator.sansUrgent (x : Modulator) : Modulator := { x with urg := none, wait := none }

/-- A state without its urgent requests, their status, and the shutter event of pipeline A, which a blade request can reach. -/
def State.sansUrgent (s : State) : State :=
  { s with pcv := { s.pcv with mods := s.pcv.mods.map Modulator.sansUrgent, urgStatus := 0 }, pa := { s.pa with event := none } }

/-- A state without its modulators too. -/
def State.beside (s : State) : State := { s.sansUrgent with pcv := { s.sansUrgent.pcv with mods := [] } }

theorem State.beside_of_sansUrgent {s t : State} (h : t.sansUrgent = s.sansUrgent) : t.beside = s.beside :=
  congrArg (fun x : State => { x with pcv := { x.pcv with mods := [] } }) h

theorem State.modu_now_of_sansUrgent {s t : State} (h : t.sansUrgent = s.sansUrgent) (m : Nat) : (t.modu m).now = (s.modu m).now := by
  have hnow (x : State) : (x.sansUrgent.modu m).now = (x.modu m).now := by
    simp only [State.modu, State.sansUrgent, List.getD_eq_getElem?_getD, List.getElem?_map]
    cases x.pcv.mods[m]? <;> rfl
  rw [← hnow t, h, hnow]

section
variable {s : State}

theorem State.setModu_sansUrgent {m : Nat} {x : Modulator} (h : x.sansUrgent = (s.modu m).sansUrgent) :
    (s.setModu m x).sansUrgent = s.sansUrgent := by
  have hset : (s.pcv.mods.map Modulator.sansUrgent).set m x.sansUrgent = s.pcv.mods.map Modulator.sansUrgent := by
    refine set_eq_self_of_getD (d := Modulator.sansUrgent ⟨none, [], none, none, false, false⟩) ?_
    rw [List.getD_map, h, State.modu]
  simp only [State.sansUrgent, State.setModu, List.map_set, hset]

@[simp] theorem State.slots_sansUrgent (m : Nat) (a b : Option Urg) :
    (s.setModu m { s.modu m with urg := a, wait := b }).sansUrgent = s.sansUrgent := State.setModu_sansUrgent rfl

@[simp] theorem State.urgStat_sansUrgent (n x : Nat) : (s.urgStat n x).sansUrgent = s.sansUrgent := by
  unfold State.urgStat; split <;> rfl

@[simp] theorem State.preempted_sansUrgent (u : Urg) : (s.preempted u).sansUrgent = s.sansUrgent := by
  unfold State.preempted; split <;> simp

@[simp] theorem State.refusedBlade_sansUrgent : s.refusedBlade.sansUrgent = s.sansUrgent := rfl

theorem State.putUrgent_sansUrgent (m : Nat) (r : Urg) : ∀ t ∈ s.putUrgent m r, t.sansUrgent = s.sansUrgent := by
  unfold State.putUrgent
  dsimp only
  (repeat' split) <;> simp

theorem State.rehomeUrgent_sansUrgent (s : State) : s.rehomeUrgent.sansUrgent = s.sansUrgent := by
  unfold State.rehomeUrgent
  extract_lets held strays _ cleared
  split
  · rfl
  · have hcleared : cleared.sansUrgent = s.sansUrgent := by
      simp only [cleared, State.sansUrgent, List.map_map]
      rfl
    refine (foldl_keeps State.sansUrgent _ (fun v u => ?_) held cleared).trans hcleared
    split
    · next t ht => exact v.putUrgent_sansUrgent _ _ t ht
    · split <;> simp

theorem State.nextConv_beside (m t : Nat) : (s.nextConv m t).beside = s.beside := by
  unfold State.nextConv
  dsimp only
  (repeat' split) <;> rfl

end

/-! ### The start of a pass (R257 to R260) -/

/-- The state as a pass that starts at `t` and counts `n` has taken the registers and cut the conversions in progress. -/
def State.passTaken (s : State) (t n : Nat) : State :=
  { s with pcv := { s.pcv with
    mods := [(s.modu 0).cut.1, (s.modu 1).cut.1], skips := satInc s.pcv.skips ((s.modu 0).cut.2 + (s.modu 1).cut.2) 255
    passes := n, passStart := some t, ctrl := s.pcv.newCtrl.getD s.pcv.ctrl, newCtrl := none
    entries := s.pcv.entries.map (fun e => { e with cfg := e.reg, newCfg := none }) } }

/-- Both modulators given the entries of the pass that starts. -/
def State.passQueued (s : State) : State :=
  { s with pcv := { s.pcv with
    mods := [{ s.modu 0 with queue := s.passQueue 0 }, { s.modu 1 with queue := s.passQueue 1 }], trig2 := false, swtrig := 0 } }

section
variable {s : State} {t n m : Nat}

theorem State.beginPass_first (h : s.pcv.passStart = none) :
    s.beginPass t = ((s.passTaken t s.pcv.passes).rehomeUrgent.passQueued.nextConv 0 t).nextConv 1 t := by
  simp only [State.beginPass, h]
  rfl

theorem State.beginPass_next {t0 : Nat} (h : s.pcv.passStart = some t0) :
    s.beginPass t = ((s.passTaken t ((s.pcv.passes + 1) % 65536)).rehomeUrgent.passQueued.nextConv 0 t).nextConv 1 t := by
  simp only [State.beginPass, h]
  rfl

/-- A modulator at rest whose pass holds a fixed entry next starts it, whatever request waits. -/
theorem State.nextConv_of_fixed {e : Nat} {l : List Nat} (hn : (s.modu m).now = none) (hq : (s.modu m).queue = e :: l) (he : e < 7) :
    s.nextConv m t = s.startConv m e t false l := by
  cases hu : (s.modu m).urg <;> simp [State.nextConv, hn, hq, hu, he]

theorem State.startConv_now (hm : m < s.pcv.mods.length) (e : Nat) (l : List Nat) :
    ∃ c, ((s.startConv m e t false l).modu m).now = some c ∧ c.entry = e ∧ c.start = t ∧ c.urgent = false := by
  rw [State.startConv, State.modu_setModu_self hm]
  exact ⟨_, rfl, rfl, rfl, rfl⟩

theorem State.modu_startConv_ne {j e : Nat} (h : m ≠ j) (urgent : Bool) (l : List Nat) :
    (s.startConv m e t urgent l).modu j = s.modu j := State.modu_setModu_ne h _

/-- No conversion is in progress once a pass has cut those of the last one. -/
theorem State.passTaken_rests (hm : m < 2) : ((s.passTaken t n).modu m).now = none := by
  obtain rfl | rfl : m = 0 ∨ m = 1 := by omega
  · rfl
  · rfl

/-- A pass begins with entry 0 on modulator 0 and with entry 6 on modulator 1 (R257). -/
theorem State.passQueued_starts (h : ∀ m, m < 2 → (s.modu m).now = none) :
    (∃ c, (((s.passQueued.nextConv 0 t).nextConv 1 t).modu 0).now = some c ∧ c.entry = 0 ∧ c.start = t ∧ c.urgent = false) ∧
    (∃ c, (((s.passQueued.nextConv 0 t).nextConv 1 t).modu 1).now = some c ∧ c.entry = 6 ∧ c.start = t ∧ c.urgent = false) := by
  have h0 := State.nextConv_of_fixed (s := s.passQueued) (m := 0) (t := t) (h 0 (by decide)) rfl (by decide)
  rw [h0]
  set v := s.passQueued.startConv 0 0 t false _
  have hv1 : v.modu 1 = s.passQueued.modu 1 := State.modu_startConv_ne (by decide) _ _
  have h1 := State.nextConv_of_fixed (s := v) (m := 1) (t := t) (by rw [hv1]; exact h 1 (by decide)) (by rw [hv1]; rfl) (by decide)
  rw [h1, State.modu_startConv_ne (by decide)]
  exact ⟨State.startConv_now (s := s.passQueued) (show 0 < 2 by decide) _ _, State.startConv_now (s := v) (show 1 < 2 by decide) _ _⟩

/-- All but the modulators, the urgent requests and the event is as the pass took it, with the triggers served. -/
theorem State.passQueued_beside : ((((s.passTaken t n).rehomeUrgent.passQueued).nextConv 0 t).nextConv 1 t).beside =
    (s.passTaken t n).passQueued.beside := by
  have hr := State.beside_of_sansUrgent (s.passTaken t n).rehomeUrgent_sansUrgent
  rw [State.nextConv_beside, State.nextConv_beside]
  exact congrArg (fun x : State => { x with pcv := { x.pcv with trig2 := false, swtrig := 0 } }) hr

/-- The pass that starts is the first or follows the last one. -/
theorem State.passStart_of_due (hr : s.pcv.running = true)
    (h : s.pcv.passStart = none ∧ t = s.now ∧ n = s.pcv.passes ∨
      s.pcv.passStart = some (t - 512000) ∧ 512000 ≤ t ∧ t ≤ s.now ∧ n = (s.pcv.passes + 1) % 65536) :
    s.passStart = ((s.passTaken t n).rehomeUrgent.passQueued.nextConv 0 t).nextConv 1 t := by
  obtain ⟨hp, rfl, rfl⟩ | ⟨hp, hle, hnow, rfl⟩ := h
  · rw [← State.beginPass_first hp]
    simp [State.passStart, hr, hp]
  · rw [← State.beginPass_next hp]
    have ht : t - 512000 + 8000 * modClk = t := Nat.sub_add_cancel hle
    simp [State.passStart, hr, hp, ht, hnow]

theorem State.passStart_of_stopped (h : s.pcv.running = false) : s.passStart = s := by simp [State.passStart, h]

theorem State.passStart_of_early {t0 : Nat} (hp : s.pcv.passStart = some t0) (h : s.now < t0 + 512000) : s.passStart = s := by
  have hlate : ¬t0 + 8000 * modClk ≤ s.now := Nat.not_le.mpr h
  simp [State.passStart, hp, hlate]

end

/-! ### The end of a conversion (R254 to R266) -/

/-- A state without the converters, and without the shutter event of pipeline A. -/
def State.sansPcv (s : State) : State := { s with pcv := Pcv.reset, pa := { s.pa with event := none } }

theorem State.sansPcv_of_beside {s t : State} (h : t.beside = s.beside) : t.sansPcv = s.sansPcv :=
  congrArg (fun x : State => { x with pcv := Pcv.reset }) h

/-- The result and the time that an entry's registers show. -/
def State.report (s : State) (i : Nat) : Word × Nat := ((s.entry i).result, (s.entry i).time)

/-- The temperature that a conversion's result gives by its channel's table. -/
def State.tempOf (s : State) (c : Conv) (r : ConvResult) : Option Int :=
  if (convCode c r).2 then none else tableTemp (s.pcvTable (cfgChan c.cfg)) (convCode c r).1

/-- The registers of its entry written by a conversion that has come to its end. -/
def State.resultPut (s : State) (c : Conv) (r : ConvResult) : State :=
  s.putResult c c.stop (convCode c r).1 (convCode c r).2 (s.tempOf c r)
    (!(s.pcvTable (cfgChan c.cfg)).isEmpty && (tableTemp (s.pcvTable (cfgChan c.cfg)) (convCode c r).1).isNone)

/-- A conversion's result taken, before its channel is judged and the modulators go on. -/
def State.converted (s : State) (m : Nat) (c : Conv) (r : ConvResult) : State :=
  let v := (s.resultPut c r).setModu m { s.modu m with now := none, recover := (convCode c r).2 }
  let v := (v.keepTemp (cfgChan c.cfg) c.stop (s.tempOf c r)).noteBlade c (s.tempOf c r)
  if c.urgent then v.urgentDone m (cfgChan c.cfg) else v.triggerUsed c.entry

section
variable {s : State} {m : Nat} {c : Conv} {r : ConvResult}

theorem State.convDone_of_early (hc : (s.modu m).now = some c) (h : s.now < c.stop) : s.convDone m r = s := by
  simp [State.convDone, hc, h]

theorem State.convDone_of_ended (hc : (s.modu m).now = some c) (h : c.stop ≤ s.now) : s.convDone m r =
    (((s.converted m c r).judgeResult c (convCode c r).1).nextConv m c.stop).nextConv (1 - m) c.stop := by
  unfold State.convDone
  rw [hc]
  exact if_neg (Nat.not_lt.mpr h)

/-! ### What taking a result leaves -/

theorem State.implausible_sansPcv (s : State) : s.implausible.sansPcv = s.sansPcv := by
  unfold State.implausible
  dsimp only
  split
  · rfl
  · exact foldl_keeps State.sansPcv _ (fun _ _ => by rfl) _ _

theorem State.keepTemp_sansPcv (k t : Nat) (temp : Option Int) : (s.keepTemp k t temp).sansPcv = s.sansPcv := by
  unfold State.keepTemp
  (repeat' split)
  · exact State.implausible_sansPcv _
  all_goals rfl

theorem State.noteBlade_sansPcv (temp : Option Int) : (s.noteBlade c temp).sansPcv = s.sansPcv := by
  unfold State.noteBlade; split <;> rfl

theorem State.urgentDone_beside (k : Nat) : (s.urgentDone m k).beside = s.beside := by
  unfold State.urgentDone
  dsimp only
  split
  · rfl
  · split
    · rfl
    · exact (State.beside_of_sansUrgent (State.urgStat_sansUrgent _ _)).trans rfl

theorem State.triggerUsed_sansPcv (e : Nat) : (s.triggerUsed e).sansPcv = s.sansPcv := by
  unfold State.triggerUsed; split <;> rfl

theorem State.converted_sansPcv : (s.converted m c r).sansPcv = s.sansPcv := by
  unfold State.converted
  extract_lets _ freed noted
  have hnoted : noted.sansPcv = s.sansPcv := (State.noteBlade_sansPcv _).trans (State.keepTemp_sansPcv _ _ _)
  split
  · exact (State.sansPcv_of_beside (State.urgentDone_beside _)).trans hnoted
  · exact (State.triggerUsed_sansPcv _).trans hnoted

/-! ### The registers of the entry -/

theorem State.modEntry_report {i : Nat} {f : Entry → Entry} (h : ∀ e, (f e).result = e.result ∧ (f e).time = e.time) (j : Nat) :
    (s.modEntry i f).report j = s.report j := by
  rw [State.report, State.entry_modEntry]
  split
  · rw [(h _).1, (h _).2]
    rfl
  · rfl

theorem State.implausible_report (s : State) (j : Nat) : s.implausible.report j = s.report j := by
  unfold State.implausible
  dsimp only
  split
  · rfl
  · refine foldl_keeps (fun v : State => v.report j) _ (fun v x => ?_) _ s
    rw [State.modEntry_report (by exact fun _ => ⟨rfl, rfl⟩)]
    rfl

theorem State.keepTemp_report (k t : Nat) (temp : Option Int) (j : Nat) : (s.keepTemp k t temp).report j = s.report j := by
  unfold State.keepTemp
  (repeat' split)
  · exact State.implausible_report _ j
  all_goals rfl

/-- Only the diodes are judged against each other, so only their conversions change another register. -/
theorem State.keepTemp_entry {k : Nat} (h : 4 ≤ k) (t : Nat) (temp : Option Int) (j : Nat) :
    (s.keepTemp k t temp).entry j = s.entry j := by
  unfold State.keepTemp
  rw [if_neg (Nat.not_lt.mpr h)]
  (repeat' split) <;> rfl

theorem State.noteBlade_entry (temp : Option Int) (j : Nat) : (s.noteBlade c temp).entry j = s.entry j := by
  unfold State.noteBlade; split <;> rfl

theorem State.triggerUsed_entry (e j : Nat) : (s.triggerUsed e).entry j = s.entry j := by
  unfold State.triggerUsed; split <;> rfl

theorem State.entry_of_beside {t : State} (h : t.beside = s.beside) (j : Nat) : t.entry j = s.entry j :=
  (congrArg (fun x : State => x.entry j) h :)

/-- What follows the write of the result leaves the result, its time and, but for a diode's, its temperature. -/
theorem State.converted_entry (j : Nat) : (s.converted m c r).report j = (s.resultPut c r).report j ∧
    (4 ≤ cfgChan c.cfg → (s.converted m c r).entry j = (s.resultPut c r).entry j) := by
  unfold State.converted
  extract_lets _ freed noted
  have hentry : (if c.urgent then noted.urgentDone m (cfgChan c.cfg) else noted.triggerUsed c.entry).entry j =
      (freed.keepTemp (cfgChan c.cfg) c.stop (s.tempOf c r)).entry j := by
    refine Eq.trans ?_ (State.noteBlade_entry (c := c) (s.tempOf c r) j)
    split
    · exact State.entry_of_beside (State.urgentDone_beside _) j
    · exact State.triggerUsed_entry _ j
  constructor
  · rw [State.report, hentry]
    exact State.keepTemp_report _ _ _ j
  · intro h
    rw [hentry, State.keepTemp_entry h]
    rfl

theorem State.resultPut_report (hlen : s.pcv.entries.length = 16) (he : c.entry < 16) : (s.resultPut c r).report c.entry =
    (word (flag (!(convCode c r).2) 31 + flag (convCode c r).2 30 + flag c.urgent 29 + code (convCode c r).1 24), c.stop) := by
  simp [State.report, State.resultPut, State.putResult, State.entry_modEntry, hlen, he]

theorem State.resultPut_temp (hlen : s.pcv.entries.length = 16) (he : c.entry < 16) (hlo : 6 ≤ cfgChan c.cfg) (hhi : cfgChan c.cfg ≤ 11)
    {y : Int} (hy : s.tempOf c r = some y) : ((s.resultPut c r).entry c.entry).temp = word (2 ^ 31 + code y 16) := by
  simp [State.resultPut, State.putResult, State.entry_modEntry, hlen, he, hlo, hhi, hy]

/-- A conversion of the sequencer has served the trigger of its entry (R260). -/
theorem State.triggerUsed_served (e : Nat) : (s.triggerUsed e).pcv.swtrig / 2 ^ e % 2 = 0 := by
  unfold State.triggerUsed
  split
  · next h =>
    dsimp only
    have hsub : (s.pcv.swtrig - 2 ^ e) / 2 ^ e = s.pcv.swtrig / 2 ^ e - 1 := by
      simpa using Nat.sub_mul_div s.pcv.swtrig (2 ^ e) 1
    omega
  · next h => exact Nat.mod_two_ne_one.mp h

theorem State.converted_served (h : c.urgent = false) : (s.converted m c r).pcv.swtrig / 2 ^ c.entry % 2 = 0 := by
  unfold State.converted
  dsimp only
  rw [if_neg (by simp [h])]
  exact State.triggerUsed_served _

end

/-! ### The judgement of a monitor (R60, R391) -/

/-- The part of a state that what follows a conversion's result leaves: the judgement of a monitor, an entry to SAFE included, and
the start of further conversions. -/
def Kept.settled (k : Kept) : Pcv × Nv × Eng × (Nat × Nat) :=
  ({ k.pcv with mods := [], biasRun := [], biasOn := none }, k.nv, k.eng, k.plt.bias)

section
variable (s : State)

theorem State.rested_settled (a : Saf) (d : Thm) (e : Drm) (m : Mode) : Kept.settled { State.kept { s with
    saf := a, pcv := { s.pcv with biasOn := none }, plt := { s.plt with firstMarker := none, busy := false }, thm := d, drm := e } with
    mode := m } = s.kept.settled := rfl

theorem State.enterSafe_settled : s.enterSafe.kept.settled = s.kept.settled := by
  have h : (((((((s.logCutBoot.abortEvent .A).abortEvent .B).endCycles.stopPipe .A).stopPipe .B).abortStreams.dropDue).dropWait 0 5).dropWait 1 5).kept
      = s.kept := by simp
  unfold State.enterSafe
  dsimp only
  rw [State.postSafe_kept, State.enterMode_kept, State.rested_settled]
  exact congrArg Kept.settled h

theorem State.fault_settled (id : Nat) : (s.fault id).kept.settled = s.kept.settled := by
  unfold State.fault
  extract_lets recorded sup logged
  have hl : logged.kept.settled = s.kept.settled := by
    unfold logged
    split <;> rfl
  split
  · rfl
  · split
    · exact hl
    · exact logged.enterSafe_settled.trans hl

theorem State.injected_settled (n : Nat) (hit : Bool) : (s.injected n hit).kept.settled = s.kept.settled := by
  unfold State.injected
  extract_lets _ noted
  have hn : noted.kept.settled = s.kept.settled := by
    unfold noted
    split <;> rfl
  split
  · rw [State.testRan]
    dsimp only
    split
    · exact hn
    · exact (congrArg Kept.settled (State.warnBit_kept _ _)).trans hn
  · exact hn

theorem State.judgeBias_settled (i start : Nat) (x : Int) : (s.judgeBias i start x).kept.settled = s.kept.settled := by
  unfold State.judgeBias
  dsimp only
  split
  · exact s.injected_settled _ _
  · (repeat' split)
    any_goals rfl
    all_goals exact State.fault_settled _ _

theorem State.judgeSupply_settled (x : Int) : (s.judgeSupply x).kept.settled = s.kept.settled := by
  unfold State.judgeSupply
  dsimp only
  (repeat' split)
  · exact s.injected_settled _ _
  · exact s.fault_settled _
  · rfl

theorem State.judgeResult_settled (c : Conv) (x : Int) : (s.judgeResult c x).kept.settled = s.kept.settled := by
  unfold State.judgeResult
  split
  · exact s.judgeBias_settled _ _ _
  · exact s.judgeBias_settled _ _ _
  · exact s.judgeSupply_settled _
  · rfl

theorem State.nextConv_settled (m t : Nat) : (s.nextConv m t).kept.settled = s.kept.settled := by
  unfold State.nextConv
  dsimp only
  (repeat' split) <;> rfl

theorem State.judgeResult_of_unmonitored {c : Conv} (h4 : cfgChan c.cfg ≠ 4) (h5 : cfgChan c.cfg ≠ 5) (h12 : cfgChan c.cfg ≠ 12) (x : Int) :
    s.judgeResult c x = s := by
  unfold State.judgeResult
  split
  · contradiction
  · contradiction
  · contradiction
  · rfl

end

/-! ### What the end of a conversion leaves -/

section
variable {s : State} {m : Nat} {c : Conv} {r : ConvResult} (hc : (s.modu m).now = some c) (h : c.stop ≤ s.now)
include hc h

theorem State.convDone_settled : (s.convDone m r).kept.settled = (s.converted m c r).kept.settled := by
  rw [State.convDone_of_ended hc h, State.nextConv_settled, State.nextConv_settled, State.judgeResult_settled]

theorem State.convDone_entry (j : Nat) : (s.convDone m r).entry j = (s.converted m c r).entry j := by
  have hentries := congrArg (fun x => x.1.entries) (State.convDone_settled hc h (r := r))
  exact congrArg (fun l : List Entry => l.getD j ⟨0#32, none, 0#32, 0#32, 0⟩) hentries

theorem State.convDone_swtrig : (s.convDone m r).pcv.swtrig = (s.converted m c r).pcv.swtrig :=
  congrArg (fun x => x.1.swtrig) (State.convDone_settled hc h)

/-- The ledger, the array and the bias settings stay. -/
theorem State.convDone_keeps : (s.convDone m r).nv = s.nv ∧ (s.convDone m r).eng = s.eng ∧ (s.convDone m r).plt.bias = s.plt.bias := by
  have hsettled := congrArg Prod.snd (State.convDone_settled hc h (r := r))
  have hout : (s.converted m c r).sansPcv = s.sansPcv := State.converted_sansPcv
  have hconverted : (s.converted m c r).kept.settled.2 = s.kept.settled.2 :=
    (congrArg (fun x : State => (x.nv, x.eng, x.plt.bias)) hout :)
  simpa [Kept.settled, State.kept] using hsettled.trans hconverted

/-- A channel that no monitor judges leaves all but the converters and the shutter event (R253). -/
theorem State.convDone_sansPcv (h4 : cfgChan c.cfg ≠ 4) (h5 : cfgChan c.cfg ≠ 5) (h12 : cfgChan c.cfg ≠ 12) :
    (s.convDone m r).sansPcv = s.sansPcv := by
  rw [State.convDone_of_ended hc h, State.judgeResult_of_unmonitored _ h4 h5 h12]
  exact (State.sansPcv_of_beside ((State.nextConv_beside _ _).trans (State.nextConv_beside _ _))).trans State.converted_sansPcv

theorem State.convDone_served (hu : c.urgent = false) : (s.convDone m r).pcv.swtrig / 2 ^ c.entry % 2 = 0 := by
  rw [State.convDone_swtrig hc h]
  exact State.converted_served hu

variable (hlen : s.pcv.entries.length = 16) (he : c.entry < 16)
include hlen he

theorem State.convDone_time : ((s.convDone m r).entry c.entry).time = c.stop := by
  rw [State.convDone_entry hc h]
  exact congrArg Prod.snd ((State.converted_entry c.entry).1.trans (State.resultPut_report hlen he))

theorem State.convDone_result {x : Int} {ovr : Bool} (hx : convCode c r = (x, ovr)) : ((s.convDone m r).entry c.entry).result =
    word (flag (!ovr) 31 + flag ovr 30 + flag c.urgent 29 + code x 24) := by
  rw [State.convDone_entry hc h]
  have hreport := congrArg Prod.fst ((State.converted_entry (m := m) c.entry).1.trans (State.resultPut_report (r := r) hlen he))
  rw [hx] at hreport
  exact hreport

theorem State.convDone_temp {x y : Int} (hx : convCode c r = (x, false)) (hlo : 6 ≤ cfgChan c.cfg) (hhi : cfgChan c.cfg ≤ 11)
    (hy : tableTemp (s.pcvTable (cfgChan c.cfg)) x = some y) :
    ((s.convDone m r).entry c.entry).temp = word (2 ^ 31 + code y 16) := by
  rw [State.convDone_entry hc h, (State.converted_entry c.entry).2 (by omega)]
  exact State.resultPut_temp hlen he hlo hhi (by simp [State.tempOf, hx, hy])

end

/-! ### Codes (R254) -/

section
variable {c : Conv} {v : Int} {vref : Nat}

/-- By a reference that is the internal one, or an external one within its conditions, the code is that of R254. -/
theorem convCode_of_input {w : Nat} (hw : w = if bit c.cfg 27 = true then vref else 1250000000000)
    (h : bit c.cfg 27 = false ∨ 1000000000000 ≤ vref ∧ vref ≤ 1300000000000) : convCode c (.input v vref) =
      (sat (divF (2 * (v * 2 ^ fld c.cfg 19 17 * 2 ^ 23) + w) (2 * w)) (-8388607) 8388606, false) := by
  subst hw
  cases hb : bit c.cfg 27 with
  | false => simp [convCode, hb, inputCode, vrefInt]
  | true =>
    obtain ⟨hlo, hhi⟩ := h.resolve_left (by simp [hb])
    simp [convCode, hb, inputCode, vrefOk, hlo, hhi]

/-- By VREF_EXT outside its conditions the code is undefined (R401). -/
theorem convCode_of_badRef (hb : bit c.cfg 27 = true) (h : vref < 1000000000000 ∨ 1300000000000 < vref) :
    convCode c (.input v vref) = ((Config.undefinedCode c.entry c.stop).toInt, false) := by
  have hbad : vrefOk vref = false := by
    simp only [vrefOk, Bool.and_eq_false_iff, decide_eq_false_iff_not]
    omega
  simp [convCode, hb, hbad]

theorem code_toInt {n : Nat} (x : BitVec n) : code x.toInt n = x.toNat := by
  rw [code, ← BitVec.toNat_ofInt, BitVec.ofInt_toInt]

end

/-- Settles O38: a pass has taken the registers and starts the first fixed entry of each modulator; a conversion that has ended writes
its registers, which the judgement of its channel and the conversions that follow leave. -/
theorem converterRuns : Obligations.ConverterRuns := by
  unfold Obligations.ConverterRuns
  refine ⟨?_, ?_⟩
  · rintro dt s u rfl hl
    simp only [exec_passStart_of_live hl]
    generalize s.elapse dt = u at *
    refine ⟨fun hr => ?_, fun t0 hp h => ?_, fun a n hr h => ?_⟩
    · rw [State.passStart_of_stopped hr]
    · rw [State.passStart_of_early hp h]
    · have hb := u.passQueued_beside (t := a) (n := n)
      have hstarts := State.passQueued_starts (t := a) fun m hm =>
        (State.modu_now_of_sansUrgent (u.passTaken a n).rehomeUrgent_sansUrgent m).trans (State.passTaken_rests hm)
      rw [State.passStart_of_due hr h]
      generalize (((u.passTaken a n).rehomeUrgent.passQueued).nextConv 0 a).nextConv 1 a = t at *
      have hrest := State.sansPcv_of_beside hb
      exact ⟨t, rfl, congrArg (fun x : State => { x with pcv := u.pcv, pa := u.pa }) hrest,
        congrArg (fun x : State => { x.pa with event := t.pa.event }) hrest,
        congrArg (fun x : State => x.pcv.passStart) hb, congrArg (fun x : State => x.pcv.passes) hb,
        congrArg (fun x : State => x.pcv.ctrl) hb, congrArg (fun x : State => x.pcv.newCtrl) hb,
        congrArg (fun x : State => x.pcv.entries) hb, congrArg (fun x : State => x.pcv.swtrig) hb, hstarts⟩
  · rintro dt m r c s u rfl hl hc
    simp only [exec_conversionComplete_of_live hl]
    generalize s.elapse dt = u at *
    refine ⟨fun h => ?_, fun h hlen he => ?_⟩
    · rw [State.convDone_of_early hc h]
    · have hresult {x : Int} {ovr : Bool} := State.convDone_result (r := r) (x := x) (ovr := ovr) hc h hlen he
      refine ⟨_, rfl, State.convDone_time hc h hlen he, ?_, ?_, ?_, ?_, State.convDone_served hc h, fun h4 h5 h12 => ?_,
        State.convDone_keeps hc h⟩
      · rintro v vref w x rfl hw rfl hok
        have hx := convCode_of_input (v := v) hw hok
        refine ⟨?_, fun y hlo hhi hy => State.convDone_temp hc h hlen he hx hlo hhi hy⟩
        rw [hresult hx]
        simp [flag]
      · rintro v vref rfl hb hbad
        refine ⟨Config.undefinedCode c.entry c.stop, ?_⟩
        rw [hresult (convCode_of_badRef hb hbad), code_toInt]
        simp [flag]
      · rintro rfl
        rw [hresult rfl]
        rfl
      · rintro rfl
        rw [hresult rfl]
        rfl
      · exact congrArg (fun x : State => { x with pcv := u.pcv, pa := u.pa }) (State.convDone_sansPcv hc h h4 h5 h12)

end Sys2Proof.Machine

namespace Sys2Proof.Machine

/-! ## One channel of the stage among the others (12 R268) -/

/-- What a change keeps of a channel it keeps of each. -/
theorem State.modCh_keeps {β : Type} (g : ActCh → β) {f : ActCh → ActCh} (hf : ∀ c, g (f c) = g c)
    (s : State) (i j : Nat) :
    g ((s.modCh i f).ch j) = g (s.ch j) := by
  rw [State.ch_modCh]
  split
  · exact hf _
  · rfl

theorem State.ch_modCh_ne {i j : Nat} (h : j ≠ i) (s : State) (f : ActCh → ActCh) : (s.modCh i f).ch j = s.ch j := by
  rw [State.ch_modCh, if_neg fun e => h e.1.symm]

/-- A channel that drives a pulse is one of the stage. -/
theorem State.ch_lt_of_run {s : State} {ch : Nat} {r : Pulse} (h : (s.ch ch).run = some r) : ch < s.act.chans.length := by
  by_contra hlen
  rw [State.ch, List.getD_eq_default _ _ (Nat.not_lt.mp hlen)] at h
  exact absurd h (by simp [ActCh.reset])

theorem State.ch_foldl_modCh {f : ActCh → ActCh} (hf : ∀ c, f (f c) = f c) (l : List Nat) (s : State) (j : Nat) :
    (l.foldl (fun s i => s.modCh i f) s).ch j = if j ∈ l ∧ j < s.act.chans.length then f (s.ch j) else s.ch j := by
  induction l generalizing s with
  | nil => simp
  | cons i l ih =>
    rw [List.foldl_cons, ih, State.modCh_length, State.ch_modCh]
    by_cases hlen : j < s.act.chans.length
    · by_cases hi : i = j
      · simp [hlen, hi, hf]
      · simp [hlen, hi, Ne.symm hi]
    · simp [hlen]

/-- Changes of channels change nothing else. -/
theorem State.foldl_modCh_eq (f : ActCh → ActCh) (l : List Nat) (s : State) :
    ∃ cs, l.foldl (fun s i => s.modCh i f) s = { s with act := { s.act with chans := cs } } := by
  induction l generalizing s with
  | nil => exact ⟨_, rfl⟩
  | cons i l ih =>
    obtain ⟨cs, h⟩ := ih (s.modCh i f)
    exact ⟨cs, h⟩

/-! ## The end of a pulse (12 R270) -/

/-- A channel that the pulse ended at `t` has switched. -/
def ActCh.noted (t : Nat) (c : ActCh) : ActCh := { c with lastPulse := some t }

/-- A channel that drives no pulse. -/
def ActCh.rested (c : ActCh) : ActCh := { c with run := none }

/-- The stage after a pulse of `ch` has ended at `t`, before its event. -/
def State.pulseOver (s : State) (ch t : Nat) (both : Bool) : State :=
  let v := ((s.switched ch both).foldl (fun s j => s.modCh j (ActCh.noted t)) s).modCh ch ActCh.rested
  { v with act := { v.act with lastEnd := v.act.lastEnd.set (ch / 2) (some t) } }

section
variable (s : State) (ch t : Nat) (both : Bool)

theorem State.pulseOver_theta (j : Nat) : ((s.pulseOver ch t both).ch j).theta = (s.ch j).theta :=
  (State.modCh_keeps ActCh.theta (f := ActCh.rested) (fun _ => rfl) _ ch j).trans
    (foldl_keeps (fun s => (s.ch j).theta) _ (fun s i => s.modCh_keeps ActCh.theta (f := ActCh.noted t) (fun _ => rfl) i j) _ _)

theorem State.pulseOver_lastPulse {j : Nat} (hj : j ∈ s.switched ch both) (hlen : j < s.act.chans.length) :
    ((s.pulseOver ch t both).ch j).lastPulse = some t := by
  have hset := State.ch_foldl_modCh (f := ActCh.noted t) (fun _ => rfl) (s.switched ch both) s j
  rw [if_pos ⟨hj, hlen⟩] at hset
  exact (State.modCh_keeps ActCh.lastPulse (f := ActCh.rested) (fun _ => rfl) _ ch j).trans (congrArg ActCh.lastPulse hset)

theorem State.pulseOver_run (hlen : ch < s.act.chans.length) : ((s.pulseOver ch t both).ch ch).run = none := by
  have hkeeps : ((s.switched ch both).foldl (fun s j => s.modCh j (ActCh.noted t)) s).act.chans.length = s.act.chans.length :=
    foldl_keeps (fun s => s.act.chans.length) _ (fun s j => s.modCh_length j _) _ _
  refine congrArg ActCh.run ((State.ch_modCh _ ch ch _).trans (if_pos ⟨rfl, ?_⟩))
  rw [hkeeps]
  exact hlen

/-- Nothing changes but the channels and the instant noted for the switch. -/
theorem State.pulseOver_eq : ∃ cs, s.pulseOver ch t both =
    { s with act := { s.act with chans := cs, lastEnd := s.act.lastEnd.set (ch / 2) (some t) } } := by
  obtain ⟨cs, h⟩ := State.foldl_modCh_eq (ActCh.noted t) (s.switched ch both) s
  exact ⟨_, by rw [State.pulseOver, h]; rfl⟩

end

theorem State.endPulse_of_run {s : State} {ch : Nat} {r : Pulse} (h : (s.ch ch).run = some r) (t n : Nat) :
    s.endPulse ch t n = if r.owner = .host then (s.pulseOver ch t r.both).post0 0x00a0 [word ch, word n]
      else s.pulseOver ch t r.both := by
  rw [State.endPulse, h]
  rfl

theorem State.endPulse_act {s : State} {ch : Nat} {r : Pulse} (h : (s.ch ch).run = some r) (t n : Nat) :
    (s.endPulse ch t n).act = (s.pulseOver ch t r.both).act := by
  rw [State.endPulse_of_run h]
  split
  · exact State.post0_act _ _ _
  · rfl

theorem State.endPulse_ch {s : State} {ch : Nat} {r : Pulse} (h : (s.ch ch).run = some r) (t n j : Nat) :
    (s.endPulse ch t n).ch j = (s.pulseOver ch t r.both).ch j :=
  congrArg (fun a : Act => a.chans.getD j (ActCh.reset 0 0)) (State.endPulse_act h t n)

/-- The end of a pulse changes the stage and posts its event. -/
theorem State.endPulse_beside {s : State} {ch : Nat} {r : Pulse} (h : (s.ch ch).run = some r) (t n : Nat) :
    (s.endPulse ch t n).nv = s.nv ∧ (s.endPulse ch t n).sup = s.sup ∧ (s.endPulse ch t n).plt = s.plt ∧
      (s.endPulse ch t n).pa = s.pa ∧ (s.endPulse ch t n).pb = s.pb := by
  obtain ⟨cs, hover⟩ := s.pulseOver_eq ch t r.both
  rw [State.endPulse_of_run h, hover]
  split <;> simp

/-! ## A pulse in progress (12 R268, R270) -/

section
variable {s : State} {ch : Nat} {r : Pulse} (h : (s.ch ch).run = some r)
include h

theorem State.kickEnd_of_due (hk : r.kicking = true) (ht : r.start + r.kick * 12500 ≤ s.now) :
    s.kickEnd ch = s.modCh ch (fun c => { c with run := some { r with kicking := false } }) := by
  simp [State.kickEnd, h, hk, pulseStep, ht]

theorem State.kickEnd_of_not_due (hn : r.kicking = false ∨ s.now < r.start + r.kick * 12500) : s.kickEnd ch = s := by
  simp only [State.kickEnd, h, pulseStep]
  refine if_neg ?_
  obtain hk | ht := hn
  · simp [hk]
  · simp [Nat.not_le.mpr ht]

theorem State.pulseDone_of_due (ht : r.start + r.steps * 12500 ≤ s.now) :
    s.pulseDone ch = s.endPulse ch (r.start + r.steps * 12500) r.steps := by
  simp only [State.pulseDone, h]
  exact if_pos ht

theorem State.pulseDone_of_early (ht : s.now < r.start + r.steps * 12500) : s.pulseDone ch = s := by
  simp only [State.pulseDone, h]
  exact if_neg (Nat.not_le.mpr ht)

end

/-- The end of a pulse heats no coil. -/
theorem State.pulseDone_theta (s : State) (ch j : Nat) : ((s.pulseDone ch).ch j).theta = (s.ch j).theta := by
  cases h : (s.ch ch).run with
  | none => simp [State.pulseDone, h]
  | some r =>
    by_cases ht : r.start + r.steps * 12500 ≤ s.now
    · rw [State.pulseDone_of_due h ht, State.endPulse_ch h, State.pulseOver_theta]
    · rw [State.pulseDone_of_early h (Nat.not_le.mp ht)]

/-! ## The heat of one pulse (12 R274) -/

section
variable (s : State) (ch t a n : Nat)

/-- COIL_HOT aside, the channel heats and the others stay. -/
theorem State.heatCh_act : ∃ b : Bool, (s.heatCh ch t a n).act =
    (s.modCh ch (fun _ => { (s.ch ch).heated (n - a) with hot := b })).act := by
  unfold State.heatCh
  dsimp only
  split
  · exact ⟨true, State.coilHot_act _ _ _⟩
  · exact ⟨((s.ch ch).heated (n - a)).hot, rfl⟩

theorem State.heatCh_ch : ∃ b : Bool, ∀ j, (s.heatCh ch t a n).ch j =
    (s.modCh ch (fun _ => { (s.ch ch).heated (n - a) with hot := b })).ch j := by
  obtain ⟨b, h⟩ := s.heatCh_act ch t a n
  exact ⟨b, fun j => congrArg (fun a : Act => a.chans.getD j (ActCh.reset 0 0)) h⟩

theorem State.heatCh_ch_ne {j : Nat} (hj : j ≠ ch) : (s.heatCh ch t a n).ch j = s.ch j := by
  obtain ⟨b, h⟩ := s.heatCh_ch ch t a n
  rw [h, State.ch_modCh_ne hj]

theorem State.heatCh_theta (hlen : ch < s.act.chans.length) :
    ((s.heatCh ch t a n).ch ch).theta = min ((s.ch ch).theta + (n - a) * (s.ch ch).heat) 0xffffff := by
  obtain ⟨b, h⟩ := s.heatCh_ch ch t a n
  rw [h, State.ch_modCh, if_pos ⟨rfl, hlen⟩]
  rfl

end

theorem State.heatTo_of_none {s : State} {ch : Nat} (h : (s.ch ch).run = none) : s.heatTo ch = s := by
  rw [State.heatTo, h]

theorem State.foldl_heatTo_of_none {s : State} {l : List Nat} (h : ∀ j ∈ l, (s.ch j).run = none) : l.foldl State.heatTo s = s := by
  induction l with
  | nil => rfl
  | cons j l ih =>
    rw [List.foldl_cons, State.heatTo_of_none (h j List.mem_cons_self), ih fun k hk => h k (List.mem_cons_of_mem j hk)]

/-- The pulse of a channel with its steps put into the coil model up to `n`. -/
def Pulse.counting (r : Pulse) (n : Nat) (c : ActCh) : ActCh := { c with run := some { r with counted := n } }

section
variable {s : State} {ch : Nat} {r : Pulse} (h : (s.ch ch).run = some r)
include h

/-- The heat of a pulse of one channel that has run its length, or longer. -/
theorem State.heatTo_of_sole (hj : s.judged ch r.both = [ch]) (hc : r.counted < r.steps)
    (ht : r.start + r.steps * 12500 ≤ s.now) :
    s.heatTo ch = (s.modCh ch (r.counting r.steps)).heatCh ch r.start r.counted r.steps := by
  have hn : min r.steps ((s.now - r.start) / 12500) = r.steps := by omega
  have hjudged : (s.modCh ch (r.counting r.steps)).judged ch r.both = [ch] := hj
  have hheat := congrArg (List.foldl (fun s j => s.heatCh j r.start r.counted r.steps) (s.modCh ch (r.counting r.steps))) hjudged
  simp only [State.heatTo, h, pulseStep, hn, if_neg (Nat.not_le.mpr hc)]
  exact hheat

/-- Where one channel alone drives a pulse of its own, time heats it alone. -/
theorem State.heat_of_sole (hch : ch < 4) (hrest : ∀ j, j ≠ ch → (s.ch j).run = none)
    (hkeeps : ∀ j, j ≠ ch → (s.heatTo ch).ch j = s.ch j) : s.heat = s.heatTo ch := by
  have hruns : ¬s.act.chans.all (fun c => c.run.isNone) = true := fun hall => by
    have hlen := State.ch_lt_of_run h
    have hnone := List.all_eq_true.mp hall _ (List.getElem_mem hlen)
    rw [State.ch, List.getD_eq_getElem _ _ hlen] at h
    rw [h] at hnone
    exact Bool.false_ne_true hnone
  obtain ⟨l, m, hsplit⟩ := List.append_of_mem (List.mem_range.mpr hch)
  have hdistinct : (l ++ ch :: m).Nodup := hsplit ▸ List.nodup_range
  obtain ⟨-, hm, hl⟩ := List.nodup_append.mp hdistinct
  have hbefore : ∀ j ∈ l, (s.ch j).run = none := fun j hj => hrest j (hl j hj ch List.mem_cons_self)
  have hafter : ∀ j ∈ m, ((s.heatTo ch).ch j).run = none := fun j hj => by
    have hne : j ≠ ch := fun e => (List.nodup_cons.mp hm).1 (e ▸ hj)
    rw [hkeeps j hne, hrest j hne]
  rw [State.heat, if_neg hruns, hsplit, List.foldl_append, List.foldl_cons, State.foldl_heatTo_of_none hbefore,
    State.foldl_heatTo_of_none hafter]

end

/-- A channel as time has left it: what goes out on the lanes leaves the stage alone. -/
theorem State.elapse_ch (s : State) (dt j : Nat) : (s.elapse dt).ch j = ((s.tick dt).heat).ch j := by
  refine congrArg (fun a : Act => a.chans.getD j (ActCh.reset 0 0)) ?_
  unfold State.elapse
  dsimp only
  split
  · rfl
  · exact State.egress_act _

/-- The channels when the pulse of one of them has run its length. -/
theorem State.elapse_theta_of_sole {s : State} {ch dt : Nat} {r : Pulse} (hl : s.live = true) (hch : ch < 4) (h : (s.ch ch).run = some r)
    (hrest : ∀ j, j ≠ ch → (s.ch j).run = none) (hj : s.judged ch r.both = [ch]) (hc : r.counted < r.steps)
    (ht : r.start + r.steps * 12500 ≤ s.now + dt) :
    ((s.elapse dt).ch ch).theta = min ((s.ch ch).theta + (r.steps - r.counted) * (s.ch ch).heat) 0xffffff ∧
      ∀ j, j ≠ ch → ((s.elapse dt).ch j).theta = (s.ch j).theta := by
  have hnow : (s.tick dt).now = s.now + dt := by rw [State.tick, State.live_resetLeft hl, Nat.sub_zero]
  have hheat : (s.tick dt).heatTo ch = _ := State.heatTo_of_sole h hj hc (hnow ▸ ht)
  have hothers : ∀ j, j ≠ ch → ((s.tick dt).heatTo ch).ch j = s.ch j := fun j hne => by
    rw [hheat, State.heatCh_ch_ne _ _ _ _ _ hne, State.ch_modCh_ne hne]
    rfl
  have hlen : ch < (s.tick dt).act.chans.length := State.ch_lt_of_run h
  have hsole : (s.tick dt).heat = (s.tick dt).heatTo ch := State.heat_of_sole h hch hrest hothers
  refine ⟨?_, fun j hne => ?_⟩
  · rw [State.elapse_ch, hsole, hheat, State.heatCh_theta _ _ _ _ _ (by rw [State.modCh_length]; exact hlen),
      State.modCh_keeps ActCh.theta (f := r.counting r.steps) fun _ => rfl,
      State.modCh_keeps ActCh.heat (f := r.counting r.steps) fun _ => rfl]
    rfl
  · rw [State.elapse_ch, hsole, hothers j hne]

section
variable {s : State} {dt : Nat} (hl : (s.elapse dt).live = true)
include hl

theorem exec_kickEnd_of_live (x : Fin 4) : exec (.kickEnd dt x) s = .next ((s.elapse dt).kickEnd x.val) :=
  congrArg Host.Outcome.next (State.run_of_live hl _)

theorem exec_actPulseDone_of_live (x : Fin 4) : exec (.actPulseDone dt x) s = .next ((s.elapse dt).pulseDone x.val) :=
  congrArg Host.Outcome.next (State.run_of_live hl _)

theorem exec_overcurrent_of_live (x : Fin 4) : exec (.overcurrent dt x) s = .next ((s.elapse dt).channelFault x.val 1) :=
  congrArg Host.Outcome.next (State.run_of_live hl _)

theorem exec_openLoad_of_live (x : Fin 4) : exec (.openLoad dt x) s = .next ((s.elapse dt).channelFault x.val 2) :=
  congrArg Host.Outcome.next (State.run_of_live hl _)

theorem exec_hostPulseDrop_of_live (w : Fin 2) : exec (.hostPulseDrop dt w) s = .next ((s.elapse dt).hostPulseDrop w.val) :=
  congrArg Host.Outcome.next (State.run_of_live hl _)

theorem exec_actSupply_of_live (v b : Byte) : exec (.actSupply dt v b) s = .next ((s.elapse dt).actSupply v.toNat b.toNat) :=
  congrArg Host.Outcome.next (State.run_of_live hl _)

theorem exec_pulseStart_of_live (x : Fin 4) : exec (.pulseStart dt x) s = .next ((s.elapse dt).pulseStart x.val) :=
  congrArg Host.Outcome.next (State.run_of_live hl _)

end

/-- Settles O9: the kick and the length by their instants, the end of the pulse by what `pulseOver` notes, and the heat by the steps
that the passing of time puts into the one channel that drives. -/
theorem pulseRunsItsLength : Obligations.PulseRunsItsLength := by
  unfold Obligations.PulseRunsItsLength
  refine ⟨?_, ?_⟩
  · rintro dt x r s u rfl hl hlen hr
    rw [exec_kickEnd_of_live hl, exec_actPulseDone_of_live hl]
    generalize s.elapse dt = u at *
    refine ⟨fun hk ht => ?_, fun hn => ?_, fun ht => ?_, fun ht => ?_⟩
    · rw [State.kickEnd_of_due hr hk ht]
    · rw [State.kickEnd_of_not_due hr hn]
    · rw [State.pulseDone_of_early hr ht]
    · rw [State.pulseDone_of_due hr ht]
      obtain ⟨hnv, hsup, hplt, hpa, hpb⟩ := State.endPulse_beside hr (r.start + r.steps * 12500) r.steps
      have hact := State.endPulse_act hr (r.start + r.steps * 12500) r.steps
      have hch := State.endPulse_ch hr (r.start + r.steps * 12500) r.steps
      obtain ⟨cs, hover⟩ := u.pulseOver_eq x.val (r.start + r.steps * 12500) r.both
      refine ⟨_, rfl, ?_, fun j hj h4 => ?_, ?_, fun j => ?_, ?_, ?_, ?_, hnv, hsup, hplt, hpa, hpb⟩
      · rw [hch, State.pulseOver_run _ _ _ _ (State.ch_lt_of_run hr)]
      · rw [hch, State.pulseOver_lastPulse _ _ _ _ hj (hlen ▸ h4)]
      · rw [hact, hover]
      · rw [hch, State.pulseOver_theta]
      all_goals rw [hact, hover]
  · intro dt x r s hl hlen hr hrest hj hc ht
    rw [exec_actPulseDone_of_live (State.elapse_live hl dt)]
    obtain ⟨hown, hothers⟩ := State.elapse_theta_of_sole hl x.isLt hr hrest hj hc ht
    refine ⟨_, rfl, ?_, fun j hne => ?_⟩
    · rw [State.pulseDone_theta, hown]
    · rw [State.pulseDone_theta, hothers j hne]

end Sys2Proof.Machine

namespace Sys2Proof.Machine

/-! ## A pulse counted on a record that must be repaired (15 R341, R345) -/

/-- A module at reset with an open pulse due on LS0, whose tally has a HIGH record with the CRC of copy A wrong. -/
def State.wornTally : State :=
  { State.reset with
    act := { Act.reset with chans := modAt Act.reset.chans 0 (fun c => { c with due := some ⟨.open_, 200, 0⟩ }) }
    nv := { Nv.fresh with tally := modAt Nv.fresh.tally 0 (fun y => { y with high := ⟨none, some (0, 0)⟩ }) } }

/-- Refutes O10: a tally is counted after its HIGH record has been read back and rewritten (R341), and nothing in the statement says
that both copies of it are valid. Here the pulse that starts leaves copy A repaired; the first clause claims that only the stroke
cell has changed. -/
theorem not_pulseStarts : ¬ Obligations.PulseStarts := by
  unfold Obligations.PulseStarts
  intro h
  obtain ⟨hopen, -⟩ := h 0 0 State.wornTally _ rfl (by decide +kernel) (by decide +kernel) (by decide +kernel)
  have hfresh : ((State.wornTally.elapse 0).ch 0).lastPulse = none := by decide +kernel
  obtain ⟨t, hexec, -, -, -, htally, -⟩ := hopen 200 0 (by decide +kernel) fun e he => nomatch hfresh.symm.trans he
  rw [exec_pulseStart_of_live (by decide +kernel)] at hexec
  obtain rfl := Host.Outcome.next.inj hexec
  exact absurd htally (by decide +kernel)

end Sys2Proof.Machine

namespace Sys2Proof.Machine

/-! ## A channel fault during a pulse (12 R277) -/

section
variable {s : State} {ch : Nat}

theorem State.channelFault_of_idle (h : s.carrier ch = none) (kind : Nat) : s.channelFault ch kind = s := by
  simp [State.channelFault, h]

variable {c : Nat} {r : Pulse} (h : s.carrier ch = some c) (hr : (s.ch c).run = some r)
include h hr

theorem State.channelFault_overcurrent : s.channelFault ch 1 =
    ((s.modCh (if s.paired ch then ch / 2 * 2 else ch) (fun c => { c with oc := true })).post0 0x00a2
      [word (if s.paired ch then ch / 2 * 2 else ch), 1#32]).endPulse c s.now (min r.steps ((s.now - r.start) / 12500)) := by
  simp only [State.channelFault, h, hr]
  exact if_neg (by simp)

theorem State.channelFault_openLoad (ht : r.start + 125000 ≤ s.now) : s.channelFault ch 2 =
    ((s.modCh (if s.paired ch then ch / 2 * 2 else ch) (fun c => { c with ol := true })).post0 0x00a2
      [word (if s.paired ch then ch / 2 * 2 else ch), 2#32]).endPulse c s.now (min r.steps ((s.now - r.start) / 12500)) := by
  simp only [State.channelFault, h, hr]
  exact if_neg (by simp [pulseStep, Nat.not_lt.mpr ht])

theorem State.channelFault_openLoad_early (ht : s.now < r.start + 125000) : s.channelFault ch 2 = s := by
  simp only [State.channelFault, h, hr]
  exact if_pos (by simp [pulseStep, ht])

end

/-! ## Host pulses dropped, and the supply (12 R273, R276) -/

theorem State.dropWait_of_some {s : State} {w : Nat} {h : HostPulse} (hw : s.act.waits.getD w none = some h) (reason : Nat) :
    s.dropWait w reason =
      ({ s with act := { s.act with waits := s.act.waits.set w none } } : State).post0 0x00a1 [word h.channel, word reason] := by
  rw [State.dropWait, hw]

theorem State.hostPulseDrop_of_due {s : State} {w : Nat} {h : HostPulse} (hw : s.act.waits.getD w none = some h)
    (ht : h.since + 125000000 ≤ s.now) : s.hostPulseDrop w =
      ({ s with act := { s.act with waits := s.act.waits.set w none } } : State).post0 0x00a1 [word h.channel, 1#32] := by
  rw [State.hostPulseDrop, hw]
  exact (if_pos ht).trans (State.dropWait_of_some hw 1)

section
variable (s : State) (w reason : Nat)

/-- No pulse waits on a switch after the drop, as where none did before. -/
theorem State.dropWait_act : (s.dropWait w reason).act = { s.act with waits := s.act.waits.set w none } := by
  cases h : s.act.waits.getD w none with
  | some x => rw [State.dropWait_of_some h, State.post0_act]
  | none =>
    have hset : s.act.waits.set w none = s.act.waits := by
      by_cases hw : w < s.act.waits.length
      · rw [List.getD_eq_getElem _ _ hw] at h
        exact (congrArg (s.act.waits.set w) h.symm).trans (List.set_getElem_self hw)
      · exact List.set_eq_of_length_le (Nat.not_lt.mp hw)
    rw [State.dropWait, h, hset]

theorem State.dropWait_beside :
    (s.dropWait w reason).nv = s.nv ∧ (s.dropWait w reason).sup = s.sup ∧ (s.dropWait w reason).saf = s.saf := by
  unfold State.dropWait
  split <;> simp

end

/-- The stage under another supply. -/
def State.supply (s : State) (vact vboost : Nat) : State := { s with act := { s.act with vact := vact, vboost := vboost } }

section
variable {s : State} {v b : Nat}

theorem State.actSupply_of_same (h : vactOk v = vactOk s.act.vact) : s.actSupply v b = s.supply v b := if_pos h

theorem State.actSupply_of_return (h : vactOk s.act.vact = false) (hv : vactOk v = true) :
    s.actSupply v b = (s.supply v b).post0 0x00a7 [1#32] := by
  simp [State.actSupply, State.supply, h, hv]

theorem State.actSupply_of_loss (h : vactOk s.act.vact = true) (hv : vactOk v = false) :
    s.actSupply v b = (((s.supply v b).post0 0x00a7 [0#32]).dropWait 0 3).dropWait 1 3 := by
  simp [State.actSupply, State.supply, h, hv]

end

/-- Settles O11: a fault on a driven channel by its kind and the age of the pulse, a wait by its age, and a change of the supply by
whether VACT was and is in its range. -/
theorem pulsesCutShort : Obligations.PulsesCutShort := by
  unfold Obligations.PulsesCutShort
  refine ⟨?_, ?_, ?_, ?_⟩
  · rintro dt x r c s u rfl hl hc hr
    rw [exec_overcurrent_of_live hl, exec_openLoad_of_live hl]
    refine ⟨?_, fun ht => ?_, fun ht => ?_⟩
    · rw [State.channelFault_overcurrent hc hr]
    · rw [State.channelFault_openLoad hc hr ht]
    · rw [State.channelFault_openLoad_early hc hr ht]
  · rintro dt x s u rfl hl hc
    rw [exec_overcurrent_of_live hl, exec_openLoad_of_live hl, State.channelFault_of_idle hc, State.channelFault_of_idle hc]
    exact ⟨rfl, rfl⟩
  · rintro dt w h s u rfl hl hw ht
    rw [exec_hostPulseDrop_of_live hl, State.hostPulseDrop_of_due hw ht]
  · rintro dt v b s u rfl hl hlen
    rw [exec_actSupply_of_live hl]
    generalize s.elapse dt = u at *
    refine ⟨fun hv hwas => ?_, fun hv hwas => ?_, fun hv => ?_⟩
    · obtain ⟨y, z, hwaits⟩ := List.length_eq_two.mp hlen
      rw [State.actSupply_of_loss hwas hv]
      obtain ⟨hnv, hsup, hsaf⟩ := (((u.supply v.toNat b.toNat).post0 0x00a7 [0#32]).dropWait 0 3).dropWait_beside 1 3
      obtain ⟨hnv', hsup', hsaf'⟩ := ((u.supply v.toNat b.toNat).post0 0x00a7 [0#32]).dropWait_beside 0 3
      refine ⟨_, rfl, ?_, ?_, ?_, ?_⟩
      · rw [State.dropWait_act, State.dropWait_act, State.post0_act, State.supply, hwaits]
        rfl
      · rw [hnv, hnv', State.post0_nv, State.supply]
      · rw [hsup, hsup', State.post0_sup, State.supply]
      · rw [hsaf, hsaf', State.post0_saf, State.supply]
    · rw [State.actSupply_of_same (hv.trans hwas.symm), State.supply]
    · cases hwas : vactOk u.act.vact with
      | true => rw [State.actSupply_of_same (hv.trans hwas.symm), if_pos rfl, State.supply]
      | false => rw [State.actSupply_of_return hwas hv, if_neg Bool.false_ne_true, State.supply]

end Sys2Proof.Machine

namespace Sys2Proof.Machine

/-! ## A position report that ends a shutter event (05 R122, 17 R383, R385) -/

theorem exec_positionReport_of_live {s : State} {dt : Nat} (hl : (s.elapse dt).live = true) (i : Fin 2) (l : Bool) :
    exec (.positionReport dt i l) s = .next (((s.elapse dt).positionReport i.val l).endIdleEvent .A) :=
  congrArg Host.Outcome.next (State.run_of_live hl _)

/-- A shutter event whose OPEN has been reported and whose next marker has not fallen. -/
def ShEvent.reopened : ShEvent :=
  { c := 5, start := 0, closed := true, win := none, sums := [], bad := [], taken := 0, temps := [], bds := [], blades := [], asked := 0,
    fail := none, openDue := false, opens := 1, lastOpen := 0, driven := true, opened := true, formed := false, ended := none,
    anc := Bundle.factory.anc }

/-- A module that has gone to SAFE from IMAGING within that event, with no level of SHUT_SENSE1 reported yet. -/
def State.safeWithinEvent : State :=
  ({ State.reset with
      sup := { Sup.reset with mode := .imaging }
      pa := { Pl.reset with reading := true, event := some ShEvent.reopened } } : State).enterSafe

/-- Refutes O12: a report also ends a shutter event that has been opened and that no marker will end, as the pipeline reads no more, and
the statement does not exclude one. The entry to SAFE leaves such an event; the first report of SHUT_SENSE1 ends it, where the
statement claims that the report makes the level known and changes nothing else. -/
theorem not_senseAndCooling : ¬ Obligations.SenseAndCooling := by
  unfold Obligations.SenseAndCooling
  rintro ⟨⟨-, -, -, hreport⟩, -⟩
  have hclaim := hreport 0 1 true ⟨none, [], none⟩ State.safeWithinEvent _ rfl (by decide +kernel) (by decide +kernel) (Or.inl rfl)
  rw [exec_positionReport_of_live (by decide +kernel)] at hclaim
  have hevent := congrArg (fun t => t.pa.event.isSome) (Host.Outcome.next.inj hclaim)
  exact absurd hevent (by decide +kernel)

end Sys2Proof.Machine

namespace Sys2Proof.Machine

/-! ## The queue, and a module held in OFF (17 R372, R379) -/

/-- Settles O1: `step` takes the queue apart by its two constructors. -/
theorem stepTakesFront : Obligations.StepTakesFront := by
  unfold Obligations.StepTakesFront
  constructor
  · intro c rest s hq
    simp only [step, hq]
  · intro s hq
    simp only [step, hq]

/-- Every command that reaches no module in OFF does its work under `State.run`, after its time has passed. -/
theorem exec_eq_run (c : Instr) (h : Instr.reachesOff c = false) : ∃ (dt : Nat) (f : State → State), ∀ s, exec c s = .next (s.run dt f) := by
  cases c
  case moduleReset => contradiction
  case pwrGoodFall => contradiction
  case wakeIn => contradiction
  case wakeInFall => contradiction
  all_goals exact ⟨_, _, fun _ => rfl⟩

/-- Settles O2: such work is not done in OFF. -/
theorem offHoldsTheModule : Obligations.OffHoldsTheModule := by
  unfold Obligations.OffHoldsTheModule
  intro c s hoff hc
  obtain ⟨dt, f, hexec⟩ := exec_eq_run c hc
  exact ⟨dt, by rw [hexec, State.run_of_off hoff]⟩

end Sys2Proof.Machine

namespace Sys2Proof.Machine

/-! ## A module reset that reads a refresh status other than 0 (10 R241, 14 R313, R317, 17 R373) -/

/-- A module in SAFE after dangerous fault 1, at the instant of its reset. -/
def State.safeOnFault : State := State.reset.fault 1

/-- Refutes O58: a module reset leaves SAFE and reads the refresh status of the channels; a status of 1 stands in a channel of frame
memory afterwards, where the statement claims the block's reset values. -/
theorem not_safeLeftByReset : ¬ Obligations.SafeLeftByReset := by
  unfold Obligations.SafeLeftByReset
  intro h
  have hrests : State.safeOnFault.rests := State.reset.fault_decides 1 (by decide +kernel) (by decide +kernel) |>.2.2.2.2.1 (by decide +kernel)
  rcases h (.moduleReset 0 .power false [1]) State.safeOnFault _ (by decide +kernel) hrests rfl with hmode | ⟨-, -, -, -, -, -, -, hdrm, -⟩
  · exact absurd hmode (by decide +kernel)
  · exact absurd (congrArg (fun d => (d.chans.getD 0 DramCh.zero).rate) hdrm) (by decide +kernel)

/-- Refutes O59: a module reset that reads a refresh status of 2 decides dangerous fault 8 within the same command, so that a fault
other than the one latched before is the first afterwards. -/
theorem not_firstFaultLatched : ¬ Obligations.FirstFaultLatched := by
  unfold Obligations.FirstFaultLatched
  rintro ⟨-, h⟩
  rcases h (.moduleReset 0 .power false [2]) State.safeOnFault _ (by decide +kernel) rfl with hsaf | ⟨hfirst, -⟩
  · exact absurd (congrArg Saf.first hsaf) (by decide +kernel)
  · exact absurd hfirst (by decide +kernel)

end Sys2Proof.Machine

namespace Sys2Proof.Machine

/-! ## Stuff bits and words of bytes (13 R283, R285) -/

/-- From any run of at most 24 equal bits on, every stuff bit comes out again and none is marked as a violation (R285). -/
theorem destuff_stuff (bs : List Bool) : ∀ (last : Bool) (run : Nat), run ≤ 24 →
    destuff false last run (stuff last run bs) = bs.map (fun b => (b, false)) := by
  induction bs with
  | nil =>
    intro last run _
    by_cases hfull : run = 24 <;> simp [stuff, destuff, hfull]
  | cons b bs ih =>
    intro last run hrun
    by_cases hfull : run = 24
    · by_cases hb : b = !last <;> simp [stuff, destuff, hfull, hb, ih]
    · by_cases hb : b = last
      · simp [stuff, destuff, hfull, hb, ih _ _ (show run + 1 ≤ 24 by omega)]
      · simp [stuff, destuff, hfull, hb, ih]

/-- The number that bytes spell, the first the least significant. -/
def bytesValue (l : List Byte) : Nat := l.foldr (fun (b : Byte) n => 256 * n + b.toNat) 0

theorem bytesValue_lt (l : List Byte) : bytesValue l < 256 ^ l.length := by
  induction l with
  | nil => exact Nat.one_pos
  | cons b l ih =>
    have hb := b.isLt
    have hcons : bytesValue (b :: l) = 256 * bytesValue l + b.toNat := rfl
    rw [hcons, List.length_cons, Nat.pow_succ]
    omega

theorem bytesValue_digit (l : List Byte) : ∀ k, bytesValue l / 256 ^ k % 256 = (l.getD k 0#8).toNat := by
  induction l with
  | nil => intro k; simp [bytesValue]
  | cons b l ih =>
    intro k
    have hb := b.isLt
    have hcons : bytesValue (b :: l) = 256 * bytesValue l + b.toNat := rfl
    cases k with
    | zero => rw [hcons, List.getD_cons_zero]; omega
    | succ k =>
      have hrest : bytesValue (b :: l) / 256 = bytesValue l := by omega
      rw [List.getD_cons_succ, ← ih k, Nat.pow_succ, Nat.mul_comm (256 ^ k), ← Nat.div_div_eq_div_mul, hrest]

/-- Eight bytes give a word that gives them back (R283). -/
theorem wordBytes_of_eight (l : List Byte) (h : l.length = 8) : wordBytes (BitVec.ofNat 64 (bytesValue l)) = l := by
  have hlt : bytesValue l < 2 ^ 64 := by simpa [h] using bytesValue_lt l
  apply List.ext_getElem
  · simp [wordBytes, h]
  · intro k _ hk
    have hdigit := bytesValue_digit l k
    simp only [wordBytes, byteOf, List.getElem_map, List.getElem_range, BitVec.toNat_ofNat, Nat.mod_eq_of_lt hlt]
    rw [show 2 ^ (8 * k) = 256 ^ k by rw [Nat.pow_mul], hdigit, List.getD_eq_getElem _ _ hk]
    simp

/-- The words of a whole number of eights of bytes: their number, and the bytes that they give back. -/
theorem wordsOfBytes_eights : ∀ (n : Nat) (l : List Byte), l.length ≤ 8 * n → l.length % 8 = 0 →
    (wordsOfBytes n l).length = l.length / 8 ∧ (wordsOfBytes n l).flatMap wordBytes = l := by
  intro n
  induction n with
  | zero =>
    intro l hn _
    obtain rfl : l = [] := List.eq_nil_of_length_eq_zero (by omega)
    exact ⟨rfl, rfl⟩
  | succ n ih =>
    intro l hn h8
    cases hl : l.isEmpty with
    | true =>
      obtain rfl : l = [] := List.isEmpty_iff.mp hl
      exact ⟨rfl, rfl⟩
    | false =>
      have hpos : 0 < l.length := List.length_pos_iff.mpr (fun e => by simp [e] at hl)
      obtain ⟨ilen, ibytes⟩ := ih (l.drop 8) (by rw [List.length_drop]; omega) (by rw [List.length_drop]; omega)
      have hcons : wordsOfBytes (n + 1) l = BitVec.ofNat 64 (bytesValue (l.take 8)) :: wordsOfBytes n (l.drop 8) := by
        rw [wordsOfBytes, hl, if_neg Bool.false_ne_true]
        rfl
      rw [hcons]
      constructor
      · rw [List.length_cons, ilen, List.length_drop]
        omega
      · rw [List.flatMap_cons, ibytes, wordBytes_of_eight _ (by rw [List.length_take]; omega), List.take_append_drop]

/-! ## Fields of a control word (13 R283, R290, R296) -/

/-- A control word whose other fields begin at bit 16, as a number. -/
theorem toNat_ctrlWord_fields {t m : Nat} (ht : t < 256) (hm : m < 2 ^ 48) :
    (ctrlWord t (m * 2 ^ 16)).toNat = t + (255 - t) * 2 ^ 8 + m * 2 ^ 16 := by
  rw [ctrlWord, BitVec.toNat_ofNat, Nat.mod_eq_of_lt]
  omega

theorem typeOf_ctrlWord_fields {t m : Nat} (ht : t < 256) (hm : m < 2 ^ 48) : typeOf (ctrlWord t (m * 2 ^ 16)) = some t := by
  have h0 : byteOf (ctrlWord t (m * 2 ^ 16)) 0 = t := by rw [byteOf, toNat_ctrlWord_fields ht hm]; omega
  have h1 : byteOf (ctrlWord t (m * 2 ^ 16)) 1 = 255 - t := by
    have hhigh : (t + (255 - t) * 2 ^ 8 + m * 2 ^ 16) / 2 ^ (8 * 1) = 255 - t + m * 2 ^ 8 := by
      generalize 255 - t = b
      omega
    rw [byteOf, toNat_ctrlWord_fields ht hm, hhigh]
    omega
  rw [typeOf, h0, h1, if_pos (by omega)]

/-- Bits [hi:lo] of such a word from bit 16 on are those of its fields. -/
theorem wfld_ctrlWord_fields {t m : Nat} (ht : t < 256) (hm : m < 2 ^ 48) (hi lo : Nat) :
    wfld (ctrlWord t (m * 2 ^ 16)) (hi + 16) (lo + 16) = m / 2 ^ lo % 2 ^ (hi - lo + 1) := by
  have hlow : (t + (255 - t) * 2 ^ 8 + m * 2 ^ 16) / 2 ^ 16 = m := by omega
  rw [wfld, toNat_ctrlWord_fields ht hm, Nat.pow_add, Nat.mul_comm (2 ^ lo), ← Nat.div_div_eq_div_mul, hlow,
    show hi + 16 - (lo + 16) = hi - lo by omega]

end Sys2Proof.Machine

namespace Sys2Proof.Machine

/-! ## Blocks that a synchronised receiver takes (13 R284, R288, R290) -/

/-- A synchronised receiver that keeps its lock over the next `n` valid blocks and meets no place for an LSYNC among them. -/
structure Lane.InSync (x : Lane) (n : Nat) : Prop where
  synced : x.state = 2
  room : x.pos + n ≤ lsyncPeriod
  heard : (x.win.filter (fun ok => !ok)).length < 16

/-- The receiver after one valid scrambled block, but for what the block means. -/
def Lane.past (x : Lane) (w : BitVec 64) : Lane :=
  { x.noteHeader true with scrambler := (scramble x.scrambler w).2, pos := x.pos + 1 }

/-- A valid header spoils no packet and takes no lock. -/
theorem Lane.InSync.not_drowned {x : Lane} {n : Nat} (h : x.InSync n) : (x.noteHeader true).drowned = false := by
  have hsub : ((((true : Bool) :: x.win).take 64).filter (fun ok => !ok)).length ≤ (x.win.filter (fun ok => !ok)).length :=
    ((List.take_sublist 64 (true :: x.win)).filter _).length_le
  have hheard := h.heard
  simp only [Lane.drowned, Lane.noteHeader, decide_eq_false_iff_not]
  omega

theorem Lane.InSync.past {x : Lane} {n : Nat} (h : x.InSync (n + 1)) (w : BitVec 64) : (x.past w).InSync n := by
  refine ⟨h.synced, ?_, ?_⟩
  · have hroom := h.room
    show x.pos + 1 + n ≤ lsyncPeriod
    omega
  · have hkept := h.not_drowned
    simpa [Lane.drowned, Lane.past] using hkept

theorem Lane.InSync.pos_ne {x : Lane} {n : Nat} (h : x.InSync (n + 1)) : x.pos ≠ lsyncPeriod := by
  have hroom := h.room
  omega

/-- A scrambled control block is the control word it stands for. -/
theorem Lane.InSync.takeBlock_ctrl {x : Lane} {n : Nat} (h : x.InSync (n + 1)) (w : BitVec 64) :
    x.takeBlock (ctrlBlock (scramble x.scrambler w).1) = (x.past w).control w :=
  Machine.takeBlock_ctrl x w h.synced h.pos_ne h.not_drowned

/-- A scrambled data block is the word it stands for. -/
theorem Lane.InSync.takeBlock_data {x : Lane} {n : Nat} (h : x.InSync (n + 1)) (w : BitVec 64) :
    x.takeBlock (dataBlock (scramble x.scrambler w).1) = ((x.past w).dataWord w, []) := by
  have hvalid : blockValid (dataBlock (scramble x.scrambler w).1) = true := rfl
  have hstate : x.state ≠ 0 := by rw [h.synced]; decide
  have hsync : (x.noteHeader true).state ≠ 1 := by show x.state ≠ 1; rw [h.synced]; decide
  have hpos : (x.noteHeader true).pos ≠ lsyncPeriod := h.pos_ne
  have hkey : (x.noteHeader true).scrambler = x.scrambler := rfl
  simp only [Lane.takeBlock, hvalid, h.not_drowned, if_neg hstate, if_neg hsync, if_neg hpos, Bool.false_eq_true, if_false, Lane.payload,
    Bool.not_true]
  simp only [dataBlock, hkey, scramble_twice, Bool.false_eq_true, if_false]
  rfl

/-- Blocks are taken from the first on, the reports in their order. -/
theorem Lane.takeBlocks_cons (x : Lane) (b : RxBlock) (bs : List RxBlock) :
    x.takeBlocks (b :: bs) = (((x.takeBlock b).1.takeBlocks bs).1, (x.takeBlock b).2 ++ ((x.takeBlock b).1.takeBlocks bs).2) := by
  have hfold : ∀ (l : List RxBlock) (r : Lane × List RxEvent),
      l.foldl (fun r b => let n := r.1.takeBlock b; (n.1, r.2 ++ n.2)) r = ((r.1.takeBlocks l).1, r.2 ++ (r.1.takeBlocks l).2) := by
    intro l
    induction l with
    | nil => intro r; simp [Lane.takeBlocks]
    | cons c l ih =>
      intro r
      have hone := ih ((r.1.takeBlock c).1, r.2 ++ (r.1.takeBlock c).2)
      have htwo := ih ((r.1.takeBlock c).1, (r.1.takeBlock c).2)
      simp only [Lane.takeBlocks, List.foldl_cons, List.nil_append] at hone htwo ⊢
      rw [hone, htwo, List.append_assoc]
  rw [Lane.takeBlocks, List.foldl_cons, hfold]
  simp only [List.nil_append]

theorem Lane.takeBlocks_nil (x : Lane) : x.takeBlocks [] = (x, []) := rfl

/-- What the blocks of a packet leave of a receiver: its state, its place, its counts of errors and its partner. -/
structure Lane.Carried (x y : Lane) (n : Nat) : Prop where
  state : y.state = x.state
  pos : y.pos = x.pos + n
  hdrErr : y.hdrErr = x.hdrErr
  ctrlErr : y.ctrlErr = x.ctrlErr
  crcErr : y.crcErr = x.crcErr

theorem Lane.past_carried (x : Lane) (w : BitVec 64) : x.Carried (x.past w) 1 := ⟨rfl, rfl, rfl, rfl, rfl⟩

/-- The data blocks within a packet are kept in it, newest first. -/
theorem Lane.takeBlocks_data (ds : List (BitVec 64)) (rest : List RxBlock) : ∀ (x : Lane) (p : RxPacket) (n : Nat),
    x.InSync (ds.length + n) → x.asm_ = some p → p.bad = false →
    ∃ y, x.takeBlocks (scrambleBlocks x.scrambler (ds.map dataBlock ++ rest)) = y.takeBlocks (scrambleBlocks y.scrambler rest) ∧
      x.Carried y ds.length ∧ y.InSync n ∧
      y.asm_ = some { p with words := ds.reverse ++ p.words, age := p.age + ds.length } := by
  induction ds with
  | nil =>
    intro x p n hsync hasm _
    exact ⟨x, rfl, ⟨rfl, rfl, rfl, rfl, rfl⟩, by simpa using hsync, by simpa using hasm⟩
  | cons d ds ih =>
    intro x p n hsync hasm hgood
    have hnext : x.InSync (ds.length + n + 1) := by
      rw [List.length_cons] at hsync
      rwa [show ds.length + n + 1 = ds.length + 1 + n by omega]
    have hword : (x.past d).dataWord d = { x.past d with asm_ := some { p with words := d :: p.words, age := p.age + 1 } } := by
      simp [Lane.dataWord, Lane.past, Lane.noteHeader, hasm, hgood]
    have hheld := hnext.past d
    obtain ⟨y, htake, hcarried, hy, hasm'⟩ := ih ((x.past d).dataWord d) { p with words := d :: p.words, age := p.age + 1 } n
      (by rw [hword]; exact ⟨hheld.synced, hheld.room, hheld.heard⟩) (by rw [hword]) hgood
    refine ⟨y, ?_, ?_, hy, ?_⟩
    · have hkey : ((x.past d).dataWord d).scrambler = (scramble x.scrambler d).2 := by rw [hword]; rfl
      rw [← htake, hkey]
      show x.takeBlocks (dataBlock (scramble x.scrambler d).1 :: scrambleBlocks (scramble x.scrambler d).2 (ds.map dataBlock ++ rest)) = _
      rw [Lane.takeBlocks_cons, hnext.takeBlock_data]
      rfl
    · rw [hword] at hcarried
      refine ⟨hcarried.state, ?_, hcarried.hdrErr, hcarried.ctrlErr, hcarried.crcErr⟩
      have hpos : y.pos = x.pos + 1 + ds.length := hcarried.pos
      rw [hpos, List.length_cons]
      omega
    · rw [hasm']
      simp [Nat.add_assoc, Nat.add_comm 1]

end Sys2Proof.Machine

namespace Sys2Proof.Machine

/-! ## A packet on the line (13 R284, R290, R291) -/

/-- SOP outside a packet opens one. -/
theorem Lane.control_sop {x : Lane} {w : BitVec 64} (hasm : x.asm_ = none) (htype : typeOf w = some 0x33) :
    x.control w = ({ x with asm_ := some (openPacket w) }, []) := by
  simp only [Lane.control, hasm, htype]

/-- A TRN block outside a packet is reported. -/
theorem Lane.control_trn {x : Lane} {w : BitVec 64} (hasm : x.asm_ = none) (htype : typeOf w = some 0x66) :
    x.control w = (x, [.trn (trnOf w)]) := by
  simp only [Lane.control, hasm, htype]

/-- The fields of SOP above its TYPE, from bit 16 on. -/
def NlPacket.sopFields (p : NlPacket) : Nat :=
  p.kind + p.stream * 2 ^ 4 + p.data.length * 2 ^ 8 + p.line * 2 ^ 20 + p.tag * 2 ^ 32

/-- A packet whose fields fit in SOP (R290). -/
structure NlPacket.Fits (p : NlPacket) : Prop where
  kind : p.kind < 16
  stream : p.stream < 16
  line : p.line < 2048
  tag : p.tag < 65536
  data : p.data.length < 4096

theorem NlPacket.Fits.sop_eq {p : NlPacket} (h : p.Fits) : p.sopFields < 2 ^ 48 ∧ p.sop = ctrlWord 0x33 (p.sopFields * 2 ^ 16) := by
  obtain ⟨hkind, hstream, hline, htag, hdata⟩ := h
  constructor
  · rw [NlPacket.sopFields]
    omega
  · rw [NlPacket.sop, NlPacket.sopFields, Nat.mod_eq_of_lt hkind, Nat.mod_eq_of_lt hstream, Nat.mod_eq_of_lt hline, Nat.mod_eq_of_lt htag,
      Nat.mod_eq_of_lt hdata]
    refine congrArg (ctrlWord 0x33) ?_
    omega

/-- The packet that SOP opens has the fields that SOP carries. -/
theorem NlPacket.Fits.openPacket_sop {p : NlPacket} (h : p.Fits) :
    openPacket p.sop = ⟨p.kind, p.stream, p.data.length, p.line, p.tag, [], false, 0⟩ := by
  obtain ⟨hlt, hsop⟩ := h.sop_eq
  obtain ⟨hkind, hstream, hline, htag, hdata⟩ := h
  have hfld := wfld_ctrlWord_fields (t := 0x33) (by decide) hlt
  have h0 := hfld 3 0
  have h4 := hfld 7 4
  have h8 := hfld 19 8
  have h20 := hfld 30 20
  have h32 := hfld 47 32
  simp only [NlPacket.sopFields] at h0 h4 h8 h20 h32
  rw [openPacket, hsop, NlPacket.sopFields, h0, h4, h8, h20, h32]
  congr 1 <;> omega

theorem NlPacket.Fits.typeOf_sop {p : NlPacket} (h : p.Fits) : typeOf p.sop = some 0x33 := by
  obtain ⟨hlt, hsop⟩ := h.sop_eq
  rw [hsop, typeOf_ctrlWord_fields (by decide) hlt]

/-- The CRC that EOP carries: that of the payload, inverted by an injection (R290, R304). -/
def NlPacket.eopCrc (p : NlPacket) : Word :=
  if p.badCrc then ~~~crc32 (p.data.flatMap wordBytes) else crc32 (p.data.flatMap wordBytes)

theorem NlPacket.eop_eq (p : NlPacket) : p.eop = ctrlWord 0x4b (p.eopCrc.toNat * 2 ^ 32) := rfl

/-- EOP of an unspoilt packet with all its data ends it whole, or by its CRC where that is inverted. -/
theorem Lane.control_eop_of_packet (x : Lane) (p : NlPacket) (q : RxPacket) (hasm : x.asm_ = some q) (hgood : q.bad = false)
    (hlen : q.words.length = q.blocks) (hbytes : q.bytes = p.data.flatMap wordBytes) :
    x.control p.eop = ({ x with asm_ := none, crcErr := if p.badCrc = true then satInc x.crcErr 1 0xffffffff else x.crcErr },
      [if p.badCrc = true then .discarded q else .packet q]) := by
  have hcrc : wfld p.eop 63 32 = p.eopCrc.toNat := by
    rw [NlPacket.eop_eq, upper_ctrlWord 0x4b _ (by decide) p.eopCrc.isLt]
  have hend : ¬(q.bad || decide (q.words.length ≠ q.blocks)) = true := by simp [hgood, hlen]
  have htype : typeOf p.eop = some 0x4b := by
    rw [NlPacket.eop_eq, typeOf_ctrlWord 0x4b _ (by decide) p.eopCrc.isLt]
  rw [control_eop x q p.eop hasm htype, Lane.endPacket, if_neg hend, hcrc, hbytes]
  cases hbad : p.badCrc with
  | false =>
    rw [if_neg (by simp [NlPacket.eopCrc, hbad])]
    rfl
  | true =>
    have hne : crc32 (p.data.flatMap wordBytes) ≠ ~~~crc32 (p.data.flatMap wordBytes) := by
      intro e
      have hbit := congrArg (fun v => v.getLsbD 0) e
      simp at hbit
    have heop : p.eopCrc = ~~~crc32 (p.data.flatMap wordBytes) := by rw [NlPacket.eopCrc, hbad, if_pos rfl]
    rw [heop, if_pos (fun e => hne (BitVec.eq_of_toNat_eq e))]
    rfl

/-- The data blocks of a packet with a whole number of eights of bytes. -/
theorem NlPacket.data_of_eights {p : NlPacket} (h8 : p.payload.length % 8 = 0) :
    p.data.length = p.payload.length / 8 ∧ p.data.flatMap wordBytes = p.payload :=
  wordsOfBytes_eights _ _ (by omega) h8

/-- A packet sent whole is taken whole by a synchronised receiver, or with its CRC inverted discarded for its CRC (R284, R290, R291). -/
theorem Lane.takeBlocks_packet {x : Lane} {p : NlPacket} (hwhole : p.abort = none) (hfits : p.Fits) (hsync : x.InSync (p.data.length + 2))
    (hasm : x.asm_ = none) :
    ∃ y, x.takeBlocks (scrambleBlocks x.scrambler p.blocks) =
        (y, [if p.badCrc = true then .discarded ⟨p.kind, p.stream, p.data.length, p.line, p.tag, p.data.reverse, false, p.data.length + 1⟩
          else .packet ⟨p.kind, p.stream, p.data.length, p.line, p.tag, p.data.reverse, false, p.data.length + 1⟩]) ∧
      y.asm_ = none ∧ y.state = 2 ∧ y.pos = x.pos + (p.data.length + 2) ∧ y.hdrErr = x.hdrErr ∧ y.ctrlErr = x.ctrlErr ∧
      y.crcErr = if p.badCrc = true then satInc x.crcErr 1 0xffffffff else x.crcErr := by
  have hpast := hsync.past p.sop
  have hopen : (x.past p.sop).control p.sop = ({ x.past p.sop with asm_ := some (openPacket p.sop) }, []) :=
    Lane.control_sop (by simp [Lane.past, Lane.noteHeader, hasm]) hfits.typeOf_sop
  obtain ⟨z, htake, hcarried, hz, hzasm⟩ := Lane.takeBlocks_data p.data [ctrlBlock p.eop]
    { x.past p.sop with asm_ := some (openPacket p.sop) } (openPacket p.sop) 1 ⟨hpast.synced, hpast.room, hpast.heard⟩ rfl
    (by rw [hfits.openPacket_sop])
  rw [hfits.openPacket_sop] at hzasm
  simp only [List.append_nil, Nat.zero_add] at hzasm
  have hq : (z.past p.eop).asm_ = some ⟨p.kind, p.stream, p.data.length, p.line, p.tag, p.data.reverse, false, p.data.length + 1⟩ := by
    simp [Lane.past, Lane.noteHeader, hzasm]
  refine ⟨{ z.past p.eop with asm_ := none, crcErr := if p.badCrc = true then satInc (z.past p.eop).crcErr 1 0xffffffff else (z.past p.eop).crcErr },
    ?_, rfl, hz.synced, ?_, hcarried.hdrErr, hcarried.ctrlErr, ?_⟩
  · have hblocks : x.takeBlocks (scrambleBlocks x.scrambler p.blocks) = x.takeBlocks (ctrlBlock (scramble x.scrambler p.sop).1 ::
        scrambleBlocks (scramble x.scrambler p.sop).2 (p.data.map dataBlock ++ [ctrlBlock p.eop])) := by
      rw [NlPacket.blocks, hwhole]
      rfl
    have hrest : ({ x.past p.sop with asm_ := some (openPacket p.sop) } : Lane).takeBlocks
        (scrambleBlocks (scramble x.scrambler p.sop).2 (p.data.map dataBlock ++ [ctrlBlock p.eop])) =
          z.takeBlocks [ctrlBlock (scramble z.scrambler p.eop).1] := htake
    rw [hblocks, Lane.takeBlocks_cons, hsync.takeBlock_ctrl, hopen, hrest, Lane.takeBlocks_cons, hz.takeBlock_ctrl,
      Lane.control_eop_of_packet _ p _ hq rfl (List.length_reverse ..) (by rw [RxPacket.bytes, List.reverse_reverse]), Lane.takeBlocks_nil]
    rfl
  · have hpos : z.pos = x.pos + 1 + p.data.length := hcarried.pos
    show z.pos + 1 = _
    omega
  · show (if p.badCrc = true then satInc z.crcErr 1 0xffffffff else z.crcErr) = _
    rw [hcarried.crcErr]
    rfl

end Sys2Proof.Machine

namespace Sys2Proof.Machine

/-! ## TRN blocks and the blocks of a transmitter (13 R284, R289, R296) -/

/-- The fields of TRN above its TYPE, from bit 16 on. -/
def trnFields (t : TrnBlock) : Nat :=
  t.role.toNat + t.lane.toNat * 2 ^ 2 + t.ack.toNat * 2 ^ 4 + t.ready.toNat * 2 ^ 5 + t.serial.toNat * 2 ^ 16

theorem trnFields_lt (t : TrnBlock) : trnFields t < 2 ^ 48 := by
  have hrole := t.role.isLt
  have hlane := t.lane.isLt
  have hack := t.ack.toNat_lt
  have hready := t.ready.toNat_lt
  have hserial := t.serial.isLt
  rw [trnFields]
  omega

theorem trnWord_eq (t : TrnBlock) : trnWord t = ctrlWord 0x66 (trnFields t * 2 ^ 16) := by
  have hack : (if t.ack then 2 ^ 20 else 0) = t.ack.toNat * 2 ^ 20 := by cases t.ack <;> rfl
  have hready : (if t.ready then 2 ^ 21 else 0) = t.ready.toNat * 2 ^ 21 := by cases t.ready <;> rfl
  rw [trnWord, trnFields, hack, hready]
  refine congrArg (ctrlWord 0x66) ?_
  omega

theorem getLsbD_eq_wfld (w : BitVec 64) (i : Nat) : w.getLsbD i = decide (wfld w i i = 1) := by
  rw [BitVec.getLsbD, Nat.testBit_eq_decide_div_mod_eq, wfld, Nat.sub_self, Nat.zero_add, Nat.pow_one]

/-- A TRN block gives the fields that it was made of (R296). -/
theorem trnOf_trnWord (t : TrnBlock) : trnOf (trnWord t) = t := by
  have hrole := t.role.isLt
  have hlane := t.lane.isLt
  have hack := t.ack.toNat_lt
  have hready := t.ready.toNat_lt
  have hserial := t.serial.isLt
  have hfld := wfld_ctrlWord_fields (t := 0x66) (by decide) (trnFields_lt t)
  have h0 : wfld (trnWord t) 17 16 = t.role.toNat := by rw [trnWord_eq, hfld 1 0, trnFields]; omega
  have h2 : wfld (trnWord t) 19 18 = t.lane.toNat := by rw [trnWord_eq, hfld 3 2, trnFields]; omega
  have h4 : wfld (trnWord t) 20 20 = t.ack.toNat := by rw [trnWord_eq, hfld 4 4, trnFields]; omega
  have h5 : wfld (trnWord t) 21 21 = t.ready.toNat := by rw [trnWord_eq, hfld 5 5, trnFields]; omega
  have h16 : wfld (trnWord t) 63 32 = t.serial.toNat := by rw [trnWord_eq, hfld 47 16, trnFields]; omega
  rw [trnOf, h0, h2, getLsbD_eq_wfld, h4, getLsbD_eq_wfld, h5, h16]
  simp

/-- A TRN block comes to a synchronised receiver outside a packet as what was sent, and as nothing else. -/
theorem Lane.takeItem_trn {x : Lane} (hsync : x.InSync 1) (hasm : x.asm_ = none) (t : TrnBlock) :
    x.takeItem (.block (ctrlBlock (scramble x.scrambler (trnWord t)).1)) = (x.past (trnWord t), [.trn t]) := by
  have htype : typeOf (trnWord t) = some 0x66 := by rw [trnWord_eq, typeOf_ctrlWord_fields (by decide) (trnFields_lt t)]
  rw [Lane.takeItem, hsync.takeBlock_ctrl, Lane.control_trn (by simp [Lane.past, Lane.noteHeader, hasm]) htype, trnOf_trnWord]

/-- A lane with no injection puts LSYNC on each period (R284). -/
theorem Lane.txBlock_of_period {x : Lane} (h : x.spoils = []) (l : Nat) {c : Nat} (b : RxBlock) (hc : c % 16384 = 0) :
    x.txBlock l c b = ctrlBlock (lsyncWord l (txSeed l)) := by
  simp [Lane.txBlock, lsyncPeriod, h, hc]

/-- Between two LSYNC it sends what it has, scrambled. -/
theorem Lane.txBlock_between {x : Lane} (h : x.spoils = []) (l : Nat) {c : Nat} (b : RxBlock) (hc : c % 16384 ≠ 0) :
    x.txBlock l c b = { b with payload := (scramble (txScrambler l c) b.payload).1 } := by
  simp [Lane.txBlock, lsyncPeriod, h, hc]

/-- A lane that is off is dark, and one that sends no pattern carries control words where no packet is (R289, R303). -/
theorem State.fillOf_of_off {s : State} {l : Nat} (h : (s.lane l).on = false) : s.fillOf l = .dark := by
  simp [State.fillOf, h]

theorem State.fillOf_of_on {s : State} {l : Nat} (hlive : s.live = true) (hon : (s.lane l).on = true) (hprbs : (s.lane l).prbs = 0) :
    ∃ w, s.fillOf l = .words w := by
  unfold State.fillOf
  dsimp only
  rw [hlive, hon, hprbs]
  by_cases htrain : (s.trainLane l && decide (s.nl.comp.state = 2) && s.nl.comp.retryAt.isNone) = true
  · exact ⟨_, by rw [if_neg (by decide), if_neg (by decide), if_pos htrain]⟩
  · exact ⟨_, by rw [if_neg (by decide), if_neg (by decide), if_neg htrain]⟩

/-- Settles O60: scrambler, stuff bits, transmitter, packets and TRN blocks each by its own lemma; a packet's words give its bytes back. -/
theorem lineCarries : Obligations.LineCarries := by
  unfold Obligations.LineCarries
  refine ⟨scramble_twice, fun last run bs hrun => destuff_stuff bs last run hrun, ?_, ?_, ?_⟩
  · rintro s l c p x hlive rfl hprbs hspoils
    refine ⟨fun hoff => ?_, fun hon => ?_⟩
    · rw [State.lineBlock, State.fillOf_of_off hoff]
    · obtain ⟨w, hfill⟩ := State.fillOf_of_on hlive hon hprbs
      refine ⟨_, by rw [State.lineBlock, hfill], fun hc => ?_, fun q k w' hp hk hc => ?_⟩
      · exact Lane.txBlock_of_period hspoils l _ hc
      · rw [Lane.txBlock_between hspoils l _ hc, hp]
        simp only [List.getD_eq_getElem?_getD, hk, Option.getD_some]
  · intro p x hwhole hkind hstream hline htag h8 hlen hstate hasm hroom hheard
    obtain ⟨hdata, hbytes⟩ := NlPacket.data_of_eights h8
    have hsize : p.data.length + 2 = p.size := by rw [NlPacket.size, hdata]; omega
    obtain ⟨y, htake, hyasm, hystate, hypos, hyhdr, hyctrl, hycrc⟩ := Lane.takeBlocks_packet hwhole
      ⟨hkind, hstream, hline, htag, by omega⟩ ⟨hstate, by rw [hsize]; exact hroom, hheard⟩ hasm
    refine ⟨y, _, htake, rfl, rfl, rfl, rfl, hdata, ?_, hyasm, hystate, by rw [hypos, hsize], hyhdr, hyctrl, hycrc⟩
    rw [RxPacket.bytes, List.reverse_reverse, hbytes]
  · intro t x hstate hasm hpos hheard
    exact ⟨_, Lane.takeItem_trn ⟨hstate, hpos, hheard⟩ hasm t, hstate, rfl⟩

end Sys2Proof.Machine

namespace Sys2Proof.Machine

/-! ## Traffic of a lane (13 R283 to R288, R291) -/

/-- The commands that bring traffic of a lane. -/
def laneCommands (dt : Nat) (l : Fin 4) (rx : RxTraffic) : List Instr :=
  [.nlLocked dt l rx, .lsync dt l rx, .missingLsync dt l rx, .nlLockLost dt l rx, .trn dt l rx, .chunk dt l rx, .header dt l rx,
    .coeff dt l rx, .rowS dt l rx, .rowL dt l rx, .cmdRun dt l rx, .cmdRetry dt l rx, .cmdPulse dt l rx, .cmdBlade dt l rx, .cmdStop dt l rx]

/-- Whatever row it is named by, such a command takes all of its traffic. -/
theorem exec_laneCommand {s u : State} {dt : Nat} (hu : u = s.elapse dt) (hl : u.live = true) {l : Fin 4} {rx : RxTraffic} {c : Instr}
    (hc : c ∈ laneCommands dt l rx) : exec c s = .next (u.receive l.val rx) := by
  subst hu
  simp only [laneCommands, List.mem_cons, List.not_mem_nil, or_false] at hc
  rcases hc with rfl | rfl | rfl | rfl | rfl | rfl | rfl | rfl | rfl | rfl | rfl | rfl | rfl | rfl | rfl <;>
    exact congrArg Host.Outcome.next (State.run_of_live hl _)

/-- A receiver that is ignored takes nothing. -/
theorem State.receive_of_ignored {u : State} {l : Nat} (h : u.receives l = false) (rx : RxTraffic) : u.receive l rx = u := by
  have hitem : ∀ i, u.rxItem l rx.sig i = u := fun i => by rw [State.rxItem, h]; rfl
  unfold State.receive
  induction rx.items with
  | nil => rfl
  | cons i is ih => rw [List.foldl_cons, hitem, ih]

/-- One item that comes on a receiver in use: the lane as it takes it, and what it reports in its order. -/
theorem State.receive_item {u : State} {l : Nat} {i : RxItem} {y : Lane} {es : List RxEvent} (hr : u.receives l = true)
    (ht : (u.lane l).takeItem i = (y, es)) (sig : Bool) :
    u.receive l ⟨[i], sig⟩ = es.foldl (fun s e => s.rxEvent l sig e) (u.modLane l (fun _ => y)) := by
  unfold State.receive State.rxItem
  simp only [List.foldl_cons, List.foldl_nil, hr, ht, Bool.not_true, Bool.false_eq_true, if_false]

/-! ### The search for a block boundary (R287) -/

theorem length_blockBits (b : RxBlock) : (blockBits b).length = 66 := by simp [blockBits]

/-- Blocks with valid headers on the boundary are counted up to the 64th. -/
theorem hunt_blocks (bs : List RxBlock) : ∀ (fuel good bad : Nat), (∀ b ∈ bs, b.h0 ≠ b.h1) → good + bs.length = 64 → bs.length < fuel →
    hunt fuel good bad ((bs.flatMap blockBits).map (fun b => (b, false))) = (bad, some []) := by
  induction bs with
  | nil =>
    intro fuel good bad _ hgood hfuel
    obtain ⟨fuel, rfl⟩ : ∃ n, fuel = n + 1 := ⟨fuel - 1, by omega⟩
    rw [hunt, if_pos (by simpa using hgood)]
    rfl
  | cons b bs ih =>
    intro fuel good bad hvalid hgood hfuel
    obtain ⟨fuel, rfl⟩ : ∃ n, fuel = n + 1 := ⟨fuel - 1, by omega⟩
    rw [List.length_cons] at hgood hfuel
    have hb : (b.h0 != b.h1) = true := bne_iff_ne.mpr (hvalid b List.mem_cons_self)
    have hlen : ((blockBits b).map (fun b => (b, false))).length = 66 := by rw [List.length_map, length_blockBits]
    have hquiet : ((blockBits b).map (fun b => (b, false))).any Prod.snd = false := by simp
    rw [hunt, if_neg (by omega), List.flatMap_cons, List.map_append, if_neg (by rw [List.length_append, hlen]; omega)]
    simp only [List.take_left' hlen, List.drop_left' hlen, hquiet]
    have hhead : ((blockBits b).map (fun b => (b, false))).getD 0 (false, false) = (b.h0, false) := rfl
    have hnext : ((blockBits b).map (fun b => (b, false))).getD 1 (false, false) = (b.h1, false) := rfl
    rw [hhead, hnext, hb, if_pos (by decide)]
    exact ih fuel (good + 1) bad (fun c hc => hvalid c (List.mem_cons_of_mem _ hc)) (by omega) (by omega)

theorem satInc_zero {a m : Nat} (h : a < m) : satInc a 0 m = a := by simp [satInc, h]

/-- 64 valid headers in a row lock a receiver in HUNT (R287). -/
theorem Lane.takeItem_locks {x : Lane} {last : Bool} {run : Nat} {line : List Bool} {bs : List RxBlock} (h0 : x.state = 0)
    (herr : x.hdrErr < 0xffffffff) (hlen : bs.length = 64) (hvalid : ∀ b ∈ bs, b.h0 ≠ b.h1)
    (hline : destuff false last run line = (bs.flatMap blockBits).map (fun b => (b, false))) :
    x.takeItem (.bits last run line) = ({ x with state := 1, win := List.replicate 64 true }, [.locked]) := by
  have hfuel : bs.length < ((bs.flatMap blockBits).map (fun b => (b, false))).length + 1 := by
    simp only [List.length_map, List.length_flatMap, length_blockBits, List.map_const', List.sum_replicate_nat]
    omega
  have hhunt := hunt_blocks bs _ 0 0 hvalid (by omega) hfuel
  rw [Lane.takeItem, Lane.takeBits, hline]
  simp only [h0, hhunt, if_true, satInc_zero herr]
  rfl

/-! ### LSYNC (R286 to R288) -/

/-- An LSYNC with a SEED other than 0 is one (R286). -/
theorem lsyncOf_lsyncWord {a : Nat} {seed : BitVec 31} (ha : a < 4) (hseed : seed ≠ 0#31) :
    lsyncOf (ctrlBlock (lsyncWord a seed)) = some (a, seed) := by
  have hlt := seed.isLt
  have hword : lsyncWord a seed = ctrlWord 0x2d ((a + seed.toNat * 2 ^ 16) * 2 ^ 16) := by
    refine congrArg (ctrlWord 0x2d) ?_
    omega
  have hm : a + seed.toNat * 2 ^ 16 < 2 ^ 48 := by omega
  have hlane : wfld (lsyncWord a seed) 19 16 = a := by
    rw [hword, wfld_ctrlWord_fields (by decide) hm 3 0]
    omega
  have hfld : wfld (lsyncWord a seed) 62 32 = seed.toNat := by
    rw [hword, wfld_ctrlWord_fields (by decide) hm 46 16]
    omega
  have htype : typeOf (lsyncWord a seed) = some 0x2d := by rw [hword, typeOf_ctrlWord_fields (by decide) hm]
  have hback : BitVec.ofNat 31 seed.toNat = seed := by simp
  simp only [lsyncOf, ctrlBlock, hlane, hfld, htype, hback]
  simp [blockValid, hseed]

/-- The headers noted with one more. -/
theorem Lane.noteHeader_win (x : Lane) (ok : Bool) : (x.noteHeader ok).win = ok :: x.win.take 63 := rfl

theorem Lane.not_drowned_of_valid {x : Lane} (h : ((x.win.take 63).filter (fun ok => !ok)).length < 16) :
    (x.noteHeader true).drowned = false := by
  simpa [Lane.drowned, Lane.noteHeader_win] using h

/-- The receiver after a valid LSYNC of lane `a`: its header noted, synchronised to SEED. -/
def Lane.synced (x : Lane) (a : Nat) (seed : BitVec 31) : Lane :=
  { x with win := true :: x.win.take 63, asm_ := x.asm_.map (fun p => { p with age := p.age + 1 }),
           state := 2, partner := a, seed := seed, scrambler := seed, missRun := 0, pos := 1 }

theorem Lane.sync_noteHeader (x : Lane) {a : Nat} (ha : a < 4) (seed : BitVec 31) : (x.noteHeader true).sync a seed = x.synced a seed := by
  simp [Lane.sync, Lane.synced, Lane.noteHeader, Nat.mod_eq_of_lt ha]

/-- A receiver that is LOCKED, or SYNCED at the place of an LSYNC, synchronises on a valid one (R287, R288). -/
theorem Lane.takeBlock_lsync {x : Lane} {b : RxBlock} {a : Nat} {seed : BitVec 31} (hsync : lsyncOf b = some (a, seed)) (ha : a < 4)
    (hstate : x.state = 1 ∨ (x.state = 2 ∧ x.pos = 16384)) (hvalid : blockValid b = true)
    (hheard : ((x.win.take 63).filter (fun ok => !ok)).length < 16) : x.takeBlock b = (x.synced a seed, [.lsync]) := by
  have hnote : (x.noteHeader true).state = x.state := rfl
  have hpos : (x.noteHeader true).pos = x.pos := rfl
  rw [← Lane.sync_noteHeader x ha]
  rcases hstate with h1 | ⟨h2, h3⟩
  · simp [Lane.takeBlock, hvalid, hsync, Lane.not_drowned_of_valid hheard, hnote, h1]
  · simp [Lane.takeBlock, hvalid, hsync, Lane.not_drowned_of_valid hheard, hnote, hpos, h2, h3, lsyncPeriod]

/-- At the place of an LSYNC another block is a missing one (R288). -/
theorem Lane.takeBlock_missing {x : Lane} {b : RxBlock} (hsync : lsyncOf b = none) (h2 : x.state = 2) (hpos : x.pos = 16384)
    (hkept : (x.noteHeader (blockValid b)).drowned = false) : x.takeBlock b = (x.noteHeader (blockValid b)).missSync := by
  have hnote : (x.noteHeader (blockValid b)).state = 2 := h2
  have hplace : (x.noteHeader (blockValid b)).pos = 16384 := hpos
  simp [Lane.takeBlock, hsync, hkept, hnote, hplace, h2, lsyncPeriod]

/-- The sixteenth invalid header of 64 loses lock (R287). -/
theorem Lane.takeBlock_drowned {x : Lane} {b : RxBlock} (hstate : x.state ≠ 0) (hbad : blockValid b = false)
    (hheard : 15 ≤ ((x.win.take 63).filter (fun ok => !ok)).length) : x.takeBlock b = (x.noteHeader false).lose := by
  have hdrowned : (x.noteHeader false).drowned = true := by
    simpa [Lane.drowned, Lane.noteHeader_win] using hheard
  rw [Lane.takeBlock, if_neg hstate, hbad]
  exact if_pos hdrowned

/-- A loss of lock outside a packet reports nothing else. -/
theorem Lane.lose_of_idle {x : Lane} (h : x.asm_ = none) : x.lose = ({ x.idle with losses := satInc x.losses 1 65535 }, [.lost]) := by
  simp [Lane.lose, Lane.giveUp, h, Lane.idle]

end Sys2Proof.Machine

namespace Sys2Proof.Machine

/-! ## Receivers while a link ends (13 R287, R297, R302) -/

/-- The state and the losses of each receiver. -/
def State.rxView (s : State) (l : Nat) : Nat × Nat := ((s.lane l).state, (s.lane l).losses)

section
variable (s : State)

/-- A change of the transmitter of a lane leaves every receiver alone. -/
theorem State.modLane_rxView (l : Nat) (f : Lane → Lane) (h : ∀ x, (f x).state = x.state ∧ (f x).losses = x.losses) :
    (s.modLane l f).rxView = s.rxView := by
  funext j
  rw [State.rxView, State.lane_modLane]
  split
  · rw [(h (s.lane j)).1, (h (s.lane j)).2]
    rfl
  · rfl

theorem State.rxView_of_nl {s t : State} (h : t.nl = s.nl) : t.rxView = s.rxView := by
  funext j
  simp [State.rxView, State.lane, h]

@[simp] theorem State.modComp_rxView (f : Comp → Comp) : (s.modComp f).rxView = s.rxView := rfl
@[simp] theorem State.saf_rxView (x : Saf) : State.rxView { s with saf := x } = s.rxView := rfl
@[simp] theorem State.modCh_rxView (c : Nat) (f : ActCh → ActCh) : (s.modCh c f).rxView = s.rxView := rfl
@[simp] theorem State.modPl_rxView (p : Pipe) (f : Pl → Pl) : (s.modPl p f).rxView = s.rxView := State.rxView_of_nl (by simp)
@[simp] theorem State.post0_rxView (c : Nat) (a : List Word) : (s.post0 c a).rxView = s.rxView := State.rxView_of_nl (by simp)
@[simp] theorem State.postP_rxView (p : Pipe) (c : Nat) (a : List Word) : (s.postP p c a).rxView = s.rxView := State.rxView_of_nl (by simp)
@[simp] theorem State.warnBit_rxView (b : Nat) : (s.warnBit b).rxView = s.rxView := by
  unfold State.warnBit
  split <;> simp
@[simp] theorem State.noteSent_rxView (l : Nat) (ps : List NlPacket) : (s.noteSent l ps).rxView = s.rxView := by
  unfold State.noteSent
  split <;> rfl
@[simp] theorem State.sendPacket_rxView (k t l n g : Nat) (q : List Byte) : (s.sendPacket k t l n g q).rxView = s.rxView := by
  rw [State.sendPacket, State.noteSent_rxView]
  refine s.modLane_rxView l _ (fun x => ?_)
  split <;> exact ⟨rfl, rfl⟩
@[simp] theorem State.shutterPulse_rxView (p : Pipe) (o : Owner) : (s.shutterPulse p o).rxView = s.rxView := by
  cases p <;> simp [State.shutterPulse, State.duePulse, State.sendCmd]
@[simp] theorem State.countFailure_rxView (p : Pipe) : (s.countFailure p).rxView = s.rxView := by
  unfold State.countFailure
  dsimp only
  split <;> simp
@[simp] theorem State.closeEvent_rxView (p : Pipe) : (s.closeEvent p).rxView = s.rxView := by
  unfold State.closeEvent
  (repeat' split) <;> simp
@[simp] theorem State.failEvent_rxView (p : Pipe) (r : Nat) : (s.failEvent p r).rxView = s.rxView := by
  unfold State.failEvent
  (repeat' split) <;> simp
@[simp] theorem State.issueOpen_rxView (p : Pipe) : (s.issueOpen p).rxView = s.rxView := by
  unfold State.issueOpen
  (repeat' split) <;> simp
@[simp] theorem State.endIdleEvent_rxView (p : Pipe) : (s.endIdleEvent p).rxView = s.rxView := by
  unfold State.endIdleEvent
  dsimp only
  (repeat' split) <;> simp
@[simp] theorem State.leaveImaging_rxView (p : Pipe) : (s.leaveImaging p).rxView = s.rxView := by
  unfold State.leaveImaging
  extract_lets anch was
  split <;> simp [State.abortEvent]
@[simp] theorem State.cutFrameB_rxView : s.cutFrameB.rxView = s.rxView := by
  unfold State.cutFrameB
  (repeat' split) <;> simp
@[simp] theorem State.cutPipeB_rxView : s.cutPipeB.rxView = s.rxView := by
  simp [State.cutPipeB_eq, State.stopReading, State.endEventB]
@[simp] theorem State.loseCompanion_rxView (reason : Nat) : (s.loseCompanion reason).rxView = s.rxView := by simp [State.loseCompanion]

/-- A module in RELAY that loses its host ends its link; all it may still do is open the shutter (R302). -/
theorem State.loseHost_shows : s.loseHost.rxView = s.rxView ∧ s.loseHost.nl.comp = s.nl.comp.detect ∧ s.loseHost.pa = s.pa ∧
    s.loseHost.pb = s.pb ∧ s.loseHost.nv = s.nv := by
  unfold State.loseHost State.startOpening
  dsimp only
  (repeat' split) <;> exact ⟨rfl, rfl, rfl, rfl, rfl⟩

end

/-- A mask without one of its bits. -/
theorem drop_bit_clears (m k : Nat) : (if m / 2 ^ k % 2 = 1 then m - 2 ^ k else m) / 2 ^ k % 2 = 0 := by
  have hpow : 0 < 2 ^ k := Nat.two_pow_pos k
  split
  · have hsub : (m - 2 ^ k) / 2 ^ k = m / 2 ^ k - 1 := by
      have h := Nat.sub_mul_div m (2 ^ k) 1
      rwa [Nat.mul_one] at h
    rw [hsub]
    omega
  · omega

/-- A receiver of no link lane is lost: NL_LOCK_LOST, and the lane can join no link (R291, R296). -/
theorem State.lockLost_beside {v : State} {l : Nat} (h : v.linkLane l = false) : (v.lockLost l).nl.lanes = v.nl.lanes ∧
    (v.lockLost l).nl.comp.state = v.nl.comp.state ∧ (v.lockLost l).nl.comp.lanes / 2 ^ (l % 2) % 2 = 0 ∧ (v.lockLost l).sup = v.sup ∧
    (v.lockLost l).pa = v.pa ∧ (v.lockLost l).pb = v.pb ∧ (v.lockLost l).act = v.act ∧ (v.lockLost l).nv = v.nv := by
  have hlink : (v.post0 0x00b0 [word l]).linkLane l = false := by
    rw [← h]
    simp [State.linkLane]
  unfold State.lockLost
  dsimp only
  rw [hlink, if_neg Bool.false_ne_true]
  refine ⟨by simp [State.modComp], by simp [State.modComp], ?_, by simp, by simp, by simp, by simp, by simp⟩
  exact drop_bit_clears _ _

/-- A receiver of a link lane is lost: the link begins anew, and a host stops reading pipeline B (R302). -/
theorem State.lockLost_linked {v : State} {l : Nat} (h : v.linkLane l = true) : (v.lockLost l).rxView = v.rxView ∧
    (v.lockLost l).nl.comp.state = 1 ∧ (v.lockLost l).nl.comp.loss = (if l < 2 then v.nl.comp.loss else 1) ∧
    (2 ≤ l → (v.lockLost l).pb.reading = false) ∧ (v.lockLost l).pa = v.pa ∧ (v.lockLost l).nv = v.nv := by
  have hlink : (v.post0 0x00b0 [word l]).linkLane l = true := by
    rw [← h]
    simp [State.linkLane]
  unfold State.lockLost
  dsimp only
  rw [hlink, if_pos rfl]
  by_cases hl : l < 2
  · obtain ⟨hrx, hcomp, hpa, -, hnv⟩ := (v.post0 0x00b0 [word l]).loseHost_shows
    rw [if_pos hl, if_pos hl]
    refine ⟨by rw [hrx, State.post0_rxView], by rw [hcomp]; rfl, ?_, fun h2 => absurd hl (by omega), by simp [hpa], by simp [hnv]⟩
    rw [hcomp, State.post0_nl]
    rfl
  · obtain ⟨hstate, hloss, hread, hnv, -, -⟩ := (v.post0 0x00b0 [word l]).loseCompanion_shows 1
    obtain ⟨fs, hview⟩ := (v.post0 0x00b0 [word l]).loseCompanion_linkView 1
    rw [if_neg hl, if_neg hl]
    refine ⟨by simp, hstate, hloss, fun _ => hread, ?_, by simp [hnv]⟩
    exact (congrArg LinkView.pa hview).trans (State.post0_pa ..)

/-! ## What a lane receives -/

/-- A lane of a block that is taken, among the lanes of the module. -/
theorem State.lane_put {u : State} {l : Nat} (hlen : u.nl.lanes.length = 4) (hl : l < 4) (y : Lane) :
    (u.modLane l (fun _ => y)).lane l = y := by
  rw [State.lane_modLane, if_pos ⟨rfl, by omega⟩]

theorem State.lane_put_ne (u : State) {l j : Nat} (h : j ≠ l) (y : Lane) : (u.modLane l (fun _ => y)).lane j = u.lane j := by
  rw [State.lane_modLane, if_neg (fun e => h e.1.symm)]

/-- A link that is not in DETECT stays where an LSYNC comes (R297). -/
theorem State.leaveDetect_of_other {v : State} {l : Nat} (h : v.nl.comp.state ≠ 1) : v.leaveDetect l = v := by
  simp [State.leaveDetect, h]

/-- DETECT is left at the LSYNC of a paired lane (R297). -/
theorem State.leaveDetect_of_pair {v : State} {l : Nat} (h : v.nl.comp.state = 1) (hretry : v.nl.comp.retryAt = none)
    (hsynced : (v.lane l).state = 2) (hpair : (v.lane l).partner = (l + 2) % 4) : v.leaveDetect l = v.modComp (fun c =>
      { c with state := 2, since := v.now, lanes := 0, heard := 0, acks := 0, ready := false, attempts := satInc c.attempts 1 255 }) := by
  simp [State.leaveDetect, h, hretry, hsynced, hpair]

/-- The second missing LSYNC in a row loses lock (R288). -/
theorem Lane.missSync_second {x : Lane} (hrun : x.missRun = 1) (hasm : x.asm_ = none) :
    ∃ z, x.missSync = (z, [.missing, .lost]) ∧ z.state = 0 ∧ z.missing = satInc x.missing 1 65535 ∧ z.losses = satInc x.losses 1 65535 := by
  refine ⟨{ x.idle with missing := satInc x.missing 1 65535, scrambler := x.seed, losses := satInc x.losses 1 65535 }, ?_, rfl, rfl, rfl⟩
  rw [Lane.missSync]
  simp only [hrun, Lane.lose_of_idle (x := { x with missing := satInc x.missing 1 65535, scrambler := x.seed, missRun := 1 + 1, pos := 1 }) hasm]
  rfl

/-- One item that a command brings to a receiver in use: the lane as it takes it, and what it reports in its order. -/
theorem exec_laneCommand_item {s u : State} {dt : Nat} {l : Fin 4} {i : RxItem} {y : Lane} {es : List RxEvent} (c : Instr) (sig : Bool)
    (hu : u = s.elapse dt) (hl : u.live = true) (hr : u.receives l.val = true) (ht : (u.lane l.val).takeItem i = (y, es))
    (hc : c ∈ laneCommands dt l ⟨[i], sig⟩) :
    exec c s = .next (es.foldl (fun s e => s.rxEvent l.val sig e) (u.modLane l.val (fun _ => y))) := by
  rw [exec_laneCommand hu hl hc, State.receive_item hr ht]

/-- Settles O40: each block that comes is taken as the receiver's state has it, and what it reports is followed in the link. -/
theorem lanesReceive : Obligations.LanesReceive := by
  unfold Obligations.LanesReceive
  refine ⟨fun dt l rx c s u hu hl hr hc => ?_, ?_⟩
  · rw [exec_laneCommand hu hl hc, State.receive_of_ignored hr]
  · rintro dt l sig x s u hu hl hlen hr rfl
    have hput := State.lane_put hlen l.isLt
    refine ⟨?_, ?_, ?_, ?_⟩
    · intro last run line bs h0 herr hbs hvalid hline
      exact exec_laneCommand_item _ sig hu hl hr (Lane.takeItem_locks h0 herr hbs hvalid hline) (by simp [laneCommands])
    · rintro b a seed y rfl ha hseed hstate hheard rfl
      have htake : (u.lane l.val).takeItem (.block (ctrlBlock (lsyncWord a seed))) = ((u.lane l.val).synced a seed, [.lsync]) :=
        Lane.takeBlock_lsync (lsyncOf_lsyncWord ha hseed) ha hstate rfl hheard
      have hexec : exec (.lsync dt l ⟨[.block (ctrlBlock (lsyncWord a seed))], sig⟩) s =
          .next ((u.modLane l.val (fun _ => (u.lane l.val).synced a seed)).leaveDetect l.val) :=
        exec_laneCommand_item _ sig hu hl hr htake (by simp [laneCommands])
      have hsynced := hput ((u.lane l.val).synced a seed)
      refine ⟨fun hlink => ?_, fun hlink hretry hpair => ?_⟩
      · rw [hexec, State.leaveDetect_of_other (by simpa [State.modLane] using hlink)]
        rfl
      · rw [hexec, State.leaveDetect_of_pair (by simpa [State.modLane] using hlink) (by simpa [State.modLane] using hretry)
          (by rw [hsynced]; rfl) (by rw [hsynced]; exact hpair)]
        rfl
    · rintro b y hno h2 hpos rfl hkept
      have htake := Lane.takeBlock_missing hno h2 hpos hkept
      refine ⟨fun hrun => ?_, fun hrun hasm hlink => ?_⟩
      · have hfirst : (u.lane l.val).takeItem (.block b) = ({ (u.lane l.val).noteHeader (blockValid b) with
            missing := satInc (u.lane l.val).missing 1 65535, scrambler := (u.lane l.val).seed, missRun := 1, pos := 1 }, [.missing]) := by
          rw [Lane.takeItem, htake]
          simp [Lane.missSync, Lane.noteHeader, hrun]
        exact exec_laneCommand_item _ sig hu hl hr hfirst (by simp [laneCommands])
      · obtain ⟨z, hz, hzstate, hzmissing, hzlosses⟩ := Lane.missSync_second (x := (u.lane l.val).noteHeader (blockValid b)) hrun
          (by simp [Lane.noteHeader, hasm])
        have hexec : exec (.missingLsync dt l ⟨[.block b], sig⟩) s = .next ((u.modLane l.val (fun _ => z)).lockLost l.val) :=
          exec_laneCommand_item _ sig hu hl hr (i := .block b) (htake.trans hz) (by simp [laneCommands])
        obtain ⟨hlanes, hstate, hjoin, hsup, hpa, hpb, hact, hnv⟩ := State.lockLost_beside (v := u.modLane l.val (fun _ => z)) (l := l.val) hlink
        have hlane : ∀ j, ((u.modLane l.val (fun _ => z)).lockLost l.val).lane j = (u.modLane l.val (fun _ => z)).lane j :=
          fun j => congrArg (fun ls : List Lane => ls.getD j Lane.reset) hlanes
        refine ⟨_, hexec, ?_, ?_, ?_, fun j hj => ?_, hstate, hjoin, hsup, hpa, hpb, hact, hnv⟩
        · rw [hlane, hput, hzstate]
        · rw [hlane, hput, hzmissing]
          rfl
        · rw [hlane, hput, hzlosses]
          rfl
        · rw [hlane, State.lane_put_ne u hj]
    · intro b hstate hbad hheard hasm
      have htake : (u.lane l.val).takeItem (.block b) = ({ ((u.lane l.val).noteHeader false).idle with
          losses := satInc (u.lane l.val).losses 1 65535 }, [.lost]) := by
        rw [Lane.takeItem, Lane.takeBlock_drowned hstate hbad hheard, Lane.lose_of_idle (by simp [Lane.noteHeader, hasm])]
        rfl
      have hexec := exec_laneCommand_item (.nlLockLost dt l ⟨[.block b], sig⟩) sig hu hl hr htake (by simp [laneCommands])
      refine ⟨fun hlink => ?_, fun hlink => ?_⟩
      · obtain ⟨hlanes, hlstate, -, hsup, hpa, hpb, hact, hnv⟩ := State.lockLost_beside (v := u.modLane l.val (fun _ =>
          { ((u.lane l.val).noteHeader false).idle with losses := satInc (u.lane l.val).losses 1 65535 })) (l := l.val) hlink
        have hlane := fun j => congrArg (fun ls : List Lane => ls.getD j Lane.reset) hlanes
        refine ⟨_, hexec, ?_, ?_, ?_, fun j hj => ?_, hlstate, hsup, hpa, hpb, hact, hnv⟩
        · exact congrArg Lane.state ((hlane l.val).trans (hput _))
        · exact congrArg Lane.hdrErr ((hlane l.val).trans (hput _))
        · exact congrArg Lane.losses ((hlane l.val).trans (hput _))
        · exact (hlane j).trans (State.lane_put_ne u hj _)
      · obtain ⟨hrx, hlstate, hloss, hread, hpa, hnv⟩ := State.lockLost_linked (v := u.modLane l.val (fun _ =>
          { ((u.lane l.val).noteHeader false).idle with losses := satInc (u.lane l.val).losses 1 65535 })) (l := l.val) hlink
        have hview := congrFun hrx l.val
        rw [State.rxView, State.rxView, hput] at hview
        exact ⟨_, hexec, congrArg Prod.fst hview, congrArg Prod.snd hview, hlstate, hloss, hread, hpa, hnv⟩

end Sys2Proof.Machine

namespace Sys2Proof.Machine

/-! ## The safety record while work ends (14 R313, R315) -/

/-- The record of faults, tests, session and channel: all of the safety block but its warning bits. -/
def State.safView (s : State) : Saf := { s.saf with warn := 0 }

section
variable (s : State)

theorem State.safView_of_saf {s t : State} (h : t.saf = s.saf) : t.safView = s.safView := by
  rw [State.safView, State.safView, h]

@[simp] theorem State.post0_safView (c : Nat) (a : List Word) : (s.post0 c a).safView = s.safView := State.safView_of_saf (by simp)
@[simp] theorem State.postP_safView (p : Pipe) (c : Nat) (a : List Word) : (s.postP p c a).safView = s.safView := State.safView_of_saf (by simp)
@[simp] theorem State.modPl_safView (p : Pipe) (f : Pl → Pl) : (s.modPl p f).safView = s.safView := State.safView_of_saf (by simp)
@[simp] theorem State.modCh_safView (c : Nat) (f : ActCh → ActCh) : (s.modCh c f).safView = s.safView := rfl
@[simp] theorem State.modLane_safView (l : Nat) (f : Lane → Lane) : (s.modLane l f).safView = s.safView := rfl
@[simp] theorem State.noteSent_safView (l : Nat) (ps : List NlPacket) : (s.noteSent l ps).safView = s.safView := State.safView_of_saf (by simp)
@[simp] theorem State.nl_safView (x : Nl) : State.safView { s with nl := x } = s.safView := rfl
@[simp] theorem State.act_safView (x : Act) : State.safView { s with act := x } = s.safView := rfl
@[simp] theorem State.sup_safView (x : Sup) : State.safView { s with sup := x } = s.safView := rfl
@[simp] theorem State.warnBit_safView (b : Nat) : (s.warnBit b).safView = s.safView := by
  unfold State.warnBit
  split
  · rfl
  · exact State.post0_safView _ _ _
@[simp] theorem State.sendPacket_safView (k t l n g : Nat) (q : List Byte) : (s.sendPacket k t l n g q).safView = s.safView := by
  simp [State.sendPacket]
@[simp] theorem State.shutterPulse_safView (p : Pipe) (o : Owner) : (s.shutterPulse p o).safView = s.safView := by
  cases p <;> simp [State.shutterPulse, State.duePulse, State.sendCmd]
@[simp] theorem State.countFailure_safView (p : Pipe) : (s.countFailure p).safView = s.safView := by
  unfold State.countFailure
  dsimp only
  split <;> simp
@[simp] theorem State.closeEvent_safView (p : Pipe) : (s.closeEvent p).safView = s.safView := by
  unfold State.closeEvent
  (repeat' split) <;> simp
@[simp] theorem State.abortEvent_safView (p : Pipe) : (s.abortEvent p).safView = s.safView := by
  have hfail : (s.failEvent p 5).safView = s.safView := by
    unfold State.failEvent
    (repeat' split) <;> simp
  rw [State.abortEvent, ← hfail]
  unfold State.issueOpen
  (repeat' split) <;> simp
@[simp] theorem State.stopPipe_safView (p : Pipe) : (s.stopPipe p).safView = s.safView := by
  have hclaims : ∀ (x : State) (f : Frame), (x.returnClaims f).safView = x.safView := by
    intro x f
    unfold State.returnClaims
    induction f.claims with
    | nil => rfl
    | cons c l ih => exact ih
  simp [State.stopPipe, foldl_keeps State.safView _ hclaims]
@[simp] theorem State.abortOn_safView (i r l : Nat) : (s.abortOn i r l).safView = s.safView := by
  unfold State.abortOn
  dsimp only
  (repeat' split) <;> simp
@[simp] theorem State.sendAbort_safView (i r : Nat) : (s.sendAbort i r).safView = s.safView := by
  have hlanes : ((s.abortOn i r 0).abortOn i r 1).safView = s.safView := by simp
  exact hlanes
@[simp] theorem State.abortStreams_safView : s.abortStreams.safView = s.safView := by simp [State.abortStreams]
@[simp] theorem State.dropWait_safView (w r : Nat) : (s.dropWait w r).safView = s.safView := by
  unfold State.dropWait
  split <;> simp
@[simp] theorem State.serveLanes_safView (m : Nat) : (s.serveLanes m).safView = s.safView := rfl
@[simp] theorem State.relayLink_safView (m : Mode) : (s.relayLink m).safView = s.safView := by
  unfold State.relayLink
  (repeat' split) <;> simp
@[simp] theorem State.leaveMode_safView (m : Mode) : (s.leaveMode m).safView = s.safView := by
  have himposed : ((s.impose .A (fun st => st.heldIn m)).impose .B (fun st => st.heldIn m)).safView = s.safView := by
    simp [State.impose]
  unfold State.leaveMode
  dsimp only
  split <;> exact himposed
@[simp] theorem State.enterMode_safView (m : Mode) : (s.enterMode m).safView = s.safView := by
  have hleft : ((s.leaveMode m).relayLink m).safView = s.safView := by simp
  exact (State.post0_safView _ _ _).trans hleft
@[simp] theorem State.postSafe_safView : s.postSafe.safView = s.safView := by
  unfold State.postSafe
  split <;> simp

/-- Entry to SAFE drives SAFE_N low, and of that record changes nothing else. -/
theorem State.enterSafe_safView : s.enterSafe.safView = { s.safView with safeN := false } := by
  have h : (((((((s.logCutBoot.abortEvent .A).abortEvent .B).endCycles.stopPipe .A).stopPipe .B).abortStreams.dropDue).dropWait 0 5).dropWait 1 5).safView
      = s.safView := by
    have hlog : s.logCutBoot.safView = s.safView := by
      unfold State.logCutBoot
      split <;> rfl
    have hend : ∀ x : State, x.endCycles.safView = x.safView := fun _ => rfl
    have hdue : ∀ x : State, x.dropDue.safView = x.safView := fun _ => rfl
    simp [hlog, hend, hdue]
  unfold State.enterSafe
  dsimp only
  rw [State.postSafe_safView, State.enterMode_safView]
  exact congrArg (fun x : Saf => { x with safeN := false }) h

theorem State.injected_view (n : Nat) (hit : Bool) : (s.injected n hit).kept = s.kept ∧ (s.injected n hit).sup = s.sup := by
  have hn : ∀ x : State, (x.testRan n hit).kept = x.kept ∧ (x.testRan n hit).sup = x.sup := by
    intro x
    cases hit with
    | true => exact ⟨rfl, rfl⟩
    | false => exact ⟨by simp [State.testRan]; rfl, (x.testRan_fail n).2.2.2.1⟩
  unfold State.injected
  extract_lets _ noted
  have hnoted : noted.kept = s.kept ∧ noted.sup = s.sup := by
    unfold noted
    split <;> exact ⟨rfl, rfl⟩
  split
  · exact ⟨(hn _).1.trans hnoted.1, (hn _).2.trans hnoted.2⟩
  · exact hnoted

end

section
variable {s : State} {id : Nat}

/-- A fault that is decided in a mode other than SAFE leaves its record, and SAFE_N low. -/
theorem State.fault_safView (h : id ∉ s.saf.decided) (hm : s.mode ≠ .off) (hs : s.mode ≠ .safe) :
    (s.fault id).safView = { (s.saf.record id s.now) with safeN := false, warn := 0 } := by
  obtain ⟨u, he, hum, -, hus⟩ := s.fault_eq id h hm
  rw [he, if_neg (hum ▸ hs), State.enterSafe_safView, State.safView, hus]

theorem Saf.record_ports (f : Saf) (now : Nat) : (f.record id now).ports = f.ports ∧ (f.record id now).wdState = f.wdState := by
  unfold Saf.record
  dsimp only
  (repeat' split) <;> exact ⟨rfl, rfl⟩

/-- Outside SAFE a further dangerous fault leads to SAFE, its channel and its watchdog as they were (R313, R315). -/
theorem State.fault_tripped (h : id ∉ s.saf.decided) (hm : s.mode ≠ .off) (hs : s.mode ≠ .safe) : s.tripped (s.fault id) id ∧
    (s.fault id).saf.ports = s.saf.ports ∧ (s.fault id).saf.wdState = s.saf.wdState ∧
    (s.fault id).saf.first = (if s.saf.first = 0 ∨ s.saf.firstAt = s.now ∧ id < s.saf.first then id else s.saf.first) ∧
    (s.fault id).saf.count = satInc s.saf.count 1 255 := by
  obtain ⟨hmode, hdec, hfirst, -, hrests, hnv⟩ := s.fault_decides id h hm
  obtain ⟨hra, hrb, -, -, hsafeN⟩ := hrests hs
  have hview := State.fault_safView h hm hs
  obtain ⟨hports, hwd⟩ := s.saf.record_ports (id := id) s.now
  obtain ⟨u, he, hum, -, -⟩ := s.fault_eq id h hm
  have hbias : (s.fault id).pcv.biasOn = none := by
    rw [he, if_neg (hum ▸ hs)]
    exact u.enterSafe_rests.2.2.1
  exact ⟨⟨hmode, hdec, hsafeN, hra, hrb, hbias, hnv⟩, (congrArg Saf.ports hview).trans hports, (congrArg Saf.wdState hview).trans hwd,
    hfirst, (congrArg Saf.count hview).trans (s.saf.record_keeps id s.now).2.1⟩

end

end Sys2Proof.Machine

namespace Sys2Proof.Machine

/-! ## The monitors (O50) -/

section
variable {s : State} {n id : Nat}

theorem State.monitor_of_injecting (h : s.injecting n = true) (bad : Bool) : s.monitor bad id n = s.injected n bad := if_pos h

theorem State.monitor_of_well (h : s.injecting n = false) : s.monitor false id n = s := by simp [State.monitor, h]

theorem State.monitor_of_bad (h : s.injecting n = false) (hs : s.mode ≠ .boot ∨ 1 ≤ s.sup.step) : s.monitor true id n = s.fault id := by
  have hsup : s.supervised = true := by simpa [State.supervised] using hs
  simp [State.monitor, h, hsup]

theorem State.monitor_before (h : s.injecting n = false) (hm : s.mode = .boot) (hs : s.sup.step = 0) (bad : Bool) :
    s.monitor bad id n = s := by
  simp [State.monitor, h, State.supervised, hm, hs]

/-- A fault that is decided in SAFE is recorded, and nothing else follows. -/
theorem State.fault_in_safe (h : id ∉ s.saf.decided) (hs : s.mode = .safe) : (s.fault id).mode = .safe ∧
    (s.fault id).saf = s.saf.record id s.now ∧ (s.fault id).hif = s.hif ∧ (s.fault id).pa = s.pa ∧ (s.fault id).nv = s.nv := by
  have hc : ¬(s.saf.decided.contains id || decide (s.mode = .off)) = true := by simp [h, hs]
  unfold State.fault
  rw [if_neg hc]
  dsimp only
  split
  · split
    · exact ⟨hs, rfl, rfl, rfl, rfl⟩
    · next hn => exact absurd hs hn
  · split
    · exact ⟨hs, rfl, rfl, rfl, rfl⟩
    · next hn => exact absurd hs hn

theorem State.live_mode (h : s.live = true) : s.mode ≠ .off := by
  rintro hoff
  simp [State.live, show s.sup.mode = .off from hoff] at h

/-! ### The answer to an injection -/

theorem State.injected_commanded (h : s.commanded n = true) (hn : n ∉ s.saf.sched) (hit : Bool) :
    s.injected n hit = { s with saf := { s.saf with flagged := some hit } } := by
  simp [State.injected, h, hn]

theorem State.injected_scheduled (h : s.commanded n = false) (hn : n ∈ s.saf.sched) (hit : Bool) : s.injected n hit =
    ({ s with saf := { s.saf with sched := s.saf.sched.filter (fun k => decide (k ≠ n)) } }).testRan n hit := by
  simp [State.injected, h, hn]

theorem State.testRan_safView (s : State) (n : Nat) (pass : Bool) : (s.testRan n pass).safView = { s.safView with
    testFail := if pass then s.saf.testFail.filter (fun k => decide (k ≠ n)) else n :: s.saf.testFail.filter (fun k => decide (k ≠ n)) } := by
  cases pass with
  | true => rfl
  | false => exact State.warnBit_safView _ 9

/-- The latest run of a test stands among the failed ones where it failed. -/
theorem State.testRan_keeps (s : State) (n : Nat) (pass : Bool) : (n ∈ (s.testRan n pass).saf.testFail ↔ pass = false) ∧
    (pass = false → (s.testRan n pass).saf.warn / 2 ^ 9 % 2 = 1) ∧ (s.testRan n pass).kept = s.kept ∧ (s.testRan n pass).sup = s.sup := by
  cases pass with
  | true => exact ⟨by simp [State.testRan_pass], fun h => absurd h (by decide), rfl, rfl⟩
  | false =>
    obtain ⟨hfail, hwarn, -, hsup, -, -⟩ := s.testRan_fail n
    exact ⟨by simp [hfail], fun _ => hwarn, by simp [State.testRan]; rfl, hsup⟩

/-- A repeated test that is answered no longer awaits its answer. -/
theorem State.injected_ends (h : s.commanded n = false) (hn : n ∈ s.saf.sched) (hit : Bool) : n ∉ (s.injected n hit).saf.sched ∧
    (n ∈ (s.injected n hit).saf.testFail ↔ hit = false) ∧ (hit = false → (s.injected n hit).saf.warn / 2 ^ 9 % 2 = 1) := by
  rw [State.injected_scheduled h hn]
  generalize hr : ({ s with saf := { s.saf with sched := s.saf.sched.filter (fun k => decide (k ≠ n)) } } : State) = r
  obtain ⟨hfail, hwarn, -, -⟩ := r.testRan_keeps n hit
  have hsched : (r.testRan n hit).saf.sched = r.saf.sched := (congrArg Saf.sched (r.testRan_safView n hit) :)
  refine ⟨?_, hfail, hwarn⟩
  rw [hsched]
  simp [← hr]

/-- The answer to the commanded test is kept, whatever a repetition of its number makes of it. -/
theorem State.injected_flagged (h : s.commanded n = true) (hit : Bool) : (s.injected n hit).saf.flagged = some hit := by
  unfold State.injected
  rw [if_pos h]
  dsimp only
  split
  · exact congrArg Saf.flagged (State.testRan_safView _ n hit)
  · rfl

/-! ### The pins read back -/

theorem State.testPulse_number (h : s.testPulse n = true) {k : Nat} (hk : k ≠ n) : s.testPulse k = false := by
  simp only [State.testPulse, Bool.and_eq_true, decide_eq_true_eq] at h
  obtain ⟨⟨-, ht⟩, -⟩ := h
  simp [State.testPulse, ht, Ne.symm hk]

/-- The levels are kept; one that differs from the driven one sets bit 10. -/
theorem State.readback_keeps {r : State} {a b : Bool} (hr : r = if s.testPulse 6 then s.injected 6 (!a) else if s.testPulse 7 then
    s.injected 7 (!b) else s) : (s.readback a b).saf.safeNPin = a ∧ (s.readback a b).saf.errNPin = b ∧
    (s.readback a b).saf.flagged = r.saf.flagged ∧ (s.readback a b).kept = r.kept ∧ (s.readback a b).pa = r.pa ∧
    (a ≠ s.safeHigh ∨ b = s.errLow → (s.readback a b).saf.mismatch = true ∧ (s.readback a b).saf.warn / 2 ^ 10 % 2 = 1) := by
  unfold State.readback
  extract_lets bad _ _ kept
  have hkept : kept = { r with saf := { r.saf with safeNPin := a, errNPin := b, mismatch := bad } } := by rw [hr]
  have hbad : a ≠ s.safeHigh ∨ b = s.errLow → bad = true := fun h => by simpa [bad] using h
  split
  · next h =>
    have hview : (kept.warnBit 10).safView = kept.safView := kept.warnBit_safView 10
    refine ⟨(congrArg Saf.safeNPin hview).trans (by rw [hkept]; rfl), (congrArg Saf.errNPin hview).trans (by rw [hkept]; rfl),
      (congrArg Saf.flagged hview).trans (by rw [hkept]; rfl), (kept.warnBit_kept 10).trans (by rw [hkept]; rfl),
      (kept.warnBit_keeps 10).2.2.2.1.trans (by rw [hkept]), fun _ => ⟨(congrArg Saf.mismatch hview).trans ?_, kept.warnBit_warn 10⟩⟩
    rw [hkept]
    exact h
  · next h =>
    rw [hkept]
    exact ⟨rfl, rfl, rfl, rfl, rfl, fun hd => absurd (hbad hd) h⟩

end

/-! ### Tests that are repeated, and the commanded one (R314, R320) -/

section
variable {s : State} {n : Nat}

/-- A test that is not to be repeated now stays. -/
theorem State.latentTest_waits (hb : s.mode ≠ .boot) (h1 : 1 ≤ n) (hn : n ∉ s.saf.sched)
    (h : s.now < s.saf.ran.getD n 0 + testPeriod n ∨ n = 3 ∧ s.pcv.biasOn = none) : s.latentTest n = s := by
  have h0 : n ≠ 0 := by omega
  unfold State.latentTest
  extract_lets bias at_
  rw [if_neg (by simp [hb, h0]), if_neg (by simpa using hn), if_pos]
  rcases h with h | ⟨h3, hoff⟩
  · exact Bool.or_eq_true_iff.mpr (Or.inl (decide_eq_true h))
  · simp [bias, h3, hoff]

theorem State.latentTest_begins (hb : s.mode ≠ .boot) (h1 : 1 ≤ n) (hn : n ∉ s.saf.sched)
    (h : s.saf.ran.getD n 0 + testPeriod n ≤ s.now) (h3 : n = 3 → ∃ t, s.pcv.biasOn = some t ∧ t + 125000 ≤ s.now) :
    s.latentTest n = { s with saf := { s.saf with sched := n :: s.saf.sched, ran := s.saf.ran.set n s.now } } := by
  have h0 : n ≠ 0 := by omega
  unfold State.latentTest
  extract_lets bias at_
  rw [if_neg (by simp [hb, h0]), if_neg (by simpa using hn), if_neg]
  have hbias : n = 3 → bias = true := fun hn3 => by
    obtain ⟨t, ht, hle⟩ := h3 hn3
    have hms : t + ms ≤ s.now := hle
    simp [bias, ht, hms]
  have hdue : ¬ s.now < at_ + testPeriod n := Nat.not_lt.mpr h
  simpa [hdue] using hbias

theorem State.latentTest_running (hb : s.mode ≠ .boot) (h1 : 1 ≤ n) (hn : n ∈ s.saf.sched) :
    s.latentTest n = if s.saf.ran.getD n 0 + testTime n ≤ s.now then s.injected n false else s := by
  have h0 : n ≠ 0 := by omega
  unfold State.latentTest
  extract_lets bias at_
  rw [if_neg (by simp [hb, h0]), if_pos (by simpa using hn)]

/-- The result of the commanded test, once it is over. -/
theorem State.safetyTest_over (hr : s.saf.testResult = 3) (ho : s.testOver = true) :
    (s.safetyTest).saf.testResult = (if s.saf.flagged = some true then 1 else 2) ∧ (s.safetyTest).saf.test = s.saf.test ∧
    (s.saf.test ∈ (s.safetyTest).saf.testFail ↔ s.saf.flagged ≠ some true) ∧ (s.safetyTest).sup = s.sup ∧ (s.safetyTest).nv = s.nv ∧
    (s.safetyTest).pcv = s.pcv := by
  unfold State.safetyTest
  rw [if_neg (by simp [hr, ho])]
  extract_lets n pass r _ noted
  obtain ⟨hfail, -, hkept, hsup⟩ := (noted.post0 0x00c3 [word n, word r]).testRan_keeps n pass
  have hview := (noted.post0 0x00c3 [word n, word r]).testRan_safView n pass
  rw [State.post0_safView] at hview
  have hk := hkept.trans (noted.post0_kept 0x00c3 [word n, word r])
  refine ⟨(congrArg Saf.testResult hview).trans ?_, (congrArg Saf.test hview :), hfail.trans ?_, hsup.trans (State.post0_sup _ _ _),
    congrArg Kept.nv hk, congrArg Kept.pcv hk⟩
  · by_cases hp : s.saf.flagged = some true <;> simp [noted, r, pass, hp, State.safView]
  · simp [pass]

end

/-! ### The clauses of MonitorsTrip -/

/-- The monitors of clock, lockstep and heartbeat, each with the test that injects it. -/
theorem exec_monitor {dt id n : Nat} {c : Instr} {s u : State} (hu : u = s.elapse dt) (hl : u.live = true)
    (hc : (c, id, n) ∈ [(Instr.clockCheck dt false, 3, 1), (Instr.lockstep dt, 5, 2), (Instr.heartbeat dt, 6, 0)]) :
    exec c s = .next (u.monitor true id n) := by
  subst hu
  simp only [List.mem_cons, Prod.mk.injEq, List.not_mem_nil, or_false] at hc
  rcases hc with ⟨rfl, rfl, rfl⟩ | ⟨rfl, rfl, rfl⟩ | ⟨rfl, rfl, rfl⟩ <;> exact congrArg Host.Outcome.next (State.run_of_live hl _)

theorem testPeriod_eq (n : Nat) : testPeriod n = if n ≤ 2 then 125000000 else 7500000000 := rfl

theorem testTime_eq {n : Nat} (h : n < 5) : testTime n = if 3 ≤ n then 562500 else 125000 := by
  have hcases : (n = 3 ∨ n = 4) ↔ 3 ≤ n := by omega
  by_cases hn : 3 ≤ n
  · simp [testTime, hcases.mpr hn, hn, us]
  · simp [testTime, mt hcases.mp hn, hn, ms]

section
variable {dt : Nat} {s u : State} (hu : u = s.elapse dt) (hl : u.live = true)
include hu hl

theorem exec_readback (a b : Bool) : exec (.safeNReadback dt a b) s = .next (u.readback a b) := by
  subst hu
  exact congrArg Host.Outcome.next (State.run_of_live hl _)

theorem exec_latentTest (n : Fin 5) : exec (.latentTest dt n) s = .next (u.latentTest n.val) := by
  subst hu
  exact congrArg Host.Outcome.next (State.run_of_live hl _)

theorem exec_safetyTest : exec (.safetyTest dt) s = .next u.safetyTest := by
  subst hu
  exact congrArg Host.Outcome.next (State.run_of_live hl _)

/-- A monitor that finds its fault. -/
theorem monitor_trips {id n : Nat} {c : Instr}
    (hc : (c, id, n) ∈ [(Instr.clockCheck dt false, 3, 1), (Instr.lockstep dt, 5, 2), (Instr.heartbeat dt, 6, 0)]) :
    (u.injecting n = true → exec c s = .next (u.injected n true)) ∧
    (u.injecting n = false → u.mode = .boot → u.sup.step = 0 → exec c s = .next u) ∧
    (u.injecting n = false → u.mode ≠ .boot ∨ 1 ≤ u.sup.step → u.mode ≠ .safe → id ∉ u.saf.decided → ∃ t, exec c s = .next t ∧
      u.tripped t id ∧ t.saf.first = (if u.saf.first = 0 ∨ u.saf.firstAt = u.now ∧ id < u.saf.first then id else u.saf.first) ∧
      t.saf.count = satInc u.saf.count 1 255) ∧
    (u.injecting n = false → u.mode ≠ .boot ∨ 1 ≤ u.sup.step → u.mode = .safe → id ∉ u.saf.decided → ∃ t, exec c s = .next t ∧
      t.mode = .safe ∧ t.saf.decided = u.saf.decided ++ [id] ∧ t.hif = u.hif ∧ t.pa = u.pa ∧ t.nv = u.nv ∧
      (u.saf.first ≠ 0 → u.saf.firstAt < u.now → t.saf.first = u.saf.first ∧
        t.saf.second = (if u.saf.second = 0 ∨ u.saf.secondAt = u.now ∧ id < u.saf.second then id else u.saf.second))) ∧
    (u.injecting n = false → id ∈ u.saf.decided → exec c s = .next u) := by
  rw [exec_monitor hu hl hc]
  refine ⟨fun hi => by rw [State.monitor_of_injecting hi], fun hi hm hst => by rw [State.monitor_before hi hm hst], fun hi hst hm hd => ?_,
    fun hi hst hm hd => ?_, fun hi hd => ?_⟩
  · obtain ⟨htrip, -, -, hfirst, hcount⟩ := State.fault_tripped hd (State.live_mode hl) hm
    exact ⟨_, by rw [State.monitor_of_bad hi hst], htrip, hfirst, hcount⟩
  · obtain ⟨hmode, hsaf, hhif, hpa, hnv⟩ := State.fault_in_safe hd hm
    refine ⟨_, by rw [State.monitor_of_bad hi hst], hmode, by rw [hsaf]; exact (u.saf.record_keeps id u.now).1, hhif, hpa, hnv, fun hf hat => ?_⟩
    have hlate : ¬(u.saf.firstAt = u.now ∧ id < u.saf.first) := fun h => absurd h.1 (Nat.ne_of_lt hat)
    rw [hsaf, Saf.record_first, Saf.record_second _ _ _ hf, if_neg hlate, if_neg (not_or.mpr ⟨hf, hlate⟩)]
    exact ⟨rfl, rfl⟩
  · by_cases hst : u.mode ≠ .boot ∨ 1 ≤ u.sup.step
    · rw [State.monitor_of_bad hi hst, State.fault_of_decided hd]
    · have hboot : u.mode = .boot := by_contra fun h => hst (Or.inl h)
      rw [State.monitor_before hi hboot (by omega)]

/-- The levels of SAFE_N and ERR_N read back. -/
theorem readback_judges (a b : Bool) :
    (u.injecting 1 = false → exec (.clockCheck dt true) s = .next u) ∧
    (u.testPulse 6 = false → u.testPulse 7 = false → a = u.saf.safeN → b = !u.errLow → exec (.safeNReadback dt a b) s = .next
      { u with saf := { u.saf with safeNPin := a, errNPin := b, mismatch := false } }) ∧
    (u.testPulse 6 = false → u.testPulse 7 = false → a ≠ u.saf.safeN ∨ b = u.errLow → ∃ t, exec (.safeNReadback dt a b) s = .next t ∧
      t.saf.safeNPin = a ∧ t.saf.errNPin = b ∧ t.saf.mismatch = true ∧ t.saf.warn / 2 ^ 10 % 2 = 1 ∧ t.mode = u.mode ∧ t.nv = u.nv ∧
      t.pa = u.pa) ∧
    (u.testPulse 6 = true → u.commanded 6 = true → ∃ t, exec (.safeNReadback dt a b) s = .next t ∧ t.saf.flagged = some (!a) ∧
      t.saf.safeNPin = a ∧ t.saf.errNPin = b ∧ t.mode = u.mode) ∧
    (u.testPulse 7 = true → u.commanded 7 = true → ∃ t, exec (.safeNReadback dt a b) s = .next t ∧ t.saf.flagged = some (!b) ∧
      t.saf.safeNPin = a ∧ t.saf.errNPin = b ∧ t.mode = u.mode) := by
  have hclock : exec (.clockCheck dt true) s = .next (u.monitor false 3 1) := by
    subst hu
    exact congrArg Host.Outcome.next (State.run_of_live hl _)
  rw [hclock, exec_readback hu hl]
  obtain ⟨hsafe, herr, hflag, hkept, hpa, hbad⟩ := u.readback_keeps (a := a) (b := b) rfl
  refine ⟨fun hi => by rw [State.monitor_of_well hi], fun h6 h7 ha hb => ?_, fun h6 h7 hd => ?_, fun h6 hc => ?_, fun h7 hc => ?_⟩
  · have hhigh : u.safeHigh = u.saf.safeN := by simp [State.safeHigh, h6]
    simp [State.readback, h6, h7, hhigh, ha, hb]
  · have hhigh : u.safeHigh = u.saf.safeN := by simp [State.safeHigh, h6]
    simp only [h6, h7, Bool.false_eq_true, if_false] at hkept hpa
    obtain ⟨hmis, hwarn⟩ := hbad (hhigh ▸ hd)
    exact ⟨_, rfl, hsafe, herr, hmis, hwarn, congrArg Kept.mode hkept, congrArg Kept.nv hkept, hpa⟩
  · simp only [h6, if_true] at hflag hkept
    exact ⟨_, rfl, hflag.trans (State.injected_flagged hc _), hsafe, herr, congrArg Kept.mode (hkept.trans (u.injected_view 6 _).1)⟩
  · simp only [State.testPulse_number h7 (show 6 ≠ 7 by decide), h7, if_true, Bool.false_eq_true, if_false] at hflag hkept
    exact ⟨_, rfl, hflag.trans (State.injected_flagged hc _), hsafe, herr, congrArg Kept.mode (hkept.trans (u.injected_view 7 _).1)⟩

/-- The tests that the supervisor repeats by itself. -/
theorem latentTest_repeats {period time : Nat} {n : Fin 5} (hp : period = (if n.val ≤ 2 then 125000000 else 7500000000))
    (ht : time = (if 3 ≤ n.val then 562500 else 125000)) :
    (u.mode = .boot ∨ n.val = 0 → exec (.latentTest dt n) s = .next u) ∧
    (u.mode ≠ .boot → 1 ≤ n.val → n.val ∉ u.saf.sched →
      (u.saf.ran.getD n.val 0 + period ≤ u.now → (n.val = 3 → ∃ t, u.pcv.biasOn = some t ∧ t + 125000 ≤ u.now) →
        exec (.latentTest dt n) s = .next { u with saf := { u.saf with sched := n.val :: u.saf.sched, ran := u.saf.ran.set n.val u.now } }) ∧
      (u.now < u.saf.ran.getD n.val 0 + period ∨ n.val = 3 ∧ u.pcv.biasOn = none → exec (.latentTest dt n) s = .next u)) ∧
    (u.mode ≠ .boot → 1 ≤ n.val → n.val ∈ u.saf.sched →
      (u.now < u.saf.ran.getD n.val 0 + time → exec (.latentTest dt n) s = .next u) ∧
      (u.saf.ran.getD n.val 0 + time ≤ u.now → u.commanded n.val = false → ∃ t, exec (.latentTest dt n) s = .next t ∧ n.val ∉ t.saf.sched ∧
        n.val ∈ t.saf.testFail ∧ t.saf.warn / 2 ^ 9 % 2 = 1 ∧ t.sup = u.sup ∧ t.nv = u.nv)) := by
  rw [← testPeriod_eq] at hp
  rw [← testTime_eq n.isLt] at ht
  subst hp ht
  rw [exec_latentTest hu hl]
  refine ⟨fun h => congrArg Host.Outcome.next (if_pos (by simpa using h)), fun hb h1 hn => ⟨fun hdue h3 => ?_, fun h => ?_⟩,
    fun hb h1 hn => ⟨fun h => ?_, fun h hc => ?_⟩⟩
  · rw [State.latentTest_begins hb h1 hn hdue h3]
  · rw [State.latentTest_waits hb h1 hn h]
  · rw [State.latentTest_running hb h1 hn, if_neg (by omega)]
  · obtain ⟨hsched, hfail, hwarn⟩ := State.injected_ends hc hn false
    obtain ⟨hkept, hsup⟩ := u.injected_view n.val false
    exact ⟨_, by rw [State.latentTest_running hb h1 hn, if_pos h], hsched, hfail.mpr rfl, hwarn rfl, hsup, congrArg Kept.nv hkept⟩

/-- The commanded test, until it is over and then. -/
theorem safetyTest_judges {n : Nat} (hn : n = u.saf.test) :
    (u.saf.testResult ≠ 3 → exec (.safetyTest dt) s = .next u) ∧
    (u.saf.testResult = 3 → u.saf.flagged = none →
      n ≠ 5 ∧ u.now < u.saf.testAt + (if n = 3 ∨ n = 4 then 562500 else 125000) ∨
        n = 5 ∧ u.saf.test5 = true ∧ (u.pa.reading = true ∨ u.pa.armed = true) ∨ n = 5 ∧ u.saf.test5 = false ∧ (∃ f ∈ u.pa.frames, f.test5 = true) →
      exec (.safetyTest dt) s = .next u) ∧
    (u.saf.testResult = 3 → u.saf.flagged ≠ none ∨ n ≠ 5 ∧ u.saf.testAt + (if n = 3 ∨ n = 4 then 562500 else 125000) ≤ u.now ∨
        n = 5 ∧ u.saf.test5 = true ∧ u.pa.reading = false ∧ u.pa.armed = false ∨ n = 5 ∧ u.saf.test5 = false ∧ (∀ f ∈ u.pa.frames, f.test5 = false) →
      ∃ t, exec (.safetyTest dt) s = .next t ∧ t.saf.testResult = (if u.saf.flagged = some true then 1 else 2) ∧
        t.saf.test = n ∧ (n ∈ t.saf.testFail ↔ u.saf.flagged ≠ some true) ∧ t.sup = u.sup ∧ t.nv = u.nv ∧ t.pcv = u.pcv) := by
  subst hn
  rw [exec_safetyTest hu hl]
  have htime : testTime u.saf.test = if u.saf.test = 3 ∨ u.saf.test = 4 then 562500 else 125000 := by simp [testTime, us, ms]
  rw [← htime]
  refine ⟨fun h => congrArg Host.Outcome.next (if_pos (by simp [h])), fun _ hf h => congrArg Host.Outcome.next (if_pos ?_), fun hr h => ?_⟩
  · have hover : u.testOver = false := by
      rcases h with ⟨h5, hlt⟩ | ⟨h5, ht5, hreads⟩ | ⟨h5, ht5, hframe⟩
      · simp [State.testOver, hf, h5, Nat.not_le.mpr hlt]
      · rcases hreads with hread | harm
        · simp [State.testOver, hf, h5, ht5, hread]
        · simp [State.testOver, hf, h5, ht5, harm]
      · simpa [State.testOver, hf, h5, ht5] using hframe
    simp [hover]
  · have hover : u.testOver = true := by
      rcases h with hf | ⟨h5, hle⟩ | ⟨h5, ht5, hra, hrm⟩ | ⟨h5, ht5, hnone⟩
      · simp [State.testOver, Option.isSome_iff_ne_none.mpr hf]
      · simp [State.testOver, h5, hle]
      · simp [State.testOver, h5, ht5, hra, hrm]
      · simpa [State.testOver, h5, ht5] using Or.inr hnone
    exact ⟨_, rfl, State.safetyTest_over hr hover⟩

end

/-- Settles O50: by monitor, readback, repeated test and commanded test. -/
theorem monitorsTrip : Obligations.MonitorsTrip := by
  unfold Obligations.MonitorsTrip
  refine ⟨fun dt id n c s u hu hl hc => monitor_trips hu hl hc, fun n hit u => ⟨fun hc hn => State.injected_commanded hc hn hit, fun hc hn => ?_⟩,
    fun dt a b s u hu hl => readback_judges hu hl a b, fun dt period time n s u hu hl hp ht => latentTest_repeats hu hl hp ht,
    fun dt n s u hu hl hn => safetyTest_judges hu hl hn⟩
  obtain ⟨hsched, hfail, hwarn⟩ := State.injected_ends hc hn hit
  obtain ⟨hkept, -⟩ := u.injected_view n hit
  exact ⟨hsched, hfail, hwarn, congrArg Kept.mode hkept, congrArg Kept.nv hkept⟩

end Sys2Proof.Machine

namespace Sys2Proof.Machine

/-! ## Frames of the safety channel (14 R321 to R327) -/

/-- An admitted frame before its request is served: the answer before it shifted out, its SEQ as the reference. -/
def State.accepted (s : State) (q : SpiReq) : State :=
  s.modPort (selNum q.sel) (fun p => ⟨some q.seq.toNat, p.ans, none, s.response p.given⟩)

/-- The CRC of a frame is right. -/
abbrev frameCrcRight (q : SpiReq) (op : Nat) : Prop :=
  crc8 (frameBytes op q.arg.toNat (q.seq.toNat * 16 + q.rsv.toNat) q.data) = q.crc

/-- SESS_AUTH compares on the select of a frame. -/
def State.busyFor (s : State) (q : SpiReq) : Bool := decide (selNum q.sel = 0) && s.saf.comparing.isSome

section
variable {u : State} {q : SpiReq} {op : Nat}

theorem State.modPort_modPort (s : State) (i : Nat) (f g : SpiPort → SpiPort) : (s.modPort i f).modPort i g = s.modPort i (g ∘ f) :=
  congrArg (fun l => { s with saf := { s.saf with ports := l } }) (modAt_modAt ..)

theorem State.accepted_answer (stat : Nat) (d : Word) :
    (u.accepted q).answer (selNum q.sel) op stat q.seq.toNat d = u.spiDone q op stat d := State.modPort_modPort ..

theorem State.shiftOut_seq (i j : Nat) : ((u.shiftOut i).port j).seq = (u.port j).seq := by
  rw [State.shiftOut, State.port_modPort]
  split <;> rfl

theorem State.spiReady_eq : u.spiReady = decide (2500000 ≤ u.now) := rfl

theorem State.spiFrame_early (h : u.now < 2500000) (body : SpiBody) : u.spiFrame q op body = u :=
  if_pos (by rw [State.spiReady_eq, decide_eq_false (Nat.not_le.mpr h)]; rfl)

theorem State.port_of_range {i : Nat} (hlen : u.saf.ports.length = 2) (x : Sel) (hi : i = selNum x) (f : SpiPort → SpiPort) :
    (u.modPort i f).port i = f (u.port i) ∧ (u.modPort i f).port (1 - i) = u.port (1 - i) := by
  subst hi
  rw [State.port_modPort, State.port_modPort]
  cases x <;> simp [selNum, hlen]

/-- A frame of a wrong CRC. -/
theorem State.spiFrame_crc (hn : 2500000 ≤ u.now) (hc : ¬frameCrcRight q op) (body : SpiBody) : u.spiFrame q op body =
    (if u.busyFor q then { u.shiftOut (selNum q.sel) with saf := { (u.shiftOut (selNum q.sel)).saf with crcErr := satInc u.saf.crcErr 1 255 } }
      else State.answer { u.shiftOut (selNum q.sel) with saf := { (u.shiftOut (selNum q.sel)).saf with crcErr := satInc u.saf.crcErr 1 255 } }
        (selNum q.sel) op 4 q.seq.toNat 0#32).anomaly := by
  unfold State.spiFrame
  rw [if_neg (by simp [State.spiReady_eq, hn])]
  dsimp only
  rw [if_pos hc]
  rfl

/-- A frame of the right CRC while SESS_AUTH compares. -/
theorem State.spiFrame_busy (hn : 2500000 ≤ u.now) (hc : frameCrcRight q op) (hb : u.busyFor q = true) (body : SpiBody) :
    (op ≠ 0 → u.spiFrame q op body = { u.shiftOut (selNum q.sel) with
      saf := { (u.shiftOut (selNum q.sel)).saf with discard := satInc u.saf.discard 1 255 } }) ∧
    (op = 0 → (∀ r, (u.port (selNum q.sel)).seq = some r → q.seq.toNat = (r + 1) % 16) → u.spiFrame q op body = u.accepted q) := by
  unfold State.busyFor at hb
  unfold State.spiFrame
  rw [if_neg (by simp [State.spiReady_eq, hn])]
  dsimp only
  rw [if_neg (not_not.mpr hc), hb]
  refine ⟨fun h0 => if_pos (by simp [h0]), fun h0 hseq => ?_⟩
  rw [if_neg (by simp [h0]), State.shiftOut_seq]
  cases hr : (u.port (selNum q.sel)).seq with
  | none => exact State.modPort_modPort ..
  | some r =>
    simp only [hseq r hr, decide_true, Bool.not_true, Bool.false_eq_true, if_false, if_true]
    rw [← hseq r hr]
    exact State.modPort_modPort ..

/-- A frame of the right CRC with nothing compared: SEQ is checked and taken over. -/
theorem State.spiFrame_free (hn : 2500000 ≤ u.now) (hc : frameCrcRight q op) (hb : u.busyFor q = false) (body : SpiBody) :
    ((∀ r, (u.port (selNum q.sel)).seq = some r → q.seq.toNat = (r + 1) % 16) → u.spiFrame q op body = (u.accepted q).spiServe q op body) ∧
    (∀ r, (u.port (selNum q.sel)).seq = some r → q.seq.toNat ≠ (r + 1) % 16 → u.spiFrame q op body =
      { u.spiDone q op 6 0#32 with saf := { (u.spiDone q op 6 0#32).saf with seqErr := satInc u.saf.seqErr 1 255 } }) := by
  have hacc : (u.shiftOut (selNum q.sel)).modPort (selNum q.sel) (fun p => { p with seq := some q.seq.toNat }) = u.accepted q :=
    State.modPort_modPort ..
  unfold State.busyFor at hb
  unfold State.spiFrame
  rw [if_neg (by simp [State.spiReady_eq, hn])]
  dsimp only
  rw [if_neg (not_not.mpr hc), hb, Bool.false_and, if_neg Bool.false_ne_true, State.shiftOut_seq]
  refine ⟨fun hseq => ?_, fun r hr hne => ?_⟩
  · cases hr : (u.port (selNum q.sel)).seq with
    | none =>
      simp only [Bool.not_true, Bool.false_eq_true, if_false]
      rw [hacc]
    | some r =>
      simp only [hseq r hr, decide_true, Bool.not_true, Bool.false_eq_true, if_false]
      rw [← hseq r hr, hacc]
  · rw [hr]
    simp only [hne, decide_false, Bool.not_false, Bool.false_eq_true, if_false, if_true]
    rw [hacc]
    exact congrArg (fun t : State => { t with saf := { t.saf with seqErr := satInc u.saf.seqErr 1 255 } })
      (State.accepted_answer (u := u) (q := q) (op := op) 6 0#32)

/-- An admitted frame is served. -/
theorem State.spiFrame_admitted (h : u.admits q op) (body : SpiBody) : u.spiFrame q op body = (u.accepted q).spiServe q op body := by
  obtain ⟨hn, -, hc, hcmp, hseq⟩ := h
  have hb : u.busyFor q = false := by
    unfold State.busyFor
    cases hs : q.sel with
    | safe => simp [hcmp hs]
    | maint => rfl
  exact (State.spiFrame_free hn hc hb body).1 hseq

/-! ### What a request meets before its command (R327 to R329) -/

theorem State.spiServe_unknown (h : knownOps.contains op = false) (body : SpiBody) : (u.accepted q).spiServe q op body = u.spiDone q op 2 0#32 := by
  unfold State.spiServe
  dsimp only
  rw [if_pos (by rw [h]; rfl), State.accepted_answer]

theorem State.spiServe_denied (h : knownOps.contains op = true) (hs : q.sel = .maint) (h1 : 1 < op) (body : SpiBody) :
    (u.accepted q).spiServe q op body = u.spiDone q op 8 0#32 := by
  unfold State.spiServe
  dsimp only
  rw [if_neg (by rw [h]; decide), if_pos (by simp [hs, selNum, h1]), State.accepted_answer]

theorem State.spiServe_reserved (h : knownOps.contains op = true) (hs : q.sel = .safe ∨ op ≤ 1) (hr : q.rsv ≠ 0#4) (body : SpiBody) :
    (u.accepted q).spiServe q op body = u.spiDone q op 3 0#32 := by
  have hopen : ¬(selNum q.sel = 1 ∧ 1 < op) := by
    rcases hs with hs | hs
    · simp [hs, selNum]
    · omega
  unfold State.spiServe
  dsimp only
  rw [if_neg (by rw [h]; decide), if_neg (by simpa using hopen), if_pos hr, State.accepted_answer]

theorem State.spiServe_closed (h : knownOps.contains op = true) (hs : q.sel = .safe) (hr : q.rsv = 0#4) (hn : 0x20 ≤ op)
    (ho : u.saf.sessOpen = false) (body : SpiBody) : (u.accepted q).spiServe q op body = u.spiDone q op 7 0#32 := by
  have hsess : (u.accepted q).saf.sessOpen = false := ho
  unfold State.spiServe
  dsimp only
  rw [if_neg (by rw [h]; decide), if_neg (by simp [hs, selNum]), if_neg (not_not.mpr hr), if_pos (by simp [needsSession, hn, hsess]),
    State.accepted_answer]

/-- A request that meets none of this runs its command. -/
theorem State.spiServe_command (h : knownOps.contains op = true) (hs : q.sel = .safe ∨ op ≤ 1) (hr : q.rsv = 0#4)
    (ho : op < 0x20 ∨ u.saf.sessOpen = true) {body : SpiBody} {t : State} {r : Option (Nat × Word)} (hb : body (u.accepted q) = (t, r)) :
    (∀ stat d, r = some (stat, d) → (u.accepted q).spiServe q op body = t.answer (selNum q.sel) op stat q.seq.toNat d) ∧
    (r = none → (u.accepted q).spiServe q op body = t) := by
  have hopen : ¬(selNum q.sel = 1 ∧ 1 < op) := by
    rcases hs with hs | hs
    · simp [hs, selNum]
    · omega
  have hsess : (needsSession op && !(u.accepted q).saf.sessOpen) = false := by
    rcases ho with ho | ho
    · simp [needsSession, ho]
    · rw [show (u.accepted q).saf.sessOpen = u.saf.sessOpen from rfl, ho]
      simp
  unfold State.spiServe
  dsimp only
  rw [if_neg (by rw [h]; decide), if_neg (by simpa using hopen), if_neg (not_not.mpr hr), if_neg (by rw [hsess]; decide), hb]
  exact ⟨fun stat d h => by rw [h], fun h => by rw [h]⟩

end

/-! ### Anomalous frames (R311, R326) -/

section
variable (s : State)

/-- The anomalous frames of the second before a frame, and this one. -/
def State.anomaliesNow : List Nat := s.now :: s.saf.anomalies.filter (fun t => decide (s.now < t + 125000000))

theorem State.anomaly_view : (s.anomaly).safView = { s.safView with anomalies := s.anomaliesNow } ∧ (s.anomaly).sup = s.sup ∧
    (s.anomaly).pa = s.pa ∧ (s.anomaly).kept = s.kept ∧ (8 ≤ s.anomaliesNow.length → (s.anomaly).saf.warn / 2 ^ 11 % 2 = 1) := by
  unfold State.anomaly
  extract_lets l _ noted
  have hl : l = s.anomaliesNow := rfl
  obtain ⟨-, -, hsup, hpa, -⟩ := noted.warnBit_keeps 11
  split
  · exact ⟨noted.warnBit_safView 11, hsup, hpa, noted.warnBit_kept 11, fun _ => noted.warnBit_warn 11⟩
  · next h => exact ⟨rfl, rfl, rfl, rfl, fun hlen => absurd hlen h⟩

theorem State.port_of_safView {s t : State} (h : t.safView = s.safView) (i : Nat) : t.port i = s.port i := by
  have hports : t.saf.ports = s.saf.ports := (congrArg Saf.ports h :)
  simp [State.port, hports]

/-- A frame error counted: the channel's ports stay, the anomaly is noted. -/
theorem State.countFrameErr_view : (∀ i, (s.countFrameErr).port i = s.port i) ∧ (s.countFrameErr).saf.frameErr = satInc s.saf.frameErr 1 255 ∧
    (s.countFrameErr).saf.anomalies = s.anomaliesNow ∧ (8 ≤ s.anomaliesNow.length → (s.countFrameErr).saf.warn / 2 ^ 11 % 2 = 1) ∧
    (s.countFrameErr).sup = s.sup ∧ (s.countFrameErr).nv = s.nv ∧ (s.countFrameErr).pa = s.pa ∧ (s.countFrameErr).saf.decided = s.saf.decided := by
  obtain ⟨hview, hsup, hpa, hkept, hwarn⟩ := State.anomaly_view { s with saf := { s.saf with frameErr := satInc s.saf.frameErr 1 255 } }
  refine ⟨fun i => ?_, (congrArg Saf.frameErr hview :), (congrArg Saf.anomalies hview :), hwarn, hsup, (congrArg Kept.nv hkept :), hpa,
    (congrArg Saf.decided hview :)⟩
  have hports : (s.countFrameErr).saf.ports = s.saf.ports := (congrArg Saf.ports hview :)
  simp [State.port, hports]

end

end Sys2Proof.Machine

namespace Sys2Proof.Machine

/-! ## What every request of the channel meets (O51) -/

/-- The requests of the channel, each with its OP. -/
def spiRequests (dt : Nat) (q : SpiReq) (nonce : BitVec 128) (ch : Word) : List (Instr × Nat) :=
  [(.spiNop dt q, 0x00), (.read dt q, 0x01), (.sessOpen dt q nonce, 0x10), (.sessNonce dt q, 0x11), (.sessAuth dt (.word q), 0x12),
    (.wdGet dt q, 0x20), (.wdAnswer dt q ch, 0x21), (.clearWarn dt q, 0x30), (.reqSafe dt q, 0x31), (.reqReset dt q, 0x32), (.test dt q, 0x40)]

/-- Each comes as a frame with its OP, which is known. -/
theorem exec_spiRequest {dt op : Nat} {c : Instr} {q : SpiReq} {nonce : BitVec 128} {ch : Word} {s u : State} (hu : u = s.elapse dt)
    (hl : u.live = true) (hc : (c, op) ∈ spiRequests dt q nonce ch) :
    knownOps.contains op = true ∧ ∃ body, exec c s = .next (u.spiFrame q op body) := by
  subst hu
  simp only [spiRequests, List.mem_cons, Prod.mk.injEq, List.not_mem_nil, or_false] at hc
  rcases hc with ⟨rfl, rfl⟩ | ⟨rfl, rfl⟩ | ⟨rfl, rfl⟩ | ⟨rfl, rfl⟩ | ⟨rfl, rfl⟩ | ⟨rfl, rfl⟩ | ⟨rfl, rfl⟩ | ⟨rfl, rfl⟩ | ⟨rfl, rfl⟩ |
    ⟨rfl, rfl⟩ | ⟨rfl, rfl⟩ <;>
    exact ⟨by decide, _, congrArg Host.Outcome.next (State.run_of_live hl _)⟩

section
variable {u : State} {q : SpiReq} {op i : Nat}

theorem State.busyFor_eq (hi : i = selNum q.sel) : u.busyFor q = true ↔ i = 0 ∧ u.saf.comparing ≠ none := by
  subst hi
  simp [State.busyFor, Option.isSome_iff_ne_none]

/-- A frame of a wrong CRC is counted, and answered unless SESS_AUTH compares. -/
theorem State.spiFrame_crc_view (hn : 2500000 ≤ u.now) (hlen : u.saf.ports.length = 2) (hi : i = selNum q.sel) (hc : ¬frameCrcRight q op)
    (body : SpiBody) : ∃ t, u.spiFrame q op body = t ∧ t.port i = ⟨(u.port i).seq, if i = 0 ∧ u.saf.comparing ≠ none then (u.port i).ans else
        ⟨op, 4, q.seq.toNat, 0#32⟩, none, u.response (u.port i).given⟩ ∧
      t.port (1 - i) = u.port (1 - i) ∧ t.saf.crcErr = satInc u.saf.crcErr 1 255 ∧ t.saf.sessOpen = u.saf.sessOpen ∧
      t.saf.wdState = u.saf.wdState ∧ t.saf.decided = u.saf.decided ∧ t.sup = u.sup ∧ t.nv = u.nv ∧ t.pa = u.pa := by
  obtain ⟨x, hx, hport, hother, hcrc, hsess, hwd, hdec, hsup, hnv, hpa⟩ : ∃ x : State, u.spiFrame q op body = x.anomaly ∧
      x.port i = ⟨(u.port i).seq, if i = 0 ∧ u.saf.comparing ≠ none then (u.port i).ans else ⟨op, 4, q.seq.toNat, 0#32⟩, none,
        u.response (u.port i).given⟩ ∧
      x.port (1 - i) = u.port (1 - i) ∧ x.saf.crcErr = satInc u.saf.crcErr 1 255 ∧ x.saf.sessOpen = u.saf.sessOpen ∧
      x.saf.wdState = u.saf.wdState ∧ x.saf.decided = u.saf.decided ∧ x.sup = u.sup ∧ x.nv = u.nv ∧ x.pa = u.pa := by
    refine ⟨_, State.spiFrame_crc hn hc body, ?_⟩
    have hshift := u.port_of_range hlen q.sel hi (fun p => { p with err := none, miso := u.response p.given })
    by_cases hb : u.busyFor q = true
    · rw [if_pos hb, if_pos ((State.busyFor_eq hi).mp hb), ← hi]
      exact ⟨hshift.1, hshift.2, rfl, rfl, rfl, rfl, rfl, rfl, rfl⟩
    · rw [if_neg hb, if_neg (mt (State.busyFor_eq hi).mpr hb), ← hi]
      have hans := State.port_of_range (u := u.shiftOut i) (by simpa [State.shiftOut] using hlen) q.sel hi
        (fun p => { p with ans := ⟨op, 4, q.seq.toNat, 0#32⟩ })
      exact ⟨hans.1.trans (by rw [State.shiftOut, hshift.1]), hans.2.trans hshift.2, rfl, rfl, rfl, rfl, rfl, rfl, rfl⟩
  obtain ⟨hview, hasup, hapa, hkept, -⟩ := x.anomaly_view
  have hports : ∀ j, x.anomaly.port j = x.port j := by
    intro j
    have hp : x.anomaly.saf.ports = x.saf.ports := (congrArg Saf.ports hview :)
    simp [State.port, hp]
  exact ⟨_, hx, (hports i).trans hport, (hports _).trans hother, (congrArg Saf.crcErr hview :).trans hcrc,
    (congrArg Saf.sessOpen hview :).trans hsess, (congrArg Saf.wdState hview :).trans hwd, (congrArg Saf.decided hview :).trans hdec,
    hasup.trans hsup, (congrArg Kept.nv hkept).trans hnv, hapa.trans hpa⟩

/-! ### Frame errors -/

/-- The frame error of one select. -/
theorem State.frameErr_view (hlen : u.saf.ports.length = 2) (x : Sel) (hi : i = selNum x) (bits : Nat) :
    ∃ t, ((u.shiftOut i).frameBad i bits).countFrameErr = t ∧
      t.port i = { u.port i with err := some (min bits 255), miso := u.response (u.port i).given } ∧
      (t.port i).given = ⟨0, 5, 0, word (min bits 255)⟩ ∧ t.port (1 - i) = u.port (1 - i) ∧
      t.saf.frameErr = satInc u.saf.frameErr 1 255 ∧ t.saf.anomalies = u.anomaliesNow ∧
      (7 ≤ (u.saf.anomalies.filter (fun a => decide (u.now < a + 125000000))).length → t.saf.warn / 2 ^ 11 % 2 = 1) ∧
      t.sup = u.sup ∧ t.nv = u.nv ∧ t.pa = u.pa ∧ t.saf.decided = u.saf.decided := by
  obtain ⟨hport, herr, hanom, hwarn, hsup, hnv, hpa, hdec⟩ := ((u.shiftOut i).frameBad i bits).countFrameErr_view
  have hshift := u.port_of_range hlen x hi (fun p => { p with err := none, miso := u.response p.given })
  have hbad := State.port_of_range (u := u.shiftOut i) (by simpa [State.shiftOut] using hlen) x hi
    (fun p => { p with err := some (min bits 255) })
  have hown : (((u.shiftOut i).frameBad i bits).countFrameErr).port i =
      { u.port i with err := some (min bits 255), miso := u.response (u.port i).given } :=
    (hport i).trans (hbad.1.trans (by rw [State.shiftOut, hshift.1]))
  exact ⟨_, rfl, hown, by rw [hown]; rfl, (hport _).trans (hbad.2.trans hshift.2), herr, hanom,
    fun h => hwarn (Nat.succ_le_succ h), hsup, hnv, hpa, hdec⟩

/-- Both selects low at once. -/
theorem State.bothLow_view (hn : 2500000 ≤ u.now) (hlen : u.saf.ports.length = 2) (b0 b1 : Nat) : ∃ t, u.bothLow b0 b1 = t ∧
    t.port 0 = { u.port 0 with err := some (min b0 255) } ∧ t.port 1 = { u.port 1 with err := some (min b1 255) } ∧
    (t.port 0).given = ⟨0, 5, 0, word (min b0 255)⟩ ∧ (t.port 1).given = ⟨0, 5, 0, word (min b1 255)⟩ ∧
    t.saf.frameErr = satInc u.saf.frameErr 1 255 ∧ t.sup = u.sup ∧ t.nv = u.nv ∧ t.pa = u.pa ∧ t.saf.decided = u.saf.decided := by
  have hlow : u.bothLow b0 b1 = ((u.frameBad 0 b0).frameBad 1 b1).countFrameErr :=
    if_neg (by simp [State.spiReady_eq, hn])
  obtain ⟨hport, herr, -, -, hsup, hnv, hpa, hdec⟩ := ((u.frameBad 0 b0).frameBad 1 b1).countFrameErr_view
  have h0 := u.port_of_range hlen .safe (i := 0) rfl (fun p => { p with err := some (min b0 255) })
  have h1 := State.port_of_range (u := u.frameBad 0 b0) (by simpa [State.frameBad] using hlen) .maint (i := 1) rfl
    (fun p => { p with err := some (min b1 255) })
  have hport0 := (hport 0).trans (h1.2.trans h0.1)
  have hport1 := (hport 1).trans (h1.1.trans (by rw [State.frameBad, h0.2]))
  exact ⟨_, hlow, hport0, hport1, by rw [hport0]; rfl, by rw [hport1]; rfl, herr, hsup, hnv, hpa, hdec⟩

end

/-- Settles O51: a request goes through the checks of the frame in their order, and a frame error leaves its answer in the select. -/
theorem spiFramesChecked : Obligations.SpiFramesChecked := by
  unfold Obligations.SpiFramesChecked
  refine ⟨fun dt op i c q nonce ch s u hu hl hi hc => ?_, fun dt bits b1 i x s u hu hl hi hlen => ?_⟩
  · obtain ⟨hknown, body, hexec⟩ := exec_spiRequest hu hl hc
    rw [hexec]
    refine ⟨fun hn => by rw [State.spiFrame_early hn], fun hn hlen hcrc => ?_, fun r hn _ hcmp hr hne hcrc => ?_,
      fun sq hn _ hs hcmp hcrc => ?_, fun ha hs h1 => ?_, fun ha hs hrsv => ?_, fun ha hs hrsv h20 ho => ?_⟩
    · obtain ⟨t, ht, hview⟩ := State.spiFrame_crc_view hn hlen hi hcrc body
      exact ⟨t, by rw [ht], hview⟩
    · subst hi
      have hb : u.busyFor q = false := by
        unfold State.busyFor
        cases hs : q.sel with
        | safe => simp [hcmp hs]
        | maint => rfl
      rw [(State.spiFrame_free hn hcrc hb body).2 r hr hne]
    · have hi0 : selNum q.sel = 0 := by rw [hs]; rfl
      have hbusy := State.spiFrame_busy hn hcrc (by simp [State.busyFor, hi0, hcmp]) body
      rw [hi0] at hbusy
      refine ⟨fun h0 => by rw [hbusy.1 h0], fun h0 hseq => ?_⟩
      rw [hbusy.2 h0 hseq, State.accepted, hi0]
    · rw [State.spiFrame_admitted ha, State.spiServe_denied hknown hs h1]
    · rw [State.spiFrame_admitted ha, State.spiServe_reserved hknown hs hrsv]
    · rw [State.spiFrame_admitted ha, State.spiServe_closed hknown hs hrsv h20 ho]
  · have hf : ∀ n, exec (.frameErr dt x n) s = .next (u.frameLength x n) := fun n => by
      subst hu
      exact congrArg Host.Outcome.next (State.run_of_live hl _)
    have ht : exec (.selectTimeout dt x bits) s = .next (u.selectLow x bits) := by
      subst hu
      exact congrArg Host.Outcome.next (State.run_of_live hl _)
    have hb : exec (.bothSelectsLow dt bits b1) s = .next (u.bothLow bits b1) := by
      subst hu
      exact congrArg Host.Outcome.next (State.run_of_live hl _)
    rw [hf, hf, ht, hb]
    refine ⟨fun hn => ?_, congrArg Host.Outcome.next (if_pos (by simp)), fun hn hbits => ?_, fun hn => ?_⟩
    · have hnot : u.spiReady = false := decide_eq_false (Nat.not_le.mpr hn)
      exact ⟨congrArg Host.Outcome.next (if_pos (by simp [hnot])), congrArg Host.Outcome.next (if_pos (by simp [hnot])),
        congrArg Host.Outcome.next (if_pos (by simp [hnot]))⟩
    · have hready : u.spiReady = true := decide_eq_true hn
      obtain ⟨t, hview, hrest⟩ := State.frameErr_view hlen x hi bits
      have hlow : u.selectLow x bits = t := (if_neg (by simp [hready])).trans (by rw [← hi, hview])
      have hlength : u.frameLength x bits = t := (if_neg (by simp [hready, hbits])).trans (by rw [← hi, hview])
      exact ⟨t, by rw [hlength], by rw [hlow], hrest⟩
    · obtain ⟨t, hview, hrest⟩ := State.bothLow_view hn hlen bits b1
      exact ⟨t, by rw [hview], hrest⟩

end Sys2Proof.Machine

namespace Sys2Proof.Machine

/-! ## Commands of the channel (14 R328 to R334) -/

section
variable {dt op : Nat} {q : SpiReq} {s u : State} {body : SpiBody} {t : State}

/-- A request that reaches its command, and is answered. -/
theorem State.spiFrame_answers (h : u.admits q op) (hk : knownOps.contains op = true) (hs : q.sel = .safe ∨ op ≤ 1) (hr : q.rsv = 0#4)
    (ho : op < 0x20 ∨ u.saf.sessOpen = true) {stat : Nat} {d : Word} (hb : body (u.accepted q) = (t, some (stat, d))) :
    u.spiFrame q op body = t.answer (selNum q.sel) op stat q.seq.toNat d := by
  rw [State.spiFrame_admitted h]
  exact (State.spiServe_command hk hs hr ho hb).1 stat d rfl

/-- A command that changes nothing leaves its answer. -/
theorem State.spiFrame_done (h : u.admits q op) (hk : knownOps.contains op = true) (hs : q.sel = .safe ∨ op ≤ 1) (hr : q.rsv = 0#4)
    (ho : op < 0x20 ∨ u.saf.sessOpen = true) {stat : Nat} {d : Word} (hb : body (u.accepted q) = (u.accepted q, some (stat, d))) :
    u.spiFrame q op body = u.spiDone q op stat d :=
  (State.spiFrame_answers h hk hs hr ho hb).trans (State.accepted_answer stat d)

/-- A command that changes the safety block but not its selects. -/
theorem State.spiFrame_changes (h : u.admits q op) (hk : knownOps.contains op = true) (hs : q.sel = .safe ∨ op ≤ 1) (hr : q.rsv = 0#4)
    (ho : op < 0x20 ∨ u.saf.sessOpen = true) {stat : Nat} {d : Word} (f : Saf → Saf)
    (hf : ∀ (x : Saf) (l : List SpiPort), f { x with ports := l } = { f x with ports := l })
    (hb : body (u.accepted q) = ({ u.accepted q with saf := f (u.accepted q).saf }, some (stat, d))) :
    u.spiFrame q op body = { u.spiDone q op stat d with saf := f (u.spiDone q op stat d).saf } := by
  refine (State.spiFrame_answers h hk hs hr ho hb).trans ?_
  rw [← State.accepted_answer]
  set a := u.accepted q
  have hports : (f a.saf).ports = a.saf.ports := (congrArg Saf.ports (hf a.saf a.saf.ports) :)
  have hcommute := hf a.saf (modAt a.saf.ports (selNum q.sel) (fun p => { p with ans := ⟨op, stat, q.seq.toNat, d⟩ }))
  refine congrArg (fun x => ({ a with saf := x } : State)) (Eq.trans ?_ hcommute.symm)
  rw [hports]

end

/-! ### Bits of a warning word -/

theorem flag_true (b : Nat) : flag true b = 2 ^ b := rfl

theorem flag_false (b : Nat) : flag false b = 0 := rfl

theorem sum_flags_lt (f : Nat → Bool) (n : Nat) : ((List.range n).map (fun b => flag (f b) b)).sum < 2 ^ n := by
  induction n with
  | zero => simp
  | succ n ih =>
    have hflag : flag (f n) n ≤ 2 ^ n := by
      unfold flag
      split <;> omega
    rw [List.range_succ, List.map_append, List.sum_append, Nat.pow_succ]
    simp only [List.map_cons, List.map_nil, List.sum_cons, List.sum_nil]
    omega

/-- The bits of a word placed flag by flag. -/
theorem testBit_sum_flags (f : Nat → Bool) {n b : Nat} (h : b < n) :
    ((List.range n).map (fun b => flag (f b) b)).sum.testBit b = f b := by
  induction n with
  | zero => omega
  | succ n ih =>
    have hlt := sum_flags_lt f n
    rw [List.range_succ, List.map_append, List.sum_append]
    simp only [List.map_cons, List.map_nil, List.sum_cons, List.sum_nil, Nat.add_zero]
    rcases Nat.lt_succ_iff_lt_or_eq.mp h with hb | rfl
    · cases f n with
      | true => rw [flag_true, Nat.add_comm, Nat.testBit_two_pow_add_gt hb, ih hb]
      | false => rw [flag_false, Nat.add_zero, ih hb]
    · cases f b with
      | true => rw [flag_true, Nat.add_comm, Nat.testBit_two_pow_add_eq, Nat.testBit_lt_two_pow hlt]; rfl
      | false => rw [flag_false, Nat.add_zero, Nat.testBit_lt_two_pow hlt]

theorem testBit_iff_mod (w b : Nat) : w / 2 ^ b % 2 = 1 ↔ w.testBit b = true := by
  rw [Nat.testBit_eq_decide_div_mod_eq, decide_eq_true_iff]

/-- CLEAR_WARN leaves the bits that are not in the mask, and those whose condition holds. -/
theorem State.clearWarn_bits (s : State) (mask : Word) {b : Nat} (hb : b < 14) : (s.clearWarn mask).saf.warn / 2 ^ b % 2 = 1 ↔
    s.saf.warn / 2 ^ b % 2 = 1 ∧ (bit mask b = true → s.warnHolds b = true) := by
  rw [testBit_iff_mod]
  unfold State.clearWarn
  dsimp only
  rw [testBit_sum_flags _ hb]
  simp only [Bool.and_eq_true, decide_eq_true_eq, Bool.not_eq_true']
  cases bit mask b <;> simp

/-- A warning's condition does not ask for the selects. -/
theorem State.warnHolds_modPort (s : State) (i : Nat) (f : SpiPort → SpiPort) (b : Nat) : (s.modPort i f).warnHolds b = s.warnHolds b := rfl

/-! ### The commands that change no session (O52) -/

section
variable {dt : Nat} {q : SpiReq} {s u : State}

theorem State.fault_spi {id : Nat} (hl : u.live = true) (hd : id ∉ u.saf.decided) (hm : u.mode ≠ .safe) (op stat : Nat) (d : Word) :
    u.tripped (((u.accepted q).fault id).answer (selNum q.sel) op stat q.seq.toNat d) id ∧
    (((u.accepted q).fault id).answer (selNum q.sel) op stat q.seq.toNat d).saf.wdState = u.saf.wdState ∧
    (((u.accepted q).fault id).answer (selNum q.sel) op stat q.seq.toNat d).saf.ports = (u.spiDone q op stat d).saf.ports := by
  obtain ⟨htrip, hports, hwd, -, -⟩ := State.fault_tripped (s := u.accepted q) hd (State.live_mode hl) hm
  refine ⟨htrip, hwd, ?_⟩
  rw [← State.accepted_answer]
  exact congrArg (fun l => modAt l (selNum q.sel) _) hports

end

/-- Settles O52: each of these commands, once its frame is admitted, through the rule for a request that reaches its command. -/
theorem spiCommandsServed : Obligations.SpiCommandsServed := by
  unfold Obligations.SpiCommandsServed
  rintro dt q s u rfl hl hr
  have hexec {f : State → State} {c : Instr} (hc : exec c s = .next (s.run dt f)) : exec c s = .next (f (s.elapse dt)) :=
    hc.trans (congrArg Host.Outcome.next (State.run_of_live hl f))
  generalize hu : s.elapse dt = u at hl hexec
  refine ⟨fun ha => ?_, fun ha => ?_, fun op hop ha => ?_, fun op hop => ?_, fun hs ho ha => ?_, fun hs ho ha => ⟨fun hd => ?_, fun hd hdec hm => ?_⟩,
    fun hs ho ha => ?_, fun hs ho ha => ⟨fun hst => ?_, fun hst => ?_⟩⟩
  · rw [hexec rfl, State.spiFrame_done ha rfl (.inr (by decide)) hr (.inl (by decide)) rfl]
  · rw [hexec rfl, State.spiFrame_done ha rfl (.inr (by decide)) hr (.inl (by decide)) rfl]
    rfl
  · rw [hexec rfl, if_neg (by rw [hop]; decide), State.spiFrame_admitted ha, State.spiServe_unknown hop]
  · rw [hexec rfl, if_pos hop]
  · refine ⟨_, _, (hexec rfl).trans (congrArg Host.Outcome.next (State.spiFrame_changes ha rfl (.inl hs) hr (.inr ho)
      (fun x => { x with warn := (u.clearWarn q.data).saf.warn }) (fun _ _ => rfl) rfl)), rfl, fun b hb => u.clearWarn_bits q.data hb⟩
  · have hb : (u.accepted q).reqSafe q.data = (u.accepted q, some (3, 0#32)) := if_neg hd
    rw [hexec rfl, State.spiFrame_done ha rfl (.inl hs) hr (.inr ho) hb]
  · have hb : (u.accepted q).reqSafe q.data = ((u.accepted q).fault 18, some (0, 0#32)) := if_pos hd
    obtain ⟨htrip, -, hports⟩ := State.fault_spi (q := q) hl hdec hm 0x31 0 0#32
    have hout := State.spiFrame_answers (body := fun s => s.reqSafe q.data) ha rfl (.inl hs) hr (.inr ho) hb
    have hrun : exec (.reqSafe dt q) s = _ := (hexec rfl).trans (congrArg Host.Outcome.next hout)
    exact ⟨_, hrun, htrip, hports⟩
  · rw [hexec rfl]
    split
    · next hd =>
      have hb : (u.accepted q).reqReset q.data = ((u.accepted q).resetHold 3, none) := if_pos hd
      rw [State.spiFrame_admitted ha, (State.spiServe_command rfl (.inl hs) hr (.inr ho) hb).2 rfl]
      rfl
    · next hd =>
      have hb : (u.accepted q).reqReset q.data = (u.accepted q, some (3, 0#32)) := if_neg hd
      rw [State.spiFrame_done ha rfl (.inl hs) hr (.inr ho) hb]
  · have hb : (u.accepted q).testRequest q.arg.toNat = (u.accepted q, some (u.testStatus q.arg.toNat, 0#32)) := by
      unfold State.testRequest
      rw [show (u.accepted q).testStatus q.arg.toNat = u.testStatus q.arg.toNat from rfl]
      cases hn : u.testStatus q.arg.toNat with
      | zero => exact absurd hn hst
      | succ k => rfl
    rw [hexec rfl, State.spiFrame_done ha rfl (.inl hs) hr (.inr ho) hb]
  · have hb : (u.accepted q).testRequest q.arg.toNat = ((u.accepted q).startInjection q.arg.toNat, some (0, 3#32)) := by
      unfold State.testRequest
      rw [show (u.accepted q).testStatus q.arg.toNat = u.testStatus q.arg.toNat from rfl, hst]
      rfl
    have hout := State.spiFrame_answers (body := fun s => s.testRequest q.arg.toNat) ha rfl (.inl hs) hr (.inr ho) hb
    have hrun : exec (.test dt q) s = _ := (hexec rfl).trans (congrArg Host.Outcome.next hout)
    refine ⟨_, hrun, rfl, rfl, ?_, rfl, rfl,
      fun h5 => ?_, rfl, rfl, rfl, rfl⟩
    · rw [← State.accepted_answer]
      rfl
    · exact Bool.or_eq_true_iff.mpr (.inr (decide_eq_true h5))

/-! ### The watchdog (O54) -/

/-- The watchdog fails: FAILED, and SAFE for its fault. -/
theorem State.wdFails_tripped {u : State} {id : Nat} (hl : u.live = true) (hd : id ∉ u.saf.decided) (hm : u.mode ≠ .safe) :
    u.tripped (u.wdFails id) id ∧ (u.wdFails id).saf.wdState = 2 ∧ (u.wdFails id).saf.ports = u.saf.ports := by
  obtain ⟨htrip, hports, hwd, -, -⟩ := State.fault_tripped (s := { u with saf := { u.saf with wdState := 2 } }) hd (State.live_mode hl) hm
  exact ⟨htrip, hwd, hports⟩

section
variable {s : State} {d ch : Word}

theorem State.wdAnswer_late (hw : s.saf.wdState ≠ 2) (hl : s.saf.wdTime + 2500000 < s.now) :
    s.wdAnswer d ch = (s.wdFails 16, some (12, 0#32)) := by
  have hlate : s.saf.wdTime + 20 * ms < s.now := hl
  simp [State.wdAnswer, hw, hlate]

theorem State.wdAnswer_right (hw : s.saf.wdState ≠ 2) (hlo : s.saf.wdTime + 1250000 ≤ s.now) (hhi : s.now ≤ s.saf.wdTime + 2500000)
    (hd : d = s.wdExpected) : s.wdAnswer d ch = ({ s with saf := { s.saf with
      wdN := (s.saf.wdN + 1) % 65536, wdChal := ch, wdTime := s.now } }, some (0, 0#32)) := by
  have hlate : ¬s.saf.wdTime + 20 * ms < s.now := Nat.not_lt.mpr hhi
  have hsoon : s.saf.wdTime + 10 * ms ≤ s.now := hlo
  simp [State.wdAnswer, hw, hlate, hsoon, hd]

theorem State.wdAnswer_wrong (hw : s.saf.wdState ≠ 2) (hhi : s.now ≤ s.saf.wdTime + 2500000)
    (hbad : s.now < s.saf.wdTime + 1250000 ∨ d ≠ s.wdExpected) : s.wdAnswer d ch = (s.wdFails 17, some (12, 0#32)) := by
  have hlate : ¬s.saf.wdTime + 20 * ms < s.now := Nat.not_lt.mpr hhi
  have hno : ¬(s.saf.wdTime + 10 * ms ≤ s.now ∧ d = s.wdExpected) := fun h => hbad.elim (fun hs => absurd h.1 (Nat.not_le.mpr hs)) (· h.2)
  simp [State.wdAnswer, hw, hlate, hno]

end

/-- Settles O54: by the state of the watchdog, the window and the answer. -/
theorem watchdogJudges : Obligations.WatchdogJudges := by
  unfold Obligations.WatchdogJudges
  refine ⟨?_, ?_⟩
  · rintro dt q ch s u rfl hl hr hs ho
    have hexec {f : State → State} {c : Instr} (hc : exec c s = .next (s.run dt f)) : exec c s = .next (f (s.elapse dt)) :=
      hc.trans (congrArg Host.Outcome.next (State.run_of_live hl f))
    generalize hu : s.elapse dt = u at hl hexec ho
    have hfails {id : Nat} (ha : u.admits q 0x21) (hd : id ∉ u.saf.decided) (hm : u.mode ≠ .safe)
        (hb : (u.accepted q).wdAnswer q.data ch = ((u.accepted q).wdFails id, some (12, 0#32))) :
        ∃ t, exec (.wdAnswer dt q ch) s = .next t ∧ u.tripped t id ∧ t.saf.wdState = 2 ∧ t.saf.ports = (u.spiDone q 0x21 12 0#32).saf.ports := by
      obtain ⟨htrip, hwd, hports⟩ := State.wdFails_tripped (u := u.accepted q) hl hd hm
      have hout := State.spiFrame_answers (body := fun s => s.wdAnswer q.data ch) ha rfl (.inl hs) hr (.inr ho) hb
      have hrun : exec (.wdAnswer dt q ch) s = _ := (hexec rfl).trans (congrArg Host.Outcome.next hout)
      refine ⟨_, hrun, htrip, hwd, ?_⟩
      rw [← State.accepted_answer]
      exact congrArg (fun l => modAt l (selNum q.sel) _) hports
    refine ⟨fun ha => ?_, fun ha hw => ?_, fun ha hw hlo hhi hd => ?_, fun ha hw hhi hm hdec hbad => ?_, fun ha hw hlate hm hdec => ?_⟩
    · rw [hexec rfl]
      split
      · next hw => rw [State.spiFrame_done ha rfl (.inl hs) hr (.inr ho) (if_pos hw)]
      · next hw => exact congrArg Host.Outcome.next (State.spiFrame_done ha rfl (.inl hs) hr (.inr ho) (if_neg hw))
    · rw [hexec rfl, State.spiFrame_done ha rfl (.inl hs) hr (.inr ho) (if_pos hw)]
    · have hb := State.wdAnswer_right (s := u.accepted q) (d := q.data) (ch := ch) hw hlo hhi hd
      rw [hexec rfl]
      exact congrArg Host.Outcome.next (State.spiFrame_changes ha rfl (.inl hs) hr (.inr ho)
        (fun x => { x with wdN := (u.saf.wdN + 1) % 65536, wdChal := ch, wdTime := u.now }) (fun _ _ => rfl) hb)
    · exact hfails ha hdec hm (State.wdAnswer_wrong (s := u.accepted q) hw hhi hbad)
    · exact hfails ha hdec hm (State.wdAnswer_late (s := u.accepted q) hw hlate)
  · rintro dt s u rfl hl
    have hexec : exec (.wdTimeout dt) s = .next ((s.elapse dt).wdTimeout) := congrArg Host.Outcome.next (State.run_of_live hl _)
    generalize hu : s.elapse dt = u at hl hexec
    rw [hexec]
    refine ⟨fun h => congrArg Host.Outcome.next (if_neg fun hc => ?_), fun h1 ht hm hdec => ?_⟩
    · obtain ⟨harm, hle⟩ := Bool.and_eq_true_iff.mp hc
      have harm : u.saf.wdState = 1 := of_decide_eq_true harm
      have hle : u.saf.wdTime + 2500000 ≤ u.now := of_decide_eq_true hle
      omega
    · have hout : u.wdTimeout = u.wdFails 16 := if_pos (Bool.and_eq_true_iff.mpr ⟨decide_eq_true h1, decide_eq_true ht⟩)
      obtain ⟨htrip, hwd, -⟩ := State.wdFails_tripped hl hdec hm
      exact ⟨_, by rw [hout], htrip, hwd⟩

end Sys2Proof.Machine

namespace Sys2Proof.Machine

/-! ## The safety session (O53) -/

/-- What the records of lockouts and keys, read back and rewritten, leave alone: the safety block but its warnings, the mode, what is
read, and the PLATE registers. -/
def State.sessView (s : State) : Saf × Mode × Pl × Plt := (s.safView, s.mode, s.pa, s.plt)

section
variable (s : State)

theorem State.sessView_of_kept {s t : State} (hv : t.safView = s.safView) (hk : t.kept = s.kept) (hp : t.pa = s.pa) :
    t.sessView = s.sessView :=
  Prod.ext hv (Prod.ext (congrArg Kept.mode hk) (Prod.ext hp (congrArg Kept.plt hk)))

theorem State.post0_sessView (c : Nat) (a : List Word) : (s.post0 c a).sessView = s.sessView :=
  State.sessView_of_kept (by simp) (by simp) (by simp)

theorem State.warnBit_sessView (b : Nat) : (s.warnBit b).sessView = s.sessView :=
  State.sessView_of_kept (by simp) (by simp) (s.warnBit_keeps b).2.2.2.1

theorem State.recovered_sessView (o : Nat) (a c : Bool) : (s.recovered o a c).sessView = s.sessView := by
  unfold State.recovered
  dsimp only
  split
  · exact (State.warnBit_sessView _ _).trans (s.post0_sessView _ _)
  · exact s.post0_sessView _ _

/-- The report of a record's resolution. -/
theorem State.resolveRec_sessView {α : Type} (r : Rec α) (o : Nat) : (s.resolveRec r o).sessView = s.sessView := by
  unfold State.resolveRec
  split
  · exact (State.warnBit_sessView _ _).trans (s.post0_sessView _ _)
  · split
    · exact s.recovered_sessView _ _ _
    · rfl

theorem State.readRec_sessView {α : Type} (r : Rec α) (d : α) (o : Nat) (put : Nv → Rec α → Nv) :
    (s.readRec r d o put).sessView = s.sessView := by
  unfold State.readRec
  split
  · rfl
  · exact s.resolveRec_sessView r o

theorem State.writeGuard_sessView : s.writeGuard.sessView = s.sessView := by
  have hread : s.readGuard.sessView = s.sessView := by
    unfold State.readGuard
    dsimp only
    split
    · exact s.readRec_sessView _ _ _ _
    · exact s.readRec_sessView _ _ _ _
  exact hread

theorem State.authSuccess_sessView (w : Nat) : (s.authSuccess w).sessView = s.sessView := by
  unfold State.authSuccess
  split
  · rfl
  · exact State.writeGuard_sessView _

theorem State.authFailure_sessView (w : Nat) : (s.authFailure w).sessView = s.sessView := by
  have hfailed : (s.failed w (s.failCount w)).writeGuard.sessView = s.sessView := State.writeGuard_sessView _
  by_cases h : s.failCount w < 3
  · rw [State.authFailure_of_few h, hfailed]
  · rw [State.authFailure_of_many h]
    obtain ⟨c, a, l, heq⟩ := ((s.failed w (s.failCount w)).writeGuard).lockEvent_eq w (lockSeconds (s.failCount w))
    rw [heq]
    exact (State.post0_sessView _ c a).trans hfailed

end

/-! ### SESS_OPEN, SESS_NONCE and the words of SESS_AUTH -/

section
variable {s : State} {nonce : BitVec 128}

/-- SESS_OPEN before the ledger is ready. -/
theorem State.sessOpen_unready (h : s.sup.ledgerReady = false) : s.sessOpen nonce = (s, some (8, 0#32)) := by
  simp [State.sessOpen, h]

/-- SESS_OPEN once the key slot has been read back. -/
theorem State.sessOpen_ready (h : s.sup.ledgerReady = true) {r : State} (hr : s.readKey 3 = r) (hrr : r.sup.ledgerReady = true) :
    (r.keyOf 3 = [] ∨ r.saf.sessOpen = true → s.sessOpen nonce = (r, some (8, 0#32))) ∧
    (r.keyOf 3 ≠ [] → r.saf.sessOpen = false → r.lockedOut 3 = true → s.sessOpen nonce = (r, some (10, 0#32))) ∧
    (r.keyOf 3 ≠ [] → r.saf.sessOpen = false → r.lockedOut 3 = false → s.sessOpen nonce =
      ({ r with saf := { r.saf with nonce := some ⟨nonce, r.now, r.keyOf 3, []⟩, nonceBytes := nonce } }, some (0, 0#32))) := by
  unfold State.sessOpen
  simp only [h, hr, hrr, if_true]
  refine ⟨fun hno => if_pos (by simpa using hno), fun hk ho hlock => ?_, fun hk ho hlock => ?_⟩
  · rw [if_neg (by simp [hk, ho]), if_pos hlock]
  · rw [if_neg (by simp [hk, ho]), if_neg (by simp [hlock])]

theorem State.sessNonce_eq (i : Nat) : s.sessNonce i = if 3 < i then (s, some (3, 0#32)) else
    (s, some (0, BitVec.ofNat 32 (s.saf.nonceBytes.toNat / 2 ^ (32 * i)))) := by
  unfold State.sessNonce
  split
  · rfl
  · congr 3
    apply BitVec.eq_of_toNat_eq
    simp [Nat.shiftRight_eq_div_pow]

variable {n : SafeNonce} {i seq : Nat} {d : Word}

/-- A word of the MAC later than 1 s after its nonce. -/
theorem State.sessAuth_late (ho : s.saf.sessOpen = false) (hn : s.saf.nonce = some n) (ht : n.at_ + 125000000 < s.now) :
    s.sessAuth i seq d = ({ s with saf := { s.saf with nonce := none } }, some (9, 0#32)) := by
  have hlate : n.at_ + sec < s.now := ht
  simp [State.sessAuth, ho, hn, hlate]

/-- The next word of the MAC in its time: words 0 to 6 are kept, word 7 starts the comparison. -/
theorem State.sessAuth_word (ho : s.saf.sessOpen = false) (hn : s.saf.nonce = some n) (ht : s.now ≤ n.at_ + 125000000)
    (hi : i = n.words.length) :
    (i < 7 → s.sessAuth i seq d = ({ s with saf := { s.saf with nonce := some { n with words := n.words ++ [d] } } }, some (0, 0#32))) ∧
    (i = 7 → s.sessAuth i seq d = ({ s with saf := { s.saf with nonce := some { n with words := n.words ++ [d] }, comparing := some seq } },
      some (1, 0#32))) := by
  have hlate : ¬n.at_ + sec < s.now := Nat.not_lt.mpr ht
  unfold State.sessAuth
  rw [if_neg (by simp [ho]), hn]
  simp only [hlate, if_false, hi, ne_eq, not_true_eq_false]
  refine ⟨fun h => ?_, fun h => ?_⟩
  · rw [if_neg (by omega), if_pos h]
  · rw [if_neg (by omega), if_neg (by omega)]

end

/-! ### The comparison -/

section
variable {u : State} {n : SafeNonce} {sq : Nat} {m : List Byte} (ch : Word)

theorem State.answer_port0 {t : State} (hlen : t.saf.ports.length = 2) (op stat seq : Nat) (d : Word) :
    (t.answer 0 op stat seq d).port 0 = { t.port 0 with ans := ⟨op, stat, seq, d⟩ } ∧ (t.answer 0 op stat seq d).port 1 = t.port 1 :=
  t.port_of_range hlen .safe (i := 0) rfl _

/-- The right MAC opens the session and arms the watchdog. -/
theorem State.sessCompare_right (hlen : u.saf.ports.length = 2) (hc : u.saf.comparing = some sq) (hn : u.saf.nonce = some n)
    (hm : m = n.words.flatMap (fun w => le 4 w.toNat)) (hmac : m = hmac n.key (le 16 n.nonce.toNat ++ le 8 u.nv.serial.toNat)) :
    ∃ t, u.sessCompare ch = t ∧ t.port 0 = { u.port 0 with ans := ⟨0x12, 0, sq, 0#32⟩ } ∧ t.port 1 = u.port 1 ∧
      t.saf.comparing = none ∧ t.saf.sessOpen = true ∧ t.saf.key = n.key ∧ t.saf.sessNonce = n.nonce ∧ t.saf.wdState = 1 ∧ t.saf.wdN = 0 ∧
      t.saf.wdChal = ch ∧ t.saf.wdTime = u.now ∧ t.saf.nonce = none ∧ t.mode = u.mode ∧ t.saf.decided = u.saf.decided ∧ t.pa = u.pa ∧
      t.plt = u.plt := by
  set r : State := { u with saf := { u.saf with comparing := none } }
  set o : State := { r with saf := { r.saf with sessOpen := true, key := n.key, sessNonce := n.nonce, wdState := 1, wdN := 0,
                                                wdChal := ch, wdTime := r.now, nonce := none } }
  have hout : u.sessCompare ch = (r.openSafety n ch).answer 0 0x12 0 sq 0#32 := by
    unfold State.sessCompare
    rw [hc, hn]
    exact if_pos (hm ▸ hmac)
  have hview : (r.openSafety n ch).sessView = o.sessView := (State.post0_sessView _ _ _).trans (State.authSuccess_sessView _ _)
  have hsaf : (r.openSafety n ch).safView = o.safView := congrArg Prod.fst hview
  have hports : ∀ j, (r.openSafety n ch).port j = u.port j := fun j => by
    have hp : (r.openSafety n ch).saf.ports = u.saf.ports := (congrArg Saf.ports hsaf :)
    simp [State.port, hp]
  have hlen' : (r.openSafety n ch).saf.ports.length = 2 := (congrArg (fun x : Saf => x.ports.length) hsaf).trans hlen
  obtain ⟨h0, h1⟩ := State.answer_port0 hlen' 0x12 0 sq 0#32
  exact ⟨_, hout, h0.trans (by rw [hports]), h1.trans (hports 1), (congrArg Saf.comparing hsaf :), (congrArg Saf.sessOpen hsaf :),
    (congrArg Saf.key hsaf :), (congrArg Saf.sessNonce hsaf :), (congrArg Saf.wdState hsaf :), (congrArg Saf.wdN hsaf :),
    (congrArg Saf.wdChal hsaf :), (congrArg Saf.wdTime hsaf :), (congrArg Saf.nonce hsaf :), (congrArg (fun x => x.2.1) hview :),
    (congrArg Saf.decided hsaf :), (congrArg (fun x => x.2.2.1) hview :), (congrArg (fun x => x.2.2.2) hview :)⟩

/-- A wrong MAC counts towards the lockout. -/
theorem State.sessCompare_wrong (hlen : u.saf.ports.length = 2) (hc : u.saf.comparing = some sq) (hn : u.saf.nonce = some n)
    (hm : m = n.words.flatMap (fun w => le 4 w.toNat)) (hg : u.guardValid)
    (hmac : m ≠ hmac n.key (le 16 n.nonce.toNat ++ le 8 u.nv.serial.toNat)) :
    ∃ t, u.sessCompare ch = t ∧ t.port 0 = { u.port 0 with ans := ⟨0x12, 9, sq, 0#32⟩ } ∧ t.port 1 = u.port 1 ∧
      t.saf.comparing = none ∧ t.saf.sessOpen = u.saf.sessOpen ∧ t.saf.nonce = none ∧
      t.sup.lockFails = u.sup.lockFails.set 3 (satInc (u.sup.lockFails.getD 3 0) 1 255) ∧ t.mode = u.mode ∧ t.pa = u.pa ∧ t.plt = u.plt := by
  set o : State := { u with saf := { u.saf with comparing := none, nonce := none } }
  set e := o.post0 0x00c2 [2#32, 0#32]
  have hout : u.sessCompare ch = (e.authFailure 3).answer 0 0x12 9 sq 0#32 := by
    unfold State.sessCompare
    rw [hc, hn]
    exact if_neg (hm ▸ hmac)
  have hesup : e.sup = u.sup := State.post0_sup _ _ _
  have hge : e.guardValid := by
    unfold State.guardValid
    rw [show e.nv = u.nv from State.post0_nv _ _ _]
    exact hg
  obtain ⟨t, ht, -, hfails, -, -⟩ := State.authFailure_of_valid hge 3
  have hview : t.sessView = o.sessView := by
    rw [← ht, State.authFailure_sessView]
    exact o.post0_sessView _ _
  have hsaf : t.safView = o.safView := congrArg Prod.fst hview
  have hports : ∀ j, t.port j = u.port j := fun j => by
    have hp : t.saf.ports = u.saf.ports := (congrArg Saf.ports hsaf :)
    simp [State.port, hp]
  have hlen' : t.saf.ports.length = 2 := (congrArg (fun x : Saf => x.ports.length) hsaf).trans hlen
  obtain ⟨h0, h1⟩ := State.answer_port0 hlen' 0x12 9 sq 0#32
  rw [State.failCount, hesup] at hfails
  exact ⟨_, hout.trans (by rw [ht]), h0.trans (by rw [hports]), h1.trans (hports 1), (congrArg Saf.comparing hsaf :),
    (congrArg Saf.sessOpen hsaf :), (congrArg Saf.nonce hsaf :), hfails, (congrArg (fun x => x.2.1) hview :),
    (congrArg (fun x => x.2.2.1) hview :), (congrArg (fun x => x.2.2.2) hview :)⟩

end

/-- Settles O53: by the step of the session, from SESS_OPEN to the end of the comparison. -/
theorem safetySessionOpens : Obligations.SafetySessionOpens := by
  unfold Obligations.SafetySessionOpens
  rintro dt q nonce ch s u rfl hl hr hs
  have hexec {f : State → State} {c : Instr} (hc : exec c s = .next (s.run dt f)) : exec c s = .next (f (s.elapse dt)) :=
    hc.trans (congrArg Host.Outcome.next (State.run_of_live hl f))
  generalize hu : s.elapse dt = u at hl hexec
  have hvalid : (∃ n x y, u.nv.keys[3]? = some ⟨some (n, x), some y⟩) → (u.accepted q).readKey 3 = u.accepted q := by
    rintro ⟨n, x, y, hk⟩
    exact State.readKey_of_valid (u := u.accepted q) hk rfl rfl
  have hknown : knownOps.contains 0x10 = true ∧ knownOps.contains 0x11 = true ∧ knownOps.contains 0x12 = true := ⟨rfl, rfl, rfl⟩
  obtain ⟨h10, h11, h12⟩ := hknown
  refine ⟨fun ha hk hno => ?_, fun ha hready hk hkey ho hlock => ?_, fun ha hready hk hkey ho hlock => ?_,
    fun r n x ha hready hk hone hx ho hlock => ?_, fun ha => ?_, fun ha ho => ?_, fun ha ho hn => ?_, fun n ha ho hn hi => ⟨fun ht => ?_,
    fun ht h7 => ?_, fun ht h7 => ?_⟩, fun hc => ?_, fun n sq m hlen hc hn hm => ⟨fun hmac => ?_, fun hfails hga hgb hmac => ?_⟩⟩
  · have hb : (u.accepted q).sessOpen nonce = (u.accepted q, some (8, 0#32)) := by
      by_cases hready : u.sup.ledgerReady = true
      · refine (State.sessOpen_ready (s := u.accepted q) hready (hvalid (hk hready)) hready).1 ?_
        rcases hno with h | h
        · exact absurd (hready.symm.trans h) (by decide)
        · exact h
      · exact State.sessOpen_unready (s := u.accepted q) (Bool.eq_false_iff.mpr hready)
    rw [hexec rfl, State.spiFrame_done ha h10 (.inl hs) hr (.inl (by decide)) hb]
  · have hb := (State.sessOpen_ready (s := u.accepted q) (nonce := nonce) hready (hvalid hk) hready).2.1 hkey ho hlock
    rw [hexec rfl, State.spiFrame_done ha h10 (.inl hs) hr (.inl (by decide)) hb]
  · have hb := (State.sessOpen_ready (s := u.accepted q) (nonce := nonce) hready (hvalid hk) hready).2.2 hkey ho hlock
    rw [hexec rfl]
    exact congrArg Host.Outcome.next (State.spiFrame_changes ha h10 (.inl hs) hr (.inl (by decide))
      (fun x => { x with nonce := some ⟨nonce, u.now, u.keyOf 3, []⟩, nonceBytes := nonce }) (fun _ _ => rfl) hb)
  · obtain ⟨v, hv, hread⟩ := State.readKey_of_oneCopy (u := u.accepted q) hk hone
    set w : State := { v with nv := { (u.accepted q).nv with keys := (u.accepted q).nv.keys.set 3 (Rec.both n x) } }
    have hview : w.sessView = (u.accepted q).sessView := by
      rw [← hread]
      exact State.readRec_sessView _ _ _ _ _
    have hsaf : w.safView = (u.accepted q).safView := congrArg Prod.fst hview
    have hwsup : w.sup = u.sup := hv.sup
    have hkey : w.keyOf 3 = x := State.keyOf_set (v := { v with nv := (u.accepted q).nv }) hk
    have hlocked : w.lockedOut 3 = false := by
      have hleft : w.lockLeft = u.lockLeft := State.lockLeft_congr hv.now (by rw [hwsup])
      rw [State.lockedOut, hleft]
      exact hlock
    have hb := (State.sessOpen_ready (s := u.accepted q) (nonce := nonce) hready hread (hwsup ▸ hready)).2.2 (hkey ▸ hx)
      ((congrArg Saf.sessOpen hsaf :).trans ho) hlocked
    have hout := State.spiFrame_answers (body := fun s => s.sessOpen nonce) ha h10 (.inl hs) hr (.inl (by decide)) hb
    have hrun : exec (.sessOpen dt q nonce) s = _ := (hexec rfl).trans (congrArg Host.Outcome.next hout)
    have hlen : w.saf.ports.length = 2 := (congrArg (fun x : Saf => x.ports.length) hsaf).trans ((u.modPort_length _ _).trans ha.2.1)
    have hans := State.answer_port0 (t := { w with saf := { w.saf with nonce := some ⟨nonce, w.now, w.keyOf 3, []⟩, nonceBytes := nonce } })
      hlen 0x10 0 q.seq.toNat 0#32
    have h0 : selNum q.sel = 0 := by rw [hs]; rfl
    rw [h0] at hrun
    refine ⟨_, hrun, rfl, ?_, congrArg SpiPort.ans hans.1, hv.warned⟩
    show some (SafeNonce.mk nonce w.now (w.keyOf 3) []) = _
    rw [hkey, show w.now = u.now from hv.now]
  · rw [hexec rfl]
    have hb := (u.accepted q).sessNonce_eq q.arg.toNat
    split
    · next h3 => rw [State.spiFrame_done ha h11 (.inl hs) hr (.inl (by decide)) (hb.trans (if_pos h3))]
    · next h3 =>
      exact congrArg Host.Outcome.next (State.spiFrame_done ha h11 (.inl hs) hr (.inl (by decide)) (hb.trans (if_neg h3)))
  · have hb : (u.accepted q).sessAuth q.arg.toNat q.seq.toNat q.data = (u.accepted q, some (8, 0#32)) := if_pos ho
    rw [hexec rfl]
    exact congrArg Host.Outcome.next (State.spiFrame_done ha h12 (.inl hs) hr (.inl (by decide)) hb)
  · have hb : (u.accepted q).sessAuth q.arg.toNat q.seq.toNat q.data = (u.accepted q, some (9, 0#32)) := by
      unfold State.sessAuth
      rw [if_neg (by rw [show (u.accepted q).saf.sessOpen = false from ho]; decide), show (u.accepted q).saf.nonce = none from hn]
    rw [hexec rfl]
    exact congrArg Host.Outcome.next (State.spiFrame_done ha h12 (.inl hs) hr (.inl (by decide)) hb)
  · have hb := State.sessAuth_late (s := u.accepted q) (i := q.arg.toNat) (seq := q.seq.toNat) (d := q.data) ho hn ht
    rw [hexec rfl]
    exact congrArg Host.Outcome.next (State.spiFrame_changes ha h12 (.inl hs) hr (.inl (by decide))
      (fun x => { x with nonce := none }) (fun _ _ => rfl) hb)
  · have hb := (State.sessAuth_word (s := u.accepted q) (seq := q.seq.toNat) (d := q.data) ho hn ht hi).1 h7
    rw [hexec rfl]
    exact congrArg Host.Outcome.next (State.spiFrame_changes ha h12 (.inl hs) hr (.inl (by decide))
      (fun x => { x with nonce := some { n with words := n.words ++ [q.data] } }) (fun _ _ => rfl) hb)
  · have hb := (State.sessAuth_word (s := u.accepted q) (seq := q.seq.toNat) (d := q.data) ho hn ht hi).2 h7
    rw [hexec rfl]
    exact congrArg Host.Outcome.next (State.spiFrame_changes ha h12 (.inl hs) hr (.inl (by decide))
      (fun x => { x with nonce := some { n with words := n.words ++ [q.data] }, comparing := some q.seq.toNat }) (fun _ _ => rfl) hb)
  · rw [hexec (c := .sessAuth dt (.compared ch)) (f := fun s => s.sessCompare ch) rfl, State.sessCompare, hc]
  · obtain ⟨t, ht, hrest⟩ := State.sessCompare_right ch hlen hc hn hm hmac
    exact ⟨t, (hexec (f := fun s => s.sessCompare ch) rfl).trans (congrArg Host.Outcome.next ht), hrest⟩
  · obtain ⟨t, ht, hrest⟩ := State.sessCompare_wrong ch hlen hc hn hm ⟨hga, hgb⟩ hmac
    exact ⟨t, (hexec (f := fun s => s.sessCompare ch) rfl).trans (congrArg Host.Outcome.next ht), hrest⟩

end Sys2Proof.Machine

namespace Sys2Proof.Machine

/-! ## The thermal block while work ends (16) -/

section
variable (s : State)

@[simp] theorem State.warnBit_thm (b : Nat) : (s.warnBit b).thm = s.thm := by
  unfold State.warnBit
  split <;> simp
@[simp] theorem State.shutterPulse_thm (p : Pipe) (o : Owner) : (s.shutterPulse p o).thm = s.thm := by
  cases p <;> simp [State.shutterPulse, State.duePulse, State.sendCmd, State.sendPacket]
@[simp] theorem State.closeEvent_thm (p : Pipe) : (s.closeEvent p).thm = s.thm := by
  unfold State.closeEvent
  (repeat' split) <;> simp
@[simp] theorem State.abortEvent_thm (p : Pipe) : (s.abortEvent p).thm = s.thm := by
  have hcount : ∀ x : State, (x.countFailure p).thm = x.thm := fun x => by
    unfold State.countFailure
    dsimp only
    split <;> simp
  have hfail : (s.failEvent p 5).thm = s.thm := by
    unfold State.failEvent
    (repeat' split) <;> simp [hcount]
  rw [State.abortEvent, ← hfail]
  unfold State.issueOpen
  (repeat' split) <;> simp
@[simp] theorem State.stopPipe_thm (p : Pipe) : (s.stopPipe p).thm = s.thm := by
  have hclaims : ∀ (x : State) (f : Frame), (x.returnClaims f).thm = x.thm := by
    intro x f
    unfold State.returnClaims
    induction f.claims with
    | nil => rfl
    | cons c l ih => exact ih
  simp [State.stopPipe, foldl_keeps State.thm _ hclaims]
@[simp] theorem State.abortOn_thm (i r l : Nat) : (s.abortOn i r l).thm = s.thm := by
  unfold State.abortOn
  dsimp only
  (repeat' split) <;> simp
@[simp] theorem State.abortStreams_thm : s.abortStreams.thm = s.thm := by simp [State.abortStreams, State.sendAbort]
@[simp] theorem State.dropWait_thm (w r : Nat) : (s.dropWait w r).thm = s.thm := by
  unfold State.dropWait
  split <;> simp
@[simp] theorem State.enterMode_thm (m : Mode) : (s.enterMode m).thm = s.thm := by
  have hlink : ∀ x : State, (x.relayLink m).thm = x.thm := fun x => by
    unfold State.relayLink
    (repeat' split) <;> simp [State.serveLanes]
  have hleave : (s.leaveMode m).thm = s.thm := by
    unfold State.leaveMode
    dsimp only
    split <;> simp [State.impose]
  unfold State.enterMode
  dsimp only
  rw [State.post0_thm]
  exact (hlink _).trans hleave

/-- Entry to SAFE leaves the thermal block but for the idle depth, and a wake that ran. -/
theorem State.enterSafe_thm : s.enterSafe.thm = { s.thm with depth := 0, waking := none } := by
  have hlog : s.logCutBoot.thm = s.thm := by
    unfold State.logCutBoot
    split <;> rfl
  have hdue : ∀ x : State, x.dropDue.thm = x.thm := fun _ => rfl
  have hpost : ∀ x : State, x.postSafe.thm = x.thm := fun x => by
    unfold State.postSafe
    split <;> simp
  unfold State.enterSafe
  dsimp only
  rw [hpost, State.enterMode_thm]
  simp [hlog, hdue]

/-- A fault leaves it so too. -/
theorem State.fault_thm {id : Nat} (h : id ∉ s.saf.decided) (hm : s.mode ≠ .off) (hs : s.mode ≠ .safe) :
    (s.fault id).thm = { s.thm with depth := 0, waking := none } := by
  have hc : ¬(s.saf.decided.contains id || decide (s.mode = .off)) = true := by simpa using ⟨h, hm⟩
  unfold State.fault
  rw [if_neg hc]
  dsimp only
  have hout : ∀ x : State, x.mode = s.mode → x.thm = s.thm →
      (if x.mode = .safe then x else x.enterSafe).thm = { s.thm with depth := 0, waking := none } := by
    intro x hxm hxt
    rw [if_neg (hxm ▸ hs), State.enterSafe_thm, hxt]
  split
  · exact hout _ rfl rfl
  · exact hout _ rfl rfl

end

/-! ## Conversions (R357, R358) -/

section
variable {s : State} {n : Nat} {v : Int}

/-- A conversion breaks its sensor outside the range, or away from the median of the others. -/
theorem State.breaks_iff : s.breaks n v = true ↔ v < -14080 ∨ 44800 < v ∨
    (n < 8 ∧ 3 ≤ (s.othersOf n).length ∧ 6400 < (v - medianOf (s.othersOf n)).natAbs) := by
  unfold State.breaks
  simp only [Bool.or_eq_true, Bool.and_eq_true, decide_eq_true_eq]
  unfold deg
  generalize (v - medianOf (s.othersOf n)).natAbs = x
  generalize (s.othersOf n).length = k
  omega

theorem State.thermalConversion_sound (hb : s.thm.broken.getD n false = false) (hv : s.breaks n v = false) : s.thermalConversion n v =
    if 33280 ≤ v then State.fault { s with thm := { s.thm with conv := s.thm.conv.set n (some v) } } 7
    else { s with thm := { s.thm with conv := s.thm.conv.set n (some v) } } := by
  simp only [State.thermalConversion, hb, hv, Bool.and_false, Bool.false_eq_true, if_false]
  rfl

/-- A sensor that a conversion breaks counts as 150 °C, which is dangerous fault 7. -/
theorem State.thermalConversion_breaks (hn : n < s.thm.broken.length) (hb : s.thm.broken.getD n false = false) (hv : s.breaks n v = true) :
    s.thermalConversion n v = State.fault { (State.post0 { s with thm := { s.thm with broken := s.thm.broken.set n true } } 0x0096 [word n, s32 v])
      with thm := { s.thm with broken := s.thm.broken.set n true, conv := s.thm.conv.set n (some 38400) } } 7 := by
  have hset : (s.thm.broken.set n true).getD n false = true := by
    rw [List.getD_eq_getElem?_getD, List.getElem?_set_self hn, Option.getD_some]
  simp only [State.thermalConversion, hb, hv, Bool.not_false, Bool.and_self, if_true, State.post0_thm, hset]
  exact if_pos (by decide)

end

/-! ## Samples (R359, R360) -/

/-- What a sample and the moves on it leave alone. -/
structure SampleView where
  now : Nat
  nv : Nv
  act : Act
  pcv : Pcv
  nl : Nl
  drm : Drm
  eng : Eng
  cch : Cch
  plt : Plt

/-- That part of a state. -/
def State.sampleView (s : State) : SampleView := ⟨s.now, s.nv, s.act, s.pcv, s.nl, s.drm, s.eng, s.cch, s.plt⟩

section
variable (s : State)

@[simp] theorem State.post0_sampleView (c : Nat) (a : List Word) : (s.post0 c a).sampleView = s.sampleView := by simp [State.sampleView]
@[simp] theorem State.accept_sampleView (p : Pipe) (f : Settings → Settings) : (s.accept p f).sampleView = s.sampleView := by
  simp [State.sampleView]
@[simp] theorem State.thm_sampleView (x : Thm) : State.sampleView { s with thm := x } = s.sampleView := rfl
@[simp] theorem State.warnBit_sampleView (b : Nat) : (s.warnBit b).sampleView = s.sampleView := by
  unfold State.warnBit
  split
  · rfl
  · exact State.post0_sampleView _ _ _

theorem State.stopPlate_view (so : Bool) : (s.stopPlate so).sampleView = s.sampleView ∧ (s.stopPlate so).thm = s.thm := by
  have h : ((s.accept .A fun st => { st with mode := .standby }).accept .B fun st => { st with mode := .standby }).sampleView = s.sampleView := by
    simp
  exact ⟨h, by simp [State.stopPlate]⟩

/-- The warning of a sample. -/
theorem State.thermalWarn_view : s.thermalWarn.sampleView = s.sampleView ∧
    s.thermalWarn.thm = { s.thm with warn := decide (29440 ≤ s.thm.sample) || (s.thm.warn && decide (28672 < s.thm.sample)) } := by
  have h115 : deg 115 = 29440 := rfl
  have h112 : deg 112 = 28672 := rfl
  unfold State.thermalWarn
  dsimp only
  rw [h115, h112]
  split
  · next h =>
    obtain ⟨-, hle⟩ := Bool.and_eq_true_iff.mp h
    simp [hle]
  · split
    · next h =>
      obtain ⟨hw, hle⟩ := Bool.and_eq_true_iff.mp h
      have hlo : ¬(29440 ≤ s.thm.sample) := by
        have := of_decide_eq_true hle
        omega
      have hhi : ¬(28672 < s.thm.sample) := Int.not_lt.mpr (of_decide_eq_true hle)
      simp [hlo, hhi]
    · next hup hdown =>
      refine ⟨rfl, ?_⟩
      have hsame : (decide (29440 ≤ s.thm.sample) || (s.thm.warn && decide (28672 < s.thm.sample))) = s.thm.warn := by
        cases hw : s.thm.warn with
        | true =>
          have : 28672 < s.thm.sample := by
            by_contra hn
            exact hdown (by simp [hw, Int.not_lt.mp hn])
          simp [this]
        | false =>
          have : ¬29440 ≤ s.thm.sample := fun hn => hup (by simp [hw, hn])
          simp [this]
      rw [hsame]

theorem State.thermalStop_view : s.thermalStop.sampleView = s.sampleView ∧ s.thermalStop.thm = { s.thm with state := .stopped } := by
  unfold State.thermalStop
  dsimp only
  split
  · obtain ⟨hview, hthm⟩ := State.stopPlate_view (State.post0 { s with thm := { s.thm with state := .stopped } } 0x0094
      [s32 s.thm.sample, word s.thm.sensor]) false
    exact ⟨hview.trans (State.post0_sampleView _ _ _), hthm.trans (State.post0_thm _ _ _)⟩
  · exact ⟨State.post0_sampleView _ _ _, State.post0_thm _ _ _⟩

theorem State.thermalRearm_view : s.thermalRearm.sampleView = s.sampleView ∧
    ∃ c x, s.thermalRearm.thm = { s.thm with state := x, restartCool := c } ∧
      (s.thm.state = .stopped → s.thm.low110 = none → x = .stopped) := by
  unfold State.thermalRearm
  split
  · next h =>
    refine ⟨State.post0_sampleView _ _ _, _, _, State.post0_thm _ _ _, fun _ hnone => ?_⟩
    simp [hnone, lasted] at h
  · exact ⟨rfl, _, _, rfl, fun h _ => h⟩

theorem State.thermalGrace_view : s.thermalGrace.sampleView = s.sampleView ∧ ∃ g, s.thermalGrace.thm = { s.thm with
    state := .grace, graceEnd := s.now + max 50 (min 5000 (fld s.thm.ctrl 12 0)) * 125000, graceMs := g } :=
  ⟨State.post0_sampleView _ _ _, _, State.post0_thm _ _ _⟩

theorem State.thermalEnforce_view : s.thermalEnforce.sampleView = s.sampleView ∧ s.thermalEnforce.thm =
    { s.thm with state := if s.thm.state = .grace ∧ s.thm.graceEnd ≤ s.now then .enforced else s.thm.state } := by
  unfold State.thermalEnforce
  by_cases h : s.thm.state = .grace ∧ s.thm.graceEnd ≤ s.now
  · rw [if_pos (by simpa using h), if_pos h]
    exact ⟨by simp [State.acceptCool], by simp [State.acceptCool]⟩
  · rw [if_neg (by simpa using h), if_neg h]
    exact ⟨rfl, rfl⟩

theorem State.thermalRelease_view : s.thermalRelease.sampleView = s.sampleView ∧ ∃ x, s.thermalRelease.thm = { s.thm with state := x } := by
  unfold State.thermalRelease
  split
  · exact ⟨by simp [State.acceptCool], .normal, by simp [State.acceptCool]⟩
  · exact ⟨rfl, _, rfl⟩

/-- What a move leaves of the thermal block. -/
structure Thm.Moved (t u : Thm) : Prop where
  sample : u.sample = t.sample
  sensor : u.sensor = t.sensor
  peak : u.peak = t.peak
  warn : u.warn = t.warn
  fast : u.fast = t.fast

/-- The rows of R360 on the last sample. -/
theorem State.thermalMove_rows {v : Int} (hv : s.thm.sample = v) : s.thermalMove.sampleView = s.sampleView ∧
    s.thm.Moved s.thermalMove.thm ∧
    (s.thm.state ≠ .stopped → 32000 ≤ v → s.thermalMove.thm.state = .stopped) ∧
    (s.thm.state = .normal → v < 30720 → s.thermalMove.thm.state = .normal) ∧
    (s.thm.state = .normal → 30720 ≤ v → v < 32000 → s.thermalMove.thm.state = .grace ∧
      s.thermalMove.thm.graceEnd = s.now + max 50 (min 5000 (fld s.thm.ctrl 12 0)) * 125000) ∧
    (s.thm.state = .grace → v ≤ 29952 → s.thermalMove.thm.state = .normal) ∧
    (s.thm.state = .grace → 29952 < v → v < 32000 → s.thermalMove.thm.state = (if s.thm.graceEnd ≤ s.now then .enforced else .grace)) ∧
    (s.thm.state = .stopped → s.thm.low110 = none → s.thermalMove.thm.state = .stopped) := by
  have h125 : deg 125 = 32000 := rfl
  have h120 : deg 120 = 30720 := rfl
  have h117 : deg 117 = 29952 := rfl
  obtain ⟨hsv, hst⟩ := s.thermalStop_view
  cases hs : s.thm.state with
  | stopped =>
    have hmove : s.thermalMove = s.thermalRearm := by simp [State.thermalMove, hs]
    obtain ⟨hview, c, x, hthm, hx⟩ := s.thermalRearm_view
    rw [hmove, hthm]
    refine ⟨hview, ⟨rfl, rfl, rfl, rfl, rfl⟩, fun h => absurd rfl h, nofun, nofun, nofun, nofun, fun _ hnone => hx hs hnone⟩
  | normal =>
    have hmove : s.thermalMove = if 32000 ≤ v then s.thermalStop else if 30720 ≤ v then s.thermalGrace else s := by
      simp [State.thermalMove, hs, hv, h125, h120]
    obtain ⟨hgv, g, hgt⟩ := s.thermalGrace_view
    rw [hmove]
    refine ⟨?_, ?_, fun _ h => ?_, fun _ h => ?_, fun _ h1 h2 => ?_, nofun, nofun, nofun⟩
    · (repeat' split)
      exacts [hsv, hgv, rfl]
    · (repeat' split)
      · rw [hst]; exact ⟨rfl, rfl, rfl, rfl, rfl⟩
      · rw [hgt]; exact ⟨rfl, rfl, rfl, rfl, rfl⟩
      · exact ⟨rfl, rfl, rfl, rfl, rfl⟩
    · rw [if_pos h, hst]
    · rw [if_neg (by omega), if_neg (by omega), hs]
    · rw [if_neg (by omega), if_pos h1, hgt]
      exact ⟨rfl, rfl⟩
  | grace =>
    have hmove : s.thermalMove = if 32000 ≤ v then s.thermalStop else if v ≤ 29952 then
        State.post0 { s with thm := { s.thm with state := .normal } } 0x0093 [s32 v, 1#32] else s.thermalEnforce := by
      simp [State.thermalMove, hs, hv, h125, h117]
    obtain ⟨hev, het⟩ := s.thermalEnforce_view
    rw [hmove]
    refine ⟨?_, ?_, fun _ h => ?_, nofun, nofun, fun _ h => ?_, fun _ h1 h2 => ?_, nofun⟩
    · (repeat' split)
      exacts [hsv, State.post0_sampleView _ _ _, hev]
    · (repeat' split)
      · rw [hst]; exact ⟨rfl, rfl, rfl, rfl, rfl⟩
      · rw [State.post0_thm]; exact ⟨rfl, rfl, rfl, rfl, rfl⟩
      · rw [het]; exact ⟨rfl, rfl, rfl, rfl, rfl⟩
    · rw [if_pos h, hst]
    · rw [if_neg (by omega), if_pos h, State.post0_thm]
    · rw [if_neg (by omega), if_neg (by omega), het]
      simp [hs]
  | enforced =>
    have hmove : s.thermalMove = if 32000 ≤ v then s.thermalStop else s.thermalRelease := by
      simp [State.thermalMove, hs, hv, h125]
    obtain ⟨hrv, x, hrt⟩ := s.thermalRelease_view
    rw [hmove]
    refine ⟨?_, ?_, fun _ h => ?_, nofun, nofun, nofun, nofun, nofun⟩
    · split
      exacts [hsv, hrv]
    · split
      · rw [hst]; exact ⟨rfl, rfl, rfl, rfl, rfl⟩
      · rw [hrt]; exact ⟨rfl, rfl, rfl, rfl, rfl⟩
    · rw [if_pos h, hst]

end

/-! ### A sample as a whole -/

section
variable {s : State} {v : Int} {n : Nat}

/-- A sample taken keeps its runs, and ends fast sampling only below 110 °C. -/
theorem State.sampleTaken_view (s : State) (v : Int) (n : Nat) : ∃ f, (State.slowSampling { s with thm := s.thm.sampleTaken s.now v n }) =
    { s with thm := { s.thm.sampleTaken s.now v n with fast := f } } ∧ (28672 ≤ v → f = true) := by
  have h110 : deg 110 = 28160 := rfl
  have h112 : deg 112 = 28672 := rfl
  unfold State.slowSampling
  split
  · next h =>
    refine ⟨false, rfl, fun hv => ?_⟩
    have hnone : (s.thm.sampleTaken s.now v n).slowSince = none := by
      have hhot : ¬v < 28160 := by omega
      simp [Thm.sampleTaken, runSince, h110, hhot]
    simp [hnone, lasted] at h
  · exact ⟨_, rfl, fun hv => by simp [h112, hv]⟩

/-- What a sample leaves, by what it has taken. -/
theorem State.thermalSample_of_hottest (h : s.hottest = some (v, n)) : ∃ r : State, s.thermalSample = r.thermalMove ∧
    r.sampleView = s.sampleView ∧ ∃ f, (28672 ≤ v → f = true) ∧ r.thm = { s.thm.sampleTaken s.now v n with
      fast := f, warn := decide (29440 ≤ v) || (s.thm.warn && decide (28672 < v)) } := by
  obtain ⟨f, htaken, hf⟩ := s.sampleTaken_view v n
  obtain ⟨hview, hthm⟩ := (State.slowSampling { s with thm := s.thm.sampleTaken s.now v n }).thermalWarn_view
  refine ⟨_, ?_, hview.trans (by rw [htaken]; rfl), f, hf, hthm.trans (by rw [htaken]; rfl)⟩
  unfold State.thermalSample
  rw [h]

theorem State.priorNow_congr {s t : State} {p : Pipe} (hn : t.now = s.now) (hp : t.pl p = s.pl p) : t.priorNow p = s.priorNow p := by
  have hlatch : t.latchDue p = s.latchDue p := by
    have ht (g : Frame) : t.latchTime p g = s.latchTime p g := by simp only [State.latchTime, hn]
    simp only [State.latchDue, hp, ht]
  simp only [State.priorNow, hn, hp, hlatch]

/-- The cool profile taken up or left now. -/
theorem State.acceptCool_view (s : State) (on : Bool) :
    (s.acceptCool on).pa = { s.pa with pend := { s.pa.pend with cool := on }, prior := some (s.priorNow .A) } ∧
    (s.acceptCool on).pb = { s.pb with pend := { s.pb.pend with cool := on }, prior := some (s.priorNow .B) } ∧
    (s.acceptCool on).thm = s.thm ∧ (s.acceptCool on).sup = s.sup ∧ (s.acceptCool on).nv = s.nv ∧ (s.acceptCool on).saf = s.saf := by
  have hb : (s.accept .A fun st => { st with cool := on }).priorNow .B = s.priorNow .B := State.priorNow_congr (by simp) rfl
  refine ⟨rfl, ?_, by simp [State.acceptCool], by simp [State.acceptCool], by simp [State.acceptCool], by simp [State.acceptCool]⟩
  unfold State.acceptCool
  dsimp only
  rw [← hb]
  rfl

/-- The cool profile taken up or left with a thermal state and its event. -/
theorem State.coolMove_view (s : State) (x : ThState) (c : Nat) (a : List Word) (on : Bool) :
    ((State.post0 { s with thm := { s.thm with state := x } } c a).acceptCool on).thm = { s.thm with state := x } ∧
    ((State.post0 { s with thm := { s.thm with state := x } } c a).acceptCool on).pa =
      { s.pa with pend := { s.pa.pend with cool := on }, prior := some (s.priorNow .A) } ∧
    ((State.post0 { s with thm := { s.thm with state := x } } c a).acceptCool on).pb =
      { s.pb with pend := { s.pb.pend with cool := on }, prior := some (s.priorNow .B) } ∧
    ((State.post0 { s with thm := { s.thm with state := x } } c a).acceptCool on).sup = s.sup ∧
    ((State.post0 { s with thm := { s.thm with state := x } } c a).acceptCool on).nv = s.nv ∧
    ((State.post0 { s with thm := { s.thm with state := x } } c a).acceptCool on).saf = s.saf := by
  set r : State := { s with thm := { s.thm with state := x } }
  obtain ⟨ha, hb, ht, hs, hn, hf⟩ := (r.post0 c a).acceptCool_view on
  have hprior : ∀ p, (r.post0 c a).priorNow p = s.priorNow p := fun p => State.priorNow_congr (r.post0_now c a) (by cases p <;> simp [State.pl, r])
  exact ⟨ht.trans (r.post0_thm c a), ha.trans (by rw [hprior, r.post0_pa c a]), hb.trans (by rw [hprior, r.post0_pb c a]),
    hs.trans (r.post0_sup c a), hn.trans (r.post0_nv c a), hf.trans (r.post0_saf c a)⟩

end

theorem lasted_of_le {now a t : Nat} (h : a + t ≤ now) : lasted now (some a) t = true := decide_eq_true h

/-- Settles O47: by conversion, sample and timer. -/
theorem thermalManagement : Obligations.ThermalManagement := by
  unfold Obligations.ThermalManagement
  refine ⟨?_, ?_, ?_⟩
  · rintro dt n v s u rfl hl hlen hb
    have hexec : exec (.thermalConversion dt n v) s = .next ((s.elapse dt).thermalConversion n.val v) :=
      congrArg Host.Outcome.next (State.run_of_live hl _)
    generalize s.elapse dt = u at hl hlen hb hexec
    have hfault (x : State) (hx : x.saf = u.saf) (hm : x.mode = u.mode) (hn : x.nv = u.nv) (h7 : 7 ∉ u.saf.decided) (hs : u.mode ≠ .safe) :
        (x.fault 7).mode = .safe ∧ (x.fault 7).saf.decided = u.saf.decided ++ [7] ∧ (x.fault 7).thm = { x.thm with depth := 0, waking := none } ∧
          (x.fault 7).nv = u.nv := by
      have hoff : x.mode ≠ .off := hm ▸ State.live_mode hl
      obtain ⟨hmode, hdec, -, -, -, hnv⟩ := x.fault_decides 7 (hx ▸ h7) hoff
      exact ⟨hmode, by rw [hdec, hx], x.fault_thm (hx ▸ h7) hoff (hm ▸ hs), hnv.trans hn⟩
    rw [hexec]
    refine ⟨State.breaks_iff, fun hv hlt => ?_, fun hv hge h7 hs => ?_, fun hv h7 hs => ?_⟩
    · rw [State.thermalConversion_sound hb hv, if_neg (by omega)]
    · rw [State.thermalConversion_sound hb hv, if_pos hge]
      obtain ⟨hmode, hdec, hthm, hnv⟩ := hfault { u with thm := { u.thm with conv := u.thm.conv.set n.val (some v) } } rfl rfl rfl h7 hs
      exact ⟨_, rfl, hmode, hdec, by rw [hthm], by rw [hthm], hnv⟩
    · rw [State.thermalConversion_breaks (by rw [hlen]; exact n.isLt) hb hv]
      set r : State := State.post0 { u with thm := { u.thm with broken := u.thm.broken.set n.val true } } 0x0096 [word n.val, s32 v]
      have hsup : r.sup = u.sup := State.post0_sup _ _ _
      obtain ⟨hmode, hdec, hthm, hnv⟩ := hfault { r with
        thm := { u.thm with broken := u.thm.broken.set n.val true, conv := u.thm.conv.set n.val (some 38400) } } (State.post0_saf _ _ _) (congrArg Sup.mode hsup) (State.post0_nv _ _ _) h7 hs
      exact ⟨_, rfl, hmode, hdec, by rw [hthm], by rw [hthm], hnv⟩
  · rintro dt v n s u rfl hl hh
    have hexec : exec (.thermalSample dt) s = .next (s.elapse dt).thermalSample := congrArg Host.Outcome.next (State.run_of_live hl _)
    generalize s.elapse dt = u at hl hh hexec
    obtain ⟨r, hr, hview, f, hf, hthm⟩ := State.thermalSample_of_hottest hh
    have hnow : r.now = u.now := congrArg SampleView.now hview
    have hstate : r.thm.state = u.thm.state := by rw [hthm]; rfl
    have hgrace : r.thm.graceEnd = u.thm.graceEnd ∧ r.thm.ctrl = u.thm.ctrl := by rw [hthm]; exact ⟨rfl, rfl⟩
    have hcold : 28160 < v → r.thm.low110 = none := fun hv => by
      have h110 : deg 110 = 28160 := rfl
      have hhot : ¬v ≤ 28160 := by omega
      rw [hthm]
      simp [Thm.sampleTaken, runSince, h110, hhot]
    obtain ⟨hmview, hmoved, h1, h2, h3, h4, h5, h6⟩ := r.thermalMove_rows (v := v) (by rw [hthm]; rfl)
    rw [hstate, hnow, hgrace.1, hgrace.2] at *
    have hv := hmview.trans hview
    rw [hexec, hr]
    have hpeak : r.thm.peak = (if u.thm.sampled = false ∨ u.thm.peak < v then v else u.thm.peak) := by
      rw [hthm]
      simp [Thm.sampleTaken]
    have hwarn : r.thermalMove.thm.warn = (decide (29440 ≤ v) || (u.thm.warn && decide (28672 < v))) := by rw [hmoved.warn, hthm]
    refine ⟨_, rfl, hmoved.sample.trans (by rw [hthm]; rfl), hmoved.sensor.trans (by rw [hthm]; rfl), hmoved.peak.trans hpeak,
      fun hge => ?_, fun hle => ?_, fun hlo hhi => ?_, fun hge => ?_, h1, h2, h3, h4, h5, fun hs hv => h6 hs (hcold hv),
      congrArg SampleView.nv hv, congrArg SampleView.act hv, congrArg SampleView.pcv hv, congrArg SampleView.nl hv, congrArg SampleView.drm hv,
      congrArg SampleView.eng hv, congrArg SampleView.cch hv, congrArg SampleView.plt hv⟩
    · rw [hwarn, decide_eq_true hge, Bool.true_or]
    · rw [hwarn, decide_eq_false (by omega), decide_eq_false (by omega), Bool.and_false, Bool.or_false]
    · rw [hwarn, decide_eq_false (by omega), decide_eq_true hlo, Bool.and_true, Bool.false_or]
    · rw [hmoved.fast, hthm]
      exact hf hge
  · rintro dt s u rfl hl
    have hexec {f : State → State} {c : Instr} (hc : exec c s = .next (s.run dt f)) : exec c s = .next (f (s.elapse dt)) :=
      hc.trans (congrArg Host.Outcome.next (State.run_of_live hl f))
    generalize hu : s.elapse dt = u at hl hexec
    refine ⟨fun hh => ?_, fun hs ht => ?_, fun a hs ha ht => ?_, fun a hs ha ht => ?_, fun a hs ha ht => ?_⟩
    · rw [hexec rfl, State.thermalSample, hh]
    · have hmove : u.thermalEnforce = (State.post0 { u with thm := { u.thm with state := .enforced } } 0x0092
          [s32 u.thm.sample, word u.thm.sensor]).acceptCool true := if_pos (by simp [hs, ht])
      obtain ⟨hthm, hpa, hpb, hsup, hnv, hsaf⟩ := u.coolMove_view .enforced 0x0092 [s32 u.thm.sample, word u.thm.sensor] true
      exact ⟨_, (hexec rfl).trans (congrArg Host.Outcome.next hmove), hthm, hpa, hpb, hsup, hnv, hsaf⟩
    · have hmove : u.thermalRelease = (State.post0 { u with thm := { u.thm with state := .normal } } 0x0093
          [s32 u.thm.sample, 2#32]).acceptCool false := if_pos (by simp [hs, ha, lasted_of_le (show a + 5 * sec ≤ u.now from ht)])
      obtain ⟨hthm, hpa, hpb, hsup, hnv, hsaf⟩ := u.coolMove_view .normal 0x0093 [s32 u.thm.sample, 2#32] false
      exact ⟨_, (hexec rfl).trans (congrArg Host.Outcome.next hmove), hthm, hpa, hpb, hsup, hnv, hsaf⟩
    · have hmove : u.thermalRearm = State.post0 { u with thm := { u.thm with state := .normal, restartCool := true } } 0x0095
          [s32 u.thm.sample] := if_pos (by simp [hs, ha, lasted_of_le (show a + 10 * sec ≤ u.now from ht)])
      exact ⟨_, (hexec rfl).trans (congrArg Host.Outcome.next hmove), State.post0_thm _ _ _, State.post0_pa _ _ _, State.post0_pb _ _ _,
        State.post0_sup _ _ _, State.post0_nv _ _ _, State.post0_saf _ _ _⟩
    · rw [hexec rfl, State.slowSampling, hs, ha, lasted_of_le (show a + 100 * ms ≤ u.now from ht)]
      rfl

end Sys2Proof.Machine

namespace Sys2Proof.Machine

/-! ## Idle depths (O48) -/

section
variable {s : State} {d : Nat}

/-- The module in a depth, before the event: what the depth turns off is off (R365). -/
def State.turnedOff (s : State) (d : Nat) : State :=
  let s := if 2 ≤ d then s.drainRefresh else s
  let s := if 3 ≤ d then s.endCycles else s
  let s := if d = 4 then { s with pcv := { s.pcv with biasOn := none } } else s
  { s with thm := { s.thm with depth := d } }

theorem State.enterDepth_eq (s : State) (d : Nat) : s.enterDepth d = (s.turnedOff d).post0 0x0097 [word d, word (s.turnedOff d).thm.wakeUs] := rfl

theorem State.turnedOff_beside (s : State) (d : Nat) : (s.turnedOff d).thm = { s.thm with depth := d } ∧ (s.turnedOff d).mode = s.mode ∧
    (s.turnedOff d).pa = s.pa ∧ (s.turnedOff d).pb = s.pb ∧ (s.turnedOff d).nv = s.nv ∧ (s.turnedOff d).saf = s.saf := by
  unfold State.turnedOff
  dsimp only
  (repeat' split) <;> exact ⟨rfl, rfl, rfl, rfl, rfl, rfl⟩

theorem State.turnedOff_drm (s : State) (d : Nat) : (s.turnedOff d).drm = (if 2 ≤ d then s.drainRefresh else s).drm := by
  unfold State.turnedOff
  dsimp only
  (repeat' split) <;> rfl

theorem State.turnedOff_pcv (s : State) (d : Nat) : (s.turnedOff d).pcv = { s.pcv with biasOn := if d = 4 then none else s.pcv.biasOn } := by
  unfold State.turnedOff
  dsimp only
  (repeat' split) <;> rfl

/-- No calibration cycle runs in a depth that ends them. -/
theorem State.turnedOff_cycles (s : State) (h : 3 ≤ d) : ∀ g ∈ (s.turnedOff d).cch.groups, g.2.cycle = none := by
  have hcch : ∃ r : State, (s.turnedOff d).cch = r.endCycles.cch := by
    refine ⟨if 2 ≤ d then s.drainRefresh else s, ?_⟩
    unfold State.turnedOff
    dsimp only
    rw [if_pos h]
    split <;> rfl
  obtain ⟨r, hr⟩ := hcch
  rw [hr]
  intro g hg
  obtain ⟨e, -, rfl⟩ := List.mem_map.mp hg
  rfl

/-- A depth entered leaves what it turns off. -/
theorem State.enterDepth_view (s : State) (d : Nat) : (s.enterDepth d).thm = { s.thm with depth := d } ∧ (s.enterDepth d).mode = s.mode ∧
    (s.enterDepth d).drm.selfRefresh = (s.drm.selfRefresh || decide (2 ≤ d)) ∧ (2 ≤ d → ∀ x ∈ (s.enterDepth d).drm.chans, x.debt = 0) ∧
    (3 ≤ d → ∀ g ∈ (s.enterDepth d).cch.groups, g.2.cycle = none) ∧
    (s.enterDepth d).pcv = { s.pcv with biasOn := if d = 4 then none else s.pcv.biasOn } ∧
    (s.enterDepth d).pa = s.pa ∧ (s.enterDepth d).pb = s.pb ∧ (s.enterDepth d).nv = s.nv ∧ (s.enterDepth d).saf = s.saf := by
  obtain ⟨hthm, hmode, hpa, hpb, hnv, hsaf⟩ := s.turnedOff_beside d
  rw [State.enterDepth_eq, State.post0_thm, State.post0_drm, State.post0_cch, State.post0_pcv, State.post0_pa, State.post0_pb, State.post0_nv,
    State.post0_saf, State.turnedOff_drm]
  refine ⟨hthm, (congrArg Sup.mode (State.post0_sup _ _ _)).trans hmode, ?_, fun h => ?_, s.turnedOff_cycles, s.turnedOff_pcv d, hpa, hpb, hnv, hsaf⟩
  · split
    · next h => simp [State.drainRefresh, h]
    · next h => simp [h]
  · rw [if_pos h]
    simp [State.drainRefresh]

theorem State.idleDepth_enters (hm : s.mode = .standby) (hw : s.thm.waking = none) (hp : s.thm.wakePin = false)
    (ha : s.thm.activity + 1250000 ≤ s.now) (hd : s.thm.depth < s.depthTaken)
    (hf : 2 ≤ s.depthTaken → s.sup.soWrite = none ∧ s.hif.waiting = none) : s.idleDepth = s.enterDepth s.depthTaken := by
  have hquiet : s.thm.activity + 10 * ms ≤ s.now := ha
  have hfree : s.depthTaken < 2 ∨ s.sup.soWrite = none ∧ s.hif.waiting = none :=
    (Nat.lt_or_ge s.depthTaken 2).imp_right hf
  unfold State.idleDepth
  dsimp only
  refine if_pos ?_
  rw [Bool.and_eq_true_iff]
  refine ⟨by simp [hm, hw, hp, hquiet, hd], ?_⟩
  rcases hfree with h2 | ⟨hso, hwait⟩
  · simp [Nat.not_le.mpr h2]
  · simp [hso, hwait]

theorem State.idleDepth_stays (h : s.thm.wakePin = true ∨ s.now < s.thm.activity + 1250000 ∨ s.depthTaken ≤ s.thm.depth) : s.idleDepth = s := by
  unfold State.idleDepth
  dsimp only
  refine if_neg fun hall => ?_
  simp only [Bool.and_eq_true, Bool.not_eq_true', decide_eq_true_eq] at hall
  obtain ⟨⟨⟨⟨-, hpin⟩, ha⟩, hd⟩, -⟩ := hall
  have hquiet : s.thm.activity + 1250000 ≤ s.now := ha
  rcases h with h | h | h
  · exact absurd (h.symm.trans hpin) (by decide)
  · omega
  · omega

/-! ### Wakes -/

/-- A wake towards depth 0, from a depth other than I3. -/
theorem State.startWake_shallow (hw : s.thm.waking = none) (h0 : 0 < s.thm.depth) (h4 : s.thm.depth ≠ 4) :
    s.startWake 0 = { s with thm := { s.thm with waking := some (s.now + wakeTime s.thm.depth, 0) } } := by
  have hdeep : ¬s.thm.depth ≤ 0 := Nat.not_le.mpr h0
  simp [State.startWake, hw, h4, Nat.pos_iff_ne_zero.mp h0]

/-- A wake from I3 applies the bias at once. -/
theorem State.startWake_deep (hw : s.thm.waking = none) (h4 : s.thm.depth = 4) : s.startWake 0 = { s with
    thm := { s.thm with waking := some (s.now + 500000000, 0) }, pcv := { s.pcv with biasOn := some s.now },
    sup := { s.sup with wakeHold := s.now + 500000000 } } := by
  unfold State.startWake
  rw [hw]
  dsimp only
  rw [if_neg (by omega), if_pos (by simp [h4]), h4]
  rfl

theorem State.startWake_awake (hw : s.thm.waking = none) (h0 : s.thm.depth = 0) : s.startWake 0 = s := by
  simp [State.startWake, hw, h0]

end

section
variable {s : State} {e d : Nat}

/-- The module at the end of a wake, before the event. -/
def State.woken (s : State) (d : Nat) : State :=
  let old := s.thm.depth
  let s := { s with thm := { s.thm with depth := d, waking := none, activity := s.now } }
  let s := if d < 2 then { s with drm := s.drm.awake s.now } else s
  if 3 ≤ old then (s.modPl .A Pl.contextChange).modPl .B Pl.contextChange else s

theorem State.wakeComplete_of_over (hw : s.thm.waking = some (e, d)) (he : e ≤ s.now) :
    s.wakeComplete = if 0 < d then (s.woken d).post0 0x0097 [word d, word (s.woken d).thm.wakeUs] else s.woken d := by
  unfold State.wakeComplete
  rw [hw]
  dsimp only
  rw [if_neg (Nat.not_lt.mpr he)]
  rfl

/-- The end of a wake. -/
theorem State.woken_view (s : State) (d : Nat) : (s.woken d).thm = { s.thm with depth := d, waking := none, activity := s.now } ∧
    (s.woken d).drm = (if d < 2 then s.drm.awake s.now else s.drm) ∧
    (s.thm.depth < 3 → (s.woken d).pa = s.pa ∧ (s.woken d).pb = s.pb) ∧
    (3 ≤ s.thm.depth → (s.woken d).pa.glean = [] ∧ (s.woken d).pb.glean = []) ∧
    (s.woken d).sup = s.sup ∧ (s.woken d).nv = s.nv ∧ (s.woken d).saf = s.saf ∧ (s.woken d).pcv = s.pcv := by
  unfold State.woken
  dsimp only
  refine ⟨?_, ?_, fun h => ?_, fun h => ?_, ?_, ?_, ?_, ?_⟩
  · (repeat' split) <;> rfl
  · (repeat' split) <;> rfl
  · rw [if_neg (Nat.not_le.mpr h)]
    split <;> exact ⟨rfl, rfl⟩
  · rw [if_pos h]
    exact ⟨rfl, rfl⟩
  all_goals (repeat' split) <;> rfl

end

theorem Drm.awake_of_awake {m : Drm} (h : m.selfRefresh = false) (n : Nat) : m.awake n = m := if_neg (by simp [h])

theorem Drm.awake_view (m : Drm) (n : Nat) : (m.awake n).selfRefresh = false ∧ (m.awake n).blocks = m.blocks ∧
    (m.selfRefresh = true → ∀ x ∈ (m.awake n).chans, x.refAt = n) := by
  unfold Drm.awake
  split
  · refine ⟨rfl, rfl, fun _ x hx => ?_⟩
    obtain ⟨y, -, rfl⟩ := List.mem_map.mp hx
    rfl
  · next h => exact ⟨Bool.eq_false_iff.mpr h, rfl, fun hs => absurd hs h⟩

/-- Settles O48: by entry, wake and the end of a wake. -/
theorem idleDepths : Obligations.IdleDepths := by
  unfold Obligations.IdleDepths
  refine ⟨?_, ?_, ?_⟩
  · rintro dt d s u rfl hl hm hw rfl
    have hidle : exec (.idleDepth dt) s = .next (s.elapse dt).idleDepth := congrArg Host.Outcome.next (State.run_of_live hl _)
    have hwake : exec (.wakeIn dt) s = .next (s.elapse dt).wakeIn := rfl
    generalize s.elapse dt = u at hl hm hw hidle hwake
    have hstart : u.wakeIn = State.startWake { u with thm := { u.thm with wakePin := true } } 0 := if_pos hm
    rw [hidle, hwake, hstart]
    refine ⟨fun hp ha hd hf => ?_, fun h => by rw [State.idleDepth_stays h], fun h0 => ?_, fun w h => ?_, fun h4 => ?_⟩
    · obtain ⟨hthm, hmode, hself, hdebt, hcycle, hpcv, hpa, hpb, hnv, hsaf⟩ := u.enterDepth_view u.depthTaken
      exact ⟨_, by rw [State.idleDepth_enters hm hw hp ha hd hf], hthm, hmode.trans hm, hself, hdebt, hcycle, hpcv, hpa, hpb, hnv, hsaf⟩
    · rw [State.startWake_awake (by exact hw) (by exact h0)]
    · have hdepth : 0 < u.thm.depth ∧ u.thm.depth ≠ 4 ∧ wakeTime u.thm.depth = w := by
        simp only [List.mem_cons, Prod.mk.injEq, List.not_mem_nil, or_false] at h
        rcases h with ⟨hd, rfl⟩ | ⟨hd, rfl⟩ | ⟨hd, rfl⟩ <;> rw [hd] <;> decide
      obtain ⟨h0, h4, ht⟩ := hdepth
      rw [State.startWake_shallow (by exact hw) (by exact h0) (by exact h4)]
      rw [← ht]
    · rw [State.startWake_deep (by exact hw) (by exact h4)]
  · rintro dt s u rfl
    exact ⟨fun hm => congrArg Host.Outcome.next (if_neg hm), rfl⟩
  · rintro dt e d s u rfl hl
    have hexec : exec (.wakeComplete dt) s = .next (s.elapse dt).wakeComplete := congrArg Host.Outcome.next (State.run_of_live hl _)
    generalize s.elapse dt = u at hl hexec
    rw [hexec]
    refine ⟨fun hw => by rw [State.wakeComplete, hw], fun hw he => ?_, fun hw he => ?_⟩
    · simp [State.wakeComplete, hw, he]
    · obtain ⟨hthm, hdrm, hkeep, hglean, hsup, hnv, hsaf, hpcv⟩ := u.woken_view d
      obtain ⟨t, ht, hbeside⟩ : ∃ t, u.wakeComplete = t ∧ t.thm = (u.woken d).thm ∧ t.drm = (u.woken d).drm ∧ t.pa = (u.woken d).pa ∧
          t.pb = (u.woken d).pb ∧ t.sup = (u.woken d).sup ∧ t.nv = (u.woken d).nv ∧ t.saf = (u.woken d).saf ∧ t.pcv = (u.woken d).pcv := by
        rw [State.wakeComplete_of_over hw he]
        refine ⟨_, rfl, ?_⟩
        split <;> simp
      obtain ⟨ethm, edrm, epa, epb, esup, env, esaf, epcv⟩ := hbeside
      obtain ⟨aself, ablocks, aref⟩ := u.drm.awake_view u.now
      rw [← epa, ← epb] at hkeep hglean
      refine ⟨t, by rw [ht], ethm.trans hthm, fun h => (edrm.trans hdrm).trans ?_, fun h => ?_, fun h hs => ?_, hkeep, hglean, esup.trans hsup,
        env.trans hnv, esaf.trans hsaf, epcv.trans hpcv⟩
      · rcases h with h | h
        · exact if_neg (by omega)
        · rw [Drm.awake_of_awake h, ite_self]
      · rw [edrm, hdrm, if_pos h]
        exact ⟨aself, ablocks⟩
      · rw [edrm, hdrm, if_pos h]
        exact aref hs

end Sys2Proof.Machine

namespace Sys2Proof.Machine

/-! ## Stops (O46) -/

/-- A module that has left DIAGNOSTIC behind but for the settings: a BYPASS stands among the pending ones of pipeline A. -/
def State.stopping : State := { State.reset with
  sup := { State.reset.sup with mode := .diagnostic, trans := true, target := .standby, stopSo := false },
  pa := { State.reset.pa with pend := { State.reset.pa.pend with fp := 0x10#32 } } }

/-- Refutes O46: a stop that reaches STANDBY drops the settings that hold in DIAGNOSTIC only, as a BYPASS of the front pipe (R106), so
that the pending settings of pipeline A do not stay as the statement claims. -/
theorem not_stopsComplete : ¬ Obligations.StopsComplete := by
  unfold Obligations.StopsComplete
  rintro ⟨h, -⟩
  have hpast : State.stopping.elapse 0 = State.stopping.elapse 0 := rfl
  obtain ⟨hdone, -⟩ := (h 0 State.stopping _ hpast (by decide +kernel) (by decide +kernel)).1 (by decide +kernel) (by decide +kernel)
    (by decide +kernel) (by decide +kernel) (by decide +kernel) (by decide +kernel)
  obtain ⟨t, hexec, -, -, -, -, hpa, -⟩ := hdone (by decide +kernel) (.inr (by decide +kernel))
  have ht : t = (State.stopping.elapse 0).standbyReached := by
    have hrun : exec (.standbyReached 0) State.stopping = .next (State.stopping.elapse 0).standbyReached :=
      congrArg Host.Outcome.next (State.run_of_live (by decide +kernel) _)
    exact (Host.Outcome.next.inj (hrun.symm.trans hexec)).symm
  rw [ht] at hpa
  exact absurd (congrArg (fun x => x.pend.fp) hpa) (by decide +kernel)

end Sys2Proof.Machine

namespace Sys2Proof.Machine

/-! ## The refresh rates of the channels (10 R241) -/

/-- The refresh-rate status of each channel. -/
def State.rates (s : State) : List Nat := s.drm.chans.map DramCh.rate

theorem map_modAt_const {α β : Type} (l : List α) (i : Nat) (f : α → α) (g : α → β) (r : β) (h : ∀ x, g (f x) = r) :
    (modAt l i f).map g = (l.map g).set i r := by
  apply List.ext_getElem?
  intro j
  simp only [modAt, List.getElem?_map, List.getElem?_modify, List.getElem?_set, List.length_map]
  by_cases hj : j < l.length
  · by_cases hi : i = j
    · simp [hi, hj, h]
    · simp [hi]
  · by_cases hi : i = j
    · simp [hi, hj]
    · simp [hi]

theorem map_modAt_same {α β : Type} (l : List α) (i : Nat) (f : α → α) (g : α → β) (h : ∀ x, g (f x) = g x) :
    (modAt l i f).map g = l.map g := by
  apply List.ext_getElem?
  intro j
  simp only [modAt, List.getElem?_map, List.getElem?_modify]
  cases l[j]? with
  | none => rfl
  | some x => by_cases hi : i = j <;> simp [hi, h]

section
variable (s : State)

theorem State.rates_of_drm {s t : State} (h : t.drm = s.drm) : t.rates = s.rates := by rw [State.rates, h, State.rates]

theorem State.dram_rate (i : Nat) : (s.dram i).rate = s.rates.getD i 0 :=
  (List.getD_map (l := s.drm.chans) (d := DramCh.zero) (f := DramCh.rate)).symm

theorem State.batchDue_rates (c : Nat) : (s.batchDue c).rates = s.rates := by
  unfold State.batchDue State.startBatch
  split
  · split
    · rfl
    · exact map_modAt_same s.drm.chans c (fun d => { d with forced := true, batch := 0 }) DramCh.rate (fun _ => rfl)
  · rfl

theorem State.fault_rates (id : Nat) : (s.fault id).rates = s.rates := by
  obtain h | ⟨n, h⟩ := s.fault_drm id
  · exact State.rates_of_drm h
  · rw [State.rates, h, Drm.awake]
    split
    · simp [State.rates]
    · rfl

theorem State.applyRate_rates (c r : Nat) : (s.applyRate c r).rates = s.rates.set c r := by
  unfold State.applyRate
  extract_lets old rated noted batched
  have hset : rated.rates = s.rates.set c r := map_modAt_const s.drm.chans c (fun d => { d with rate := r }) DramCh.rate r (fun _ => rfl)
  have hnoted : noted.rates = rated.rates := by
    unfold noted
    split
    · rfl
    · exact State.rates_of_drm (State.post0_drm ..)
  have hbatched : batched.rates = s.rates.set c r := (noted.batchDue_rates c).trans (hnoted.trans hset)
  split
  · exact (batched.fault_rates 8).trans hbatched
  · exact hbatched

end

/-- A status read of each of the channels from a number on: the others keep theirs, and each of these takes its own. -/
theorem State.foldl_applyRate_rates (l : List (Fin 3)) : ∀ (k : Nat) (s : State),
    (∀ i, i < k → (((l.zipIdx k).filter (fun x => decide (x.2 < 4))).foldl (fun s x => s.applyRate x.2 x.1.val) s).rates.getD i 0 =
      s.rates.getD i 0) ∧
    ∀ j x, l[j]? = some x → k + j < 4 → k + j < s.rates.length →
      (((l.zipIdx k).filter (fun x => decide (x.2 < 4))).foldl (fun s x => s.applyRate x.2 x.1.val) s).rates.getD (k + j) 0 = x.val := by
  induction l with
  | nil => exact fun k s => ⟨fun i _ => rfl, fun j x hx => absurd hx (by simp)⟩
  | cons y l ih =>
    intro k s
    rw [List.zipIdx_cons]
    by_cases hk : k < 4
    · rw [List.filter_cons_of_pos (by simpa using hk), List.foldl_cons]
      obtain ⟨hbefore, hafter⟩ := ih (k + 1) (s.applyRate k y.val)
      rw [State.applyRate_rates] at hbefore hafter
      refine ⟨fun i hi => ?_, fun j x hx hj hlen => ?_⟩
      · rw [hbefore i (by omega), List.getD_eq_getElem?_getD, List.getElem?_set_ne (by omega), ← List.getD_eq_getElem?_getD]
      · cases j with
        | zero =>
          obtain rfl : y = x := by simpa using hx
          rw [Nat.add_zero] at hlen
          have hkept := hbefore k (by omega)
          rw [Nat.add_zero]
          refine hkept.trans ?_
          rw [List.getD_eq_getElem?_getD, List.getElem?_set_self hlen, Option.getD_some]
        | succ j =>
          rw [show k + (j + 1) = k + 1 + j by omega] at hj hlen ⊢
          exact hafter j x (by simpa using hx) hj (by simpa using hlen)
    · rw [List.filter_cons_of_neg (by simpa using hk)]
      obtain ⟨hbefore, -⟩ := ih (k + 1) s
      exact ⟨fun i hi => hbefore i (by omega), fun j x _ hj => absurd hj (by omega)⟩

/-- The status read at a reset stands in each channel. -/
theorem State.resetRates_rate {s : State} (hlen : s.drm.chans.length = 4) {l : List (Fin 3)} {i : Nat} {x : Fin 3} (hi : i < 4)
    (hx : l[i]? = some x) : ((s.resetRates l).dram i).rate = x.val := by
  have h := (State.foldl_applyRate_rates l 0 s).2 i x hx (by omega) (by simpa [State.rates, hlen] using hi)
  rw [Nat.zero_add] at h
  rw [State.dram_rate]
  exact h

/-- A status of 0 of each channel changes nothing of a frame memory at its reset values. -/
theorem State.resetRates_zero {s : State} (h : s.drm = Drm.reset) {l : List (Fin 3)} (hl : ∀ x ∈ l, x = 0) : s.resetRates l = s := by
  have hchan : ∀ c, s.dram c = DramCh.zero := fun c => by
    rw [State.dram, h, List.getD_eq_getElem?_getD]
    simp only [Drm.reset, List.getElem?_replicate]
    split <;> rfl
  have hsame : ∀ c, s.applyRate c 0 = s := fun c =>
    (State.applyRate_same (by rw [hchan c]; rfl) (by decide)).trans (State.batchDue_of_open (by rw [hchan c]; exact .inr (by decide)))
  have hzero : ∀ x ∈ l.zipIdx.filter (fun x => decide (x.2 < 4)), x.1 = 0 := fun x hx =>
    hl x.1 (List.fst_mem_of_mem_zipIdx (List.mem_filter.mp hx).1)
  unfold State.resetRates
  generalize l.zipIdx.filter (fun x => decide (x.2 < 4)) = m at hzero
  induction m with
  | nil => rfl
  | cons x m ih =>
    rw [List.foldl_cons, hzero x List.mem_cons_self]
    exact (congrArg (fun r => List.foldl _ r m) (hsame x.2)).trans (ih fun y hy => hzero y (List.mem_cons_of_mem _ hy))

/-! ## Module resets (O44) -/

section
variable {s : State} {b : Bool} {low : Nat} {cut : Option LedgerCut}

theorem State.rails_of_glitch (hb : b = true) (hlow : low < 125) : s.rails b low cut = s := by
  have hno : rstCounts low = false := decide_eq_false (Nat.not_le.mpr hlow)
  simp [State.rails, hb, hno]

/-- The supplies' fall, or a low level of RST_N that counts: the ledger stands as a cut write left it. -/
theorem State.rails_of_fall (h : b = false ∨ 125 ≤ low) : ∃ m, s.rails b low cut = State.enterOff { s with nv := m } b ∧
    (cut = none ∨ s.live = false → m = s.nv) ∧ (∀ x, cut = some x → s.live = true → m = s.cutWrite x) := by
  have hcounts : ¬(b && !rstCounts low) = true := by
    rcases h with rfl | hlow
    · simp
    · have hyes : rstCounts low = true := decide_eq_true hlow
      simp [hyes]
  unfold State.rails
  rw [if_neg hcounts]
  cases cut with
  | none => exact ⟨s.nv, rfl, fun _ => rfl, fun x hx => nomatch hx⟩
  | some c =>
    by_cases hl : s.live = true
    · exact ⟨s.cutWrite c, by simp [hl], fun h => by simp [hl] at h, fun x hx _ => by rw [Option.some.inj hx]⟩
    · exact ⟨s.nv, by simp [hl], fun _ => rfl, fun x _ hx => absurd hx hl⟩

end

/-- Settles O44: by the trigger of the reset, and by the rails. -/
theorem moduleResets : Obligations.ModuleResets := by
  unfold Obligations.ModuleResets
  rintro dt k low cause clk c b refresh cut o s u w rfl hw
  have hexec : exec (.moduleReset dt cause clk refresh) s = .next ((s.elapse dt).resetNow cause clk refresh) := rfl
  have hrails : exec (.pwrGoodFall dt b low cut) s = .next ((s.elapse dt).rails b low cut) := rfl
  have hnow : 0 < (s.elapse dt).sup.resetLeft → (s.elapse dt).now = s.now := fun h => by
    rw [State.elapse_sup] at h
    rw [State.elapse_now]
    exact Nat.add_eq_left.mpr (Nat.sub_eq_zero_of_le (Nat.le_of_lt (Nat.lt_of_sub_pos h)))
  have hboot : 0 < (s.elapse dt).sup.resetLeft → exec (.bootStep dt o) s = .next (s.elapse dt) := fun h => by
    have hheld : (s.elapse dt).live = false := by
      rw [State.live, decide_eq_false (Nat.pos_iff_ne_zero.mp h), Bool.and_false]
    exact congrArg Host.Outcome.next (if_neg (by rw [hheld]; decide))
  generalize s.elapse dt = u at hw hexec hrails hnow hboot ⊢
  refine ⟨fun hcause => ?_, fun hno => ?_, fun h => ⟨hboot h, hnow h⟩, fun hb hlow => by rw [hrails, State.rails_of_glitch hb hlow], fun h => ?_⟩
  · have hreset : u.resets cause = true ∧ u.resetBy cause clk = w := by
      rcases hcause with ⟨rfl, rfl, rfl⟩ | ⟨rfl, hlow, hgood, rfl, rfl⟩ | ⟨rfl, hl, rfl, rfl⟩ | ⟨rfl, hl, rfl, rfl⟩
      · exact ⟨rfl, hw ▸ rfl⟩
      · have hyes : u.resets (.pin low) = true := by simp [State.resets, hgood, rstCounts, us, hlow]
        exact ⟨hyes, (if_pos hyes).trans (hw ▸ rfl)⟩
      · exact ⟨hl, (if_pos hl).trans (hw ▸ rfl)⟩
      · exact ⟨hl, (if_pos hl).trans (hw ▸ rfl)⟩
    obtain ⟨hyes, hby⟩ := hreset
    have hdrm : w.drm = Drm.reset := by rw [hw]; rfl
    refine ⟨hexec.trans (congrArg Host.Outcome.next ?_), fun hz => State.resetRates_zero hdrm hz, fun i x hi hx =>
      State.resetRates_rate (by rw [hdrm]; rfl) hi hx⟩
    rw [State.resetNow, if_pos hyes, hby]
  · have hnone : u.resets cause = false ∧ u.resetBy cause clk = u := by
      rcases hno with ⟨rfl, hpin⟩ | ⟨rfl | rfl, hl⟩
      · have hno : (u.sup.pwrGood && rstCounts low) = false := by
          rcases hpin with hgood | hlow
          · simp [hgood]
          · simp [rstCounts, us, Nat.not_le.mpr hlow]
        exact ⟨hno, if_neg (by rw [hno]; decide)⟩
      · exact ⟨hl, if_neg (by rw [hl]; decide)⟩
      · exact ⟨hl, if_neg (by rw [hl]; decide)⟩
    obtain ⟨hfalse, hby⟩ := hnone
    rw [hexec, State.resetNow, hfalse, if_neg Bool.false_ne_true, hby]
  · obtain ⟨m, hm, hkeep, hcut⟩ := State.rails_of_fall (s := u) (cut := cut) h
    exact ⟨_, hrails.trans (congrArg Host.Outcome.next hm), rfl, rfl, rfl, hkeep, hcut, rfl, rfl, rfl, rfl, rfl, rfl, rfl, rfl, rfl, rfl, rfl, rfl⟩

end Sys2Proof.Machine

namespace Sys2Proof.Machine

/-! ## The supervisor's block while work ends (17) -/

section
variable (s : State)

@[simp] theorem State.shutterPulse_sup (p : Pipe) (o : Owner) : (s.shutterPulse p o).sup = s.sup := by
  cases p <;> simp [State.shutterPulse, State.duePulse, State.sendCmd, State.sendPacket]
@[simp] theorem State.closeEvent_sup (p : Pipe) : (s.closeEvent p).sup = s.sup := by
  unfold State.closeEvent
  (repeat' split) <;> simp
@[simp] theorem State.abortEvent_sup (p : Pipe) : (s.abortEvent p).sup = s.sup := by
  have hcount : ∀ x : State, (x.countFailure p).sup = x.sup := fun x => by
    unfold State.countFailure
    dsimp only
    split <;> simp [State.warnBit_sup]
  have hfail : (s.failEvent p 5).sup = s.sup := by
    unfold State.failEvent
    (repeat' split) <;> simp [hcount]
  rw [State.abortEvent, ← hfail]
  unfold State.issueOpen
  (repeat' split) <;> simp
@[simp] theorem State.stopPipe_sup (p : Pipe) : (s.stopPipe p).sup = s.sup := by
  have hclaims : ∀ (x : State) (f : Frame), (x.returnClaims f).sup = x.sup := by
    intro x f
    unfold State.returnClaims
    induction f.claims with
    | nil => rfl
    | cons c l ih => exact ih
  simp [State.stopPipe, foldl_keeps State.sup _ hclaims]
@[simp] theorem State.abortOn_sup (i r l : Nat) : (s.abortOn i r l).sup = s.sup := by
  unfold State.abortOn
  dsimp only
  (repeat' split) <;> simp
@[simp] theorem State.abortStreams_sup : s.abortStreams.sup = s.sup := by simp [State.abortStreams, State.sendAbort]
@[simp] theorem State.dropWait_sup (w r : Nat) : (s.dropWait w r).sup = s.sup := by
  unfold State.dropWait
  split <;> simp

/-- A mode reached changes the mode of the supervisor's block, and ends the transition. -/
theorem State.enterMode_sup (m : Mode) : (s.enterMode m).sup = { s.sup with mode := m, trans := false } := by
  have hlink : ∀ x : State, (x.relayLink m).sup = x.sup := fun x => by
    unfold State.relayLink
    (repeat' split) <;> simp [State.serveLanes]
  have hleave : (s.leaveMode m).sup = s.sup := by
    unfold State.leaveMode
    dsimp only
    split <;> simp [State.impose]
  unfold State.enterMode
  dsimp only
  rw [State.post0_sup, hlink, hleave]

/-- It leaves the actuators and the safety block. -/
theorem State.enterMode_act_saf (m : Mode) : (s.enterMode m).act = s.act ∧ (s.enterMode m).saf = s.saf := by
  have hlink : ∀ x : State, (x.relayLink m).act = x.act ∧ (x.relayLink m).saf = x.saf := fun x => by
    unfold State.relayLink
    (repeat' split) <;> exact ⟨rfl, rfl⟩
  have hleave : (s.leaveMode m).act = s.act ∧ (s.leaveMode m).saf = s.saf := by
    unfold State.leaveMode
    dsimp only
    split <;> exact ⟨rfl, rfl⟩
  unfold State.enterMode
  dsimp only
  rw [State.post0_act, State.post0_saf]
  exact ⟨(hlink _).1.trans hleave.1, (hlink _).2.trans hleave.2⟩

/-- Entry to SAFE leaves the steps of BOOT where they are. -/
theorem State.enterSafe_steps : s.enterSafe.sup.step = s.sup.step ∧ s.enterSafe.sup.failStep = s.sup.failStep := by
  have hlog : s.logCutBoot.sup.step = s.sup.step ∧ s.logCutBoot.sup.failStep = s.sup.failStep := by
    unfold State.logCutBoot
    split <;> exact ⟨rfl, rfl⟩
  have hdue : ∀ x : State, x.dropDue.sup = x.sup := fun _ => rfl
  have hpost : ∀ x : State, x.postSafe.sup.step = x.sup.step ∧ x.postSafe.sup.failStep = x.sup.failStep := fun x => by
    unfold State.postSafe
    split
    · simp
    · exact ⟨rfl, rfl⟩
  unfold State.enterSafe
  dsimp only
  rw [(hpost _).1, (hpost _).2, State.enterMode_sup]
  simpa [hdue] using hlog

/-- So does a fault. -/
theorem State.fault_steps (id : Nat) : (s.fault id).sup.step = s.sup.step ∧ (s.fault id).sup.failStep = s.sup.failStep := by
  unfold State.fault
  extract_lets recorded _ logged
  have hl : logged.sup.step = s.sup.step ∧ logged.sup.failStep = s.sup.failStep := by
    unfold logged
    split <;> exact ⟨rfl, rfl⟩
  split
  · exact ⟨rfl, rfl⟩
  · split
    · exact hl
    · exact ⟨logged.enterSafe_steps.1.trans hl.1, logged.enterSafe_steps.2.trans hl.2⟩

end

/-! ## BOOT (O45) -/

section
variable {s : State} {n id : Nat}

/-- A step that fails leads to SAFE with its fault and FAIL, and does not count as done. -/
theorem State.stepFails_view (hl : s.live = true) (hm : s.mode ≠ .safe) (hd : s.saf.decided = []) (n id : Nat) :
    (s.stepFails n id).mode = .safe ∧ (s.stepFails n id).sup.failStep = n ∧ (s.stepFails n id).sup.step = s.sup.step ∧
    (s.stepFails n id).saf.decided = [id] ∧ (s.stepFails n id).saf.safeN = false ∧ (s.stepFails n id).nv = s.nv ∧
    (s.stepFails n id).pcv.running = s.pcv.running := by
  set r : State := { s with sup := { s.sup with failStep := n } }
  have hid : id ∉ r.saf.decided := by simp [r, hd]
  have hoff : r.mode ≠ .off := State.live_mode hl
  obtain ⟨hmode, hdec, -, -, hrests, hnv⟩ := r.fault_decides id hid hoff
  obtain ⟨hstep, hfail⟩ := r.fault_steps id
  have hset := congrArg (fun x => x.1.running) (r.fault_settled id)
  exact ⟨hmode, hfail, hstep, by rw [State.stepFails, hdec]; simp [r, hd], (hrests hm).2.2.2.2, hnv, hset⟩

/-- Step 12 waits for an opening of the shutter. -/
theorem State.bootWork_12 (s : State) (o : BootObs) : s.bootWork 12 o = if s.act.opening.isSome then s else
    { (s.stepDone 12).enterMode .standby with
      sup := { ((s.stepDone 12).enterMode .standby).sup with bootMs := ((s.stepDone 12).enterMode .standby).now / ms }
      thm := { ((s.stepDone 12).enterMode .standby).thm with activity := ((s.stepDone 12).enterMode .standby).now } } := rfl

/-- Step 12: STANDBY, with the shutter as it is. -/
theorem State.bootWork_standby (o : BootObs) (ho : s.act.opening = none) : (s.bootWork 12 o).mode = .standby ∧
    (s.bootWork 12 o).sup.step = 12 ∧ (s.bootWork 12 o).sup.bootMs = s.now / 125000 ∧ (s.bootWork 12 o).thm.activity = s.now ∧
    (s.bootWork 12 o).nv = s.nv ∧ (s.bootWork 12 o).saf = s.saf ∧ (s.bootWork 12 o).act = s.act := by
  set r := (s.stepDone 12).enterMode .standby
  have hout : s.bootWork 12 o = { r with sup := { r.sup with bootMs := r.now / ms }, thm := { r.thm with activity := r.now } } := by
    rw [State.bootWork_12, ho]
    rfl
  have hkept := (s.stepDone 12).enterMode_kept .standby
  have hnow : r.now = s.now := congrArg Kept.now hkept
  obtain ⟨hact, hsaf⟩ := (s.stepDone 12).enterMode_act_saf .standby
  have hsup : r.sup = { (s.stepDone 12).sup with mode := .standby, trans := false } := State.enterMode_sup _ _
  rw [hout]
  exact ⟨congrArg Sup.mode hsup, congrArg Sup.step hsup, by rw [← hnow]; rfl, hnow, congrArg Kept.nv hkept, hsaf, hact⟩

theorem State.dramReady_of_initialising (h : s.drm.init = 2) : s.dramReady =
    { s with drm := { s.drm with init := 3, blocks := [], queue := [], readyAt := some s.now, windows := 0 } } := if_pos h

theorem State.dramReady_of_other (h : s.drm.init ≠ 2) : s.dramReady = s := if_neg h

end

/-! ### Training of frame memory (10 R246, R247) -/

section
variable {s : State} {failed : BitVec 4}

/-- The channels after training. -/
def Drm.trainedNow (m : Drm) (failed : BitVec 4) (now : Nat) : List DramCh :=
  m.chans.zipIdx.map (fun d => { d.1 with trained := !failed.getLsbD d.2, refAt := now })

theorem Drm.mem_trainedNow {m : Drm} {now : Nat} {d : DramCh} (h : d ∈ m.trainedNow 0#4 now) : d.trained = true ∧ d.refAt = now := by
  obtain ⟨e, -, rfl⟩ := List.mem_map.mp h
  exact ⟨by simp, rfl⟩

theorem Drm.trainedNow_getD {m : Drm} {now i : Nat} (h : i < m.chans.length) :
    ((m.trainedNow failed now).getD i DramCh.zero).trained = !failed.getLsbD i := by
  simp [Drm.trainedNow, List.getD_eq_getElem?_getD, List.getElem?_zipIdx, List.getElem?_eq_getElem h]

theorem State.dramTraining_begun (hi : s.drm.init = 1) : s.dramTraining failed = if failed = 0#4 then
    { s with drm := { s.drm with chans := s.drm.trainedNow failed s.now, init := 2 } }
    else State.fault { s with drm := { s.drm with chans := s.drm.trainedNow failed s.now, init := 1 }, sup := { s.sup with failStep := 4 } } 11 := by
  unfold State.dramTraining
  rw [if_pos hi]
  split
  · next h => simp [h, Drm.trainedNow]
  · simp [Drm.trainedNow]

theorem State.dramTraining_other (hi : s.drm.init ≠ 1) : s.dramTraining failed = s.dramReady := if_neg hi

/-- A channel that has failed all its attempts is dangerous fault 11. -/
theorem State.dramTraining_fails (hl : s.live = true) (hi : s.drm.init = 1) (hf : failed ≠ 0#4) (hd : s.saf.decided = [])
    (hlen : s.drm.chans.length = 4) : (s.dramTraining failed).mode = .safe ∧ (s.dramTraining failed).saf.decided = [11] ∧
    (s.dramTraining failed).sup.failStep = 4 ∧ (s.dramTraining failed).drm.init = 1 ∧
    (∀ i, i < 4 → ((s.dramTraining failed).dram i).trained = !failed.getLsbD i) ∧ (s.dramTraining failed).nv = s.nv := by
  rw [State.dramTraining_begun hi, if_neg hf]
  set r : State := { s with drm := { s.drm with chans := s.drm.trainedNow failed s.now, init := 1 }, sup := { s.sup with failStep := 4 } }
  have hoff : r.mode ≠ .off := State.live_mode hl
  obtain ⟨hmode, hdec, -, -, -, hnv⟩ := r.fault_decides 11 (by simp [r, hd]) hoff
  refine ⟨hmode, by rw [hdec]; simp [r, hd], (r.fault_steps 11).2, ?_, fun i h => ?_, hnv⟩
  · obtain h | ⟨n, h⟩ := r.fault_drm 11
    · rw [h]
    · rw [h, Drm.awake]
      split <;> rfl
  · obtain ⟨a, ha⟩ := r.fault_dram 11 i
    rw [ha]
    exact Drm.trainedNow_getD (hlen ▸ h)

end

/-- Settles O45: by the step of BOOT, and by the stage of training. -/
theorem bootSteps : Obligations.BootSteps := by
  unfold Obligations.BootSteps
  refine ⟨?_, ?_, ?_⟩
  · rintro dt o s u rfl hl
    have hexec : exec (.bootStep dt o) s = .next ((s.elapse dt).bootStep o) := congrArg Host.Outcome.next (State.run_of_live hl _)
    generalize s.elapse dt = u at hl hexec
    rw [hexec]
    have hstep (hb : u.mode = .boot) {n : Nat} (hn : u.sup.step + 1 = n) : u.bootStep o = u.bootWork n o := by
      rw [State.bootStep, if_pos hb, hn]
    refine ⟨fun hb hs => ?_, fun hs h3 => ?_, fun hb h0 ho => ?_, fun n id hn hb hst ho hd => ?_, fun hb h1 => ?_, fun hb h3 => ?_,
      fun hb h5 ho => ?_, fun hb h11 ho => ?_, fun hb h11 ho => ?_⟩
    · rw [State.bootStep, if_neg hb, if_neg (by simp [hs])]
    · rw [State.bootStep, if_neg (by rw [hs]; decide), if_neg (by simp [hs, Nat.not_lt.mpr h3])]
    · rw [hstep hb (n := 1) (by omega)]
      exact congrArg Host.Outcome.next (if_pos ho)
    · have hns : u.mode ≠ .safe := by rw [hb]; decide
      rw [hstep hb hst]
      simp only [List.mem_cons, Prod.mk.injEq, List.not_mem_nil, or_false] at hn
      rcases hn with ⟨rfl, rfl⟩ | ⟨rfl, rfl⟩ | ⟨rfl, rfl⟩
      · have hout : u.bootWork 1 o = u.stepFails 1 3 := if_neg (by rw [ho]; decide)
        obtain ⟨hmode, hfail, hsame, hdec, hsn, hnv, hrun⟩ := State.stepFails_view hl hns hd 1 3
        exact ⟨_, by rw [hout], hmode, hfail, hsame, hdec, hsn, by rw [hrun]; simp, hnv⟩
      · have hout : u.bootWork 6 o = State.stepFails { u with pcv := { u.pcv with running := true } } 6 20 := if_neg (by rw [ho]; decide)
        obtain ⟨hmode, hfail, hsame, hdec, hsn, hnv, hrun⟩ := State.stepFails_view (s := { u with pcv := { u.pcv with running := true } })
          hl hns hd 6 20
        exact ⟨_, by rw [hout], hmode, hfail, hsame, hdec, hsn, by rw [hrun]; simp, hnv⟩
      · have hout : u.bootWork 10 o = u.stepFails 10 20 := if_neg (by rw [ho]; decide)
        obtain ⟨hmode, hfail, hsame, hdec, hsn, hnv, hrun⟩ := State.stepFails_view hl hns hd 10 20
        exact ⟨_, by rw [hout], hmode, hfail, hsame, hdec, hsn, by rw [hrun]; simp, hnv⟩
    · rw [hstep hb (n := 2) (by omega)]
      rfl
    · have hwork : u.bootWork 4 o = if u.dramReady.drm.init = 3 then u.dramReady.stepDone 4 else u := rfl
      rw [hstep hb (n := 4) (by omega), hwork]
      refine ⟨fun hi => ?_, fun hi => ?_, fun hi => ?_⟩
      · rw [State.dramReady_of_other (by omega), if_pos hi]
        rfl
      · rw [State.dramReady_of_initialising hi]
        rfl
      · rw [State.dramReady_of_other (by omega), if_neg (by omega)]
    · rw [hstep hb (n := 6) (by omega)]
      exact congrArg Host.Outcome.next (if_pos ho)
    · rw [hstep hb (n := 12) (by omega)]
      exact ⟨_, rfl, State.bootWork_standby o ho⟩
    · rw [hstep hb (n := 12) (by omega), State.bootWork_12, if_pos (Option.isSome_iff_ne_none.mpr ho)]
  · rintro dt failed s u rfl hl hlen
    have hexec : exec (.dramTraining dt failed) s = .next ((s.elapse dt).dramTraining failed) :=
      congrArg Host.Outcome.next (State.run_of_live hl _)
    generalize s.elapse dt = u at hl hlen hexec
    rw [hexec]
    refine ⟨fun hf hi => ?_, fun hi => ?_, fun hi => ?_, fun hf hi _ hd => ?_⟩
    · rw [State.dramTraining_begun hi, if_pos hf, hf]
      exact ⟨_, rfl, rfl, fun d hd => Drm.mem_trainedNow hd, rfl⟩
    · rw [State.dramTraining_other (by omega), State.dramReady_of_initialising hi]
    · rw [State.dramTraining_other (by omega), State.dramReady_of_other (by omega)]
    · exact ⟨_, rfl, State.dramTraining_fails hl hi hf hd hlen⟩
  · rintro dt s u rfl hl
    have hexec : exec (.settleHoldEnd dt) s = .next (s.elapse dt).settleEnd := congrArg Host.Outcome.next (State.run_of_live hl _)
    generalize s.elapse dt = u at hl hexec
    rw [hexec]
    exact congrArg Host.Outcome.next (by simp [State.settleEnd])

end Sys2Proof.Machine

namespace Sys2Proof.Machine

/-! ## Commands and their completions while work ends (09 R203, R213) -/

/-- What has been completed, and where the rings of commands and completions stand. -/
def State.hostView (s : State) : List Completion × Ring × Ring := (s.hif.completions, s.ring 0, s.ring 1)

theorem State.hostView_of_hif {s t : State} (h : t.hif = s.hif) : t.hostView = s.hostView := by
  simp only [State.hostView, State.ring, h]

section
variable (s : State)

@[simp] theorem State.post_hostView (c : Nat) (f : Word) (g k : Nat) (a : List Word) : (s.post c f g k a).hostView = s.hostView := by
  simp [State.hostView, State.ring_post_ne]
@[simp] theorem State.post0_hostView (c : Nat) (a : List Word) : (s.post0 c a).hostView = s.hostView := s.post_hostView ..
@[simp] theorem State.postP_hostView (p : Pipe) (c : Nat) (a : List Word) : (s.postP p c a).hostView = s.hostView := s.post_hostView ..
@[simp] theorem State.modPl_hostView (p : Pipe) (f : Pl → Pl) : (s.modPl p f).hostView = s.hostView := State.hostView_of_hif (by simp)
@[simp] theorem State.modCh_hostView (c : Nat) (f : ActCh → ActCh) : (s.modCh c f).hostView = s.hostView := rfl
@[simp] theorem State.modLane_hostView (l : Nat) (f : Lane → Lane) : (s.modLane l f).hostView = s.hostView := rfl
@[simp] theorem State.nl_hostView (x : Nl) : State.hostView { s with nl := x } = s.hostView := rfl
@[simp] theorem State.sup_hostView (x : Sup) : State.hostView { s with sup := x } = s.hostView := rfl
@[simp] theorem State.saf_hostView (x : Saf) : State.hostView { s with saf := x } = s.hostView := rfl
@[simp] theorem State.act_hostView (x : Act) : State.hostView { s with act := x } = s.hostView := rfl
@[simp] theorem State.noteSent_hostView (l : Nat) (ps : List NlPacket) : (s.noteSent l ps).hostView = s.hostView :=
  State.hostView_of_hif (by simp)
@[simp] theorem State.warnBit_hostView (b : Nat) : (s.warnBit b).hostView = s.hostView := by
  unfold State.warnBit
  split
  · rfl
  · rw [State.post0_hostView, State.saf_hostView]
@[simp] theorem State.shutterPulse_hostView (p : Pipe) (o : Owner) : (s.shutterPulse p o).hostView = s.hostView := by
  cases p <;> simp [State.shutterPulse, State.duePulse, State.sendCmd, State.sendPacket]
@[simp] theorem State.countFailure_hostView (p : Pipe) : (s.countFailure p).hostView = s.hostView := by
  unfold State.countFailure
  dsimp only
  split <;> simp
@[simp] theorem State.closeEvent_hostView (p : Pipe) : (s.closeEvent p).hostView = s.hostView := by
  unfold State.closeEvent
  (repeat' split) <;> simp
@[simp] theorem State.failEvent_hostView (p : Pipe) (r : Nat) : (s.failEvent p r).hostView = s.hostView := by
  unfold State.failEvent
  (repeat' split) <;> simp
@[simp] theorem State.issueOpen_hostView (p : Pipe) : (s.issueOpen p).hostView = s.hostView := by
  unfold State.issueOpen
  (repeat' split) <;> simp
@[simp] theorem State.abortEvent_hostView (p : Pipe) : (s.abortEvent p).hostView = s.hostView := by simp [State.abortEvent]
@[simp] theorem State.abortOn_hostView (i r l : Nat) : (s.abortOn i r l).hostView = s.hostView := by
  unfold State.abortOn
  dsimp only
  (repeat' split) <;> simp
@[simp] theorem State.sendAbort_hostView (i r : Nat) : (s.sendAbort i r).hostView = s.hostView := by
  have hlanes : ((s.abortOn i r 0).abortOn i r 1).hostView = s.hostView := by simp
  exact hlanes
@[simp] theorem State.abortStreams_hostView : s.abortStreams.hostView = s.hostView := by
  have hcut (x : Nl) : ((State.sendAbort { s.sendAbort 0 3 with nl := x } 1 3)).hostView = s.hostView := by
    rw [State.sendAbort_hostView, State.nl_hostView, State.sendAbort_hostView]
  exact hcut _
@[simp] theorem State.dropWait_hostView (w r : Nat) : (s.dropWait w r).hostView = s.hostView := by
  unfold State.dropWait
  split <;> simp
@[simp] theorem State.relayLink_hostView (m : Mode) : (s.relayLink m).hostView = s.hostView := by
  unfold State.relayLink
  (repeat' split) <;> simp [State.serveLanes]
@[simp] theorem State.leaveMode_hostView (m : Mode) : (s.leaveMode m).hostView = s.hostView := by
  have himposed : ((s.impose .A (fun st => st.heldIn m)).impose .B (fun st => st.heldIn m)).hostView = s.hostView := by
    simp [State.impose]
  unfold State.leaveMode
  dsimp only
  split <;> exact himposed
@[simp] theorem State.enterMode_hostView (m : Mode) : (s.enterMode m).hostView = s.hostView := by
  have hleft : ((s.leaveMode m).relayLink m).hostView = s.hostView := by simp
  exact (State.post0_hostView _ _ _).trans hleft
@[simp] theorem State.postSafe_hostView : s.postSafe.hostView = s.hostView := by
  unfold State.postSafe
  split <;> simp

/-! ### Buffers given back to product rings -/

/-- The frame claims buffers of product rings alone. -/
def Frame.claimsProducts (f : Frame) : Prop := ∀ c ∈ f.claims, 3 ≤ c.ring

theorem State.modRing_hostView {x : Nat} (hx : 3 ≤ x) (f : Ring → Ring) : (s.modRing x f).hostView = s.hostView := by
  simp only [State.hostView, State.modRing_hif_completions,
    State.ring_modRing_ne s x 0 f (Nat.ne_of_gt (Nat.lt_of_lt_of_le (by decide) hx)),
    State.ring_modRing_ne s x 1 f (Nat.ne_of_gt (Nat.lt_of_lt_of_le (by decide) hx))]

theorem State.returnClaims_hostView {f : Frame} (hf : f.claimsProducts) : (s.returnClaims f).hostView = s.hostView := by
  unfold Frame.claimsProducts at hf
  unfold State.returnClaims
  generalize f.claims = claims at hf
  induction claims with
  | nil => rfl
  | cons c l ih =>
    rw [List.foldr_cons, State.modRing_hostView _ (hf c List.mem_cons_self)]
    exact ih fun d hd => hf d (List.mem_cons_of_mem c hd)

theorem State.returnAllClaims_hostView (fs : List Frame) (hf : ∀ f ∈ fs, f.claimsProducts) :
    (fs.foldl State.returnClaims s).hostView = s.hostView :=
  List.foldlRecOn (motive := fun t : State => t.hostView = s.hostView) _ _ rfl
    fun t ht f hm => (t.returnClaims_hostView (hf f hm)).trans ht

theorem State.stopPipe_hostView (p : Pipe) (hf : ∀ f ∈ (s.pl p).frames, f.claimsProducts) : (s.stopPipe p).hostView = s.hostView := by
  simp [State.stopPipe, s.returnAllClaims_hostView _ hf]

/-- Entry to SAFE completes nothing, and takes no position of a command. -/
theorem State.enterSafe_hostView (hf : ∀ f ∈ s.pa.frames ++ s.pb.frames, f.claimsProducts) : s.enterSafe.hostView = s.hostView := by
  unfold State.enterSafe
  extract_lets ended stopped dropped entered
  have hended : ended.hostView = s.hostView ∧ ∀ p, ended.remains p = s.remains p := by
    have hlog : s.logCutBoot.hostView = s.hostView := by
      unfold State.logCutBoot
      split <;> rfl
    exact ⟨((State.abortEvent_hostView _ .B).trans (State.abortEvent_hostView _ .A)).trans hlog, fun p => by simp [ended]⟩
  clear_value ended
  obtain ⟨hhost, hremains⟩ := hended
  have hframes (t : State) (p : Pipe) (ht : t.remains p = s.remains p) : (t.pl p).frames = (s.pl p).frames := congrArg Remains.frames ht
  have hA : ∀ f ∈ (ended.pl .A).frames, f.claimsProducts := by
    rw [hframes _ .A (hremains .A)]
    exact fun f hm => hf f (List.mem_append_left _ hm)
  have hB : ∀ f ∈ ((ended.stopPipe .A).pl .B).frames, f.claimsProducts := by
    rw [hframes _ .B ((State.stopPipe_remains_other _ _ _ (by decide)).trans (hremains .B))]
    exact fun f hm => hf f (List.mem_append_right _ hm)
  have hstopped : stopped.hostView = s.hostView := by
    rw [State.abortStreams_hostView, State.stopPipe_hostView _ .B hB, State.stopPipe_hostView _ .A hA, hhost]
  clear_value stopped
  have hdropped : dropped.hostView = s.hostView :=
    ((State.dropWait_hostView _ 1 5).trans (State.dropWait_hostView _ 0 5)).trans hstopped
  clear_value dropped
  rw [State.postSafe_hostView, State.enterMode_hostView]
  exact hdropped

/-- Nor does the decision of a dangerous fault (R313). -/
theorem State.fault_hostView (id : Nat) (hf : ∀ f ∈ s.pa.frames ++ s.pb.frames, f.claimsProducts) : (s.fault id).hostView = s.hostView := by
  unfold State.fault
  split
  · rfl
  · extract_lets recorded _ logged
    have hlogged : logged.hostView = s.hostView ∧ logged.pa = s.pa ∧ logged.pb = s.pb := by
      unfold logged
      split <;> exact ⟨rfl, rfl, rfl⟩
    obtain ⟨hhost, hpa, hpb⟩ := hlogged
    split
    · exact hhost
    · rw [State.enterSafe_hostView _ (by rw [hpa, hpb]; exact hf), hhost]

end

/-- What keeps that part since the position was taken is answered by its completion. -/
theorem State.answered_of_hostView {u v : State} {h : Hdr} {r : Role} (ht : u.takes h r) (hv : v.hostView = u.takeCmd.hostView)
    (tag : Word) (op : Nat) (result : List Word) : u.answered (v.complete tag op 0 (u.ring 0).head result) tag op 0 result := by
  simp only [State.hostView, Prod.mk.injEq] at hv
  obtain ⟨hc, h0, h1⟩ := hv
  exact State.answered_of_rings ht hc h0 h1 tag op result

end Sys2Proof.Machine

namespace Sys2Proof.Machine

/-! ## Reading starts from STANDBY (17 R382, 16 R363, 05 R416) -/

/-- The settings of a pipeline: pending, in the snapshot, and as they stood before the latest acceptance; and whether its first
frame is prepared. -/
def Pl.choice (x : Pl) : Settings × Settings × Option (Nat × Settings) × Bool := (x.pend, x.snap, x.prior, x.armed)

/-- What the start of a plate is seen by. -/
structure StartView where
  now : Nat
  sup : Sup
  thm : Thm
  nv : Nv
  act : Act
  pcv : Pcv
  host : List Completion × Ring × Ring
  first : Settings × Settings × Option (Nat × Settings) × Bool
  second : Settings × Settings × Option (Nat × Settings) × Bool

/-- That part of a state. -/
def State.startView (s : State) : StartView :=
  ⟨s.now, s.sup, s.thm, s.nv, s.act, s.pcv, s.hostView, s.pa.choice, s.pb.choice⟩

/-- The sheaf is online, and no latch point at `l` changes that (08 R184, R185). -/
def State.staysOnline (s : State) (l k : Nat) : Prop :=
  (s.sheaf k).st = .idle ∧ ((s.sheaf k).requests l).1 = false ∧ twoPartners (s.sheaf k).history = false ∧ twoErrors (s.sheaf k).ues = false

section
variable (s : State)

@[simp] theorem State.post0_startView (c : Nat) (a : List Word) : (s.post0 c a).startView = s.startView := by simp [State.startView]
theorem State.modSheaf_startView (i : Nat) (f : Sheaf → Sheaf) : (s.modSheaf i f).startView = s.startView := rfl
@[simp] theorem State.warnBit_startView (b : Nat) : (s.warnBit b).startView = s.startView := by
  unfold State.warnBit
  split
  · rfl
  · exact State.post0_startView _ _ _
theorem State.modPl_startView (p : Pipe) (f : Pl → Pl) (hf : (f (s.pl p)).choice = (s.pl p).choice) :
    (s.modPl p f).startView = s.startView := by
  cases p with
  | A =>
    have h : (f s.pa).choice = s.pa.choice := hf
    exact congrArg (fun c => (⟨s.now, s.sup, s.thm, s.nv, s.act, s.pcv, s.hostView, c, s.pb.choice⟩ : StartView)) h
  | B =>
    have h : (f s.pb).choice = s.pb.choice := hf
    exact congrArg (fun c => (⟨s.now, s.sup, s.thm, s.nv, s.act, s.pcv, s.hostView, s.pa.choice, c⟩ : StartView)) h

/-! ### Sheaves at a latch point (08 R184, R185) -/

@[simp] theorem State.post0_sheaf (c : Nat) (a : List Word) (k : Nat) : (s.post0 c a).sheaf k = s.sheaf k := by simp [State.sheaf]
@[simp] theorem State.warnBit_sheaf (b k : Nat) : (s.warnBit b).sheaf k = s.sheaf k := by
  unfold State.warnBit
  split
  · rfl
  · exact State.post0_sheaf _ _ _ _
theorem State.sheaf_modSheaf_ne {i k : Nat} (h : i ≠ k) (f : Sheaf → Sheaf) : (s.modSheaf i f).sheaf k = s.sheaf k := by
  rw [State.sheaf_modSheaf, if_neg fun hik => h hik.1]

theorem State.failSheaf_startView (i : Nat) : (s.failSheaf i).startView = s.startView := by
  rw [State.failSheaf, State.warnBit_startView, State.post0_startView, State.modSheaf_startView]

theorem State.sheafLatch_startView (l i : Nat) : (s.sheafLatch l i).startView = s.startView := by
  unfold State.sheafLatch
  dsimp only
  split
  · exact s.failSheaf_startView i
  · (repeat' split) <;> rfl

theorem State.sheafLatch_sheaf_ne {l i k : Nat} (h : i ≠ k) : (s.sheafLatch l i).sheaf k = s.sheaf k := by
  unfold State.sheafLatch
  dsimp only
  (repeat' split) <;> simp [State.failSheaf, State.sheaf_modSheaf_ne _ h]

variable {s}

theorem State.sheafLatch_of_staysOnline {l k : Nat} (h : s.staysOnline l k) : s.sheafLatch l k = s := by
  obtain ⟨hst, hreq, hpartners, herrors⟩ := h
  simp [State.sheafLatch, Sheaf.online, hst, hreq, hpartners, herrors]

/-- A latch point leaves a sheaf that stays online as it is. -/
theorem State.sheafLatch_sheaf {l k : Nat} (h : s.staysOnline l k) (i : Nat) : (s.sheafLatch l i).sheaf k = s.sheaf k := by
  by_cases hik : i = k
  · subst hik
    rw [State.sheafLatch_of_staysOnline h]
  · exact s.sheafLatch_sheaf_ne hik

theorem State.sheafLatches_sheaf {l k : Nat} (h : s.staysOnline l k) (is : List Nat) :
    (is.foldl (fun s i => s.sheafLatch l i) s).sheaf k = s.sheaf k := by
  refine List.foldlRecOn (motive := fun t : State => t.sheaf k = s.sheaf k) _ _ rfl fun t ht i _ => ?_
  have hstays : t.staysOnline l k := by
    simp only [State.staysOnline, ht]
    exact h
  exact (State.sheafLatch_sheaf hstays i).trans ht

/-- Two sheaves that are online. -/
theorem State.two_le_onlineSheaves {i j : Nat} (hij : i < j) (hj : j < 16) (hi : (s.sheaf i).st = .idle) (hjs : (s.sheaf j).st = .idle) :
    2 ≤ s.onlineSheaves.length := by
  have hmem : [i, j] ⊆ s.onlineSheaves := by
    simp [State.onlineSheaves, Sheaf.online, hi, hjs, hij.trans hj, hj]
  have hnodup : [i, j].Nodup := by simp [Nat.ne_of_lt hij]
  exact (hnodup.subperm hmem).length_le

/-- A placement with two sheaves that stay online leads to no fault (R179). -/
theorem State.latchPlacement_startView {p : Pipe} {l i j : Nat} (hij : i < j) (hj : j < 16) (hi : s.staysOnline l i)
    (hjs : s.staysOnline l j) : (s.latchPlacement p l).startView = s.startView ∧
      ∀ k ∈ [i, j], (s.latchPlacement p l).sheaf k = s.sheaf k := by
  unfold State.latchPlacement
  extract_lets latched online free stA stB
  have hview : latched.startView = s.startView := foldl_keeps State.startView _ (fun t i => t.sheafLatch_startView l i) _ s
  have hsheaf : ∀ k ∈ [i, j], latched.sheaf k = s.sheaf k := by
    simp only [List.mem_cons, List.not_mem_nil, or_false]
    rintro k (rfl | rfl)
    · exact State.sheafLatches_sheaf hi _
    · exact State.sheafLatches_sheaf hjs _
  have honline : 2 ≤ online.length := by
    refine State.two_le_onlineSheaves hij hj ?_ ?_
    · rw [hsheaf i (by simp)]
      exact hi.1
    · rw [hsheaf j (by simp)]
      exact hjs.1
  clear_value latched online
  split
  extract_lets placed ok posted _ marked
  have hplaced : placed.startView = latched.startView ∧ ∀ k, placed.sheaf k = latched.sheaf k :=
    ⟨State.modPl_startView _ _ _ rfl, fun k => by cases p <;> rfl⟩
  have hposted : posted.startView = placed.startView ∧ ∀ k, posted.sheaf k = placed.sheaf k := by
    unfold posted
    split
    · exact ⟨rfl, fun _ => rfl⟩
    · exact ⟨State.post0_startView .., fun k => State.post0_sheaf ..⟩
  have hmarked : marked.startView = posted.startView ∧ ∀ k, marked.sheaf k = posted.sheaf k := ⟨rfl, fun _ => rfl⟩
  rw [if_neg (Nat.not_lt.mpr honline)]
  exact ⟨hmarked.1.trans (hposted.1.trans (hplaced.1.trans hview)),
    fun k hk => (hmarked.2 k).trans ((hposted.2 k).trans ((hplaced.2 k).trans (hsheaf k hk)))⟩

end

end Sys2Proof.Machine

namespace Sys2Proof.Machine

/-! ## The settings of a mode that is entered (05 R51, R52, R106) -/

/-- Every settings of a pipeline that a first snapshot may take ask for the mode and the cool profile. -/
def Pl.asks (x : Pl) (m : Mode) (c : Bool) : Prop :=
  (x.pend.mode = m ∧ x.pend.cool = c) ∧ ∀ q, x.prior = some q → q.2.mode = m ∧ q.2.cool = c

theorem Settings.heldIn_keeps (st : Settings) (m : Mode) : (st.heldIn m).mode = st.mode ∧ (st.heldIn m).cool = st.cool := by
  rw [Settings.heldIn_eq]
  exact ⟨rfl, rfl⟩

section
variable {x y : Pl} {m : Mode} {c : Bool}

theorem Pl.asks_congr (h : y.choice = x.choice) (hx : x.asks m c) : y.asks m c := by
  simp only [Pl.choice, Prod.mk.injEq] at h
  obtain ⟨hpend, -, hprior, -⟩ := h
  simp only [Pl.asks, hpend, hprior]
  exact hx

/-- Settings changed otherwise ask for the same. -/
theorem Pl.asks_imposed {f : Settings → Settings} (hf : ∀ st, (f st).mode = st.mode ∧ (f st).cool = st.cool) (hx : x.asks m c) :
    Pl.asks { x with pend := f x.pend, prior := x.prior.map (fun q => (q.1, f q.2)) } m c := by
  obtain ⟨⟨hm, hc⟩, hprior⟩ := hx
  refine ⟨⟨(hf _).1.trans hm, (hf _).2.trans hc⟩, fun q hq => ?_⟩
  obtain ⟨w, hw, rfl⟩ := Option.map_eq_some_iff.mp hq
  exact ⟨(hf _).1.trans (hprior w hw).1, (hf _).2.trans (hprior w hw).2⟩

/-- The snapshot of settings that ask for a mode and a profile has them, and what stays pending asks for them too. -/
theorem Pl.asks_snapshot (l : Nat) (hx : x.asks m c) :
    (x.snapshot l).asks m c ∧ (x.snapshot l).snap.mode = m ∧ (x.snapshot l).snap.cool = c := by
  obtain ⟨hpend, hprior⟩ := hx
  have hbefore : (x.acceptedBefore l).mode = m ∧ (x.acceptedBefore l).cool = c := by
    unfold Pl.acceptedBefore
    split
    · next t st h =>
      split
      · exact hprior (t, st) h
      · exact hpend
    · exact hpend
  refine ⟨⟨?_, fun q hq => nomatch hq⟩, ?_⟩
  · show (if x.acceptedBefore l = x.pend then { x.pend with cams := promoteFirst x.pend.cams } else x.pend).mode = m ∧
      (if x.acceptedBefore l = x.pend then { x.pend with cams := promoteFirst x.pend.cams } else x.pend).cool = c
    split <;> exact hpend
  · obtain ⟨hmode, hcool⟩ := Settings.heldIn_keeps { x.acceptedBefore l with cams := promoteFirst (x.acceptedBefore l).cams }
      (x.acceptedBefore l).mode
    exact ⟨hmode.trans hbefore.1, hcool.trans hbefore.2⟩

end

/-! ## The mode entered, the first frames prepared (17 R382) -/

section
variable (s : State)

@[simp] theorem State.relayLink_startView (m : Mode) : (s.relayLink m).startView = s.startView := by
  unfold State.relayLink
  (repeat' split) <;> rfl

@[simp] theorem State.relayLink_eng (m : Mode) : (s.relayLink m).eng = s.eng := by
  unfold State.relayLink
  (repeat' split) <;> rfl

theorem State.leaveMode_startView (m : Mode) : (s.leaveMode m).startView =
    ((s.impose .A fun st => st.heldIn m).impose .B fun st => st.heldIn m).startView ∧ (s.leaveMode m).eng = s.eng := by
  unfold State.leaveMode
  dsimp only
  split <;> exact ⟨rfl, rfl⟩

theorem State.sup_startView (x : Sup) : State.startView { s with sup := x } = { s.startView with sup := x } := rfl

theorem State.enterMode_startView (m : Mode) : (s.enterMode m).startView =
    { ((s.impose .A fun st => st.heldIn m).impose .B fun st => st.heldIn m).startView with sup := { s.sup with mode := m, trans := false } } ∧
      (s.enterMode m).eng = s.eng := by
  obtain ⟨hleft, heng⟩ := s.leaveMode_startView m
  have hlink := (State.relayLink_startView (s.leaveMode m) m).trans hleft
  have hsup : ((s.leaveMode m).relayLink m).sup = s.sup := congrArg StartView.sup hlink
  unfold State.enterMode
  dsimp only
  constructor
  · rw [State.post0_startView, State.sup_startView, hlink, hsup]
  · rw [State.post0_eng]
    exact (State.relayLink_eng _ m).trans heng

/-- The first frame of a pipeline prepared, where two sheaves stay online (08 R178, R179). -/
theorem State.armPipe_startView {s : State} {p : Pipe} {i j : Nat} (hm : s.mode ≠ .safe) (hij : i < j) (hj : j < 16)
    (hs : ∀ k ∈ [i, j], s.staysOnline s.now k) :
    (s.armPipe p).startView = (s.modPl p (fun x => { x.snapshot s.now with armed := true })).startView ∧
      ∀ k ∈ [i, j], (s.armPipe p).staysOnline s.now k := by
  have hsheaf : ∀ k, (s.takeSnapshot p s.now).sheaf k = s.sheaf k := fun k => by cases p <;> rfl
  have hstays : ∀ k ∈ [i, j], (s.takeSnapshot p s.now).staysOnline s.now k := fun k hk => by
    simp only [State.staysOnline, hsheaf]
    exact hs k hk
  obtain ⟨hview, hkept⟩ := State.latchPlacement_startView (p := p) hij hj (hstays i (by simp)) (hstays j (by simp))
  unfold State.armPipe
  dsimp only
  generalize (s.takeSnapshot p s.now).latchPlacement p s.now = t at hview hkept ⊢
  have hsup : t.sup = s.sup := (congrArg StartView.sup hview).trans (by cases p <;> rfl)
  rw [if_neg (show t.mode ≠ .safe from fun h => hm ((congrArg Sup.mode hsup).symm.trans h))]
  constructor
  · cases p with
    | A => exact congrArg (fun v : StartView => { v with first := (v.first.1, v.first.2.1, v.first.2.2.1, true) }) hview
    | B => exact congrArg (fun v : StartView => { v with second := (v.second.1, v.second.2.1, v.second.2.2.1, true) }) hview
  · intro k hk
    have h : (t.modPl p (fun x => { x with armed := true })).sheaf k = s.sheaf k := by
      refine Eq.trans ?_ ((hkept k hk).trans (hsheaf k))
      cases p <;> rfl
    simp only [State.staysOnline, h]
    exact hs k hk

end

end Sys2Proof.Machine

namespace Sys2Proof.Machine

section
variable {s : State} {m : Mode}

/-- RESTART_COOL taken up is seen in the thermal block alone (16 R363). -/
theorem State.takeCool_view (s : State) (m : Mode) : s.takeCool m = { s with thm := (s.takeCool m).thm } ∧
    (s.takeCool m).thm.restartCool = (s.thm.restartCool && decide (m = .diagnostic)) ∧
    decide ((s.takeCool m).thm.state = .enforced) = (decide (s.thm.state = .enforced) || s.coolAgain m) := by
  unfold State.takeCool
  split
  · next h =>
    have hm : m ≠ .diagnostic := by
      rintro rfl
      simp [State.coolAgain] at h
    exact ⟨rfl, by simp [hm], by simp [h]⟩
  · next h =>
    refine ⟨rfl, ?_, by simp [h]⟩
    cases hr : s.thm.restartCool with
    | false => rfl
    | true =>
      by_cases hm : m = .diagnostic
      · simp [hm]
      · exact absurd (by simp [State.coolAgain, hr, hm]) h

/-- The settings of both pipelines as the start of a plate asks for them, before the mode is entered. -/
def State.asksFor (s : State) (m : Mode) : State :=
  let cool := decide ((s.takeCool m).thm.state = .enforced)
  let go (st : Settings) : Settings := { st with mode := m, cool := cool }
  let t := ((s.takeCool m).impose .A go).impose .B go
  (t.modPl .A (fun x => { x with histValid := false })).modPl .B (fun x => { x with histValid := false })

theorem Pl.asks_of_imposed (x : Pl) (m : Mode) (c : Bool) : Pl.asks { x with
    pend := { x.pend with mode := m, cool := c }
    prior := x.prior.map (fun q => (q.1, { q.2 with mode := m, cool := c })) } m c := by
  refine ⟨⟨rfl, rfl⟩, fun q hq => ?_⟩
  obtain ⟨w, -, rfl⟩ := Option.map_eq_some_iff.mp hq
  exact ⟨rfl, rfl⟩

theorem State.asksFor_view (s : State) (m : Mode) : (s.asksFor m).startView = { s.startView with
      thm := (s.takeCool m).thm
      first := (s.asksFor m).pa.choice
      second := (s.asksFor m).pb.choice } ∧ (s.asksFor m).eng = s.eng ∧
    (s.asksFor m).pa.asks m (decide ((s.takeCool m).thm.state = .enforced)) ∧
    (s.asksFor m).pb.asks m (decide ((s.takeCool m).thm.state = .enforced)) := by
  obtain ⟨hcool, -, -⟩ := s.takeCool_view m
  unfold State.asksFor
  generalize s.takeCool m = u at hcool ⊢
  rw [hcool]
  refine ⟨rfl, rfl, ?_, ?_⟩
  · exact Pl.asks_congr rfl (Pl.asks_of_imposed s.pa m _)
  · exact Pl.asks_congr rfl (Pl.asks_of_imposed s.pb m _)

/-- The mode entered with the settings it asks for. -/
theorem State.asksFor_enterMode (s : State) (m : Mode) : (∃ x y, ((s.asksFor m).enterMode m).startView =
      { s.startView with sup := { s.sup with mode := m, trans := false }, thm := (s.takeCool m).thm, first := x, second := y }) ∧
    ((s.asksFor m).enterMode m).eng = s.eng ∧
    ((s.asksFor m).enterMode m).pa.asks m (decide ((s.takeCool m).thm.state = .enforced)) ∧
    ((s.asksFor m).enterMode m).pb.asks m (decide ((s.takeCool m).thm.state = .enforced)) := by
  obtain ⟨hview, heng, hA, hB⟩ := s.asksFor_view m
  generalize s.asksFor m = u at hview heng hA hB ⊢
  obtain ⟨hentered, heng'⟩ := u.enterMode_startView m
  generalize u.enterMode m = v at hentered heng' ⊢
  have hsup : u.sup = s.sup := congrArg StartView.sup hview
  have hpa : v.pa.choice = _ := congrArg StartView.first hentered
  have hpb : v.pb.choice = _ := congrArg StartView.second hentered
  refine ⟨⟨v.pa.choice, v.pb.choice, ?_⟩, heng'.trans heng, Pl.asks_congr hpa (Pl.asks_imposed (fun st => st.heldIn_keeps m) hA),
    Pl.asks_congr hpb (Pl.asks_imposed (fun st => st.heldIn_keeps m) hB)⟩
  rw [hpa, hpb, hentered, hsup]
  exact congrArg (fun w : StartView => { w with
    sup := { s.sup with mode := m, trans := false }
    first := ((u.impose .A fun st => st.heldIn m).impose .B fun st => st.heldIn m).pa.choice
    second := ((u.impose .A fun st => st.heldIn m).impose .B fun st => st.heldIn m).pb.choice }) hview

end

/-- What the start of a plate leaves: the mode, the settings of both pipelines, the first frame of pipeline A prepared. -/
structure State.Started (s t : State) (m : Mode) (c : Bool) : Prop where
  view : ∃ x y, t.startView =
    { s.startView with sup := { s.sup with mode := m, trans := false }, thm := (s.takeCool m).thm, first := x, second := y }
  armed : t.pa.armed = true
  snap : t.pa.snap.mode = m ∧ t.pa.snap.cool = c
  first : t.pa.asks m c
  second : t.pb.asks m c

section
variable {s : State} {m : Mode} {i j : Nat} (hm : m ≠ .safe) (hij : i < j) (hj : j < 16) (hs : ∀ k ∈ [i, j], s.staysOnline s.now k)
include hm hij hj hs

theorem State.armFirst_started : s.Started (((s.asksFor m).enterMode m).armPipe .A) m (decide ((s.takeCool m).thm.state = .enforced)) ∧
    ∀ k ∈ [i, j], (((s.asksFor m).enterMode m).armPipe .A).staysOnline s.now k := by
  obtain ⟨⟨x, y, hview⟩, heng, hA, hB⟩ := s.asksFor_enterMode m
  generalize (s.asksFor m).enterMode m = u at hview heng hA hB ⊢
  have hnow : u.now = s.now := congrArg StartView.now hview
  have hmode : u.mode ≠ .safe := by
    have h : u.mode = m := congrArg (fun v : StartView => v.sup.mode) hview
    rw [h]
    exact hm
  obtain ⟨harmed, hstays⟩ := State.armPipe_startView (p := .A) hmode hij hj fun k hk => by
    simp only [State.staysOnline, State.sheaf, heng, hnow]
    exact hs k hk
  rw [hnow] at hstays
  refine ⟨?_, hstays⟩
  generalize u.armPipe .A = t at harmed hstays ⊢
  obtain ⟨hasks, hsnap⟩ := Pl.asks_snapshot u.now hA
  have hpa : t.pa.choice = ({ u.pa.snapshot u.now with armed := true } : Pl).choice := congrArg StartView.first harmed
  have hpb : t.pb.choice = u.pb.choice := congrArg StartView.second harmed
  have hsnap' : t.pa.snap = (u.pa.snapshot u.now).snap := congrArg (fun c => c.2.1) hpa
  refine ⟨⟨t.pa.choice, t.pb.choice, ?_⟩, congrArg (fun c => c.2.2.2) hpa, hsnap' ▸ hsnap, Pl.asks_congr hpa hasks, Pl.asks_congr hpb hB⟩
  rw [hpa, hpb, harmed]
  exact congrArg (fun w : StartView => { w with
    first := ({ u.pa.snapshot u.now with armed := true } : Pl).choice
    second := u.pb.choice }) hview

omit hs in
/-- With pipeline B linked, its first frame too is prepared. -/
theorem State.armSecond_started {t : State} {c : Bool} (ht : s.Started t m c) (hstays : ∀ k ∈ [i, j], t.staysOnline s.now k) :
    s.Started (t.armPipe .B) m c := by
  obtain ⟨⟨x, y, hview⟩, harmed, hsnap, hA, hB⟩ := ht
  have hnow : t.now = s.now := congrArg StartView.now hview
  have hmode : t.mode ≠ .safe := by
    have h : t.mode = m := congrArg (fun v : StartView => v.sup.mode) hview
    rw [h]
    exact hm
  obtain ⟨hview', -⟩ := State.armPipe_startView (p := .B) hmode hij hj (hnow ▸ hstays)
  generalize t.armPipe .B = r at hview' ⊢
  have hpa : r.pa.choice = t.pa.choice := congrArg StartView.first hview'
  have hpb : r.pb.choice = ({ t.pb.snapshot t.now with armed := true } : Pl).choice := congrArg StartView.second hview'
  have hsnap' : r.pa.snap = t.pa.snap := congrArg (fun c => c.2.1) hpa
  refine ⟨⟨r.pa.choice, r.pb.choice, ?_⟩, (congrArg (fun c => c.2.2.2) hpa).trans harmed, hsnap' ▸ hsnap, Pl.asks_congr hpa hA,
    Pl.asks_congr hpb (Pl.asks_snapshot t.now hB).1⟩
  rw [hpa, hpb, hview']
  exact congrArg (fun w : StartView => { w with
    first := t.pa.choice
    second := ({ t.pb.snapshot t.now with armed := true } : Pl).choice }) hview

/-- A plate starts with the first marker 1 ms ahead (17 R382). -/
theorem State.startPlate_started : s.Started (s.startPlate m) m (decide ((s.takeCool m).thm.state = .enforced)) ∧
    (s.startPlate m).plt.firstMarker = some (s.now + 125000) := by
  obtain ⟨hfirst, hstays⟩ := State.armFirst_started hm hij hj hs
  unfold State.startPlate
  extract_lets cooled _ _ _ cleared t r
  have hcleared : s.asksFor m = cleared := rfl
  rw [hcleared] at hfirst hstays
  have ht : s.Started t m (decide ((s.takeCool m).thm.state = .enforced)) ∧ ∀ k ∈ [i, j], t.staysOnline s.now k := ⟨hfirst, hstays⟩
  clear_value t
  have hr : s.Started r m (decide ((s.takeCool m).thm.state = .enforced)) := by
    unfold r
    split
    · exact State.armSecond_started hm hij hj ht.1 ht.2
    · exact ht.1
  clear_value r
  obtain ⟨⟨x, y, hview⟩, harmed, hsnap, hA, hB⟩ := hr
  have hnow : r.now = s.now := congrArg StartView.now hview
  have hmode : r.mode = m := congrArg (fun v : StartView => v.sup.mode) hview
  rw [if_neg (show r.mode ≠ .safe from hmode ▸ hm)]
  have hmarked : State.startView { r with plt := { r.plt with firstMarker := some (r.now + ms) } } = r.startView := rfl
  exact ⟨⟨⟨x, y, hmarked.trans hview⟩, harmed, hsnap, hA, hB⟩, congrArg (fun n => some (n + ms)) hnow⟩

end

end Sys2Proof.Machine

namespace Sys2Proof.Machine

/-! ## What MODE_SET answers (17 R380 to R385) -/

section
variable {s : State} {r : Role} {n : Nat} {m : Mode} (hn : modeOfNum n = some m)
include hn

theorem State.modeSet_of_stopped (hr : isRunning m = true) (hs : s.thm.state = .stopped) : s.modeSet r n = (s, 3, [], false) := by
  simp [State.modeSet, hn, hr, hs]

theorem State.modeSet_of_role (hm : m ≠ s.mode) (hr : roleLacks r m = true) : s.modeSet r n = (s, 3, [], false) := by
  simp [State.modeSet, hn, hm, hr]

theorem State.modeSet_of_boot (hb : m = .boot) (hm : m ≠ s.mode) : s.modeSet r n = (s, 0, noApply, true) := by
  subst hb
  simp [State.modeSet, hn, hm, isRunning, roleLacks]

theorem State.modeSet_of_safe (hb : m = .safe) (hm : m ≠ s.mode) : s.modeSet r n = (s.fault 19, 0, noApply, false) := by
  subst hb
  simp [State.modeSet, hn, hm, isRunning, roleLacks]

section
variable (hnot : isRunning m = false ∨ s.thm.state ≠ .stopped)
include hnot

theorem State.modeSet_of_same (hm : m = s.mode) : s.modeSet r n = (s, 0, noApply, false) := by
  simp only [State.modeSet, hn, ← hm]
  rcases hnot with h | h <;> simp [h]

variable (hm : m ≠ s.mode) (hr : roleLacks r m = false) (hb : m ≠ .boot) (hf : m ≠ .safe) (ht : s.sup.trans = false)
include hm hr hb hf ht

/-- What no check refuses leads from the mode in force to the mode asked for. -/
theorem State.modeSet_of_allowed : s.modeSet r n =
    (if s.mode = .standby then
      if m = .off then ({ s with sup := { s.sup with trans := true, target := .off } }, 0, noApply, false)
      else if s.mayRun m then (s.startPlate m, 0, s.applyBoth, false) else (s, 3, [], false)
    else if isRunning s.mode && m = .standby then (s.stopPlate true, 0, s.applyBoth, false)
    else if s.mode ∈ [Mode.imaging, .calibration, .diagnostic] ∧ m ∈ [Mode.imaging, .calibration, .diagnostic]
      then (s.changePlate m, 0, s.applyBoth, false)
    else (s, 3, [], false)) := by
  simp only [State.modeSet, hn, if_neg hm, hr, if_neg hb, if_neg hf, ht]
  rcases hnot with h | h <;> simp [h, or_assoc]

end

end

/-! ## The command -/

theorem State.takeCmd_applyBoth (s : State) : s.takeCmd.applyBoth = s.applyBoth := rfl

section
variable {s v : State} {dt : Nat} {h : Hdr} {r : Role} {b : Byte} (ht : (s.elapse dt).takes h r)
include ht

theorem exec_modeSet_of_answer {status : Nat} {result : List Word}
    (ha : (s.elapse dt).takeCmd.modeSet r b.toNat = (v, status, result, false)) :
    exec (.modeSet dt h b) s = .next (v.complete h.tag 0x0020 status ((s.elapse dt).ring 0).head result) :=
  State.run_fetch_of_answer ht (c := .modeSet b.toNat) (congrArg (fun a : ModeAnswer => (⟨a.1, a.2.1, a.2.2.1, none, false, a.2.2.2⟩ : HostAnswer)) ha)

/-- MODE_SET to BOOT resets the module once it has completed (R373). -/
theorem exec_modeSet_of_reset {result : List Word} (ha : (s.elapse dt).takeCmd.modeSet r b.toNat = (v, 0, result, true)) (hv : v.live = true) :
    exec (.modeSet dt h b) s = .next ((v.complete h.tag 0x0020 0 ((s.elapse dt).ring 0).head result).resetHold 4) := by
  have hanswer : (s.elapse dt).takeCmd.runCmd h.session r (.modeSet b.toNat) = ⟨v, 0, result, none, false, true⟩ :=
    congrArg (fun a : ModeAnswer => (⟨a.1, a.2.1, a.2.2.1, none, false, a.2.2.2⟩ : HostAnswer)) ha
  have hlive : (v.complete h.tag 0x0020 0 ((s.elapse dt).ring 0).head result).live = true := by
    simpa [State.live] using hv
  have hfinish : State.finish ⟨v, 0, result, none, false, true⟩ (Fetched.of h (.modeSet b.toNat)) ((s.elapse dt).ring 0).head =
      (v.complete h.tag 0x0020 0 ((s.elapse dt).ring 0).head result).resetHold 4 := if_pos hlive
  have hrun : s.run dt (fun s => s.fetch (Fetched.of h (.modeSet b.toNat))) = _ := State.run_of_live ht.live _
  exact congrArg Host.Outcome.next (hrun.trans ((State.fetch_of_takes ht _).trans ((congrArg (fun a => State.finish a _ _) hanswer).trans hfinish)))

end

/-- A completion is seen in the host interface and in the time of the last activity alone. -/
theorem State.complete_eq (s : State) (tag : Word) (op st ix : Nat) (result : List Word) : ∃ x n,
    s.complete tag op st ix result = { s with hif := x, thm := { s.thm with activity := n } } := by
  unfold State.complete
  split
  · exact ⟨s.hif, s.thm.activity, rfl⟩
  · exact ⟨_, _, congrArg (fun w : State => { w with thm := { w.thm with activity := w.now } }) (State.signal_eq _ 1)⟩

/-- What answers with OK completes, and but for the completion is as its answer leaves it. -/
theorem State.completed_of_hostView {u v : State} {h : Hdr} {r : Role} (ht : u.takes h r) (hv : v.hostView = u.takeCmd.hostView)
    (tag : Word) (op : Nat) (result : List Word) : ∃ x n,
      v.complete tag op 0 (u.ring 0).head result = { v with hif := x, thm := { v.thm with activity := n } } ∧
      u.answered { v with hif := x, thm := { v.thm with activity := n } } tag op 0 result := by
  obtain ⟨x, n, hx⟩ := v.complete_eq tag op 0 (u.ring 0).head result
  exact ⟨x, n, hx, hx ▸ State.answered_of_hostView ht hv tag op result⟩

/-- A change among the modes of a single plate is a setting of both pipelines, and awaited (R384). -/
theorem State.changePlate_view (s : State) (m : Mode) : (s.changePlate m).mode = s.mode ∧
    (s.changePlate m).sup.trans = true ∧ (s.changePlate m).sup.target = m ∧
    (s.changePlate m).pa.pend = { s.pa.pend with mode := m, cool := s.pa.pend.cool || s.coolAgain m } ∧
    (s.changePlate m).pb.pend = { s.pb.pend with mode := m, cool := s.pb.pend.cool || s.coolAgain m } ∧
    (s.changePlate m).thm.restartCool = (s.thm.restartCool && decide (m = .diagnostic)) ∧
    (s.changePlate m).hostView = s.hostView ∧ (s.changePlate m).nv = s.nv ∧ (s.changePlate m).plt = s.plt := by
  obtain ⟨hview, hrestart, -⟩ := s.takeCool_view m
  unfold State.changePlate
  generalize s.takeCool m = w at hview hrestart ⊢
  rw [hview]
  exact ⟨rfl, rfl, rfl, rfl, rfl, hrestart, rfl, rfl, rfl⟩

/-- A mode with a plate that is read is none of the others. -/
theorem isRunning_only {m : Mode} (h : isRunning m = true) : m ≠ .boot ∧ m ≠ .safe ∧ m ≠ .off ∧ m ≠ .standby := by
  cases m <;> simp [isRunning] at h ⊢

theorem isRunning_of_three {m : Mode} (h : m ∈ [Mode.imaging, .calibration, .diagnostic]) : isRunning m = true := by
  cases m <;> simp [isRunning] at h ⊢

theorem State.takes.mode_ne_boot {u : State} {h : Hdr} {r : Role} (ht : u.takes h r) : u.mode ≠ .boot := by
  obtain ⟨hfetch, -⟩ := ht
  simp only [State.mayFetch, Bool.and_eq_true, decide_eq_true_eq] at hfetch
  obtain ⟨⟨⟨⟨⟨⟨⟨⟨-, hboot⟩, -⟩, -⟩, -⟩, -⟩, -⟩, -⟩, -⟩ := hfetch
  exact hboot

/-- Settles O18: each case of MODE_SET by its answer, the start of a plate by the two sheaves that stay online. -/
theorem modeSets : Obligations.ModeSets := by
  rintro dt h b m r s u rfl ht hn
  have hexec {v : State} {status : Nat} {result : List Word}
      (ha : (s.elapse dt).takeCmd.modeSet r b.toNat = (v, status, result, false)) := exec_modeSet_of_answer (b := b) ht ha
  have hreset {v : State} {result : List Word} (ha : (s.elapse dt).takeCmd.modeSet r b.toNat = (v, 0, result, true)) :=
    exec_modeSet_of_reset (b := b) ht ha
  generalize s.elapse dt = u at hexec hreset ht ⊢
  have hdone {v : State} {result : List Word} (ha : u.takeCmd.modeSet r b.toNat = (v, 0, result, false))
      (hv : v.hostView = u.takeCmd.hostView) : ∃ x n,
        exec (.modeSet dt h b) s = .next { v with hif := x, thm := { v.thm with activity := n } } ∧
        u.answered { v with hif := x, thm := { v.thm with activity := n } } h.tag 0x0020 0 result := by
    obtain ⟨x, n, hx, hanswered⟩ := State.completed_of_hostView ht hv h.tag 0x0020 result
    exact ⟨x, n, (hexec ha).trans (congrArg Host.Outcome.next hx), hanswered⟩
  have hsafe : u.mode ≠ .safe := ht.2.1
  refine ⟨fun hr hs => hexec (State.modeSet_of_stopped hn hr hs), fun hnot hm => hexec (State.modeSet_of_same hn hnot hm),
    fun hm hr => hexec (State.modeSet_of_role hn hm hr), fun hmode htrans hrun hrole hmay ⟨i, j, hij, hj, hstays⟩ => ?_,
    fun hrun htrans hm => ?_, fun hmode hm hne htrans hnot hrole => ?_, fun hmode htrans hm => ?_, fun hm hdec hfirst hclaims => ?_,
    fun hm => ?_⟩
  · obtain ⟨hb, hf, ho, hstandby⟩ := isRunning_only hrun
    have hnot : isRunning m = false ∨ u.thm.state ≠ .stopped := by
      simp only [State.mayRun, Bool.and_eq_true, decide_eq_true_eq] at hmay
      exact .inr hmay.1.1
    have ha := (State.modeSet_of_allowed (s := u.takeCmd) (r := r) hn hnot (hmode ▸ hstandby) hrole hb hf htrans).trans ((if_pos hmode).trans
      ((if_neg ho).trans (if_pos hmay)))
    obtain ⟨hstarted, hmarker⟩ := State.startPlate_started (s := u.takeCmd) hf hij hj hstays
    obtain ⟨-, hrestart, hcool⟩ := State.takeCool_view u.takeCmd m
    obtain ⟨⟨x, y, hview⟩, harmed, ⟨hsnap, hsnapCool⟩, ⟨⟨hpendA, -⟩, -⟩, ⟨⟨hpendB, -⟩, -⟩⟩ := hstarted
    have hhost := (congrArg StartView.host hview :)
    obtain ⟨z, n, hrun', hanswered⟩ := hdone ha hhost
    refine ⟨_, hrun', ?_⟩
    generalize u.takeCmd.startPlate m = t at hview hmarker harmed hsnap hsnapCool hpendA hpendB hanswered ⊢
    have hthm : t.thm = _ := congrArg StartView.thm hview
    exact ⟨congrArg (fun v : StartView => v.sup.mode) hview, congrArg (fun v : StartView => v.sup.trans) hview, hmarker, harmed, hpendA, hpendB,
      hsnap, hsnapCool.trans hcool, (congrArg Thm.restartCool hthm).trans hrestart, hanswered, congrArg StartView.nv hview,
      congrArg StartView.act hview, congrArg StartView.pcv hview⟩
  · subst hm
    have hne : u.mode ≠ .standby := (isRunning_only hrun).2.2.2
    have ha := (State.modeSet_of_allowed (s := u.takeCmd) (r := r) hn (.inl rfl) hne.symm (by simp [roleLacks]) (by decide) (by decide)
      htrans).trans ((if_neg hne).trans (if_pos (Bool.and_eq_true_iff.mpr ⟨hrun, rfl⟩)))
    obtain ⟨z, n, hrun', hanswered⟩ := hdone ha rfl
    exact ⟨_, hrun', rfl, rfl, rfl, rfl, rfl, rfl, rfl, hanswered, rfl, rfl⟩
  · obtain ⟨hb, hf, -, hstandby⟩ := isRunning_only (isRunning_of_three hm)
    have hstandby' : u.mode ≠ .standby := (isRunning_only (isRunning_of_three hmode)).2.2.2
    have ha := (State.modeSet_of_allowed (s := u.takeCmd) (r := r) hn (.inr hnot) hne hrole hb hf htrans).trans ((if_neg hstandby').trans
      ((if_neg (by simp [hstandby])).trans (if_pos ⟨hmode, hm⟩)))
    obtain ⟨hmode', htrans', htarget, hpa, hpb, hrestart, hhost, hnv, hplt⟩ := u.takeCmd.changePlate_view m
    obtain ⟨z, n, hrun, hanswered⟩ := hdone ha hhost
    exact ⟨_, hrun, hmode', htrans', htarget, hpa, hpb, hrestart, hanswered, hnv, hplt⟩
  · subst hm
    have ha := (State.modeSet_of_allowed (s := u.takeCmd) (r := r) hn (.inl rfl) (show Mode.off ≠ u.mode by simp [hmode]) (by simp [roleLacks])
      (by decide) (by decide) htrans).trans ((if_pos hmode).trans (if_pos rfl))
    obtain ⟨z, n, hrun, hanswered⟩ := hdone ha rfl
    exact ⟨_, hrun, hmode, rfl, rfl, hanswered, rfl, rfl⟩
  · have hoff : u.takeCmd.mode ≠ .off := State.live_mode ht.live
    have hnone : 19 ∉ u.takeCmd.saf.decided := by
      rw [show u.takeCmd.saf.decided = [] from hdec]
      exact List.not_mem_nil
    obtain ⟨⟨hmode, hdecided, hsafeN, -⟩, -, -, hfirst', -⟩ := State.fault_tripped hnone hoff hsafe
    have hhost := State.fault_hostView u.takeCmd 19 hclaims
    obtain ⟨z, n, hrun, hanswered⟩ := hdone (State.modeSet_of_safe hn hm (hm ▸ Ne.symm hsafe)) hhost
    exact ⟨_, hrun, hmode, hfirst'.trans (if_pos (.inl hfirst)), hdecided.trans (congrArg (· ++ [19]) hdec), hsafeN, hanswered⟩
  · have hne : m ≠ u.mode := by
      rintro rfl
      exact ht.mode_ne_boot hm
    refine ⟨_, hreset (State.modeSet_of_boot hn hm hne) ht.live, ?_⟩
    exact ⟨rfl, rfl, rfl, rfl, State.complete_nv .., rfl, rfl, rfl, rfl, rfl, State.complete_pending ..⟩

end Sys2Proof.Machine

namespace Sys2Proof.Machine

/-! ## Records read back and the customer map (15 R341, R342, R350) -/

/-- What the reading back of a record leaves alone, but for that record: the host's rings, pipeline A, the customer map and the
passwords. -/
def State.bookView (s : State) : (List Completion × Ring × Ring) × Pl × SMap Byte × List (Rec (List Byte × List Byte)) :=
  (s.hostView, s.pa, s.nv.customer, s.nv.pw)

section
variable (s : State)

@[simp] theorem State.post0_bookView (c : Nat) (a : List Word) : (s.post0 c a).bookView = s.bookView := by simp [State.bookView]
@[simp] theorem State.warnBit_bookView (b : Nat) : (s.warnBit b).bookView = s.bookView := by
  unfold State.warnBit
  split
  · rfl
  · exact State.post0_bookView _ _ _

theorem State.recovered_bookView (o : Nat) (a c : Bool) : (s.recovered o a c).bookView = s.bookView := by
  unfold State.recovered
  dsimp only
  split
  · rw [State.warnBit_bookView, State.post0_bookView]
  · exact s.post0_bookView _ _

theorem State.lost_bookView (o : Nat) : (s.lost o).bookView = s.bookView :=
  (State.warnBit_bookView _ 13).trans (s.post0_bookView _ _)

theorem State.resolveRec_bookView {α : Type} (r : Rec α) (o : Nat) : (s.resolveRec r o).bookView = s.bookView := by
  unfold State.resolveRec
  split
  · exact s.lost_bookView o
  · split
    · exact s.recovered_bookView _ _ _
    · rfl

theorem State.writeGuard_bookView : s.writeGuard.bookView = s.bookView := by
  have hread : s.readGuard.bookView = s.bookView := by
    have hrec (d : Guard) : (s.readRec s.nv.guard d guardOffset (fun n r => { n with guard := r })).bookView = s.bookView := by
      unfold State.readRec
      split
      · rfl
      · exact s.resolveRec_bookView _ _
    unfold State.readGuard
    dsimp only
    split <;> exact hrec _
  exact hread

end

/-! ## The passwords of a partition read back (R341, R342) -/

/-- The record of the passwords of a partition. -/
def State.pwRec (s : State) (p : Nat) : Rec (List Byte × List Byte) := s.nv.pw.getD p (Rec.both 0 (noPassword, noPassword))

/-- Both copies of the passwords of a partition are valid. -/
def State.pwValid (s : State) (p : Nat) : Prop := (s.pwRec p).a.isSome = true ∧ (s.pwRec p).b.isSome = true

section
variable {s : State} {p : Nat}

theorem State.readPw_eq (s : State) (p : Nat) : s.readPw p =
    (let t := s.readRec (s.pwRec p) (noPassword, noPassword) (pwOffset p) (fun n r => { n with pw := n.pw.set p r })
     if (s.pwRec p).resolve.isNone then (t.lockFrom 4).writeGuard else t) := rfl

theorem State.readPw_of_valid (h : s.pwValid p) : s.readPw p = s := by
  obtain ⟨ha, hb⟩ := h
  have hnone : (s.pwRec p).resolve.isNone = false := by
    rw [Rec.resolve_isNone]
    cases hr : (s.pwRec p).a with
    | none => simp [hr] at ha
    | some x => rfl
  rw [State.readPw_eq, State.readRec_of_valid _ _ _ _ ha hb, hnone]
  rfl

/-- Of the rest of the book the reading back of the passwords changes nothing, and both their copies are valid then. -/
theorem State.readPw_settles (s : State) (p : Nat) : (∃ w, (s.readPw p).bookView = (s.hostView, s.pa, s.nv.customer, w)) ∧
    (s.readPw p).pwValid p := by
  by_cases hv : s.pwValid p
  · rw [State.readPw_of_valid hv]
    exact ⟨⟨_, rfl⟩, hv⟩
  · have hbad : ((s.pwRec p).a.isSome && (s.pwRec p).b.isSome) = false := by simpa [State.pwValid] using hv
    have hp : p < s.nv.pw.length := by
      by_contra hn
      refine hv ?_
      simp only [State.pwValid, State.pwRec, List.getD_eq_default _ _ (Nat.not_lt.mp hn)]
      exact ⟨rfl, rfl⟩
    have hreported := s.resolveRec_bookView (s.pwRec p) (pwOffset p)
    have hread : s.readRec (s.pwRec p) (noPassword, noPassword) (pwOffset p) (fun n r => { n with pw := n.pw.set p r }) =
        { s.resolveRec (s.pwRec p) (pwOffset p) with
          nv := { (s.resolveRec (s.pwRec p) (pwOffset p)).nv with
            pw := (s.resolveRec (s.pwRec p) (pwOffset p)).nv.pw.set p ((s.pwRec p).settled (noPassword, noPassword)) } } := by
      rw [State.readRec, hbad]
      rfl
    rw [State.readPw_eq, hread]
    generalize s.resolveRec (s.pwRec p) (pwOffset p) = u at hreported ⊢
    generalize hsettled : (s.pwRec p).settled (noPassword, noPassword) = c
    have hboth : ∃ n x, c = Rec.both n x := by
      rw [← hsettled, Rec.settled]
      split <;> exact ⟨_, _, rfl⟩
    extract_lets _ _ t
    have ht : t.bookView = (s.hostView, s.pa, s.nv.customer, s.nv.pw.set p c) :=
      congrArg (fun v => (v.1, v.2.1, v.2.2.1, v.2.2.2.set p c)) hreported
    clear_value t
    have hdone : ∀ v : State, v.bookView = (s.hostView, s.pa, s.nv.customer, s.nv.pw.set p c) →
        (∃ w, v.bookView = (s.hostView, s.pa, s.nv.customer, w)) ∧ v.pwValid p := by
      intro v hview
      refine ⟨⟨_, hview⟩, ?_⟩
      have hpw : v.nv.pw = s.nv.pw.set p c := congrArg (fun w => w.2.2.2) hview
      have hrec : v.pwRec p = c := by
        rw [State.pwRec, hpw, List.getD_eq_getElem?_getD, List.getElem?_set_self hp, Option.getD_some]
      obtain ⟨n, x, rfl⟩ := hboth
      simp only [State.pwValid, hrec]
      exact ⟨rfl, rfl⟩
    split
    · exact hdone _ ((State.writeGuard_bookView _).trans ht)
    · exact hdone _ ht

/-- Passwords with one valid copy are settled to it, and reported. -/
theorem State.readPw_of_oneCopy {n : Nat} {c : List Byte × List Byte} {r : Rec (List Byte × List Byte)} (hr : s.nv.pw[p]? = some r)
    (h : r.OneCopy n c) : (s.readPw p).nv = { s.nv with pw := s.nv.pw.set p (Rec.both n c) } ∧ (s.readPw p).passwords p = c ∧
      (s.readPw p).saf.warn / 2 ^ 13 % 2 = 1 ∧ (s.readPw p).sup = s.sup := by
  have hrec : s.pwRec p = r := by rw [State.pwRec, List.getD_eq_getElem?_getD, hr, Option.getD_some]
  have hp : p < s.nv.pw.length := (List.getElem?_eq_some_iff.mp hr).1
  have hsome : r.resolve.isNone = false := by obtain rfl | rfl := h <;> rfl
  obtain ⟨v, hv, hread⟩ := State.readRec_of_oneCopy s (noPassword, noPassword) (pwOffset p) (fun n r => { n with pw := n.pw.set p r }) h
  rw [State.readPw_eq, hrec, hread, hsome]
  refine ⟨rfl, ?_, hv.warned, hv.sup⟩
  show ((s.nv.pw.set p (Rec.both n c)).getD p (Rec.both 0 (noPassword, noPassword))).cur (noPassword, noPassword) = c
  rw [List.getD_eq_getElem?_getD, List.getElem?_set_self hp, Option.getD_some, Rec.cur_both]

end

end Sys2Proof.Machine

namespace Sys2Proof.Machine

/-! ## LEDGER_WRITE and LEDGER_READ of a partition without passwords (15 R350, R351) -/

theorem length_takeBytes (n : Nat) (b : List Byte) : (takeBytes n b).length = n := by
  simp only [takeBytes, List.length_take, List.length_append, List.length_replicate]
  omega

/-- The range of a partition. -/
theorem window_of_customer {p off len : Nat} (hp : p < 4) (hlo : p * 65536 ≤ off) (hhi : off + len ≤ (p + 1) * 65536) (hpos : 0 < len)
    (hlen : len ≤ 4096) : window off len = some (.customer p off) := by
  have hdiv : off / 0x10000 = p := by omega
  have hmod : off % 0x10000 + len ≤ 0x10000 := by omega
  have hoff : off < 0x40000 := by omega
  have hbound : (decide (len = 0) || decide (4096 < len)) = false := by simp; omega
  rw [window, hbound, if_neg Bool.false_ne_true, if_pos hoff, if_pos hmod, hdiv]

section
variable {s : State} {p off len : Nat} {addr : BitVec 64} (ha : addr.toNat % 4 = 0) (hw : window off len = some (.customer p off))
  (hlocked : (s.readPw p).lockedOut (4 + p) = false) (hopen : (s.readPw p).passwords p = (noPassword, noPassword))

section
include hlocked hopen

theorem State.checkPassword_of_open (given : List Byte) (writing : Bool) : s.checkPassword p given writing = (s.readPw p, 0) := by
  simp [State.checkPassword, hlocked, hopen]

end

include ha hw hlocked hopen

theorem State.ledgerWrite_of_open (maint : Bool) (w : List Byte) : s.ledgerWrite maint off len addr (some w) =
    ({ s.readPw p with nv := { (s.readPw p).nv with customer := (s.readPw p).nv.customer.write off (takeBytes len (w.drop 16)) } }, 0) := by
  simp [State.ledgerWrite, ha, hw, State.checkPassword_of_open hlocked hopen]

theorem State.ledgerRead_of_open (q : List Byte) : s.ledgerRead off len addr (some q) = ({ s.readPw p with
    hif := { (s.readPw p).hif with hostWrites := (addr + 16#64, (s.readPw p).nv.customer.bytes off len) :: (s.readPw p).hif.hostWrites } }, 0) := by
  simp [State.ledgerRead, ha, hw, State.checkPassword_of_open hlocked hopen]

end

section
variable {s v : State} {dt : Nat} {h : Hdr} {r : Role} {off len : Word} {addr : BitVec 64} (ht : (s.elapse dt).takes h r)
include ht

theorem exec_ledgerWrite_of_ok {w : List Byte}
    (ha : (s.elapse dt).takeCmd.ledgerWrite (r = .maintenance) off.toNat len.toNat addr (some w) = (v, 0)) :
    exec (.ledgerWrite dt h off len addr (some w)) s = .next (v.complete h.tag 0x0081 0 ((s.elapse dt).ring 0).head []) :=
  State.run_fetch_of_answer ht (c := .ledgerWrite off.toNat len.toNat addr (some w)) (congrArg (ledgerAnswer · addr) ha)

theorem exec_ledgerRead_of_ok {q : List Byte}
    (ha : (s.elapse dt).takeCmd.ledgerRead off.toNat len.toNat addr (some q) = (v, 0)) :
    exec (.ledgerRead dt h off len addr (some q)) s = .next (v.complete h.tag 0x0080 0 ((s.elapse dt).ring 0).head []) :=
  State.run_fetch_of_answer ht (c := .ledgerRead off.toNat len.toNat addr (some q)) (congrArg (ledgerAnswer · addr) ha)

end

/-! ### Time passing writes nothing to the host -/

section
variable (s : State)

@[simp] theorem State.warnBit_hostWrites (b : Nat) : (s.warnBit b).hif.hostWrites = s.hif.hostWrites := by
  unfold State.warnBit
  split
  · rfl
  · exact State.post0_hif_hostWrites _ _ _

theorem State.heatCh_hostWrites (ch t a n : Nat) : (s.heatCh ch t a n).hif.hostWrites = s.hif.hostWrites := by
  unfold State.heatCh
  dsimp only
  split
  · exact (State.warnBit_hostWrites _ 6).trans (State.post0_hif_hostWrites _ _ _)
  · rfl

theorem State.heatTo_hostWrites (ch : Nat) : (s.heatTo ch).hif.hostWrites = s.hif.hostWrites := by
  unfold State.heatTo
  split
  · rfl
  · dsimp only
    split
    · rfl
    · exact foldl_keeps (fun t : State => t.hif.hostWrites) _ (fun _ _ => State.heatCh_hostWrites ..) _ _

theorem State.heat_hostWrites : s.heat.hif.hostWrites = s.hif.hostWrites := by
  unfold State.heat
  split
  · rfl
  · exact foldl_keeps (fun t : State => t.hif.hostWrites) _ (fun _ _ => State.heatTo_hostWrites ..) _ _

theorem State.elapse_hostWrites (dt : Nat) : (s.elapse dt).hif.hostWrites = s.hif.hostWrites := by
  have hheat := (s.tick dt).heat_hostWrites
  unfold State.elapse
  dsimp only
  split
  · exact hheat
  · rw [State.egress_hif]
    exact hheat

end

/-- A partition read whose passwords are valid and none. -/
theorem exec_ledgerRead_of_valid {s : State} {dt p : Nat} {h : Hdr} {r : Role} {off len : Word} {addr : BitVec 64} {q : List Byte}
    (ht : (s.elapse dt).takes h r) (ha : addr.toNat % 4 = 0) (hw : window off.toNat len.toNat = some (.customer p off.toNat))
    (hvalid : s.pwValid p) (hlocked : (s.elapse dt).lockedOut (4 + p) = false) (hopen : s.passwords p = (noPassword, noPassword)) :
    ∃ v, exec (.ledgerRead dt h off len addr (some q)) s = .next v ∧ v.nv = s.nv ∧
      v.hif.hostWrites = (addr + 16#64, s.nv.customer.bytes off.toNat len.toNat) :: s.hif.hostWrites ∧
      (s.elapse dt).answered v h.tag 0x0080 0 [] := by
  have hread : (s.elapse dt).takeCmd.readPw p = (s.elapse dt).takeCmd := State.readPw_of_valid (by
    simp only [State.pwValid, State.pwRec, show (s.elapse dt).takeCmd.nv = s.nv from s.elapse_nv dt]
    exact hvalid)
  have hgiven := State.ledgerRead_of_open (s := (s.elapse dt).takeCmd) ha hw (by rw [hread]; exact hlocked) (by
    rw [hread, State.passwords, show (s.elapse dt).takeCmd.nv = s.nv from s.elapse_nv dt]
    exact hopen) q
  rw [hread] at hgiven
  have hanswered := State.answered_of_hostView ht (v := { (s.elapse dt).takeCmd with hif := { (s.elapse dt).takeCmd.hif with
    hostWrites := (addr + 16#64, (s.elapse dt).takeCmd.nv.customer.bytes off.toNat len.toNat) :: (s.elapse dt).takeCmd.hif.hostWrites } })
    rfl h.tag 0x0080 []
  have hnv : (s.elapse dt).takeCmd.nv = s.nv := s.elapse_nv dt
  have hwrites : (s.elapse dt).takeCmd.hif.hostWrites = s.hif.hostWrites := s.elapse_hostWrites dt
  refine ⟨_, exec_ledgerRead_of_ok ht hgiven, ?_, ?_, hanswered⟩
  · rw [State.complete_nv]
    exact hnv
  · rw [State.complete_hif_hostWrites, hnv, hwrites]

/-- Settles O25: the bytes written are those that the map reads at their addresses, and the passwords, settled by the write, are
read as they stand. -/
theorem customerReadsBack : Obligations.CustomerReadsBack := by
  constructor
  · rintro dt d2 h off len addr w q p r s u x rfl ht rfl ha hp hlo hhi hpos hlen hok hlocked hopen
    have hw := window_of_customer hp hlo hhi hpos hlen
    have hwritten := State.ledgerWrite_of_open (s := (s.elapse dt).takeCmd) ha hw hlocked hopen (r = .maintenance) w
    obtain ⟨⟨pw, hview⟩, hvalid⟩ := (s.elapse dt).takeCmd.readPw_settles p
    have hexec := exec_ledgerWrite_of_ok ht hwritten
    have hcustomer : ((s.elapse dt).takeCmd.readPw p).nv.customer = (s.elapse dt).nv.customer := congrArg (fun v => v.2.2.1) hview
    have hhost : ((s.elapse dt).takeCmd.readPw p).hostView = (s.elapse dt).takeCmd.hostView := congrArg (fun v => v.1) hview
    have hpa : ((s.elapse dt).takeCmd.readPw p).pa = (s.elapse dt).pa := congrArg (fun v => v.2.1) hview
    generalize (s.elapse dt).takeCmd.readPw p = x at hvalid hexec hcustomer hhost hpa hopen ⊢
    have hbytes := SMap.bytes_write (s.elapse dt).nv.customer off.toNat (takeBytes len.toNat (w.drop 16)) hok
    rw [length_takeBytes] at hbytes
    have hanswered := State.answered_of_hostView ht
      (v := { x with nv := { x.nv with customer := x.nv.customer.write off.toNat (takeBytes len.toNat (w.drop 16)) } }) hhost h.tag 0x0081 []
    refine ⟨_, hexec, ?_, ?_, hanswered, ?_, ?_, ?_⟩
    · rw [State.complete_nv, hcustomer]
    · intro a hout
      rw [State.complete_nv, hcustomer]
      exact SMap.get_write_outside _ _ _ _ hok ((length_takeBytes len.toNat (w.drop 16)).symm ▸ hout)
    · exact State.complete_sup ..
    · rw [State.complete_pa]
      exact hpa
    · intro htakes hunlocked
      obtain ⟨v, hread, hnv, hwrites, hans⟩ := exec_ledgerRead_of_valid (q := q) htakes ha hw (by
        simp only [State.pwValid, State.pwRec, State.complete_nv]
        exact hvalid) hunlocked (by
        rw [State.passwords, State.complete_nv]
        exact hopen)
      refine ⟨v, hread, hnv, ?_, hans⟩
      rw [hwrites, State.complete_nv, hcustomer, hbytes]
  · intro p n c r u hr
    refine ⟨fun ha hb => State.readPw_of_valid ?_, fun h => State.readPw_of_oneCopy hr h⟩
    simp only [State.pwValid, State.pwRec, List.getD_eq_getElem?_getD, hr, Option.getD_some]
    exact ⟨ha, hb⟩

end Sys2Proof.Machine

namespace Sys2Proof.Machine

/-! ## Packets sent on a lane (13 R290, R298, R301) -/

theorem unle_lt (b : List Byte) : unle b < 256 ^ b.length := by
  induction b with
  | nil => decide
  | cons x l ih =>
    have hx : x.toNat < 256 := x.isLt
    simp only [unle, List.length_cons, Nat.pow_succ]
    omega

theorem fieldAt_lt (b : List Byte) (o n : Nat) : fieldAt b o n < 256 ^ n :=
  (unle_lt _).trans_le (Nat.pow_le_pow_right (by decide) (List.length_take_le n _))

/-- A packet sent on a lane without a PRBS pattern. -/
theorem State.sendPacket_sent {s : State} {k st l line tag : Nat} {payload : List Byte} (hp : (s.lane l).prbs = 0) :
    ∃ q n, s.sendPacket k st l line tag payload = { s with nl := n } ∧ n.sent = q :: s.nl.sent ∧ n.comp = s.nl.comp ∧ q.kind = k ∧
      q.tag = tag % 65536 ∧ q.payload = payload := by
  unfold State.sendPacket
  extract_lets x bad
  have hlane : (((s.modLane l fun x => if bad = true then { x with inject := 0 } else x)).lane l).prbs = 0 := by
    rw [State.lane_modLane]
    split
    · split <;> exact hp
    · exact hp
  rw [State.noteSent, if_pos hlane]
  exact ⟨_, _, rfl, rfl, rfl, rfl, rfl, rfl⟩

/-- Chunk `k` of the bundle in force, sent on a lane of the link (R298). -/
theorem State.sendChunk_sent {s : State} {b : Bundle} {k n : Nat} (hb : s.bundleOf s.pa.snap = some b) (hk : k < 65536)
    (hn : n = min 4096 ((b.total - 4096 * k + 7) / 8 * 8)) (hp : ∀ j, (s.lane j).prbs = 0) :
    ∃ q m, s.sendChunk k = { s with nl := m } ∧ m.sent = q :: s.nl.sent ∧ q.kind = 2 ∧ q.tag = k ∧ q.payload.length = n ∧
      ∀ j, j < n → 4096 * k + j < b.total → q.payload[j]? = some (b.byteAt (4096 * k + j)) := by
  have hsend : s.sendChunk k = s.sendPacket 2 0 (s.relayLanes.getD (k % s.relayLanes.length) 0) 0 k
      ((List.range n).map (fun j => if 4096 * k + j < b.total then b.byteAt (4096 * k + j) else 0#8)) := by
    rw [State.sendChunk, hb, hn]
  obtain ⟨q, m, hs, hsent, -, hkind, htag, hpay⟩ := State.sendPacket_sent (s := s) (k := 2) (st := 0) (line := 0) (tag := k)
    (l := s.relayLanes.getD (k % s.relayLanes.length) 0)
    (payload := (List.range n).map (fun j => if 4096 * k + j < b.total then b.byteAt (4096 * k + j) else 0#8)) (hp _)
  refine ⟨q, m, hsend.trans hs, hsent, hkind, htag.trans (Nat.mod_eq_of_lt hk), by simp [hpay], fun j hj hlt => ?_⟩
  rw [hpay, List.getElem?_map, List.getElem?_range hj, Option.map_some, if_pos hlt]

/-! ## Commands on the back channel (13 R301) -/

section
variable {v : State} {p : RxPacket} {op : Nat} (hk : p.kind = 7) (hop : op = fieldAt p.bytes 0 1)
include hk hop

theorem State.relayPacket_run (h : op = 1) : v.relayPacket p = v.cmdRun := by
  simp [State.relayPacket, hk, ← hop, h]
theorem State.relayPacket_retry (h : op = 2) : v.relayPacket p = v.cmdRetry (fieldAt p.bytes 2 2) := by
  simp [State.relayPacket, hk, ← hop, h]
theorem State.relayPacket_pulse (h : op = 3) : v.relayPacket p =
    if fieldAt p.bytes 1 1 ≤ 1 then v.cmdPulse (fieldAt p.bytes 1 1 = 1) else v := by
  simp [State.relayPacket, hk, ← hop, h]
theorem State.relayPacket_blade (h : op = 4) : v.relayPacket p = v.cmdBlade := by
  simp [State.relayPacket, hk, ← hop, h]
theorem State.relayPacket_stop (h : op = 5) : v.relayPacket p = v.cmdStop := by
  simp [State.relayPacket, hk, ← hop, h]
omit hk in
theorem State.relayPacket_other (h : op = 0 ∨ 5 < op) : v.relayPacket p = v := by
  unfold State.relayPacket
  rw [← hop]
  dsimp only
  split
  · rfl
  · split
    case h_6 => rfl
    all_goals omega

end

/-- The blade request of a module whose modulator is at rest starts at once (R262). -/
theorem State.moduleUrgent_of_rest {s : State} {ch e m : Nat} (he : s.bladeEntry ch = some e) (hb : s.urgBad e = false)
    (hm : m = cfgMod (s.entry e).cfg) (hlen : s.pcv.mods.length = 2) (hn : (s.modu m).now = none) (hq : (s.modu m).queue = [])
    (hu : (s.modu m).urg = none) (hx : s.excClash m (s.entry e).cfg = false) :
    ∃ x, s.moduleUrgent ch = s.setModu m x ∧ x.urg = some ⟨e, true, 0⟩ ∧
      ∃ k, x.now = some k ∧ k.entry = e ∧ k.start = s.now ∧ k.urgent = true := by
  subst hm
  have hm := cfgMod_lt (s.entry e).cfg
  have hput := State.putUrgent_of_empty (s := s) hu ⟨e, true, 0⟩
  have hkick := State.kickUrgent_of_rest (s := s) (r := ⟨e, true, 0⟩) hm hlen hn hq hx
  rw [State.startConv_setModu (hm.trans_eq hlen.symm)] at hkick
  have hask : s.moduleUrgent ch = (s.setModu (cfgMod (s.entry e).cfg) { s.modu (cfgMod (s.entry e).cfg) with urg := some ⟨e, true, 0⟩ }).kickUrgent
      (cfgMod (s.entry e).cfg) := by
    simp only [State.moduleUrgent, he, hb, hput]
    rfl
  exact ⟨_, hask.trans hkick, rfl, _, rfl, rfl, rfl, rfl⟩

/-! ## A packet on the back channel -/

section
variable {u : State} {l : Nat} {p : RxPacket} {sig : Bool}

/-- A CMD on a lane of the back channel is taken by a link, or before the link lanes are fixed. -/
theorem State.packet_cmd (hl : l < 2) (hk : p.kind = 7) (hb : p.blocks = 1) : u.packet l p sig true =
    if u.takesPackets l then u.relayPacket p else u := by
  unfold State.packet
  cases u.takesPackets l with
  | false => rfl
  | true => simp [hl, hk, hb, blocksOk]

/-- A host follows no CMD. -/
theorem State.hostPacket_cmd (hk : p.kind = 7) : u.hostPacket p sig = u := by
  simp [State.hostPacket, hk]

end

/-- Settles O43: each OP by what it does at a module in RELAY whose lane of the link brings it. -/
theorem backChannel : Obligations.BackChannel := by
  rintro dt l i y sig p c op arg s u v hu hl hr ht rfl hk hb hop hop' hc
  have hexec : exec c s = .next ((u.modLane l.val (fun _ => y)).packet l.val p sig true) :=
    exec_laneCommand_item c sig hu hl hr ht (by
      simp only [List.mem_cons, List.not_mem_nil, or_false] at hc
      simp only [laneCommands, List.mem_cons]
      rcases hc with rfl | rfl | rfl | rfl | rfl <;> simp)
  have hlink : (u.modLane l.val (fun _ => y)).linkLane l.val = u.linkLane l.val := rfl
  have htakes : (u.modLane l.val (fun _ => y)).takesPackets l.val = (u.linkLane l.val || (decide (l.val < 2) && decide (u.nl.comp.lanes = 0))) := rfl
  have hrelay (h2 : l.val < 2) (hlanes : u.linkLane l.val = true ∨ u.nl.comp.lanes = 0) :
      exec c s = .next ((u.modLane l.val (fun _ => y)).relayPacket p) := by
    rw [hexec, State.packet_cmd h2 hk hb, htakes, if_pos]
    simpa [h2] using hlanes
  have hstate (hln : u.linkLane l.val = true) : 3 ≤ u.nl.comp.state := by
    simp only [State.linkLane, Bool.and_eq_true, decide_eq_true_eq] at hln
    exact hln.1
  refine ⟨fun h2 hln => ?_, fun h2 hln => ?_, fun h2 hln hlanes => ?_, fun h2 hln hlanes h5 hst => ?_⟩
  · rw [hexec, State.packet_of_whole h2 sig (hlink.trans hln) (by simp [blocksOk, hk, hb]), State.hostPacket_cmd hk]
  · have h3 := hstate hln
    rw [hrelay h2 (.inl hln)]
    have hopen : ¬(u.modLane l.val (fun _ => y)).nl.comp.state < 3 := Nat.not_lt.mpr h3
    generalize hv : u.modLane l.val (fun _ => y) = v at hopen ⊢
    refine ⟨fun h1 hst => ?_, fun b k n h2 hst hk' hbundle hn hprbs => ?_, fun h3 harg => ?_, fun h3 harg => ?_, fun h3 harg => ?_, fun h4 hentry => ?_,
      fun e m g x h4 hentry hbad hg hm hlen hx hnow hq hu hclash => ?_, fun h5 => ?_, fun h => ?_⟩
    · rw [State.relayPacket_run hk hop h1, State.cmdRun, if_pos (hv ▸ hst)]
    · subst hv
      subst hk'
      obtain ⟨q, m, hs, hsent, hkind, htag, hlen, hbytes⟩ := State.sendChunk_sent (s := u.modLane l.val (fun _ => y)) hbundle
        (fieldAt_lt p.bytes 2 2) hn hprbs
      have hretry : (u.modLane l.val (fun _ => y)).relayPacket p = _ := (State.relayPacket_retry hk hop h2).trans ((if_pos hst).trans hs)
      exact ⟨_, q, congrArg Host.Outcome.next hretry, hsent, hkind, htag, hlen, hbytes, rfl⟩
    · rw [State.relayPacket_pulse hk hop h3, ← hop', harg]
      exact congrArg Host.Outcome.next (if_neg hopen)
    · rw [State.relayPacket_pulse hk hop h3, ← hop', harg]
      subst hv
      exact congrArg Host.Outcome.next (if_neg hopen)
    · rw [State.relayPacket_pulse hk hop h3, ← hop', if_neg (Nat.not_le.mpr harg)]
    · subst hv
      have hblade : (u.modLane l.val (fun _ => y)).moduleUrgent (u.ancOf u.pa.snap).bladeCh0 = (u.modLane l.val (fun _ => y)).bladeResult none := by
        have h : (u.modLane l.val (fun _ => y)).bladeEntry (u.ancOf u.pa.snap).bladeCh0 = none := hentry
        rw [State.moduleUrgent, h]
      rw [State.relayPacket_blade hk hop h4]
      exact congrArg Host.Outcome.next ((if_pos h3).trans hblade)
    · subst hv hg hm hx
      obtain ⟨z, hs, hurg, hconv⟩ := State.moduleUrgent_of_rest (s := u.modLane l.val (fun _ => y)) hentry hbad rfl hlen hnow hq hu hclash
      have hself := State.modu_setModu_self (s := u.modLane l.val (fun _ => y)) (m := cfgMod (u.entry e).cfg)
        ((cfgMod_lt (u.entry e).cfg).trans_eq hlen.symm) z
      rw [State.relayPacket_blade hk hop h4]
      obtain ⟨k, hnow', hconv⟩ := hconv
      exact ⟨_, congrArg Host.Outcome.next ((if_pos h3).trans hs), (congrArg Modulator.urg hself).trans hurg,
        ⟨k, (congrArg Modulator.now hself).trans hnow', hconv⟩, rfl⟩
    · rw [State.relayPacket_stop hk hop h5, State.cmdStop, if_pos (by omega)]
      rfl
    · rw [State.relayPacket_other hop h]
  · rw [hexec, State.packet_cmd h2 hk hb, htakes, hln]
    simp [hlanes]
  · rw [hrelay h2 (.inr hlanes), State.relayPacket_stop hk hop h5, State.cmdStop]
    exact congrArg Host.Outcome.next (if_pos (Nat.le_of_eq hst.symm))

end Sys2Proof.Machine

namespace Sys2Proof.Machine

/-! ## A bundle that keeps the rules (09 R222, 04 R104) -/

/-- 32-bit words of a good bundle at the places of their sections: header and directory, FPC, ANC, RAD, PCV and CCH. LIN and both NUC
sets lie in the zeros from 0x4000 on. -/
def soundWord (w : Nat) : Nat :=
  if w < 0x80 then ([0x31564d55, 0x90001, 1, 0x2000000, 1, 0x200, 512, 2, 0x4000, 4096, 3, 0x4000, 4096, 4, 0x400, 768, 5, 0x800, 2304,
    16, 0x4000, 25625600, 17, 0x4000, 25625600, 32, 0x1200, 1536, 33, 0x1800, 1664]).getD w 0
  else if w < 0x100 then [0x20020, 0x5000000, 0, 0, 0, 0, 0x1000].getD (w - 0x80) 0
  else if w < 0x200 then [0x100040, 0x10110, 0x1030100, 0, 0x10000, 0, 0, 0, 0x100040, 0x40].getD (w - 0x100) 0
  else if w < 0x210 then [0, 0, 1, 1, 1].getD (w - 0x200) 0
  else if w < 0x412 then (w - 0x210) % 257 + 1
  else if w = 0x480 then 15
  else if 0x484 ≤ w ∧ w < 0x50c then (if w % 2 = 0 then (w - 0x484) % 34 / 2 else 0)
  else if 0x600 ≤ w ∧ w < 0x680 then [0x10001, 0x10001, 0x10001, 0x10001, 0xa000000, 0x1400].getD (w - 0x600) 0
  else 0

/-- Byte `a` of that bundle. -/
def soundByte (a : Nat) : Byte := if a < 0x4000 then BitVec.ofNat 8 (soundWord (a / 4) / 256 ^ (a % 4)) else 0#8

/-- The bytes of that bundle, of 32 MiB. -/
def soundBundle : SMap Byte := (List.range 0x4000).map (fun a => (a, soundByte a))

theorem SMap.get_map_range' {α : Type} (d : α) (f : Nat → α) (k n i : Nat) :
    SMap.get d ((List.range' k n).map (fun a => (a, f a))) i = if k ≤ i ∧ i < k + n then f i else d := by
  induction n generalizing k with
  | zero =>
    rw [if_neg (by omega)]
    rfl
  | succ n ih =>
    rw [List.range'_succ, List.map_cons, SMap.get, ih]
    by_cases hi : i = k
    · subst hi
      rw [if_pos rfl, if_pos ⟨Nat.le_refl i, by omega⟩]
    · rw [if_neg hi]
      by_cases hr : k + 1 ≤ i ∧ i < k + 1 + n
      · rw [if_pos hr, if_pos (by omega)]
      · rw [if_neg hr, if_neg (by omega)]

theorem get_soundBundle (a : Nat) : SMap.get 0#8 soundBundle a = soundByte a := by
  rw [soundBundle, List.range_eq_range', SMap.get_map_range']
  split
  · rfl
  · exact (if_neg (by omega)).symm

/-- A range of it. -/
def soundBytes (a n : Nat) : List Byte := (List.range n).map (fun k => soundByte (a + k))

theorem bytes_soundBundle (a n : Nat) : soundBundle.bytes a n = soundBytes a n := by
  rw [SMap.bytes_eq, soundBytes]
  simp only [get_soundBundle]

theorem soundBundle_header : headerOk soundBundle 0x2000000 = true := by
  simp only [headerOk, headerTotal, rd, zeros, bytes_soundBundle]
  decide +kernel

theorem soundBundle_sections : section_ soundBundle 0x2000000 1 512 = some 0x200 ∧ section_ soundBundle 0x2000000 2 4096 = some 0x4000 ∧
    section_ soundBundle 0x2000000 3 4096 = some 0x4000 ∧ section_ soundBundle 0x2000000 4 768 = some 0x400 ∧
    section_ soundBundle 0x2000000 5 2304 = some 0x800 ∧ section_ soundBundle 0x2000000 16 (8 * nucEntries) = some 0x4000 ∧
    section_ soundBundle 0x2000000 17 (8 * nucEntries) = some 0x4000 ∧ section_ soundBundle 0x2000000 32 1536 = some 0x1200 ∧
    section_ soundBundle 0x2000000 33 1664 = some 0x1800 := by
  simp only [section_, directory, rd, bytes_soundBundle]
  decide +kernel

theorem soundBundle_fpc : (parseFpc soundBundle 0x200).any (fun f => f.nSets == 2) = true := by
  simp only [parseFpc, rd, rdS, rdList, rdListS, zeros, bytes_soundBundle]
  decide +kernel

theorem soundBundle_anc : (parseAnc soundBundle 0x400).isSome = true := by
  simp only [parseAnc, ancOk, rd, rdList, zeros, bytes_soundBundle]
  decide +kernel

theorem soundBundle_rad : (parseRad soundBundle 0x800).isSome = true := by
  simp only [parseRad, rd, rdS, rdList, zeros, bytes_soundBundle]
  decide +kernel

theorem soundBundle_pcv : (parsePcv soundBundle 0x1200).isSome = true := by
  simp only [parsePcv, parseTable, rd, rdS, zeros, bytes_soundBundle]
  decide +kernel

theorem soundBundle_cch : (parseCch soundBundle 0x1800).isSome = true := by
  simp only [parseCch, rd, rdList, rdListS, zeros, bytes_soundBundle]
  decide +kernel

/-- From 0x4000 on every entry of a NUC set is 0. -/
theorem soundBundle_nuc : (parseNuc soundBundle 0x4000).isSome = true := by
  have hzero (i : Nat) : rd soundBundle (0x4000 + 8 * i) 8 = 0 := by
    have hbytes : soundBytes (0x4000 + 8 * i) 8 = List.replicate 8 0#8 := by
      refine List.eq_replicate_iff.mpr ⟨by simp [soundBytes], fun b hb => ?_⟩
      obtain ⟨k, -, rfl⟩ := List.mem_map.mp hb
      exact if_neg (by omega)
    rw [rd, bytes_soundBundle, hbytes]
    rfl
  have hall : (List.range nucEntries).all (fun i => decide (rd soundBundle (0x4000 + 8 * i) 8 % 2 ^ 20 = 0)) = true :=
    List.all_eq_true.mpr fun i _ => by rw [hzero]; rfl
  rw [parseNuc, if_pos hall]
  rfl

theorem needed_of_section {α : Type} {m : SMap Byte} {t id len o : Nat} {f : Nat → Option α} {x : α} (hs : section_ m t id len = some o)
    (hf : f o = some x) : needed m t id len f = .ok x := by
  simp only [needed, hs, hf]

theorem parseNucs_of_next {m : SMap Byte} {t n : Nat} {l : List NucSet} {x : NucSet} (hl : parseNucs m t n = .ok l)
    (hx : needed m t (16 + n) (8 * nucEntries) (parseNuc m) = .ok x) : parseNucs m t (n + 1) = .ok (l ++ [x]) := by
  simp only [parseNucs, hl, hx]

/-- A bundle whose header and sections keep their rules verifies. -/
theorem parseBundle_of_sections {m : SMap Byte} {t : Nat} {fpc : Fpc} {linS linL : Array Word} {nuc : List NucSet} {anc : Anc} {rad : Rad}
    {pcv : List (List (Int × Int))} {cch : CchSect} (hheader : headerOk m t = true) (h1 : needed m t 1 512 (parseFpc m) = .ok fpc)
    (h2 : needed m t 2 4096 (fun o => some (parseLin m o)) = .ok linS) (h3 : needed m t 3 4096 (fun o => some (parseLin m o)) = .ok linL)
    (hnuc : parseNucs m t fpc.nSets = .ok nuc) (h4 : needed m t 4 768 (parseAnc m) = .ok anc) (h5 : needed m t 5 2304 (parseRad m) = .ok rad)
    (h32 : needed m t 32 1536 (parsePcv m) = .ok pcv) (h33 : needed m t 33 1664 (parseCch m) = .ok cch) :
    ∃ b, parseBundle m t = .ok b := by
  unfold parseBundle
  simp only [hheader, h1, h2, h3, hnuc, h4, h5, h32, h33, Bool.not_true, Bool.false_eq_true, if_false, bind, Except.bind]
  exact ⟨_, rfl⟩

/-- It verifies as a bundle. -/
theorem soundBundle_parses : ∃ b, parseBundle soundBundle 0x2000000 = .ok b := by
  obtain ⟨s1, s2, s3, s4, s5, s16, s17, s32, s33⟩ := soundBundle_sections
  obtain ⟨fpc, hfpc, hsets⟩ := (Option.any_eq_true _ _).mp soundBundle_fpc
  obtain ⟨anc, hanc⟩ := Option.isSome_iff_exists.mp soundBundle_anc
  obtain ⟨rad, hrad⟩ := Option.isSome_iff_exists.mp soundBundle_rad
  obtain ⟨pcv, hpcv⟩ := Option.isSome_iff_exists.mp soundBundle_pcv
  obtain ⟨cch, hcch⟩ := Option.isSome_iff_exists.mp soundBundle_cch
  obtain ⟨nuc, hnuc⟩ := Option.isSome_iff_exists.mp soundBundle_nuc
  have hone : parseNucs soundBundle 0x2000000 1 = .ok ([] ++ [nuc]) := parseNucs_of_next rfl (needed_of_section s16 hnuc)
  have hnucs : parseNucs soundBundle 0x2000000 fpc.nSets = .ok ([] ++ [nuc] ++ [nuc]) :=
    (eq_of_beq hsets).symm ▸ parseNucs_of_next hone (needed_of_section s17 hnuc)
  exact parseBundle_of_sections soundBundle_header (needed_of_section s1 hfpc) (needed_of_section s2 rfl) (needed_of_section s3 rfl) hnucs
    (needed_of_section s4 hanc) (needed_of_section s5 hrad) (needed_of_section s32 hpcv) (needed_of_section s33 hcch)

end Sys2Proof.Machine

namespace Sys2Proof.Machine

/-! ## A companion's bundle that verifies in SAFE (13 R298, 14 R317) -/

section
variable {s : State} (hm : s.mode = .safe)
include hm

theorem State.fault_in_safe_pb (id : Nat) : (s.fault id).mode = .safe ∧ (s.fault id).pb = s.pb := by
  unfold State.fault
  split
  · exact ⟨hm, rfl⟩
  · extract_lets recorded _ logged
    have hlogged : logged.mode = s.mode ∧ logged.pb = s.pb := by
      unfold logged
      split <;> exact ⟨rfl, rfl⟩
    rw [if_pos (hlogged.1.trans hm)]
    exact ⟨hlogged.1.trans hm, hlogged.2⟩

/-- In SAFE a placement prepares no frame. -/
theorem State.latchPlacement_in_safe (p : Pipe) (l : Nat) : (s.latchPlacement p l).mode = .safe ∧
    (s.latchPlacement p l).pb.armed = s.pb.armed := by
  unfold State.latchPlacement
  extract_lets latched online free stA stB
  have hlatched : latched.startView = s.startView := foldl_keeps State.startView _ (fun t i => t.sheafLatch_startView l i) _ s
  clear_value latched online
  split
  extract_lets placed ok posted _ marked
  have hplaced : placed.startView = latched.startView := State.modPl_startView _ _ _ rfl
  have hposted : posted.startView = placed.startView := by
    unfold posted
    split
    · rfl
    · exact State.post0_startView ..
  have hmarked : marked.startView = s.startView := (show marked.startView = posted.startView from rfl).trans (hposted.trans (hplaced.trans hlatched))
  clear_value marked
  have hmode : marked.mode = .safe := (congrArg (fun v : StartView => v.sup.mode) hmarked).trans hm
  have harmed : marked.pb.armed = s.pb.armed := congrArg (fun v : StartView => v.second.2.2.2) hmarked
  split
  · obtain ⟨hsafe, hpb⟩ := State.fault_in_safe_pb hmode 12
    exact ⟨hsafe, (congrArg Pl.armed hpb).trans harmed⟩
  · exact ⟨hmode, harmed⟩

theorem State.armPipe_in_safe : (s.armPipe .B).mode = .safe ∧ (s.armPipe .B).pb.armed = s.pb.armed := by
  have hplaced := State.latchPlacement_in_safe (s := s.takeSnapshot .B s.now) hm .B s.now
  unfold State.armPipe
  dsimp only
  rw [if_pos hplaced.1]
  exact hplaced

theorem State.companionUp_in_safe (b : Bundle) : (s.companionUp b).mode = .safe ∧ (s.companionUp b).pb.armed = s.pb.armed := by
  have hheld : (s.holdBundle b).1.mode = s.mode ∧ (s.holdBundle b).1.pb = s.pb := by
    unfold State.holdBundle
    split <;> exact ⟨rfl, rfl⟩
  unfold State.companionUp
  generalize s.holdBundle b = held at hheld ⊢
  obtain ⟨t, k⟩ := held
  obtain ⟨hmode, hpb⟩ := hheld
  have hsent (f : Settings → Settings) : (((t.placeBundle .B k).impose .B f).sendCmd 1 0 0).mode = s.mode ∧
      (((t.placeBundle .B k).impose .B f).sendCmd 1 0 0).pb.armed = s.pb.armed := by
    simp only [State.mode, State.sendCmd, State.sendPacket, State.noteSent_sup, State.noteSent_pb]
    have harmed : t.pb.armed = s.pb.armed := congrArg Pl.armed hpb
    exact ⟨hmode, harmed⟩
  have hsent' := hsent fun st => { st with bundle := k }
  dsimp only
  generalize ((t.placeBundle .B k).impose .B fun st => { st with bundle := k }).sendCmd 1 0 0 = w at hsent' ⊢
  obtain ⟨hsafe, harmed⟩ := State.armPipe_in_safe (s := w) (hsent'.1.trans hm)
  generalize w.armPipe .B = r at hsafe harmed ⊢
  simp only [State.mode, State.post0_sup, State.post0_pb]
  exact ⟨hsafe, harmed.trans hsent'.2⟩

end

/-- The chunk that completes a bundle that verifies brings the link to RUN (R298). -/
theorem State.chunkGot_of_complete {v : State} {i : Nat} {bytes : List Byte} {m : SMap Byte} {g : List Nat} {b : Bundle}
    (ha : v.awaitsBundle = true) (hc : m = v.nl.comp.chunks.write (4096 * i) (bytes.take 4096))
    (hg : g = if i ∈ v.nl.comp.got then v.nl.comp.got else i :: v.nl.comp.got) (h0 : 0 ∈ g)
    (hall : ∀ k, k < (headerTotal m + 4095) / 4096 → k ∈ g) (hb : parseBundle m (headerTotal m) = .ok b) :
    v.chunkGot i bytes true = (v.modComp fun c => { c with chunks := m, got := g }).companionUp b := by
  unfold State.chunkGot
  rw [ha, if_neg (by decide)]
  extract_lets noted c total
  have hnoted : noted = v.modComp fun c => { c with chunks := m, got := g } := by
    rw [hc, hg]
    simp only [noted, State.modComp, List.contains_iff_mem]
  have hwhole : (g.contains 0 && (List.range ((headerTotal m + 4095) / 4096)).all g.contains) = true := by
    simp only [Bool.and_eq_true, List.contains_iff_mem, List.all_eq_true, List.mem_range]
    exact ⟨h0, hall⟩
  have hjudge : (v.modComp fun c => { c with chunks := m, got := g }).judgeBundle (headerTotal m) true =
      (v.modComp fun c => { c with chunks := m, got := g }).companionUp b := by
    have hparse : parseBundle (v.modComp fun c => { c with chunks := m, got := g }).nl.comp.chunks (headerTotal m) = .ok b := hb
    simp only [State.judgeBundle, hparse, Bool.not_true, Bool.false_eq_true, if_false]
  simp only [total, c, hnoted]
  exact (if_pos hwhole).trans hjudge

theorem exec_chunk_of_whole {s u : State} {dt : Nat} {l : Fin 4} {i : RxItem} {y : Lane} {p : RxPacket} {sig : Bool} (hu : u = s.elapse dt)
    (hl : u.live = true) (hr : u.receives l.val = true) (h2 : 2 ≤ l.val) (hln : u.linkLane l.val = true)
    (ht : (u.lane l.val).takeItem i = (y, [.packet p])) (hk : p.kind = 2) (hb : p.blocks ≤ 512) :
    exec (.chunk dt l ⟨[i], sig⟩) s = .next ((u.modLane l.val (fun _ => y)).chunkGot p.tag p.bytes sig) := by
  have hhost : (u.modLane l.val (fun _ => y)).hostPacket p sig = (u.modLane l.val (fun _ => y)).chunkGot p.tag p.bytes sig := if_pos hk
  rw [exec_laneCommand (l := l) (rx := ⟨[i], sig⟩) hu hl (by simp [laneCommands]), State.receive_whole hr h2 hln ht (by simp [blocksOk, hk, hb]), hhost]

/-! ## The last chunk of a bundle, in SAFE -/

/-- A packet of the last chunk of a bundle of 32 MiB whose bytes beyond the first 16 KiB are 0: it brings none. -/
def lastChunk : RxPacket := ⟨2, 0, 0, 0, 8191, [], false, 3⟩

/-- Its end on a lane whose scrambler stands at 1. -/
def lastChunkEnd : RxItem := .block (ctrlBlock (scramble 1#31 (ctrlWord 0x4b 0)).1)

/-- A lane that has received it but for its end. -/
def lastChunkLane : Lane := { Lane.reset with state := 2, pos := 5, scrambler := 1#31, asm_ := some { lastChunk with age := 2 } }

/-- A module in SAFE that still receives the bundle of its companion, all of which has come. -/
def State.bundlingInSafe (m : SMap Byte) (g : List Nat) : State := { State.reset with
  sup := { State.reset.sup with mode := .safe, pipeB := true }
  nl := { State.reset.nl with
    lanes := [Lane.reset, Lane.reset, lastChunkLane, Lane.reset]
    comp := { Comp.reset with state := 3, lanes := 1, chunks := m, got := g } } }

theorem lastChunkLane_takes : ∃ y, lastChunkLane.takeItem lastChunkEnd = (y, [.packet lastChunk]) := by
  have h : (lastChunkLane.takeItem lastChunkEnd).2 = [.packet lastChunk] := by decide +kernel
  generalize lastChunkLane.takeItem lastChunkEnd = r at h ⊢
  exact ⟨r.1, Prod.ext rfl h⟩

theorem soundBundle_total : headerTotal soundBundle = 0x2000000 := by
  simp only [headerTotal, rd, bytes_soundBundle]
  decide +kernel

/-- What has come of the bundle stays as it is with the last chunk. -/
theorem State.bundlingInSafe_chunks (m : SMap Byte) (g : List Nat) :
    m = (State.bundlingInSafe m g).nl.comp.chunks.write (4096 * lastChunk.tag) (lastChunk.bytes.take 4096) := by
  have hbytes : lastChunk.bytes.take 4096 = [] := by decide +kernel
  rw [hbytes]
  rfl

theorem State.bundlingInSafe_got {m : SMap Byte} {g : List Nat} (h : lastChunk.tag ∈ g) :
    g = if lastChunk.tag ∈ (State.bundlingInSafe m g).nl.comp.got then (State.bundlingInSafe m g).nl.comp.got
      else lastChunk.tag :: (State.bundlingInSafe m g).nl.comp.got := (if_pos h).symm

/-- Refutes O41: a bundle that is complete and verifies in SAFE brings the link to RUN, but there the first frame of pipeline B is not
prepared, as the statement claims of every mode that stays. -/
theorem not_companionTrains : ¬ Obligations.CompanionTrains := by
  unfold Obligations.CompanionTrains
  rintro ⟨-, -, h⟩
  obtain ⟨y, hy⟩ := lastChunkLane_takes
  obtain ⟨b, hb⟩ := soundBundle_parses
  generalize hu : (State.bundlingInSafe soundBundle (List.range 8192)).elapse 0 = u
  have hsame : u = State.bundlingInSafe soundBundle (List.range 8192) := by
    rw [← hu, State.elapse_of_idle (by decide +kernel) (by decide +kernel)]
    rfl
  subst hsame
  obtain ⟨-, hpacket⟩ := h 0 2 lastChunkEnd y true lastChunk soundBundle (State.bundlingInSafe soundBundle (List.range 8192)) (State.bundlingInSafe soundBundle (List.range 8192)) _ hu.symm
    (by decide +kernel) (by decide +kernel) (by decide +kernel) (by decide) (by decide +kernel) rfl rfl (by decide) rfl rfl (State.bundlingInSafe_chunks _ _)
  obtain ⟨-, hdone⟩ := hpacket (List.range 8192) hy (State.bundlingInSafe_got (List.mem_range.mpr (by decide)))
  obtain ⟨-, -, hup⟩ := hdone (List.mem_range.mpr (by decide)) (fun k hk => by
    rw [soundBundle_total] at hk
    exact List.mem_range.mpr (by omega))
  rw [soundBundle_total] at hup
  obtain ⟨t, hexec, -, -, -, -, -, harmed⟩ := hup b rfl hb
  have hchunk := State.chunkGot_of_complete (v := (State.bundlingInSafe soundBundle (List.range 8192)).modLane (2 : Fin 4).val (fun _ => y)) (i := lastChunk.tag)
    (bytes := lastChunk.bytes) (b := b) rfl (State.bundlingInSafe_chunks _ _) (State.bundlingInSafe_got (List.mem_range.mpr (by decide)))
    (List.mem_range.mpr (by decide)) (fun k hk => by
      rw [soundBundle_total] at hk
      exact List.mem_range.mpr (by omega)) (by rw [soundBundle_total]; exact hb)
  have hrun := exec_chunk_of_whole (l := 2) (sig := true) hu.symm (by decide +kernel) (by decide +kernel) (by decide) (by decide +kernel) hy rfl
    (by decide)
  have ht := (Host.Outcome.next.inj (hrun.symm.trans hexec)).symm
  obtain ⟨hmode, hnone⟩ := State.companionUp_in_safe (s := ((State.bundlingInSafe soundBundle (List.range 8192)).modLane (2 : Fin 4).val (fun _ => y)).modComp
    fun c => { c with chunks := soundBundle, got := List.range 8192 }) rfl b
  rw [← hchunk] at hmode hnone
  rw [← ht] at hmode hnone
  exact Bool.false_ne_true (hnone.symm.trans (harmed hmode).1)

end Sys2Proof.Machine


/-! # What a module in SAFE leaves alone (14 R315, R317) -/

namespace Sys2Proof.Machine

/-- What a module in SAFE rests by: the mode, what is read, the first marker that is due, a transition, SAFE_N. -/
structure RestView where
  mode : Mode
  readsA : Bool
  readsB : Bool
  first : Option Nat
  trans : Bool
  safeN : Bool

/-- That part of a state. -/
def State.restView (s : State) : RestView :=
  ⟨s.sup.mode, s.pa.reading, s.pb.reading, s.plt.firstMarker, s.sup.trans, s.saf.safeN⟩

/-- The part of a state by its fields. -/
@[simp] theorem State.restView_mk (now : Nat) (pending : List Instr) (sup : Sup) (thm : Thm) (hif : Hif) (plt : Plt) (cch : Cch)
    (pa pb : Pl) (pcv : Pcv) (act : Act) (nl : Nl) (drm : Drm) (eng : Eng) (saf : Saf) (nv : Nv) :
    State.restView ⟨now, pending, sup, thm, hif, plt, cch, pa, pb, pcv, act, nl, drm, eng, saf, nv⟩ =
      ⟨sup.mode, pa.reading, pb.reading, plt.firstMarker, sup.trans, saf.safeN⟩ := by
  simp [State.restView]

@[simp] theorem State.restView_eta (s : State) :
    RestView.mk s.sup.mode s.pa.reading s.pb.reading s.plt.firstMarker s.sup.trans s.saf.safeN = s.restView := by
  simp [State.restView]

@[simp] theorem State.restView_ite (c : Prop) [Decidable c] (s t : State) :
    (if c then s else t).restView = if c then s.restView else t.restView := apply_ite ..

/-- A fold of steps that keep that part keeps it. -/
@[simp] theorem restView_foldl {α : Type} (f : State → α → State) (h : ∀ s a, (f s a).restView = s.restView)
    (l : List α) (s : State) : (l.foldl f s).restView = s.restView := foldl_keeps State.restView f h l s

/-! ## Steps of a pipeline that neither begin nor end its reading -/

section
variable (x : Pl)

@[simp] theorem Pl.modFrame_reading (n : Nat) (f : Frame → Frame) : (x.modFrame n f).reading = x.reading := by simp [Pl.modFrame]
@[simp] theorem Pl.clearGlean_reading : x.clearGlean.reading = x.reading := by simp [Pl.clearGlean]
@[simp] theorem Pl.raiseFloor_reading (v : Nat) : (x.raiseFloor v).reading = x.reading := by simp [Pl.raiseFloor]
@[simp] theorem Pl.commitTable_reading (t : SMap (Array Int)) (a : Nat) : (x.commitTable t a).reading = x.reading := by
  simp [Pl.commitTable]
@[simp] theorem Pl.contextChange_reading : x.contextChange.reading = x.reading := by simp [Pl.contextChange]
@[simp] theorem Pl.anchored_reading (t : NextTable) (bd t0 : Int) (now : Nat) : (x.anchored t bd t0 now).reading = x.reading := by
  simp [Pl.anchored]
@[simp] theorem Pl.taint_reading (n : Nat) : (x.taint n).reading = x.reading := by simp [Pl.taint]
@[simp] theorem Pl.runStripe_reading (b : Bundle) (f : Frame) (k : Nat) : (x.runStripe b f k).reading = x.reading := by simp [Pl.runStripe]
@[simp] theorem Pl.noteDone_reading (f : Frame) : (x.noteDone f).reading = x.reading := by simp [Pl.noteDone]
@[simp] theorem Pl.snapshot_reading (l : Nat) : (x.snapshot l).reading = x.reading := by simp [Pl.snapshot]
@[simp] theorem Pl.underrun_reading : x.underrun.reading = x.reading := by
  unfold Pl.underrun; split <;> rfl
@[simp] theorem Pl.contextMarker_reading (st : Settings) (held : Bool) : (x.contextMarker st held).reading = x.reading := by
  unfold Pl.contextMarker; dsimp only; (repeat' split) <;> rfl

end

/-! ## Operations on the state -/

section
variable (s : State)

/-- A pipeline put back with its reading as it was. -/
@[simp] theorem State.setPl_restView (p : Pipe) (x : Pl) (h : x.reading = (s.pl p).reading) : (s.setPl p x).restView = s.restView := by
  cases p
  · exact congrArg (fun b => RestView.mk s.sup.mode b s.pb.reading s.plt.firstMarker s.sup.trans s.saf.safeN) h
  · exact congrArg (fun b => RestView.mk s.sup.mode s.pa.reading b s.plt.firstMarker s.sup.trans s.saf.safeN) h

/-- A change of a pipeline that neither begins nor ends its reading. -/
@[simp] theorem State.modPl_restView (p : Pipe) (f : Pl → Pl) (h : (f (s.pl p)).reading = (s.pl p).reading) :
    (s.modPl p f).restView = s.restView := s.setPl_restView p (f (s.pl p)) h

end

end Sys2Proof.Machine


/-! # What the blocks of the plate side leave of the rest in SAFE (14 R315) -/

namespace Sys2Proof.Machine

/-! ### The shared operations -/

section
variable (s : State)

@[simp] theorem State.modRing_restView (x : Nat) (f : Ring → Ring) : (s.modRing x f).restView = s.restView := by simp [State.modRing]
@[simp] theorem State.sendMessage_restView (v : Nat) : (s.sendMessage v).restView = s.restView := by simp [State.sendMessage]
@[simp] theorem State.signal_restView (x : Nat) : (s.signal x).restView = s.restView := by simp [State.signal]

@[simp] theorem State.writeEvent_restView (code : Nat) (frame : Word) (gen pipe : Nat) (args : List Word) :
    (s.writeEvent code frame gen pipe args).restView = s.restView := by
  simp [State.writeEvent]

@[simp] theorem State.flushLost_restView : s.flushLost.restView = s.restView := by simp [State.flushLost]

@[simp] theorem State.post_restView (code : Nat) (frame : Word) (gen pipe : Nat) (args : List Word) :
    (s.post code frame gen pipe args).restView = s.restView := by
  simp [State.post]

@[simp] theorem State.post0_restView (code : Nat) (args : List Word) : (s.post0 code args).restView = s.restView := by simp [State.post0]

@[simp] theorem State.postP_restView (p : Pipe) (code : Nat) (args : List Word) : (s.postP p code args).restView = s.restView := by
  simp [State.postP]

@[simp] theorem State.complete_restView (tag : Word) (opcode status index : Nat) (result : List Word) :
    (s.complete tag opcode status index result).restView = s.restView := by
  simp [State.complete]

@[simp] theorem State.logCause_restView (kind code : Nat) (args : List Nat) : (s.logCause kind code args).restView = s.restView := by
  simp [State.logCause]

@[simp] theorem State.warnBit_restView (b : Nat) : (s.warnBit b).restView = s.restView := by simp [State.warnBit]
@[simp] theorem State.testRan_restView (n : Nat) (pass : Bool) : (s.testRan n pass).restView = s.restView := by simp [State.testRan]
@[simp] theorem State.injected_restView (n : Nat) (hit : Bool) : (s.injected n hit).restView = s.restView := by simp [State.injected]
@[simp] theorem State.modCh_restView (ch : Nat) (f : ActCh → ActCh) : (s.modCh ch f).restView = s.restView := by simp [State.modCh]

/-- A step at another instant. -/
@[simp] theorem State.asOf_restView (t : Nat) (f : State → State) (h : ∀ s, (f s).restView = s.restView) :
    (s.asOf t f).restView = s.restView := h { s with now := t }

@[simp] theorem State.coilHot_restView (ch theta : Nat) : (s.coilHot ch theta).restView = s.restView := by simp [State.coilHot]
@[simp] theorem State.checkHot_restView (ch : Nat) : (s.checkHot ch).restView = s.restView := by simp [State.checkHot]
@[simp] theorem State.heatCh_restView (ch t a n : Nat) : (s.heatCh ch t a n).restView = s.restView := by simp [State.heatCh]

@[simp] theorem State.heatTo_restView (ch : Nat) : (s.heatTo ch).restView = s.restView := by
  unfold State.heatTo
  (repeat' split) <;> simp

@[simp] theorem State.tick_restView (dt : Nat) : (s.tick dt).restView = s.restView := by simp [State.tick]
@[simp] theorem State.heat_restView : s.heat.restView = s.restView := by simp [State.heat]
@[simp] theorem State.modLane_restView (l : Nat) (f : Lane → Lane) : (s.modLane l f).restView = s.restView := by simp [State.modLane]
@[simp] theorem State.noteSent_restView (l : Nat) (ps : List NlPacket) : (s.noteSent l ps).restView = s.restView := by simp [State.noteSent]
@[simp] theorem State.egressLane_restView (l : Nat) : (s.egressLane l).restView = s.restView := by simp [State.egressLane]

@[simp] theorem State.transferEnd_restView (i : Nat) : (s.transferEnd i).restView = s.restView := by
  unfold State.transferEnd
  (repeat' split) <;> simp

@[simp] theorem State.egress_restView : s.egress.restView = s.restView := by simp [State.egress]
@[simp] theorem State.elapse_restView (dt : Nat) : (s.elapse dt).restView = s.restView := by simp [State.elapse]

@[simp] theorem State.postF_restView (p : Pipe) (f : Frame) (code : Nat) (args : List Word) :
    (s.postF p f code args).restView = s.restView := by
  simp [State.postF]

@[simp] theorem State.returnClaims_restView (f : Frame) : (s.returnClaims f).restView = s.restView := by
  unfold State.returnClaims
  induction f.claims with
  | nil => rfl
  | cons c l ih => simpa using ih

@[simp] theorem State.dropClaims_restView (gone : Nat → Bool) : (s.dropClaims gone).restView = s.restView := by simp [State.dropClaims]

@[simp] theorem State.duePulse_restView (ch : Nat) (o : Owner) (steps : Nat) : (s.duePulse ch o steps).restView = s.restView := by
  simp [State.duePulse]

@[simp] theorem State.sendPacket_restView (kind stream lane line tag : Nat) (payload : List Byte) :
    (s.sendPacket kind stream lane line tag payload).restView = s.restView := by
  simp [State.sendPacket]

@[simp] theorem State.sendCmd_restView (op arg8 arg16 : Nat) : (s.sendCmd op arg8 arg16).restView = s.restView := by simp [State.sendCmd]

@[simp] theorem State.abortOn_restView (i reason l : Nat) : (s.abortOn i reason l).restView = s.restView := by
  unfold State.abortOn
  dsimp only
  (repeat' split) <;> simp

@[simp] theorem State.sendAbort_restView (i : Nat) (reason : Nat) : (s.sendAbort i reason).restView = s.restView := by
  show ((s.abortOn i reason 0).abortOn i reason 1).restView = _
  simp

@[simp] theorem State.cutTransfer_restView (i reason : Nat) : (s.cutTransfer i reason).restView = s.restView := by
  unfold State.cutTransfer
  (repeat' split) <;> simp

@[simp] theorem State.cutCarried_restView (p : Option Pipe) (reason : Nat) : (s.cutCarried p reason).restView = s.restView := by
  simp [State.cutCarried]

@[simp] theorem State.shutterPulse_restView (p : Pipe) (o : Owner) : (s.shutterPulse p o).restView = s.restView := by
  unfold State.shutterPulse
  (repeat' split) <;> simp

@[simp] theorem State.countFailure_restView (p : Pipe) : (s.countFailure p).restView = s.restView := by simp [State.countFailure]

@[simp] theorem State.closeEvent_restView (p : Pipe) : (s.closeEvent p).restView = s.restView := by
  unfold State.closeEvent
  (repeat' split) <;> simp

@[simp] theorem State.failEvent_restView (p : Pipe) (reason : Nat) : (s.failEvent p reason).restView = s.restView := by
  unfold State.failEvent
  (repeat' split) <;> simp

@[simp] theorem State.issueOpen_restView (p : Pipe) : (s.issueOpen p).restView = s.restView := by
  unfold State.issueOpen
  (repeat' split) <;> simp

@[simp] theorem State.abortEvent_restView (p : Pipe) : (s.abortEvent p).restView = s.restView := by simp [State.abortEvent]
@[simp] theorem State.endCycles_restView : s.endCycles.restView = s.restView := by simp [State.endCycles]

@[simp] theorem State.dropWait_restView (sw reason : Nat) : (s.dropWait sw reason).restView = s.restView := by
  unfold State.dropWait
  (repeat' split) <;> simp

@[simp] theorem State.postSafe_restView : s.postSafe.restView = s.restView := by simp [State.postSafe]
@[simp] theorem State.serveLanes_restView (mask : Nat) : (s.serveLanes mask).restView = s.restView := by simp [State.serveLanes]
@[simp] theorem State.relayLink_restView (m : Mode) : (s.relayLink m).restView = s.restView := by simp [State.relayLink]
@[simp] theorem State.impose_restView (p : Pipe) (f : Settings → Settings) : (s.impose p f).restView = s.restView := by simp [State.impose]
@[simp] theorem State.leaveMode_restView (m : Mode) : (s.leaveMode m).restView = s.restView := by simp [State.leaveMode]
@[simp] theorem State.logBoot_restView : s.logBoot.restView = s.restView := by simp [State.logBoot]
@[simp] theorem State.accept_restView (p : Pipe) (f : Settings → Settings) : (s.accept p f).restView = s.restView := by simp [State.accept]

@[simp] theorem State.holdBundle_restView (b : Bundle) : (s.holdBundle b).1.restView = s.restView := by
  unfold State.holdBundle
  (repeat' split) <;> simp

@[simp] theorem State.endStreams_restView (p : Pipe) (codes : List Nat) : (s.endStreams p codes).restView = s.restView := by
  unfold State.endStreams
  dsimp only
  (repeat' split) <;> simp

@[simp] theorem State.unbind_restView (p : Pipe) (id : Nat) : (s.unbind p id).restView = s.restView := by
  unfold State.unbind
  (repeat' split) <;> simp

@[simp] theorem State.closeSession_restView (slot : Nat) : (s.closeSession slot).restView = s.restView := by
  unfold State.closeSession
  (repeat' split) <;> simp

@[simp] theorem State.hostLeaves_restView : s.hostLeaves.restView = s.restView := by simp [State.hostLeaves]

end

/-! ### Ledger records -/

section
variable (s : State)

@[simp] theorem State.recovered_restView (offset : Nat) (tookA crcWrong : Bool) :
    (s.recovered offset tookA crcWrong).restView = s.restView := by
  simp [State.recovered]

@[simp] theorem State.lost_restView (offset : Nat) : (s.lost offset).restView = s.restView := by simp [State.lost]

@[simp] theorem State.resolveRec_restView {α : Type} (r : Rec α) (offset : Nat) : (s.resolveRec r offset).restView = s.restView := by
  unfold State.resolveRec
  (repeat' split) <;> simp

@[simp] theorem State.readRec_restView {α : Type} (r : Rec α) (d : α) (offset : Nat) (put : Nv → Rec α → Nv) :
    (s.readRec r d offset put).restView = s.restView := by
  simp [State.readRec]

@[simp] theorem State.countTally_restView (t : Nat) : (s.countTally t).restView = s.restView := by simp [State.countTally]
@[simp] theorem State.countPulse_restView (t : Nat) : (s.countPulse t).restView = s.restView := by simp [State.countPulse]

end

/-! ### Actuators and the position sense (12) -/

section
variable (s : State)

@[simp] theorem State.coolingTick_restView : s.coolingTick.restView = s.restView := by simp [State.coolingTick]

@[simp] theorem State.startPulse_restView (ch : Nat) (o : Owner) (steps kick : Nat) (both : Bool) :
    (s.startPulse ch o steps kick both).restView = s.restView := by
  simp [State.startPulse]

@[simp] theorem State.endPulse_restView (ch : Nat) (t steps : Nat) : (s.endPulse ch t steps).restView = s.restView := by
  unfold State.endPulse
  (repeat' split) <;> simp

@[simp] theorem State.noteShutter_restView (o : Owner) : (s.noteShutter o).restView = s.restView := by
  unfold State.noteShutter
  (repeat' split) <;> simp

@[simp] theorem State.startOpen_restView (d : Due) : (s.startOpen d).restView = s.restView := by simp [State.startOpen]
@[simp] theorem State.dropPulse_restView (ch : Nat) : (s.dropPulse ch).restView = s.restView := by simp [State.dropPulse]
@[simp] theorem State.startReopen_restView (d : Due) : (s.startReopen d).restView = s.restView := by simp [State.startReopen]

@[simp] theorem State.startModule_restView (ch : Nat) (d : Due) (wash : Option Pipe) : (s.startModule ch d wash).restView = s.restView := by
  unfold State.startModule
  (repeat' split) <;> simp

@[simp] theorem State.startHost_restView (sw : Nat) : (s.startHost sw).restView = s.restView := by
  unfold State.startHost
  (repeat' split) <;> simp

@[simp] theorem State.pulseStart_restView (ch : Nat) : (s.pulseStart ch).restView = s.restView := by
  unfold State.pulseStart
  (repeat' split) <;> simp

@[simp] theorem State.kickEnd_restView (ch : Nat) : (s.kickEnd ch).restView = s.restView := by
  unfold State.kickEnd
  (repeat' split) <;> simp

@[simp] theorem State.pulseDone_restView (ch : Nat) : (s.pulseDone ch).restView = s.restView := by
  unfold State.pulseDone
  (repeat' split) <;> simp

@[simp] theorem State.channelFault_restView (ch kind : Nat) : (s.channelFault ch kind).restView = s.restView := by
  unfold State.channelFault
  (repeat' split) <;> simp

@[simp] theorem State.hostPulseDrop_restView (sw : Nat) : (s.hostPulseDrop sw).restView = s.restView := by
  unfold State.hostPulseDrop
  (repeat' split) <;> simp

@[simp] theorem State.actSupply_restView (vact vboost : Nat) : (s.actSupply vact vboost).restView = s.restView := by simp [State.actSupply]

@[simp] theorem State.queuePulse_restView (ch steps : Nat) (parallel : Bool) : (s.queuePulse ch steps parallel).restView = s.restView := by
  unfold State.queuePulse
  dsimp only
  (repeat' split) <;> simp

@[simp] theorem State.washPulse_restView (p : Pipe) (steps : Nat) : (s.washPulse p steps).restView = s.restView := by simp [State.washPulse]

@[simp] theorem State.openingPulse_restView (n : Nat) (o : Owner) : (s.openingPulse n o).restView = s.restView := by
  simp [State.openingPulse]

@[simp] theorem State.startOpening_restView (o : Owner) : (s.startOpening o).restView = s.restView := by simp [State.startOpening]

@[simp] theorem State.reportPosition_restView (p : Pipe) (pos : Nat) : (s.reportPosition p pos).restView = s.restView := by
  simp [State.reportPosition]

@[simp] theorem State.senseChange_restView (i : Nat) : (s.senseChange i).restView = s.restView := by simp [State.senseChange]

@[simp] theorem State.positionReport_restView (i : Nat) (level : Bool) : (s.positionReport i level).restView = s.restView := by
  unfold State.positionReport
  dsimp only
  (repeat' split) <;> simp

@[simp] theorem State.senseFaultEnd_restView (i : Nat) : (s.senseFaultEnd i).restView = s.restView := by
  unfold State.senseFaultEnd
  (repeat' split) <;> simp

@[simp] theorem State.writeActSense_restView (v : Word) : (s.writeActSense v).restView = s.restView := by simp [State.writeActSense]
@[simp] theorem State.parChange_restView (pair : Nat) : (s.parChange pair).restView = s.restView := by simp [State.parChange]

end

/-! ### Column channels (03) -/

section
variable (s : State)

@[simp] theorem State.setGrp_restView (g : Nat) (x : Group) : (s.setGrp g x).restView = s.restView := by simp [State.setGrp]
@[simp] theorem State.setChan_restView (g j : Nat) (x : Chan) : (s.setChan g j x).restView = s.restView := by simp [State.setChan]
@[simp] theorem State.collect_restView (x : SlotSamples) : (s.collect x).restView = s.restView := by simp [State.collect]
@[simp] theorem State.writeCchCtrl_restView (v : Word) : (s.writeCchCtrl v).restView = s.restView := by simp [State.writeCchCtrl]
@[simp] theorem State.writeCchReq_restView (v : Word) : (s.writeCchReq v).restView = s.restView := by simp [State.writeCchReq]

end

/-! ### Frame memory (10) -/

section
variable (s : State)

@[simp] theorem State.modDram_restView (c : Nat) (f : DramCh → DramCh) : (s.modDram c f).restView = s.restView := by simp [State.modDram]
@[simp] theorem State.startBatch_restView (c : Nat) : (s.startBatch c).restView = s.restView := by simp [State.startBatch]
@[simp] theorem State.batchDue_restView (c : Nat) : (s.batchDue c).restView = s.restView := by simp [State.batchDue]
@[simp] theorem State.refreshInterval_restView (c : Nat) : (s.refreshInterval c).restView = s.restView := by simp [State.refreshInterval]

@[simp] theorem State.fillSeen_restView (port : Nat) (fill : Nat × Nat) : (s.fillSeen port fill).restView = s.restView := by
  simp [State.fillSeen]

@[simp] theorem State.portSeen_restView (port : Nat) (o : PortObs) : (s.portSeen port o).restView = s.restView := by simp [State.portSeen]
@[simp] theorem State.portsSeen_restView (l : List (Fin 3 × PortObs)) : (s.portsSeen l).restView = s.restView := by simp [State.portsSeen]
@[simp] theorem State.allBankRefresh_restView (c : Nat) : (s.allBankRefresh c).restView = s.restView := by simp [State.allBankRefresh]
@[simp] theorem State.drainRefresh_restView : s.drainRefresh.restView = s.restView := by simp [State.drainRefresh]

@[simp] theorem State.activate_restView (c bank row n : Nat) (realTime : Bool) :
    (s.activate c bank row n realTime).restView = s.restView := by
  simp [State.activate]

@[simp] theorem State.guardAction_restView (c bank row : Nat) (realTime : Bool) :
    (s.guardAction c bank row realTime).restView = s.restView := by
  simp [State.guardAction]

@[simp] theorem State.clearActivation_restView : s.clearActivation.restView = s.restView := by
  unfold State.clearActivation
  (repeat' split) <;> simp

@[simp] theorem State.corrected_restView (c : Nat) (a : Word) : (s.corrected c a).restView = s.restView := by simp [State.corrected]
@[simp] theorem State.putBlock_restView (b : Nat) (x : MBlock) : (s.putBlock b x).restView = s.restView := by simp [State.putBlock]
@[simp] theorem State.stall_restView (op : MemOp) : (s.stall op).restView = s.restView := by simp [State.stall]

@[simp] theorem State.issue_restView (op : MemOp) : (s.issue op).restView = s.restView := by
  unfold State.issue
  (repeat' split) <;> simp

@[simp] theorem State.reissue_restView : s.reissue.restView = s.restView := by simp [State.reissue]

@[simp] theorem State.egressRead_restView (m : Master) (silos : List Nat) : (s.egressRead m silos).1.restView = s.restView := by
  unfold State.egressRead
  (repeat' split) <;> simp

@[simp] theorem State.placeBundle_restView (p : Pipe) (k : Nat) : (s.placeBundle p k).restView = s.restView := by simp [State.placeBundle]
@[simp] theorem State.freeHalves_restView : s.freeHalves.restView = s.restView := by simp [State.freeHalves]
@[simp] theorem State.dramReady_restView : s.dramReady.restView = s.restView := by simp [State.dramReady]

end

/-! ### Front pipes (04) -/

section
variable (s : State)

@[simp] theorem State.takeFrame_restView (p : Pipe) (f : Frame) (refFail : Bool) : (s.takeFrame p f refFail).restView = s.restView := by
  unfold State.takeFrame
  (repeat' split) <;> simp

@[simp] theorem State.endFrontPipe_restView (p : Pipe) (f : Frame) : (s.endFrontPipe p f).restView = s.restView := by
  simp [State.endFrontPipe]

@[simp] theorem State.frontRow_restView (p : Pipe) (o : PortObs) : (s.frontRow p o).restView = s.restView := by
  unfold State.frontRow
  (repeat' split) <;> simp

@[simp] theorem State.writeFpCtrl_restView (p : Pipe) (v : Word) : (s.writeFpCtrl p v).restView = s.restView := by simp [State.writeFpCtrl]

end

/-! ### Precision converters (11) -/

section
variable (s : State)

@[simp] theorem State.modEntry_restView (i : Nat) (f : Entry → Entry) : (s.modEntry i f).restView = s.restView := by simp [State.modEntry]
@[simp] theorem State.setModu_restView (m : Nat) (x : Modulator) : (s.setModu m x).restView = s.restView := by simp [State.setModu]

@[simp] theorem State.startConv_restView (m e t : Nat) (urgent : Bool) (queue : List Nat) :
    (s.startConv m e t urgent queue).restView = s.restView := by
  simp [State.startConv]

@[simp] theorem State.nextConv_restView (m t : Nat) : (s.nextConv m t).restView = s.restView := by
  unfold State.nextConv
  dsimp only
  (repeat' split) <;> simp

@[simp] theorem State.urgStat_restView (no status : Nat) : (s.urgStat no status).restView = s.restView := by simp [State.urgStat]
@[simp] theorem State.preempted_restView (u : Urg) : (s.preempted u).restView = s.restView := by simp [State.preempted]

/-- A request that finds room takes it. -/
theorem State.putUrgent_restView {s t : State} {m : Nat} {r : Urg} (h : s.putUrgent m r = some t) : t.restView = s.restView := by
  have hall : ∀ t ∈ s.putUrgent m r, t.restView = s.restView := by
    unfold State.putUrgent
    dsimp only
    (repeat' split) <;> simp
  exact hall t h

@[simp] theorem State.bladeResult_restView (t : Option Int) : (s.bladeResult t).restView = s.restView := by simp [State.bladeResult]
@[simp] theorem State.refusedBlade_restView : s.refusedBlade.restView = s.restView := by simp [State.refusedBlade]

@[simp] theorem State.rehomeUrgent_restView : s.rehomeUrgent.restView = s.restView := by
  unfold State.rehomeUrgent
  extract_lets held strays _ cleared
  split
  · rfl
  · refine foldl_keeps State.restView _ (fun v u => ?_) held cleared
    split
    · next t ht => exact State.putUrgent_restView ht
    · split <;> simp

@[simp] theorem State.beginPass_restView (t : Nat) : (s.beginPass t).restView = s.restView := by simp [State.beginPass]

@[simp] theorem State.passStart_restView : s.passStart.restView = s.restView := by
  unfold State.passStart
  (repeat' split) <;> simp

@[simp] theorem State.kickUrgent_restView (m : Nat) : (s.kickUrgent m).restView = s.restView := by
  unfold State.kickUrgent
  dsimp only
  (repeat' split) <;> simp

@[simp] theorem State.hostUrgent_restView (e : Nat) : (s.hostUrgent e).restView = s.restView := by
  unfold State.hostUrgent
  dsimp only
  split
  · simp
  · split
    · next t ht => rw [State.kickUrgent_restView, State.putUrgent_restView ht]; rfl
    · simp

@[simp] theorem State.moduleUrgent_restView (ch : Nat) : (s.moduleUrgent ch).restView = s.restView := by
  unfold State.moduleUrgent
  split
  · simp
  · dsimp only
    split
    · simp
    · split
      · next t ht => rw [State.kickUrgent_restView, State.putUrgent_restView ht]
      · simp

@[simp] theorem State.implausible_restView : s.implausible.restView = s.restView := by simp [State.implausible]

@[simp] theorem State.putResult_restView (c : Conv) (t : Nat) (x : Int) (ovr : Bool) (temp : Option Int) (range : Bool) :
    (s.putResult c t x ovr temp range).restView = s.restView := by
  simp [State.putResult]

@[simp] theorem State.keepTemp_restView (chan t : Nat) (temp : Option Int) : (s.keepTemp chan t temp).restView = s.restView := by
  unfold State.keepTemp
  (repeat' split) <;> simp

@[simp] theorem State.noteBlade_restView (c : Conv) (temp : Option Int) : (s.noteBlade c temp).restView = s.restView := by
  simp [State.noteBlade]

@[simp] theorem State.urgentDone_restView (m : Nat) (chan : Nat) : (s.urgentDone m chan).restView = s.restView := by
  unfold State.urgentDone
  dsimp only
  (repeat' split) <;> simp

@[simp] theorem State.triggerUsed_restView (e : Nat) : (s.triggerUsed e).restView = s.restView := by simp [State.triggerUsed]
@[simp] theorem State.cfgError_restView : s.cfgError.restView = s.restView := by simp [State.cfgError]

@[simp] theorem State.writeEntryCfg_restView (i : Nat) (v : Word) : (s.writeEntryCfg i v).restView = s.restView := by
  simp [State.writeEntryCfg]

@[simp] theorem State.writePcvCtrl_restView (v : Word) : (s.writePcvCtrl v).restView = s.restView := by simp [State.writePcvCtrl]
@[simp] theorem State.writePcvUrg_restView (v : Word) : (s.writePcvUrg v).restView = s.restView := by simp [State.writePcvUrg]
@[simp] theorem State.writeSwtrig_restView (v : Word) : (s.writeSwtrig v).restView = s.restView := by simp [State.writeSwtrig]

end

end Sys2Proof.Machine


/-! # What the blocks behind the plate leave of the rest in SAFE (14 R315) -/

namespace Sys2Proof.Machine

/-! ### Shutter events and anchoring (05) -/

section
variable (s : State)

@[simp] theorem State.estimate_restView (p : Pipe) (f : Frame) : (s.estimate p f).restView = s.restView := by
  unfold State.estimate
  extract_lets a x drifted timed far raised checked e anchor since counted noted
  have hd : drifted.reading = x.reading := by
    unfold drifted
    split <;> rfl
  have hc : checked.reading = x.reading := by
    unfold checked raised
    split
    · split <;> exact hd
    · exact hd
  exact s.setPl_restView p noted hc

@[simp] theorem State.postRequest_restView (p : Pipe) (urgent : Bool) : (s.postRequest p urgent).restView = s.restView := by
  simp [State.postRequest]

@[simp] theorem State.repostRequest_restView (p : Pipe) : (s.repostRequest p).restView = s.restView := by
  unfold State.repostRequest
  (repeat' split) <;> simp

@[simp] theorem State.grantLapse_restView (p : Pipe) : (s.grantLapse p).restView = s.restView := by
  unfold State.grantLapse
  (repeat' split) <;> simp

@[simp] theorem State.shutterDecision_restView (p : Pipe) (f : Frame) : (s.shutterDecision p f).restView = s.restView := by
  unfold State.shutterDecision
  dsimp only
  (repeat' split) <;> simp

@[simp] theorem State.beginEvent_restView (p : Pipe) (n : Nat) (slaved : Bool) : (s.beginEvent p n slaved).restView = s.restView := by
  unfold State.beginEvent
  dsimp only
  (repeat' split) <;> simp

@[simp] theorem State.askBlade_restView (p : Pipe) : (s.askBlade p).restView = s.restView := by
  unfold State.askBlade
  (repeat' split) <;> simp

@[simp] theorem State.eventMarker_restView (p : Pipe) (n : Nat) (st : Settings) (prev : Option Settings) :
    (s.eventMarker p n st prev).restView = s.restView := by
  unfold State.eventMarker
  dsimp only
  (repeat' split) <;> simp

@[simp] theorem State.eventLatch_restView (p : Pipe) (f : Frame) : (s.eventLatch p f).restView = s.restView := by
  unfold State.eventLatch
  (repeat' split) <;> simp

@[simp] theorem State.noClose_restView (p : Pipe) : (s.noClose p).restView = s.restView := by
  unfold State.noClose
  (repeat' split) <;> simp

@[simp] theorem State.endIdleEvent_restView (p : Pipe) : (s.endIdleEvent p).restView = s.restView := by
  unfold State.endIdleEvent
  dsimp only
  (repeat' split) <;> simp

@[simp] theorem State.formAnchor_restView (p : Pipe) : (s.formAnchor p).restView = s.restView := by
  unfold State.formAnchor
  dsimp only
  (repeat' split) <;> simp

@[simp] theorem State.startPersist_restView : s.startPersist.restView = s.restView := by simp [State.startPersist]
@[simp] theorem State.persist_restView : s.persist.restView = s.restView := by simp [State.persist]

@[simp] theorem State.persisted_restView : s.persisted.restView = s.restView := by
  unfold State.persisted
  (repeat' split) <;> simp

@[simp] theorem State.loadTable_restView : s.loadTable.restView = s.restView := by
  unfold State.loadTable
  (repeat' split) <;> simp

@[simp] theorem State.gleanFrame_restView (p : Pipe) (f : Frame) : (s.gleanFrame p f).restView = s.restView := by
  unfold State.gleanFrame
  dsimp only
  (repeat' split) <;> simp

@[simp] theorem State.gleanUpdate_restView (p : Pipe) : (s.gleanUpdate p).restView = s.restView := by
  unfold State.gleanUpdate
  dsimp only
  (repeat' split) <;> simp

@[simp] theorem State.commitAnchor_restView (p : Pipe) (t : NextTable) (bd t0 : Int) :
    (s.commitAnchor p t bd t0).restView = s.restView := by
  unfold State.commitAnchor
  cases p <;> simp

@[simp] theorem State.commitGlean_restView (p : Pipe) (t : NextTable) : (s.commitGlean p t).restView = s.restView := by
  unfold State.commitGlean
  extract_lets ok committed
  have hc : committed.restView = s.restView := by
    refine s.modPl_restView p _ ?_
    dsimp only
    split <;> rfl
  split
  · exact hc
  · exact hc

@[simp] theorem State.commitAtPour_restView (p : Pipe) : (s.commitAtPour p).restView = s.restView := by
  unfold State.commitAtPour
  (repeat' split) <;> simp

end

/-! ### The ledger (15) -/

section
variable (s : State)

@[simp] theorem State.bootRec_restView {α : Type} (r : Rec α) (offset : Nat) : (s.bootRec r offset).restView = s.restView := by
  unfold State.bootRec
  (repeat' split) <;> simp

@[simp] theorem State.resolveReports_restView : s.resolveReports.restView = s.restView := by simp [State.resolveReports]
@[simp] theorem State.putGuard_restView : s.putGuard.restView = s.restView := by simp [State.putGuard]
@[simp] theorem State.lockFrom_restView (who : Nat) : (s.lockFrom who).restView = s.restView := by simp [State.lockFrom]
@[simp] theorem State.readGuard_restView : s.readGuard.restView = s.restView := by simp [State.readGuard]
@[simp] theorem State.writeGuard_restView : s.writeGuard.restView = s.restView := by simp [State.writeGuard]
@[simp] theorem State.lockEvent_restView (who secs : Nat) : (s.lockEvent who secs).restView = s.restView := by simp [State.lockEvent]
@[simp] theorem State.authFailure_restView (who : Nat) : (s.authFailure who).restView = s.restView := by simp [State.authFailure]
@[simp] theorem State.authSuccess_restView (who : Nat) : (s.authSuccess who).restView = s.restView := by simp [State.authSuccess]
@[simp] theorem State.clearLock_restView (who : Nat) : (s.clearLock who).restView = s.restView := by simp [State.clearLock]

@[simp] theorem State.lockoutEnd_restView (who : Nat) : (s.lockoutEnd who).restView = s.restView := by
  unfold State.lockoutEnd
  (repeat' split) <;> simp

@[simp] theorem State.restoreLocks_restView (pwLost : List Bool) : (s.restoreLocks pwLost).restView = s.restView := by
  simp [State.restoreLocks]

@[simp] theorem State.ledgerBoot_restView : s.ledgerBoot.restView = s.restView := by simp [State.ledgerBoot]
@[simp] theorem State.writeTrim_restView (g : Nat) : (s.writeTrim g).restView = s.restView := by simp [State.writeTrim]
@[simp] theorem State.writeTrims_restView : s.writeTrims.restView = s.restView := by simp [State.writeTrims]

@[simp] theorem State.writeBias_restView : s.writeBias.restView = s.restView := by
  unfold State.writeBias
  (repeat' split) <;> simp

@[simp] theorem State.writeLog_restView : s.writeLog.restView = s.restView := by
  unfold State.writeLog
  (repeat' split) <;> simp

@[simp] theorem State.rewriteGuard_restView : s.rewriteGuard.restView = s.restView := by simp [State.rewriteGuard]
@[simp] theorem State.rewriteResid_restView : s.rewriteResid.restView = s.restView := by simp [State.rewriteResid]
@[simp] theorem State.operating_restView : s.operating.restView = s.restView := by simp [State.operating]
@[simp] theorem State.readKey_restView (k : Nat) : (s.readKey k).restView = s.restView := by simp [State.readKey]
@[simp] theorem State.readPw_restView (p : Nat) : (s.readPw p).restView = s.restView := by simp [State.readPw]

@[simp] theorem State.checkPassword_restView (p : Nat) (given : List Byte) (writing : Bool) :
    (s.checkPassword p given writing).1.restView = s.restView := by
  unfold State.checkPassword
  dsimp only
  (repeat' split) <;> simp

@[simp] theorem State.ledgerRead_restView (off len : Nat) (addr : BitVec 64) (block : Option (List Byte)) :
    (s.ledgerRead off len addr block).1.restView = s.restView := by
  unfold State.ledgerRead
  dsimp only
  split
  · rfl
  · split
    · next p o b _ =>
      have h := s.checkPassword_restView p (takeBytes 16 b) false
      split
      · next t ht => rw [ht] at h; exact h
      · exact h
    all_goals rfl

@[simp] theorem State.writeKey_restView (k : Nat) (b : List Byte) : (s.writeKey k b).restView = s.restView := by simp [State.writeKey]

@[simp] theorem State.ledgerWrite_restView (maint : Bool) (off len : Nat) (addr : BitVec 64) (block : Option (List Byte)) :
    (s.ledgerWrite maint off len addr block).1.restView = s.restView := by
  unfold State.ledgerWrite
  split
  · rfl
  · split
    · rfl
    · rfl
    · next p o _ =>
      split
      · rfl
      · next b =>
        have h := s.checkPassword_restView p (takeBytes 16 b) true
        split
        · next t ht => rw [ht] at h; exact h
        · exact h
    · dsimp only
      (repeat' split) <;> simp
    · dsimp only
      (repeat' split) <;> simp

end

/-! ### The engine array (08) -/

section
variable (s : State)

@[simp] theorem State.modSheaf_restView (i : Nat) (f : Sheaf → Sheaf) : (s.modSheaf i f).restView = s.restView := by simp [State.modSheaf]
@[simp] theorem State.failSheaf_restView (i : Nat) : (s.failSheaf i).restView = s.restView := by simp [State.failSheaf]
@[simp] theorem State.sheafLatch_restView (l i : Nat) : (s.sheafLatch l i).restView = s.restView := by simp [State.sheafLatch]
@[simp] theorem State.modUnit_restView (i : Nat) (f : UnitCnt → UnitCnt) : (s.modUnit i f).restView = s.restView := by simp [State.modUnit]

@[simp] theorem State.mismatch_restView (p : Pipe) (f : Frame) (c : Check) : (s.mismatch p f c).restView = s.restView := by
  unfold State.mismatch
  dsimp only
  rw [State.postF_restView, State.modPl_restView _ _ _ (by simp), State.modSheaf_restView, State.modSheaf_restView]
  simp

@[simp] theorem State.checkPassed_restView (c : Check) : (s.checkPassed c).restView = s.restView := by simp [State.checkPassed]

@[simp] theorem State.stripeChecks_restView (p : Pipe) (f : Frame) (k : Nat) (bad : List (Fin 16)) :
    (s.stripeChecks p f k bad).restView = s.restView := by
  simp [State.stripeChecks]

@[simp] theorem State.sramFails_restView (p : Pipe) (engine : Nat) (held : List Word) :
    (s.sramFails p engine held).restView = s.restView :=
  State.sramFails_keeps (P := fun t => t.restView = s.restView) rfl (fun t f n h => by
    unfold State.failOnEngine
    dsimp only
    rw [State.postF_restView, State.modPl_restView _ _ _ (by simp), restView_foldl _ (fun _ _ => State.modUnit_restView _ _ _), h]) held

@[simp] theorem State.sramCorrected_restView (es : List (Fin 128)) : (s.sramCorrected es).restView = s.restView := by
  simp [State.sramCorrected]

@[simp] theorem State.engineSramUe_restView (engine : Nat) (heldA heldB : List Word) :
    (s.engineSramUe engine heldA heldB).restView = s.restView := by
  simp [State.engineSramUe]

@[simp] theorem State.refuseOffline_restView (i : Nat) : (s.refuseOffline i).restView = s.restView := by simp [State.refuseOffline]

@[simp] theorem State.requestSheaf_restView (i : Nat) (off ret : Bool) : (s.requestSheaf i off ret).restView = s.restView := by
  simp [State.requestSheaf]

@[simp] theorem State.offlineReq_restView (i : Nat) : (s.offlineReq i).restView = s.restView := by simp [State.offlineReq]
@[simp] theorem State.returnReq_restView (i : Nat) : (s.returnReq i).restView = s.restView := by simp [State.returnReq]
@[simp] theorem State.sheafDrained_restView (i : Nat) : (s.sheafDrained i).restView = s.restView := by simp [State.sheafDrained]
@[simp] theorem State.startTest_restView (i : Nat) (sched : Bool) : (s.startTest i sched).restView = s.restView := by simp [State.startTest]
@[simp] theorem State.testReq_restView (i : Nat) : (s.testReq i).restView = s.restView := by simp [State.testReq]
@[simp] theorem State.sheafTest_restView (i : Nat) (pass : Bool) : (s.sheafTest i pass).restView = s.restView := by simp [State.sheafTest]

@[simp] theorem State.sheafRetest_restView (i : Nat) : (s.sheafRetest i).restView = s.restView := by
  unfold State.sheafRetest
  dsimp only
  (repeat' split) <;> simp

end

/-! ### Services (09) -/

section
variable (s : State)

@[simp] theorem State.radiometryRect_restView (p : Pipe) (f : Frame) (b : Rad) (r : Rect) (i : Nat) :
    (s.radiometryRect p f b r i).restView = s.restView := by
  simp [State.radiometryRect]

@[simp] theorem State.radiometry_restView (p : Pipe) (f : Frame) (b : Rad) : (s.radiometry p f b).restView = s.restView := by
  simp [State.radiometry]

@[simp] theorem State.postObscuration_restView (p : Pipe) (f : Frame) (zs : List ZoneObs) :
    (s.postObscuration p f zs).restView = s.restView := by
  simp [State.postObscuration]

@[simp] theorem State.wash_restView (p : Pipe) (f : Frame) (zs : List ZoneObs) : (s.wash p f zs).restView = s.restView := by
  simp [State.wash]

@[simp] theorem State.obscuration_restView (p : Pipe) (f : Frame) (x : Stats) : (s.obscuration p f x).restView = s.restView := by
  simp [State.obscuration]

@[simp] theorem State.washLatch_restView (p : Pipe) : (s.washLatch p).restView = s.restView := by simp [State.washLatch]

end

/-! ### Stripes and pours (07) -/

section
variable (s : State)

@[simp] theorem State.deliver_restView (d : Delivery) : (s.deliver d).restView = s.restView := by simp [State.deliver]

@[simp] theorem State.claim_restView (p : Pipe) (f : Frame) (x : Nat × Nat × Nat) : (s.claim p f x).restView = s.restView := by
  obtain ⟨r, k, cam⟩ := x
  unfold State.claim
  dsimp only
  (repeat' split) <;> simp

@[simp] theorem State.finishStripes_restView (p : Pipe) (b : Bundle) (f : Frame) : (s.finishStripes p b f).restView = s.restView := by
  unfold State.finishStripes
  extract_lets x mapped windowed _ counted shown
  have hs : shown.restView = s.restView := counted.modPl_restView p _ rfl
  split
  · rw [State.modPl_restView _ _ _ (by simp), hs]
  · rw [State.modPl_restView _ _ _ (by simp), restView_foldl _ (fun _ _ => State.claim_restView _ _ _ _), hs]

@[simp] theorem State.stripeWork_restView (p : Pipe) (f : Frame) (bad : List (Fin 16)) : (s.stripeWork p f bad).restView = s.restView := by
  unfold State.stripeWork
  extract_lets b k _ worked begun
  have hb : begun.restView = s.restView := by
    unfold begun
    split
    · exact worked.modPl_restView p _ rfl
    · rfl
  split
  · exact hb
  · dsimp only
    (repeat' split) <;> simp [hb]

@[simp] theorem State.deliverClaim_restView (p : Pipe) (f : Frame) (i : PourInfo) (c : Claim) :
    (s.deliverClaim p f i c).restView = s.restView := by
  simp [State.deliverClaim]

@[simp] theorem State.offerStream_restView (p : Pipe) (f : Frame) (info : PourInfo) (i : Nat) :
    (s.offerStream p f info i).restView = s.restView := by
  unfold State.offerStream
  (repeat' split) <;> simp

@[simp] theorem State.services_restView (p : Pipe) (f : Frame) : (s.services p f).restView = s.restView := by
  unfold State.services
  (repeat' split) <;> simp

@[simp] theorem State.notePour_restView (p : Pipe) (f : Frame) (gen : Nat) : (s.notePour p f gen).restView = s.restView := by
  unfold State.notePour
  (repeat' split) <;> simp

@[simp] theorem State.signalShared_restView (xs : List Nat) : (s.signalShared xs).restView = s.restView := by simp [State.signalShared]

@[simp] theorem State.release_restView (p : Pipe) (f : Frame) : (s.release p f).restView = s.restView := by
  unfold State.release
  dsimp only
  rw [State.modPl_restView _ _ _ (by simp), State.gleanFrame_restView, State.commitAtPour_restView, State.services_restView,
    State.offerStream_restView, State.offerStream_restView, State.notePour_restView, State.signalShared_restView]
  simp

@[simp] theorem State.pour_restView (p : Pipe) (n : Nat) : (s.pour p n).restView = s.restView := by
  unfold State.pour
  (repeat' split) <;> simp

@[simp] theorem State.countRef_restView (n : Nat) : (s.countRef n).restView = s.restView := by simp [State.countRef]

end

/-! ### The NL lanes as they send (13) -/

section
variable (s : State)

@[simp] theorem State.modComp_restView (f : Comp → Comp) : (s.modComp f).restView = s.restView := by simp [State.modComp]
@[simp] theorem State.nlConfig_restView (off : Nat) : (s.nlConfig off).restView = s.restView := by simp [State.nlConfig]
@[simp] theorem State.writeEgrEn_restView (v : Word) : (s.writeEgrEn v).restView = s.restView := by simp [State.writeEgrEn]

@[simp] theorem State.egressLaneChange_restView : s.egressLaneChange.restView = s.restView := by
  unfold State.egressLaneChange
  (repeat' split) <;> simp

@[simp] theorem State.writeLaneCfg_restView (l : Nat) (v : Word) : (s.writeLaneCfg l v).restView = s.restView := by
  simp [State.writeLaneCfg]

@[simp] theorem State.writeInject_restView (l : Nat) (v : Word) : (s.writeInject l v).restView = s.restView := by simp [State.writeInject]

@[simp] theorem State.prbsLocked_restView (l : Nat) (bits : List Bool) : (s.prbsLocked l bits).restView = s.restView := by
  simp [State.prbsLocked]

@[simp] theorem State.sendChunk_restView (i : Nat) : (s.sendChunk i).restView = s.restView := by
  unfold State.sendChunk
  (repeat' split) <;> simp

@[simp] theorem State.sendBundle_restView : s.sendBundle.restView = s.restView := by
  unfold State.sendBundle
  (repeat' split) <;> simp

@[simp] theorem State.relayRow_restView (n j : Nat) (a b : Array (BitVec 16)) : (s.relayRow n j a b).restView = s.restView := by
  simp [State.relayRow]

end

/-! ### The plate (02) -/

section
variable (s : State)

@[simp] theorem State.commitResult_restView (r : Nat) : (s.commitResult r).restView = s.restView := by simp [State.commitResult]
@[simp] theorem State.commit_restView (v : Word) : (s.commit v).restView = s.restView := by simp [State.commit]
@[simp] theorem State.commitDone_restView : s.commitDone.restView = s.restView := by simp [State.commitDone]
@[simp] theorem State.unlock_restView (cause : Nat) : (s.unlock cause).restView = s.restView := by simp [State.unlock]
@[simp] theorem State.placeEdge_restView (f : Frame) : (s.placeEdge f).restView = s.restView := by simp [State.placeEdge]

@[simp] theorem State.fsyncEdge_restView : s.fsyncEdge.restView = s.restView := by
  unfold State.fsyncEdge
  dsimp only
  (repeat' split) <;> simp

@[simp] theorem State.noisyEnd_restView : s.noisyEnd.restView = s.restView := by simp [State.noisyEnd]
@[simp] theorem State.fsyncStuck_restView (level : Bool) : (s.fsyncStuck level).restView = s.restView := by simp [State.fsyncStuck]

@[simp] theorem State.judgePlacement_restView (f : Frame) : (s.judgePlacement f).restView = s.restView := by
  unfold State.judgePlacement
  (repeat' split) <;> simp

@[simp] theorem State.judgeEdges_restView (f : Frame) : (s.judgeEdges f).restView = s.restView := by simp [State.judgeEdges]

@[simp] theorem State.takeSnapshot_restView (p : Pipe) (l : Nat) : (s.takeSnapshot p l).restView = s.restView := by
  unfold State.takeSnapshot
  (repeat' split) <;> simp

@[simp] theorem State.leaveImaging_restView (p : Pipe) : (s.leaveImaging p).restView = s.restView := by simp [State.leaveImaging]

@[simp] theorem State.rowSlot_restView (x : SlotSamples) : (s.rowSlot x).restView = s.restView := by
  unfold State.rowSlot
  (repeat' split) <;> simp

end

/-! ### Boot (17) -/

section
variable (s : State)

@[simp] theorem State.stepDone_restView (n : Nat) : (s.stepDone n).restView = s.restView := by simp [State.stepDone]
@[simp] theorem State.bootLink_restView (speed width : Nat) : (s.bootLink speed width).restView = s.restView := by simp [State.bootLink]

@[simp] theorem State.bootEngines_restView (fails : List (Fin 16)) : (s.bootEngines fails).restView = s.restView := by
  simp [State.bootEngines]

@[simp] theorem State.installBundle_restView (b : Bundle) : (s.installBundle b).restView = s.restView := by simp [State.installBundle]
@[simp] theorem State.noBundle_restView : s.noBundle.restView = s.restView := by simp [State.noBundle]

@[simp] theorem State.bootBundle_restView (sig : List Bool) : (s.bootBundle sig).restView = s.restView := by
  unfold State.bootBundle
  dsimp only
  (repeat' split) <;> simp

@[simp] theorem State.loadGroup_restView (g : Nat) (r : TrimGroup) : (s.loadGroup g r).restView = s.restView := by simp [State.loadGroup]
@[simp] theorem State.loadTrims_restView : s.loadTrims.restView = s.restView := by simp [State.loadTrims]
@[simp] theorem State.bootBias_restView : s.bootBias.restView = s.restView := by simp [State.bootBias]
@[simp] theorem State.bootShutter_restView : s.bootShutter.restView = s.restView := by simp [State.bootShutter]
@[simp] theorem State.settleEnd_restView : s.settleEnd.restView = s.restView := by simp [State.settleEnd]
@[simp] theorem State.takeCool_restView (m : Mode) : (s.takeCool m).restView = s.restView := by simp [State.takeCool]

end

end Sys2Proof.Machine


/-! # What the link, the commands and the registers leave of the rest in SAFE (14 R315) -/

namespace Sys2Proof.Machine

/-! ### The companion link (13) -/

section
variable (s : State)

@[simp] theorem State.loseHost_restView : s.loseHost.restView = s.restView := by simp [State.loseHost]
@[simp] theorem State.leaveDetect_restView (l : Nat) : (s.leaveDetect l).restView = s.restView := by simp [State.leaveDetect]
@[simp] theorem State.trainFail_restView (stage : Nat) : (s.trainFail stage).restView = s.restView := by simp [State.trainFail]
@[simp] theorem State.enterBundle_restView : s.enterBundle.restView = s.restView := by simp [State.enterBundle]
@[simp] theorem State.trainBlock_restView (l : Nat) (b : TrnBlock) : (s.trainBlock l b).restView = s.restView := by simp [State.trainBlock]
@[simp] theorem State.trainTimeout_restView : s.trainTimeout.restView = s.restView := by simp [State.trainTimeout]
@[simp] theorem State.bundleTimeout_restView : s.bundleTimeout.restView = s.restView := by simp [State.bundleTimeout]

@[simp] theorem State.detectRetry_restView : s.detectRetry.restView = s.restView := by
  unfold State.detectRetry
  (repeat' split) <;> simp

@[simp] theorem State.chunkLost_restView (i : Nat) : (s.chunkLost i).restView = s.restView := by simp [State.chunkLost]

@[simp] theorem State.spoilB_restView : s.spoilB.restView = s.restView := by
  unfold State.spoilB
  (repeat' split) <;> simp

@[simp] theorem State.headerReports_restView (h : CompHeader) : (s.headerReports h).restView = s.restView := by simp [State.headerReports]
@[simp] theorem State.judgeRate_restView (h : CompHeader) : (s.judgeRate h).1.restView = s.restView := by simp [State.judgeRate]

@[simp] theorem State.coeffGot_restView (c : Array (Int × Int)) : (s.coeffGot c).restView = s.restView := by
  unfold State.coeffGot
  (repeat' split) <;> simp

@[simp] theorem State.lastRow_restView (kind row : Nat) : (s.lastRow kind row).restView = s.restView := by
  unfold State.lastRow
  dsimp only
  (repeat' split) <;> simp

@[simp] theorem State.pairRows_restView (f : Frame) : (s.pairRows f).restView = s.restView := by
  unfold State.pairRows
  (repeat' split) <;> simp

@[simp] theorem State.rowGot_restView (kind row : Nat) (x : Array (BitVec 16)) : (s.rowGot kind row x).restView = s.restView := by
  unfold State.rowGot
  (repeat' split) <;> simp

@[simp] theorem State.partLost_restView (kind row : Nat) : (s.partLost kind row).restView = s.restView := by simp [State.partLost]
@[simp] theorem State.linkUp_restView : s.linkUp.restView = s.restView := by simp [State.linkUp]
@[simp] theorem State.cmdRun_restView : s.cmdRun.restView = s.restView := by simp [State.cmdRun]
@[simp] theorem State.cmdRetry_restView (i : Nat) : (s.cmdRetry i).restView = s.restView := by simp [State.cmdRetry]
@[simp] theorem State.cmdPulse_restView (atMarker : Bool) : (s.cmdPulse atMarker).restView = s.restView := by simp [State.cmdPulse]
@[simp] theorem State.cmdBlade_restView : s.cmdBlade.restView = s.restView := by simp [State.cmdBlade]
@[simp] theorem State.cmdStop_restView : s.cmdStop.restView = s.restView := by simp [State.cmdStop]

@[simp] theorem State.relayPacket_restView (p : RxPacket) : (s.relayPacket p).restView = s.restView := by
  unfold State.relayPacket
  (repeat' split) <;> simp

end

/-! ### Thermal management and idling (16) -/

section
variable (s : State)

@[simp] theorem State.slowSampling_restView : s.slowSampling.restView = s.restView := by simp [State.slowSampling]
@[simp] theorem State.thermalWarn_restView : s.thermalWarn.restView = s.restView := by simp [State.thermalWarn]
@[simp] theorem State.acceptCool_restView (on : Bool) : (s.acceptCool on).restView = s.restView := by simp [State.acceptCool]
@[simp] theorem State.thermalRearm_restView : s.thermalRearm.restView = s.restView := by simp [State.thermalRearm]
@[simp] theorem State.thermalGrace_restView : s.thermalGrace.restView = s.restView := by simp [State.thermalGrace]
@[simp] theorem State.thermalEnforce_restView : s.thermalEnforce.restView = s.restView := by simp [State.thermalEnforce]
@[simp] theorem State.thermalRelease_restView : s.thermalRelease.restView = s.restView := by simp [State.thermalRelease]
@[simp] theorem State.enterDepth_restView (d : Nat) : (s.enterDepth d).restView = s.restView := by simp [State.enterDepth]
@[simp] theorem State.idleDepth_restView : s.idleDepth.restView = s.restView := by simp [State.idleDepth]

@[simp] theorem State.startWake_restView (dest : Nat) : (s.startWake dest).restView = s.restView := by
  unfold State.startWake
  (repeat' split) <;> simp

@[simp] theorem State.wakeComplete_restView : s.wakeComplete.restView = s.restView := by
  unfold State.wakeComplete
  split
  · rfl
  · split
    · rfl
    · extract_lets old _ slept awake cleared
      have ha : awake.restView = s.restView := by
        unfold awake
        split <;> rfl
      have hc : cleared.restView = s.restView := by
        unfold cleared
        split <;> simp [ha]
      split <;> simp [hc]

@[simp] theorem State.wakeIn_restView : s.wakeIn.restView = s.restView := by simp [State.wakeIn]
@[simp] theorem State.wakeInFall_restView : s.wakeInFall.restView = s.restView := by simp [State.wakeInFall]
@[simp] theorem State.latencySet_restView (wakeUs : Nat) : (s.latencySet wakeUs).restView = s.restView := by simp [State.latencySet]

end

/-! ### Host commands -/

section
variable (s : State)

@[simp] theorem answer_restView (status : Nat) : (answer s status).s.restView = s.restView := by simp [answer]
@[simp] theorem answerOk_restView (result : List Word) : (answerOk s result).s.restView = s.restView := by simp [answerOk]
@[simp] theorem answerDma_restView (addr : BitVec 64) : (answerDma s addr).s.restView = s.restView := by simp [answerDma]

@[simp] theorem State.cmdSessionOpen_restView (role : Nat) (handle : Word) (nonce : BitVec 128) :
    (s.cmdSessionOpen role handle nonce).s.restView = s.restView := by
  unfold State.cmdSessionOpen
  dsimp only
  (repeat' split) <;> simp

@[simp] theorem State.cmdSessionAuth_restView (handle : Word) (mac : List Byte) :
    (s.cmdSessionAuth handle mac).s.restView = s.restView := by
  unfold State.cmdSessionAuth
  (repeat' split) <;> simp

@[simp] theorem State.cmdSessionClose_restView (h : Word) : (s.cmdSessionClose h).s.restView = s.restView := by
  unfold State.cmdSessionClose
  (repeat' split) <;> simp

@[simp] theorem State.nonceExpiry_restView (i : Nat) : (s.nonceExpiry i).restView = s.restView := by
  unfold State.nonceExpiry
  (repeat' split) <;> simp

@[simp] theorem State.cmdIdentify_restView : s.cmdIdentify.s.restView = s.restView := by simp [State.cmdIdentify]

@[simp] theorem State.cmdActPulse_restView (ch parallel steps : Nat) : (s.cmdActPulse ch parallel steps).s.restView = s.restView := by
  simp [State.cmdActPulse]

@[simp] theorem State.cmdCameraBind_restView (h : Word) (pipe : Byte) : (s.cmdCameraBind h pipe).s.restView = s.restView := by
  unfold State.cmdCameraBind
  (repeat' split) <;> simp

@[simp] theorem State.cmdCameraUnbind_restView (h : Word) (id : Nat) : (s.cmdCameraUnbind h id).s.restView = s.restView := by
  unfold State.cmdCameraUnbind
  (repeat' split) <;> simp

@[simp] theorem State.bindStreams_restView : s.bindStreams.restView = s.restView := by
  unfold State.bindStreams
  dsimp only
  rw [restView_foldl _ (fun t x => ?_), restView_foldl _ (fun t p => ?_)]
  · exact State.endStreams_restView ..
  · (repeat' split) <;> rfl

@[simp] theorem State.setCams_restView (p : Pipe) (cams : List Camera) : (s.setCams p cams).restView = s.restView := by simp [State.setCams]

@[simp] theorem State.postPreempted_restView (p : Pipe) (id : Nat) (out : List (Nat × Nat)) :
    (s.postPreempted p id out).restView = s.restView := by
  simp [State.postPreempted]

/-- The set of the secondary camera gives way. -/
theorem State.overrule_restView {s t : State} {p : Pipe} {all : List Camera} {code : Nat} (h : s.overrule p all code = .ok t) :
    t.restView = s.restView := by
  cases ha : all.find? (fun c => !c.secondary) with
  | none =>
    rw [State.overrule_of_single _ (Or.inl ha)] at h
    cases h
  | some a =>
    cases he : all.find? Camera.secondary with
    | none =>
      rw [State.overrule_of_single _ (Or.inr he)] at h
      cases h
    | some e =>
      by_cases hown : s.budgetWith p [a] = 0
      · rw [← Except.ok.inj ((State.overrule_of_fits _ ha he hown).symm.trans h)]
        simp
      · rw [State.overrule_of_own _ ha he hown] at h
        cases h

@[simp] theorem State.declareSets_restView (p : Pipe) (c : Camera) : (s.declareSets p c).s.restView = s.restView := by
  by_cases hf : s.budgetWith p (replaceCam (s.cams p) c) = 0
  · rw [State.declareSets_of_fits hf]
    simp
  · cases hc : c.secondary with
    | true =>
      rw [State.declareSets_of_secondary hf hc]
      simp
    | false =>
      cases ho : s.overrule p (replaceCam (s.cams p) c) (s.budgetWith p (replaceCam (s.cams p) c)) with
      | ok t => rw [State.declareSets_of_ok hf hc ho, answerOk_restView, State.overrule_restView ho]
      | error k =>
        rw [State.declareSets_of_error hf hc ho]
        simp

@[simp] theorem State.cmdProductSet_restView (h : Word) (id : Nat) (dest : List Nat) (cool : Nat) :
    (s.cmdProductSet h id dest cool).s.restView = s.restView := by
  unfold State.cmdProductSet
  dsimp only
  (repeat' split) <;> simp

@[simp] theorem State.setPipeB_restView (on : Bool) (frate : Nat) : (s.setPipeB on frate).restView = s.restView := by simp [State.setPipeB]

@[simp] theorem State.cmdSiloSet_restView (pipe : Byte) (frames : Nat) : (s.cmdSiloSet pipe frames).s.restView = s.restView := by
  unfold State.cmdSiloSet
  (repeat' split) <;> simp

@[simp] theorem State.applyBlock_restView (p : Pipe) (group : Nat) (b : List Byte) : (s.applyBlock p group b).s.restView = s.restView := by
  unfold State.applyBlock
  dsimp only
  (repeat' split) <;> simp

@[simp] theorem State.cmdParamSet_restView (h : Word) (r : Role) (pipe : Byte) (group length : Nat) (addr : BitVec 64)
    (block : Option (List Byte)) :
    (s.cmdParamSet h r pipe group length addr block).s.restView = s.restView := by
  unfold State.cmdParamSet
  dsimp only
  (repeat' split) <;> simp

@[simp] theorem State.cmdServiceEnable_restView (h : Word) (pipe : Byte) (mask : Nat) :
    (s.cmdServiceEnable h pipe mask).s.restView = s.restView := by
  unfold State.cmdServiceEnable
  split
  · simp
  · dsimp only
    split
    · simp
    · split
      · simp
      · split
        · simp
        · split
          · next t ht => rw [answerOk_restView, State.overrule_restView ht, State.accept_restView]
          · simp

@[simp] theorem State.cmdShutterGrant_restView (h : Word) (pipe : Byte) (force start length : Nat) :
    (s.cmdShutterGrant h pipe force start length).s.restView = s.restView := by
  unfold State.cmdShutterGrant
  (repeat' split) <;> simp

@[simp] theorem State.cmdShutterPolicy_restView (h : Word) (pipe : Byte) (policy minInterval : Nat) :
    (s.cmdShutterPolicy h pipe policy minInterval).s.restView = s.restView := by
  unfold State.cmdShutterPolicy
  (repeat' split) <;> simp

@[simp] theorem State.cmdCompatSet_restView (enable : Nat) : (s.cmdCompatSet enable).s.restView = s.restView := by
  unfold State.cmdCompatSet
  (repeat' split) <;> simp

@[simp] theorem State.cmdStageBegin_restView (h : Word) (r : Role) (kind total : Nat) :
    (s.cmdStageBegin h r kind total).s.restView = s.restView := by
  unfold State.cmdStageBegin
  (repeat' split) <;> simp

@[simp] theorem State.bar2Op_restView (x : Bar2Op) : (s.bar2Op x).restView = s.restView := by
  unfold State.bar2Op
  (repeat' split) <;> simp

@[simp] theorem State.bar2Run_restView (l : List Bar2Op) : (s.bar2Run l).restView = s.restView := by simp [State.bar2Run]

@[simp] theorem State.cmdStageChunk_restView (h : Word) (r : Role) (half length offset : Nat) :
    (s.cmdStageChunk h r half length offset).s.restView = s.restView := by
  unfold State.cmdStageChunk
  dsimp only
  (repeat' split) <;> simp

@[simp] theorem State.dropBundles_restView : s.dropBundles.restView = s.restView := by simp [State.dropBundles]

@[simp] theorem State.acceptBundle_restView (b : Bundle) (persist : Bool) : (s.acceptBundle b persist).restView = s.restView := by
  simp [State.acceptBundle]

@[simp] theorem State.badBundle_restView (status section_ : Nat) : (s.badBundle status section_).s.restView = s.restView := by
  simp [State.badBundle]

@[simp] theorem State.commitBundle_restView (g : Staging) (persist sig ue : Bool) :
    (s.commitBundle g persist sig ue).s.restView = s.restView := by
  unfold State.commitBundle
  (repeat' split) <;> simp

@[simp] theorem State.commitFirmware_restView (g : Staging) (sig ue : Bool) : (s.commitFirmware g sig ue).s.restView = s.restView := by
  unfold State.commitFirmware
  (repeat' split) <;> simp

@[simp] theorem State.cmdStageAbort_restView (h : Word) (r : Role) : (s.cmdStageAbort h r).s.restView = s.restView := by
  unfold State.cmdStageAbort
  dsimp only
  (repeat' split) <;> simp

@[simp] theorem State.halfFreed_restView : s.halfFreed.restView = s.restView := by
  unfold State.halfFreed
  (repeat' split) <;> simp

@[simp] theorem ledgerAnswer_restView (r : State × Nat) (addr : BitVec 64) : (ledgerAnswer r addr).s.restView = r.1.restView := by
  unfold ledgerAnswer
  split <;> simp

@[simp] theorem State.dmaError_restView (pos : Nat) (addr : BitVec 64) : (s.dmaError pos addr).restView = s.restView := by
  simp [State.dmaError]

@[simp] theorem State.takeCmd_restView : s.takeCmd.restView = s.restView := by simp [State.takeCmd]
@[simp] theorem State.fetchFailed_restView : s.fetchFailed.restView = s.restView := by simp [State.fetchFailed]

end

/-! ### The safety channel (14) -/

section
variable (s : State)

@[simp] theorem State.clearWarn_restView (mask : Word) : (s.clearWarn mask).restView = s.restView := by simp [State.clearWarn]
@[simp] theorem State.readback_restView (safeN errN : Bool) : (s.readback safeN errN).restView = s.restView := by simp [State.readback]
@[simp] theorem State.latentTest_restView (n : Nat) : (s.latentTest n).restView = s.restView := by simp [State.latentTest]
@[simp] theorem State.startInjection_restView (n : Nat) : (s.startInjection n).restView = s.restView := by simp [State.startInjection]
@[simp] theorem State.safetyTest_restView : s.safetyTest.restView = s.restView := by simp [State.safetyTest]
@[simp] theorem State.modPort_restView (i : Nat) (f : SpiPort → SpiPort) : (s.modPort i f).restView = s.restView := by simp [State.modPort]
@[simp] theorem State.shiftOut_restView (i : Nat) : (s.shiftOut i).restView = s.restView := by simp [State.shiftOut]

@[simp] theorem State.answer_restView (i op stat seq : Nat) (data : Word) : (s.answer i op stat seq data).restView = s.restView := by
  simp [State.answer]

@[simp] theorem State.anomaly_restView : s.anomaly.restView = s.restView := by simp [State.anomaly]
@[simp] theorem State.frameBad_restView (i bits : Nat) : (s.frameBad i bits).restView = s.restView := by simp [State.frameBad]
@[simp] theorem State.countFrameErr_restView : s.countFrameErr.restView = s.restView := by simp [State.countFrameErr]

@[simp] theorem State.frameLength_restView (x : Sel) (bits : Nat) : (s.frameLength x bits).restView = s.restView := by
  simp [State.frameLength]

@[simp] theorem State.selectLow_restView (x : Sel) (bits : Nat) : (s.selectLow x bits).restView = s.restView := by simp [State.selectLow]
@[simp] theorem State.bothLow_restView (b0 b1 : Nat) : (s.bothLow b0 b1).restView = s.restView := by simp [State.bothLow]

@[simp] theorem State.sessOpen_restView (nonce : BitVec 128) : (s.sessOpen nonce).1.restView = s.restView := by
  unfold State.sessOpen
  dsimp only
  (repeat' split) <;> simp

@[simp] theorem State.sessNonce_restView (i : Nat) : (s.sessNonce i).1.restView = s.restView := by
  unfold State.sessNonce
  (repeat' split) <;> simp

@[simp] theorem State.openSafety_restView (n : SafeNonce) (challenge : Word) : (s.openSafety n challenge).restView = s.restView := by
  simp [State.openSafety]

@[simp] theorem State.sessCompare_restView (challenge : Word) : (s.sessCompare challenge).restView = s.restView := by
  unfold State.sessCompare
  (repeat' split) <;> simp

@[simp] theorem State.sessAuth_restView (i seq : Nat) (d : Word) : (s.sessAuth i seq d).1.restView = s.restView := by
  unfold State.sessAuth
  (repeat' split) <;> simp

@[simp] theorem State.wdGet_restView : s.wdGet.1.restView = s.restView := by
  unfold State.wdGet
  (repeat' split) <;> simp

@[simp] theorem State.testRequest_restView (n : Nat) : (s.testRequest n).1.restView = s.restView := by
  unfold State.testRequest
  (repeat' split) <;> simp

end

/-! ### Registers and the host interface -/

section
variable (s : State)

@[simp] theorem State.lockedWrite_restView (off : Nat) : (s.lockedWrite off).restView = s.restView := by simp [State.lockedWrite]
@[simp] theorem State.ringTwoEnabled_restView : s.ringTwoEnabled.restView = s.restView := by simp [State.ringTwoEnabled]
@[simp] theorem State.enableRing_restView (x : Nat) : (s.enableRing x).restView = s.restView := by simp [State.enableRing]
@[simp] theorem State.disableRing_restView (x : Nat) : (s.disableRing x).restView = s.restView := by simp [State.disableRing]

@[simp] theorem State.writeRingCfg_restView (x : Nat) (v : Word) : (s.writeRingCfg x v).restView = s.restView := by
  simp [State.writeRingCfg]

@[simp] theorem State.writeRwl_restView (off : Nat) (cur new : Word) (f : State → State) (h : (f s).restView = s.restView) :
    (s.writeRwl off cur new f).restView = s.restView := by
  unfold State.writeRwl
  (repeat' split) <;> simp [h]

@[simp] theorem State.writeRing_restView (x o : Nat) (v : Word) : (s.writeRing x o v).restView = s.restView := by
  unfold State.writeRing
  (repeat' split) <;> simp

@[simp] theorem State.doorbell_restView (x i : Nat) (ops : List (BitVec 16 × Byte)) (bufs : List BufDesc) :
    (s.doorbell x i ops bufs).restView = s.restView := by
  simp [State.doorbell]

@[simp] theorem State.unmaskX_restView (v : Nat) : (s.unmaskX v).restView = s.restView := by
  unfold State.unmaskX
  (repeat' split) <;> simp

@[simp] theorem State.maskMsi_restView (mask : Word) : (s.maskMsi mask).restView = s.restView := by simp [State.maskMsi]
@[simp] theorem State.unmask_restView (v : Nat) : (s.unmask v).restView = s.restView := by simp [State.unmask]
@[simp] theorem State.flushMessages_restView : s.flushMessages.restView = s.restView := by simp [State.flushMessages]
@[simp] theorem State.moderationEnd_restView (x : Nat) : (s.moderationEnd x).restView = s.restView := by simp [State.moderationEnd]

@[simp] theorem State.writeMsix_restView (v o : Nat) (w : Word) : (s.writeMsix v o w).restView = s.restView := by
  unfold State.writeMsix
  (repeat' split) <;> simp

@[simp] theorem State.writeHif_restView (off : Nat) (v : Word) : (s.writeHif off v).restView = s.restView := by simp [State.writeHif]

@[simp] theorem State.writePlt_restView (off : Nat) (v : Word) : (s.writePlt off v).restView = s.restView := by
  unfold State.writePlt
  (repeat' split) <;> simp

@[simp] theorem State.writeCch_restView (off : Nat) (v : Word) : (s.writeCch off v).restView = s.restView := by
  unfold State.writeCch
  (repeat' split) <;> simp

@[simp] theorem State.writeFp_restView (p : Pipe) (off : Nat) (v : Word) : (s.writeFp p off v).restView = s.restView := by
  unfold State.writeFp
  (repeat' split) <;> simp

@[simp] theorem State.writePcv_restView (off : Nat) (v : Word) : (s.writePcv off v).restView = s.restView := by
  unfold State.writePcv
  (repeat' split) <;> simp

@[simp] theorem State.writeActCtrl_restView (v : Word) : (s.writeActCtrl v).restView = s.restView := by simp [State.writeActCtrl]

@[simp] theorem State.writeActCh_restView (c o : Nat) (v : Word) : (s.writeActCh c o v).restView = s.restView := by
  unfold State.writeActCh
  (repeat' split) <;> simp

@[simp] theorem State.writeAct_restView (off : Nat) (v : Word) : (s.writeAct off v).restView = s.restView := by
  unfold State.writeAct
  (repeat' split) <;> simp

@[simp] theorem State.writeNl_restView (off : Nat) (v : Word) : (s.writeNl off v).restView = s.restView := by
  unfold State.writeNl
  (repeat' split) <;> simp

@[simp] theorem State.writeUnitCtrl_restView (i : Nat) (v : Word) : (s.writeUnitCtrl i v).restView = s.restView := by
  simp [State.writeUnitCtrl]

@[simp] theorem State.writeEng_restView (off : Nat) (v : Word) : (s.writeEng off v).restView = s.restView := by simp [State.writeEng]

@[simp] theorem State.writeRo_restView (base : Nat) (rs : List (Nat × Nat)) (off : Nat) :
    (s.writeRo base rs off).restView = s.restView := by
  simp [State.writeRo]

@[simp] theorem State.writeDrm_restView (off : Nat) : (s.writeDrm off).restView = s.restView := by simp [State.writeDrm]
@[simp] theorem State.writeThm_restView (off : Nat) (v : Word) : (s.writeThm off v).restView = s.restView := by simp [State.writeThm]
@[simp] theorem State.writeReg_restView (off : Nat) (v : Word) : (s.writeReg off v).restView = s.restView := by simp [State.writeReg]

@[simp] theorem State.badAccess_restView (off : Nat) (write : Bool) : (s.badAccess off write).restView = s.restView := by
  simp [State.badAccess]

@[simp] theorem State.read_restView (off : Nat) : (s.read off).restView = s.restView := by simp [State.read]

@[simp] theorem State.hostAbsent_restView (c : AbsentCause) : (s.hostAbsent c).restView = s.restView := by
  unfold State.hostAbsent
  (repeat' split) <;> simp

@[simp] theorem State.modCfg_restView (f : PciCfg → PciCfg) : (s.modCfg f).restView = s.restView := by simp [State.modCfg]

@[simp] theorem State.writeCfg_restView (r : CfgReg) (v : Word) : (s.writeCfg r v).restView = s.restView := by
  unfold State.writeCfg
  (repeat' split) <;> simp

@[simp] theorem State.cfgOp_restView (x : CfgAccess) : (s.cfgOp x).restView = s.restView := by
  unfold State.cfgOp
  (repeat' split) <;> simp

@[simp] theorem State.hostPresent_restView (cfg : List CfgAccess) : (s.hostPresent cfg).restView = s.restView := by simp [State.hostPresent]
@[simp] theorem State.functionReset_restView : s.functionReset.restView = s.restView := by simp [State.functionReset]

@[simp] theorem State.linkRetrains_restView (speed width : Nat) : (s.linkRetrains speed width).restView = s.restView := by
  simp [State.linkRetrains]

end

end Sys2Proof.Machine


/-! # The rest of SAFE is kept by every step (14 R315, R317) -/

namespace Sys2Proof.Machine

/-- In SAFE nothing is read, no first marker is due, no transition runs and SAFE_N is low. -/
def RestView.Safe (v : RestView) : Prop :=
  v.mode = .safe → v.readsA = false ∧ v.readsB = false ∧ v.first = none ∧ v.trans = false ∧ v.safeN = false

theorem State.safeInv_iff (s : State) : s.SafeInv ↔ s.restView.Safe := Iff.rfl

theorem RestView.safe_of_mode {v : RestView} (h : v.mode ≠ .safe) : v.Safe := fun hm => absurd hm h

/-- Outside SAFE nothing is asked. -/
theorem State.safe_of_mode {s : State} (h : s.mode ≠ .safe) : s.restView.Safe := RestView.safe_of_mode h

/-- A fold of steps that keep it keeps it. -/
theorem restView_foldl_safe {α : Type} (f : State → α → State) (hf : ∀ s a, s.restView.Safe → (f s a).restView.Safe)
    (l : List α) {s : State} (h : s.restView.Safe) : (l.foldl f s).restView.Safe := List.foldlRecOn l f h fun s hs a _ => hf s a hs

/-- A fold of accesses that keep it keeps it. -/
theorem restView_foldl_fst_safe {α β : Type} (f : State × β → α → State × β)
    (hf : ∀ r a, r.1.restView.Safe → (f r a).1.restView.Safe) (l : List α) {r : State × β} (h : r.1.restView.Safe) : (l.foldl f r).1.restView.Safe :=
  List.foldlRecOn l f h fun r hr a _ => hf r a hr

/-! ### Modes, dangerous faults and resets -/

section
variable (s : State)

@[simp] theorem State.enterMode_restView (m : Mode) : (s.enterMode m).restView = { s.restView with mode := m, trans := false } := by
  have h : ((s.leaveMode m).relayLink m).restView = s.restView := by simp
  obtain ⟨-, ha, hb, hf, -, hn⟩ := RestView.mk.inj h
  simp only [State.enterMode, State.post0_restView, State.restView_mk, ha, hb, hf, hn]
  rfl

@[simp] theorem State.enterSafe_restView : s.enterSafe.restView = ⟨.safe, false, false, none, false, false⟩ := by
  obtain ⟨hm, ⟨ha, hb, hf, ht, hn⟩, -⟩ := s.enterSafe_rests
  exact RestView.mk.injEq .. ▸ ⟨hm, ha, hb, hf, ht, hn⟩

/-- A dangerous fault leaves the module in SAFE at rest, or nothing changes of that. -/
theorem State.fault_restView (id : Nat) :
    (s.fault id).restView = s.restView ∨ (s.fault id).restView = ⟨.safe, false, false, none, false, false⟩ := by
  unfold State.fault
  split
  · exact Or.inl rfl
  · extract_lets recorded _ logged
    have hl : logged.restView = s.restView := by
      unfold logged
      have hr : recorded.saf.safeN = s.saf.safeN := by
        simp only [recorded, Saf.record]
        (repeat' split) <;> rfl
      split
      · exact congrArg (fun b => RestView.mk s.sup.mode s.pa.reading s.pb.reading s.plt.firstMarker s.sup.trans b) hr
      · exact congrArg (fun b => RestView.mk s.sup.mode s.pa.reading s.pb.reading s.plt.firstMarker s.sup.trans b) hr
    split
    · exact Or.inl hl
    · exact Or.inr logged.enterSafe_restView

variable {s}

@[simp] theorem State.fault_safe (h : s.restView.Safe) (id : Nat) : (s.fault id).restView.Safe := by
  rcases s.fault_restView id with he | he
  · rw [he]
    exact h
  · rw [he]
    exact fun _ => ⟨rfl, rfl, rfl, rfl, rfl⟩

@[simp] theorem State.moduleReset_safe (s : State) (cause : Nat) (clksel : Bool) : (s.moduleReset cause clksel).restView.Safe :=
  State.safe_of_mode nofun
@[simp] theorem State.resetHold_safe (s : State) (cause : Nat) : (s.resetHold cause).restView.Safe := State.safe_of_mode nofun
@[simp] theorem State.enterOff_safe (s : State) (g : Bool) : (s.enterOff g).restView.Safe := State.safe_of_mode nofun

end

end Sys2Proof.Machine


namespace Sys2Proof.Machine

/-! ### Operations that may decide a dangerous fault -/

section
variable {s : State} (h : s.restView.Safe)
include h

/-- An operation that keeps that part of the state. -/
theorem State.safe_of_restView {t : State} (ht : t.restView = s.restView) : t.restView.Safe := ht.symm ▸ h

@[simp] theorem State.repeatOpening_safe (m : Option Nat) : (s.repeatOpening m).restView.Safe := by
  unfold State.repeatOpening
  (repeat' split) <;> simp [h]

@[simp] theorem State.repeatEvent_safe (p : Pipe) : (s.repeatEvent p).restView.Safe := by
  unfold State.repeatEvent
  split
  · exact h
  · dsimp only
    (repeat' split) <;> simp [h]

@[simp] theorem State.openRepeat_safe (p : Pipe) : (s.openRepeat p).restView.Safe := by
  unfold State.openRepeat
  cases p <;> simp [h]

@[simp] theorem State.spareLatch_safe (st : Settings) (g : Nat) : (s.spareLatch st g).restView.Safe := by
  unfold State.spareLatch
  dsimp only
  split
  · exact h
  · (repeat' split) <;> simp [h]

@[simp] theorem State.columnsLatch_safe (st : Settings) : (s.columnsLatch st).restView.Safe :=
  restView_foldl_safe _ (fun _ g hs => State.spareLatch_safe hs st g) _ h

@[simp] theorem State.applyRate_safe (c rate : Nat) : (s.applyRate c rate).restView.Safe := by
  unfold State.applyRate
  dsimp only
  (repeat' split) <;> simp [h]

@[simp] theorem State.resetRates_safe (l : List (Fin 3)) : (s.resetRates l).restView.Safe :=
  restView_foldl_safe _ (fun _ x hs => State.applyRate_safe hs x.2 x.1.val) _ h

@[simp] theorem State.statusPoll_safe (c rate : Nat) (drift : Int) : (s.statusPoll c rate drift).restView.Safe := by
  unfold State.statusPoll
  dsimp only
  split <;> simp [h]

@[simp] theorem State.poisoned_safe (silo : Nat) : (s.poisoned silo).restView.Safe := by
  unfold State.poisoned
  (repeat' split) <;> simp [h]

@[simp] theorem State.uncorrectable_safe (c silo : Nat) (a : Word) : (s.uncorrectable c silo a).restView.Safe := by
  simp [State.uncorrectable, h]

@[simp] theorem State.arrayRead_safe (b : Nat) : (s.arrayRead b).1.restView.Safe := by
  unfold State.arrayRead
  dsimp only
  (repeat' split) <;> simp [h]

@[simp] theorem State.arrayWrite_safe (q : QWrite) : (s.arrayWrite q).1.restView.Safe := by
  unfold State.arrayWrite
  split <;> simp [h]

@[simp] theorem State.arrayWrites_safe (l : List QWrite) : (s.arrayWrites l).1.restView.Safe := by
  unfold State.arrayWrites
  refine restView_foldl_fst_safe _ (fun r q hr => ?_) l h
  exact State.arrayWrite_safe hr q

@[simp] theorem State.drainWrite_safe : s.drainWrite.1.restView.Safe := by
  unfold State.drainWrite
  split
  · exact h
  · simp [h]

@[simp] theorem State.mergeBlock_safe (b : Nat) : (s.mergeBlock b).1.restView.Safe := by
  unfold State.mergeBlock
  dsimp only
  split <;> simp [h]

@[simp] theorem State.answerRead_safe (m : Master) (b : Nat) : (s.answerRead m b).1.restView.Safe := by
  have hm := State.mergeBlock_safe h b
  unfold State.answerRead
  dsimp only
  split
  · exact hm
  · exact State.arrayRead_safe hm b

@[simp] theorem State.serveRead_safe (m : Master) : (s.serveRead m).1.restView.Safe := by
  unfold State.serveRead
  split
  · exact h
  · simp [h]

@[simp] theorem State.memOp_safe (op : MemOp) : (s.memOp op).1.restView.Safe := by
  unfold State.memOp
  split <;> simp [h]

@[simp] theorem State.memRun_safe (o : MemObs) : (s.memRun o).1.restView.Safe := by
  unfold State.memRun
  refine restView_foldl_fst_safe _ (fun r op hr => ?_) o.ops h
  exact State.memOp_safe hr op

@[simp] theorem State.scrubBlock_safe (b : Nat) : (s.scrubBlock b).restView.Safe := by
  unfold State.scrubBlock
  dsimp only
  split <;> simp [h]

@[simp] theorem State.scrub_safe : s.scrub.restView.Safe := restView_foldl_safe _ (fun _ b hs => State.scrubBlock_safe hs b) _ h

@[simp] theorem State.dramTraining_safe (failed : BitVec 4) : (s.dramTraining failed).restView.Safe := by
  unfold State.dramTraining
  split
  · dsimp only
    split <;> simp [h]
  · simp [h]

@[simp] theorem State.judgeBias_safe (i start : Nat) (x : Int) : (s.judgeBias i start x).restView.Safe := by
  unfold State.judgeBias
  dsimp only
  (repeat' split) <;> simp [h]

@[simp] theorem State.judgeSupply_safe (x : Int) : (s.judgeSupply x).restView.Safe := by
  unfold State.judgeSupply
  dsimp only
  (repeat' split) <;> simp [h]

@[simp] theorem State.judgeResult_safe (c : Conv) (x : Int) : (s.judgeResult c x).restView.Safe := by
  unfold State.judgeResult
  split <;> simp [h]

@[simp] theorem State.convDone_safe (m : Nat) (r : ConvResult) : (s.convDone m r).restView.Safe := by
  unfold State.convDone
  split
  · exact h
  · dsimp only
    split
    · exact h
    · simp only [State.nextConv_restView]
      refine State.judgeResult_safe ?_ _ _
      split <;> simp [h]

@[simp] theorem State.latchPlacement_safe (p : Pipe) (l : Nat) : (s.latchPlacement p l).restView.Safe := by
  unfold State.latchPlacement
  extract_lets latched online free stA stB
  have hl : latched.restView = s.restView := by
    unfold latched
    simp
  split
  extract_lets placed ok posted _ marked
  have hp : placed.restView = s.restView := (latched.modPl_restView p _ rfl).trans hl
  have ht : posted.restView = s.restView := by
    unfold posted
    split
    · exact hp
    · rw [State.post0_restView, hp]
  split
  · exact State.fault_safe (State.safe_of_restView (t := marked) h ht) 12
  · exact State.safe_of_restView h ht

@[simp] theorem State.stripeStart_safe (p : Pipe) (n : Nat) (bad : List (Fin 16)) (o : MemObs) (ce : List (Fin 128)) :
    (s.stripeStart p n bad o ce).restView.Safe := by
  unfold State.stripeStart
  split
  · exact h
  · split
    · exact h
    · have hm := State.memRun_safe h o
      dsimp only
      (repeat' split) <;> simp [hm]

@[simp] theorem State.countFault_safe (p : Pipe) (n : Nat) : (s.countFault p n).restView.Safe := by
  unfold State.countFault
  dsimp only
  split <;> simp [h]

@[simp] theorem State.countRuns_safe (p : Pipe) (f : Frame) (reason : Nat) : (s.countRuns p f reason).restView.Safe := by
  unfold State.countRuns
  extract_lets x noTemp late counted judged
  have hc : counted.restView.Safe := State.safe_of_restView h (s.modPl_restView p _ rfl)
  have hj : judged.restView.Safe := by
    unfold judged
    split
    · exact State.fault_safe hc 14
    · exact hc
  split
  · rw [State.warnBit_restView]
    exact hj
  · exact hj

@[simp] theorem State.countDrop_safe (p : Pipe) (f : Frame) (reason : Nat) : (s.countDrop p f reason).restView.Safe := by
  unfold State.countDrop
  dsimp only
  refine State.countRuns_safe ?_ p f reason
  (repeat' split) <;> simp [h]

@[simp] theorem State.dropFrame_safe (p : Pipe) (f : Frame) : (s.dropFrame p f).restView.Safe := by
  unfold State.dropFrame
  dsimp only
  split <;> simp [h]

@[simp] theorem State.pourDeadline_safe (p : Pipe) (n : Nat) : (s.pourDeadline p n).restView.Safe := by
  unfold State.pourDeadline
  (repeat' split) <;> simp [h]

@[simp] theorem State.transferStart_safe (i : Nat) (o : NlObs) : (s.transferStart i o).restView.Safe := by
  unfold State.transferStart
  split
  · exact h
  · split
    · refine State.memRun_safe ?_ o.mem
      simp [h]
    · exact h

@[simp] theorem State.latchWork_safe (p : Pipe) : (s.latchWork p).restView.Safe := by
  unfold State.latchWork
  extract_lets columns
  have hc : columns.restView.Safe := by
    unfold columns
    split <;> simp [h]
  split
  · exact hc
  · simp [hc]

@[simp] theorem State.latchPoint_safe (p : Pipe) : (s.latchPoint p).restView.Safe := by
  unfold State.latchPoint
  split
  · exact h
  · split
    · refine State.latchWork_safe (State.latchPlacement_safe ?_ _ _) _
      rw [State.takeSnapshot_restView, State.modPl_restView _ _ _ (by simp)]
      exact h
    · exact h

end

end Sys2Proof.Machine


namespace Sys2Proof.Machine

/-! ### Frames that begin, and reading that ends -/

theorem RestView.Safe.of_running {v : RestView} {m : Mode} (hm : v.mode = m) (hr : isRunning m = true) : v.Safe :=
  RestView.safe_of_mode fun hs => by
    rw [← hm, hs] at hr
    exact absurd hr (by decide)

section
variable (s : State)

/-- A change of a pipeline leaves the mode. -/
@[simp] theorem State.modPl_restView_mode (p : Pipe) (f : Pl → Pl) : (s.modPl p f).restView.mode = s.restView.mode := by
  cases p <;> rfl

@[simp] theorem State.beginFrame_restView_mode (p : Pipe) (f : Frame) (slaved : Bool) :
    (s.beginFrame p f slaved).restView.mode = s.restView.mode := by
  simp [State.beginFrame]

/-- A frame of pipeline A begins in the mode of its snapshot (R384). -/
theorem State.startFrameA_restView_mode (t : Nat) (prev : Option Frame) : (s.startFrameA t prev).restView.mode = s.pa.snap.mode := by
  obtain ⟨_, _, _, -, -, -, hv⟩ := s.startFrameA_markerView t prev
  exact congrArg MarkerView.mode hv

/-- The reading of pipeline A ends, and no first marker is due. -/
theorem State.stopReading_A_restView : (s.stopReading .A).restView = { s.restView with readsA := false, first := none } := by
  have hl : ((s.leaveImaging .A).modPl .A (fun x => { x with reading := false, armed := false, prepared := none })).restView =
      { (s.leaveImaging .A).restView with readsA := false } := rfl
  rw [State.leaveImaging_restView] at hl
  exact congrArg (fun v : RestView => { v with first := none }) ((State.endIdleEvent_restView _ .A).trans hl)

/-- The reading of pipeline B ends. -/
theorem State.stopReading_B_restView : (s.stopReading .B).restView = { s.restView with readsB := false } := by
  have hl : ((s.leaveImaging .B).modPl .B (fun x => { x with reading := false, armed := false, prepared := none })).restView =
      { (s.leaveImaging .B).restView with readsB := false } := rfl
  rw [State.leaveImaging_restView] at hl
  exact (State.endIdleEvent_restView _ .B).trans hl

end

section
variable {s : State} (h : s.restView.Safe)
include h

@[simp] theorem State.stopReading_safe (p : Pipe) : (s.stopReading p).restView.Safe := by
  intro hm
  cases p with
  | A =>
    rw [State.stopReading_A_restView] at hm ⊢
    obtain ⟨-, hb, -, ht, hn⟩ := h hm
    exact ⟨rfl, hb, rfl, ht, hn⟩
  | B =>
    rw [State.stopReading_B_restView] at hm ⊢
    obtain ⟨ha, -, hf, ht, hn⟩ := h hm
    exact ⟨ha, rfl, hf, ht, hn⟩

@[simp] theorem State.frameMarker_safe : s.frameMarker.restView.Safe := by
  unfold State.frameMarker
  split
  · exact h
  · next t _ =>
    extract_lets prev judged
    have hj : judged.restView = s.restView := by
      unfold judged prev
      split <;> simp
    split
    · next hr => exact RestView.Safe.of_running (judged.startFrameA_restView_mode t prev) hr
    · exact State.stopReading_safe (State.safe_of_restView h hj) .A

end

/-! ### Boot, stops and MODE_SET -/

section
variable {s : State} (h : s.restView.Safe)
include h

@[simp] theorem State.resetBy_safe (cause : ResetCause) (clksel : Bool) : (s.resetBy cause clksel).restView.Safe := by
  unfold State.resetBy
  (repeat' split) <;> simp [h]

@[simp] theorem State.resetNow_safe (cause : ResetCause) (clksel : Bool) (refresh : List (Fin 3)) :
    (s.resetNow cause clksel refresh).restView.Safe := by
  unfold State.resetNow
  split <;> simp [h]

@[simp] theorem State.rails_safe (g : Bool) (low : Nat) (cut : Option LedgerCut) : (s.rails g low cut).restView.Safe := by
  unfold State.rails
  (repeat' split) <;> simp [h]

@[simp] theorem State.stepFails_safe (n id : Nat) : (s.stepFails n id).restView.Safe := by
  simp [State.stepFails, h]

@[simp] theorem State.bootClocks_safe (ok : Bool) : (s.bootClocks ok).restView.Safe := by
  unfold State.bootClocks
  split
  · exact h
  · simp [h]

omit h in
theorem State.bootImage_safe (sig : List Bool) (l : List Nat) {s : State} (h : s.restView.Safe) : (s.bootImage sig l).restView.Safe := by
  induction l generalizing s with
  | nil => exact State.stepFails_safe h 5 20
  | cons i rest ih =>
    unfold State.bootImage
    dsimp only
    split
    · exact h
    · exact ih (State.safe_of_restView h (State.post0_restView ..))

omit h in
/-- The step of BOOT that comes next leads on in BOOT, to STANDBY, or to SAFE at rest. -/
theorem State.bootWork_safe (hm : s.mode = .boot) (n : Nat) (o : BootObs) : (s.bootWork n o).restView.Safe := by
  have h : s.restView.Safe := State.safe_of_mode (by rw [hm]; decide)
  unfold State.bootWork
  split
  · simp [h]
  · simp [h]
  · simp [h]
  · split <;> simp [h]
  · exact State.bootImage_safe _ _ h
  · dsimp only
    split
    · exact State.safe_of_mode (by
        show s.mode ≠ _
        rw [hm]
        decide)
    · simp [h]
  · simp [h]
  · simp [h]
  · simp [h]
  · split <;> simp [h]
  · simp [h]
  · split
    · exact h
    · exact State.safe_of_mode (by
        show ((s.stepDone 12).enterMode .standby).sup.mode ≠ _
        rw [State.enterMode_mode]
        decide)
  · exact h

@[simp] theorem State.bootStep_safe (o : BootObs) : (s.bootStep o).restView.Safe := by
  unfold State.bootStep
  split
  · next hm => exact State.bootWork_safe hm _ o
  · split
    · next hm =>
      have hn : max (s.sup.step + 1) 2 = 2 ∨ max (s.sup.step + 1) 2 = 3 := by
        have := of_decide_eq_true (Bool.and_eq_true_iff.mp hm).2
        omega
      rcases hn with hn | hn
      · rw [hn]
        simp [State.bootWork, h]
      · rw [hn]
        simp [State.bootWork, h]
    · exact h

end

end Sys2Proof.Machine


namespace Sys2Proof.Machine

/-! ### Stops and MODE_SET -/

section
variable (s : State)

@[simp] theorem State.stopPlate_restView (so : Bool) : (s.stopPlate so).restView = { s.restView with trans := true } := by
  have ha : ((s.accept .A fun st => { st with mode := .standby }).accept .B fun st => { st with mode := .standby }).restView =
      s.restView := by
    simp
  exact congrArg (fun v : RestView => { v with trans := true }) ha

@[simp] theorem State.changePlate_restView (m : Mode) : (s.changePlate m).restView = { s.restView with trans := true } := by
  have ha : (((s.takeCool m).accept .A fun st => { st with mode := m, cool := st.cool || s.coolAgain m }).accept .B
      fun st => { st with mode := m, cool := st.cool || s.coolAgain m }).restView = s.restView := by
    simp
  exact congrArg (fun v : RestView => { v with trans := true }) ha

@[simp] theorem State.arriveStandby_safe : s.arriveStandby.restView.Safe :=
  State.safe_of_mode (by
    show (s.enterMode .standby).sup.mode ≠ _
    rw [State.enterMode_mode]
    decide)

end

section
variable {s : State} (h : s.restView.Safe)
include h

@[simp] theorem State.standbyReached_safe : s.standbyReached.restView.Safe := by
  unfold State.standbyReached
  dsimp only
  (repeat' split) <;> simp [h]

@[simp] theorem State.offReached_safe : s.offReached.restView.Safe := by
  unfold State.offReached
  dsimp only
  (repeat' split) <;> simp [h]

@[simp] theorem State.armPipe_safe (p : Pipe) : (s.armPipe p).restView.Safe := by
  unfold State.armPipe
  dsimp only
  split <;> simp [h]

omit h in
/-- Reading begins outside SAFE, or a placement has led to SAFE and no marker is due (R416). -/
@[simp] theorem State.startPlate_safe {m : Mode} (hm : m ≠ .safe) : (s.startPlate m).restView.Safe := by
  unfold State.startPlate
  extract_lets cooled cool go imposed cleared armed both
  have he : (cleared.enterMode m).restView.Safe := by
    rw [State.enterMode_restView]
    exact RestView.safe_of_mode hm
  have ha : armed.restView.Safe := State.armPipe_safe he .A
  have hb : both.restView.Safe := by
    unfold both
    split
    · exact State.armPipe_safe ha .B
    · exact ha
  clear_value both
  split
  · exact hb
  · next hn => exact State.safe_of_mode hn

@[simp] theorem State.modeSet_safe (r : Role) (n : Nat) : (s.modeSet r n).1.restView.Safe := by
  unfold State.modeSet
  split
  · exact h
  · dsimp only
    split; · exact h
    split; · exact h
    split; · exact h
    split; · exact h
    split; · exact State.fault_safe h 19
    split; · exact h
    next hsafe _ =>
    split
    · next hs =>
      split
      · refine State.safe_of_mode ?_
        show s.mode ≠ _
        rw [hs]
        decide
      · split
        · dsimp only
          exact State.startPlate_safe hsafe
        · exact h
    · split
      · next hr =>
        exact RestView.Safe.of_running (s.stopPlate_restView true ▸ rfl) (Bool.and_eq_true_iff.mp hr).1
      · split
        · next hr =>
          refine State.safe_of_mode fun hm => ?_
          have hv : s.mode = .safe := (congrArg RestView.mode (s.changePlate_restView _)).symm.trans hm
          simp [hv] at hr
        · exact h

end

/-! ### The companion link -/

section
variable {s : State} (h : s.restView.Safe)
include h

@[simp] theorem State.cutPipeB_safe : s.cutPipeB.restView.Safe := by
  unfold State.cutPipeB
  extract_lets cut stopped failed
  have hc : cut.restView = s.restView := by
    unfold cut
    split
    · split <;> simp
    · rfl
  have hs : stopped.restView.Safe := State.stopReading_safe (State.safe_of_restView h hc) .B
  rw [State.closeEvent_restView]
  refine State.safe_of_restView hs ?_
  simp [failed]

@[simp] theorem State.loseCompanion_safe (reason : Nat) : (s.loseCompanion reason).restView.Safe := by
  simp [State.loseCompanion, h]

@[simp] theorem State.lockLost_safe (l : Nat) : (s.lockLost l).restView.Safe := by
  unfold State.lockLost
  dsimp only
  (repeat' split) <;> simp [h]

@[simp] theorem State.trn_safe (l : Nat) (b : TrnBlock) : (s.trn l b).restView.Safe := by
  unfold State.trn
  dsimp only
  (repeat' split) <;> simp [h]

@[simp] theorem State.companionUp_safe (b : Bundle) : (s.companionUp b).restView.Safe := by
  unfold State.companionUp
  dsimp only
  simp [h]

@[simp] theorem State.judgeBundle_safe (total : Nat) (sig : Bool) : (s.judgeBundle total sig).restView.Safe := by
  unfold State.judgeBundle
  (repeat' split) <;> simp [h]

@[simp] theorem State.chunkGot_safe (i : Nat) (bytes : List Byte) (sig : Bool) : (s.chunkGot i bytes sig).restView.Safe := by
  unfold State.chunkGot
  dsimp only
  (repeat' split) <;> simp [h]

@[simp] theorem State.closeFrameB_safe : s.closeFrameB.restView.Safe := by
  unfold State.closeFrameB
  extract_lets closed latched
  have hc : closed.restView = s.restView := by
    unfold closed
    split
    · split <;> simp
    · rfl
  have hl : latched.restView.Safe := State.latchPoint_safe (State.safe_of_restView h hc) .B
  simp [hl]

/-- A frame of pipeline B begins in a running mode; in another its reading ends (R299). -/
@[simp] theorem State.startFrameB_safe (marker : Nat) (c : Option CompHeader) : (s.startFrameB marker c).restView.Safe := by
  unfold State.startFrameB
  extract_lets x
  split
  · simp [h]
  · next hr =>
    have hr : isRunning s.mode = true := by
      cases hm : isRunning s.mode
      · simp [hm] at hr
      · rfl
    split
    · exact RestView.Safe.of_running (State.beginFrame_restView_mode ..) hr
    · next c =>
      split
      next judged fast hj =>
      have hv : judged.restView = s.restView := by
        have := s.judgeRate_restView c
        rwa [hj] at this
      extract_lets imposed y f
      refine RestView.Safe.of_running ?_ hr
      rw [State.beginFrame_restView_mode]
      calc imposed.restView.mode = judged.restView.mode := by simp [imposed]
        _ = s.mode := congrArg RestView.mode hv

@[simp] theorem State.headerGot_safe (marker : Nat) (c : CompHeader) : (s.headerGot marker c).restView.Safe := by
  unfold State.headerGot
  dsimp only
  split <;> simp [h]

@[simp] theorem State.headerLost_safe (marker tag : Nat) : (s.headerLost marker tag).restView.Safe := by
  simp [State.headerLost, h]

@[simp] theorem State.frameOf_safe (p : RxPacket) : (s.frameOf p).restView.Safe := by
  unfold State.frameOf
  split <;> simp [h]

@[simp] theorem State.packetLost_safe (p : RxPacket) : (s.packetLost p).restView.Safe := by
  unfold State.packetLost
  (repeat' split) <;> simp [h]

@[simp] theorem State.hostPacket_safe (p : RxPacket) (sig : Bool) : (s.hostPacket p sig).restView.Safe := by
  unfold State.hostPacket
  (repeat' split) <;> simp [h]

@[simp] theorem State.headerTimeout_safe : s.headerTimeout.restView.Safe := by
  unfold State.headerTimeout
  split <;> simp [h]

@[simp] theorem State.linkDown_safe : s.linkDown.restView.Safe := by
  simp [State.linkDown, h]

@[simp] theorem State.packet_safe (l : Nat) (p : RxPacket) (sig whole : Bool) : (s.packet l p sig whole).restView.Safe := by
  unfold State.packet
  (repeat' split) <;> simp [h]

@[simp] theorem State.rxEvent_safe (l : Nat) (sig : Bool) (e : RxEvent) : (s.rxEvent l sig e).restView.Safe := by
  unfold State.rxEvent
  split <;> simp [h]

@[simp] theorem State.rxItem_safe (l : Nat) (sig : Bool) (i : RxItem) : (s.rxItem l sig i).restView.Safe := by
  unfold State.rxItem
  split
  · exact h
  · refine restView_foldl_safe _ (fun _ e hs => State.rxEvent_safe hs l sig e) _ ?_
    simp [h]

@[simp] theorem State.receive_safe (l : Nat) (rx : RxTraffic) : (s.receive l rx).restView.Safe :=
  restView_foldl_safe _ (fun _ i hs => State.rxItem_safe hs l rx.sig i) _ h

end

/-! ### Thermal management -/

section
variable {s : State} (h : s.restView.Safe)
include h

@[simp] theorem State.thermalConversion_safe (n : Nat) (v : Int) : (s.thermalConversion n v).restView.Safe := by
  unfold State.thermalConversion
  extract_lets bad _ counted t _ kept
  have hc : counted.restView = s.restView := by
    unfold counted
    split <;> simp
  split
  · exact State.fault_safe (State.safe_of_restView (t := kept) h hc) 7
  · exact State.safe_of_restView (t := kept) h hc

/-- The orderly stop is one of a running mode (R364). -/
@[simp] theorem State.thermalStop_safe : s.thermalStop.restView.Safe := by
  unfold State.thermalStop
  extract_lets _ told
  have ht : told.restView = s.restView := by simp [told]
  split
  · next hr => exact RestView.Safe.of_running (told.stopPlate_restView false ▸ rfl) hr
  · exact State.safe_of_restView h ht

@[simp] theorem State.thermalMove_safe : s.thermalMove.restView.Safe := by
  unfold State.thermalMove
  dsimp only
  (repeat' split) <;> simp [h]

@[simp] theorem State.thermalSample_safe : s.thermalSample.restView.Safe := by
  unfold State.thermalSample
  split <;> simp [h]

end

end Sys2Proof.Machine


namespace Sys2Proof.Machine

/-! ### Host commands -/

section
variable {s : State} (h : s.restView.Safe)
include h

@[simp] theorem State.cmdModeSet_safe (r : Role) (m : Nat) : (s.cmdModeSet r m).s.restView.Safe := State.modeSet_safe h r m

@[simp] theorem State.cmdPipeBSet_safe (w : Word) (enable frate : Nat) : (s.cmdPipeBSet w enable frate).s.restView.Safe := by
  unfold State.cmdPipeBSet
  dsimp only
  (repeat' split) <;> simp [h]

@[simp] theorem State.cmdStageCommit_safe (w : Word) (r : Role) (persist : Nat) (sig : Bool) (mem : MemObs) :
    (s.cmdStageCommit w r persist sig mem).s.restView.Safe := by
  have hm := State.memRun_safe h mem
  unfold State.cmdStageCommit
  dsimp only
  (repeat' split) <;> simp [h, hm]

@[simp] theorem State.runCmd_safe (w : Word) (r : Role) (c : HostCmd) : (s.runCmd w r c).s.restView.Safe := by
  unfold State.runCmd
  split <;> simp [h]

@[simp] theorem State.serve_safe (f : Fetched) : (s.serve f).s.restView.Safe := by
  unfold State.serve
  dsimp only
  (repeat' split) <;> simp [h]

omit h in
@[simp] theorem State.finish_safe {a : HostAnswer} (h : a.s.restView.Safe) (f : Fetched) (pos : Nat) :
    (State.finish a f pos).restView.Safe := by
  unfold State.finish
  dsimp only
  (repeat' split) <;> simp [h]

@[simp] theorem State.fetch_safe (f : Fetched) : (s.fetch f).restView.Safe := by
  unfold State.fetch
  dsimp only
  (repeat' split) <;> simp [h]

end

/-! ### The safety channel -/

section
variable {s : State} (h : s.restView.Safe)
include h

@[simp] theorem State.monitor_safe (bad : Bool) (id test : Nat) : (s.monitor bad id test).restView.Safe := by
  unfold State.monitor
  (repeat' split) <;> simp [h]

/-- A request served is safe where its command is. -/
theorem State.spiServe_safe (q : SpiReq) (op : Nat) {body : SpiBody} (hb : ∀ u : State, u.restView.Safe → (body u).1.restView.Safe) :
    (s.spiServe q op body).restView.Safe := by
  have hs := hb s h
  unfold State.spiServe
  dsimp only
  split; · simp [h]
  split; · simp [h]
  split; · simp [h]
  split; · simp [h]
  split
  · next u stat d hu =>
    rw [hu] at hs
    simp [hs]
  · next u hu =>
    rw [hu] at hs
    exact hs

theorem State.spiFrame_safe (q : SpiReq) (op : Nat) {body : SpiBody} (hb : ∀ u : State, u.restView.Safe → (body u).1.restView.Safe) :
    (s.spiFrame q op body).restView.Safe := by
  unfold State.spiFrame
  split
  · exact h
  · extract_lets i busy shifted ans mid saf ok moved saf'
    have hs : shifted.restView = s.restView := by simp [shifted]
    have hm : moved.restView = s.restView := by simp [moved, hs]
    have hans : ∀ (u : State) (k : Nat), (ans u k).restView = u.restView := by
      intro u k
      simp [ans]
    split
    · simp [hans, saf, hs, h]
    · split
      · simp [saf, hs, h]
      · split
        · simp [hans, saf', hm, h]
        · split
          · exact State.safe_of_restView h hm
          · exact State.spiServe_safe (State.safe_of_restView h hm) q op hb

@[simp] theorem State.wdFails_safe (id : Nat) : (s.wdFails id).restView.Safe := by
  simp [State.wdFails, h]

@[simp] theorem State.wdAnswer_safe (d challenge : Word) : (s.wdAnswer d challenge).1.restView.Safe := by
  unfold State.wdAnswer
  dsimp only
  (repeat' split) <;> simp [h]

@[simp] theorem State.wdTimeout_safe : s.wdTimeout.restView.Safe := by
  unfold State.wdTimeout
  split <;> simp [h]

@[simp] theorem State.reqSafe_safe (d : Word) : (s.reqSafe d).1.restView.Safe := by
  unfold State.reqSafe
  split <;> simp [h]

@[simp] theorem State.reqReset_safe (d : Word) : (s.reqReset d).1.restView.Safe := by
  unfold State.reqReset
  split <;> simp [h]

end

/-! ### The commands -/

/-- A command that works under `State.run` keeps it where its work does. -/
theorem runs_safe {s t : State} {dt : Nat} {f : State → State} (h : s.restView.Safe)
    (he : (.next (s.run dt f) : Host.Outcome State Fault Refusal) = .next t) (hf : ∀ u : State, u.restView.Safe → (f u).restView.Safe) :
    t.restView.Safe := by
  obtain rfl := Host.Outcome.next.inj he
  have hs : (s.elapse dt).restView.Safe := by simp [h]
  unfold State.run
  split
  · exact hf _ hs
  · exact hs

/-- Every command keeps it: those of the safety channel by what they do behind the checks of a frame, most others by the one operation
that they name. -/
theorem exec_safe {c : Instr} {s t : State} (h : s.restView.Safe) (he : exec c s = .next t) : t.restView.Safe := by
  cases c
  case moduleReset | pwrGoodFall | wakeIn | wakeInFall =>
    obtain rfl := Host.Outcome.next.inj he
    simp [h]
  case spiNop | read | sessOpen | sessNonce | wdGet | wdAnswer | clearWarn | reqSafe | reqReset | test =>
    exact runs_safe h he fun u hu => State.spiFrame_safe hu _ _ fun v hv => by simp [hv]
  case badOp =>
    refine runs_safe h he fun u hu => ?_
    split
    · exact hu
    · exact State.spiFrame_safe hu _ _ fun v hv => hv
  case sessAuth dt step =>
    refine runs_safe h he fun u hu => ?_
    cases step with
    | word q => exact State.spiFrame_safe hu _ _ fun v hv => by simp [hv]
    | compared challenge => simp [hu]
  case commandFetch | registerWrite | loRead =>
    refine runs_safe h he fun u hu => ?_
    (repeat' split) <;> simp [hu]
  all_goals exact runs_safe h he fun u hu => by simp [hu]

/-- Settles O57: a step runs the command in front of the queue, which keeps the rest of SAFE. -/
theorem safeStays : Obligations.SafeStays := by
  unfold Obligations.SafeStays
  intro s t hs he
  rw [State.safeInv_iff] at hs ⊢
  cases hq : s.pending with
  | nil =>
    simp only [step, hq, Host.Outcome.next.injEq] at he
    exact he ▸ hs
  | cons c rest =>
    simp only [step, hq] at he
    refine exec_safe (State.safe_of_restView hs ?_) he
    rfl

end Sys2Proof.Machine
